-- ==== Sys2Proof/Word.lean ====
section
/-! DEFINITION. The word types of the module: bytes, registers and single-precision words. -/

namespace Sys2Proof

/-- One byte. -/
abbrev Byte := BitVec 8
/-- A byte string, lowest offset first (R10). -/
abbrev Bytes := List Byte
/-- A 64-bit register (R518). -/
abbrev Word := BitVec 64
/-- A 32-bit scalar register or instruction word (R179, R200). -/
abbrev W32 := BitVec 32
/-- An IEEE 754 binary32 word (R62). -/
abbrev F32 := BitVec 32

end Sys2Proof
end

