-- ==== Sys2Proof/Syntax.lean ====
section
/-! DEFINITION. The commands the block takes: one constructor per row of the opcode table, and the data they carry.
The table names no operands; these carry what the specification says arrives with each event (log entry 13). -/

namespace Sys2Proof

/-- A carrier header (Table 09-1). -/
structure Hdr where
  gen : Nat := 0
  kind : Nat := 0
  ctx : Nat := 0
  flags : Nat := 0
  epoch : Nat := 0
  status : Nat := 0
  spare : Nat := 0
  origin : Nat := 0
  seq : Nat := 0
  conv : Nat := 0
  layer : Nat := 0
  kvh : Nat := 0
  offset : Nat := 0
  total : Nat := 0
deriving DecidableEq, Repr

/-- Where a carrier came from: a connection, or the request aperture of a VF (R286). VF v of port p is p * 1024 + v. -/
inductive Src where
  | conn (n : Nat)
  | aperture (vf : Nat)
deriving DecidableEq, Repr

/-- The class of a carrier (R286). -/
inductive CarrierClass where
  | rmaRequest | rmaResponse | request | response
deriving DecidableEq, Repr

/-- Cycles a pipe lost while it served a lane (Table 03-11, log entry 14). -/
structure PipeStalls where
  data : Nat := 0
  refresh : Nat := 0
  bank : Nat := 0
  emit : Nat := 0
deriving DecidableEq, Repr

/-- What a vendor program did to its core beside its work (R183, R190): which bank of the pair its bursts take, that it
needed more scratch than the vendor region, and the cycles the core spent in WAIT until the program ended, by cause. -/
structure VendorIn where
  bank : Nat := 0
  spill : Bool := false
  refresh : Nat := 0
  pipe : Nat := 0
  other : Nat := 0
deriving DecidableEq, Repr

/-- What 4,096 hub cycles bring (log entries 13 and 14): words of DRAM that went wrong, as pseudo-channel, word and number
of bytes, 0 for the word's address (R160); the CAM cycles searches waited for row writes and for the throttle (R259, R264);
the cycles pipes and sluice cores, and reckoners, lost to thermal steps (Table 17-5); and the correctable errors of the PCIe
ports, as port and number (Table 15-9). -/
structure Tick where
  upsets : List (Nat × Nat × Nat) := []
  write : Nat := 0
  therm : Nat := 0
  pipes : Nat := 0
  reckoners : Nat := 0
  pcie : List (Nat × Nat) := []
deriving DecidableEq, Repr

/-- A wait-for edge as the stagnation detector samples it: from a watched queue to the one it waits on, each by class
and index (R452, Table 15-5). -/
structure WaitEdge where
  cls : Nat := 0
  index : Nat := 0
  onCls : Nat := 0
  onIndex : Nat := 0
deriving DecidableEq, Repr

/-- The groups whose captures wait for a moment no command of their own marks (R438): PG_CFG of a stack and HG_CTX of a
context. -/
inductive CapGroup where
  | pgCfg (stack : Nat)
  | hgCtx (ctx : Nat)
deriving DecidableEq, Repr

/-- An algorithm a requester offers: those of Table 13-2, or another. -/
inductive SpdmAlg where
  | slhDsaShake256s | mlKem1024 | shake256 | aes256Gcm | other
deriving DecidableEq, Repr

/-- The transport an SPDM message comes by (R404): DOE in the PF of a host port, MCTP over I3C, the management protocol. -/
inductive SpdmVia where
  | doe (port : Nat) | mctp | management
deriving DecidableEq, Repr

/-- An SPDM request as the responder reads it (R404, log entry 20): whether a requester offers an algorithm of every
class, a certificate slot with an offset and length, the session and the encapsulation key of KEY_EXCHANGE, the key an IDE_KM message programs into a stream of a port (the
link stream where none is named) or that it stops the stream (R394), and for FINISH the SHAKE256 digest of the root public key the
requester authenticated with, if it did so, and whether the message checks. -/
inductive SpdmMsg where
  | getVersion
  | getCapabilities
  | negotiate (offered : List SpdmAlg)
  | getDigests
  | getCertificate (slot off len : Nat)
  | challenge (slot : Nat)
  | keyExchange (id : Nat) (ek : Bytes)
  | finish (root : Option Bytes) (ok : Bool)
  | heartbeat
  | keyUpdate
  | ideKm (port : Nat) (stream : Option Nat) (key : Option Bytes)
  | setCertificate
  | vendor
  | other
deriving DecidableEq, Repr

/-- What the end of a start-up step shows (R512): whether the step succeeded, the firmware slots whose images fail
verification, the PLLs that locked and the reference clocks present, and the stacks that passed TEST. -/
structure StepEnd where
  ok : Bool := true
  bad : List Nat := []
  pllStacks : Nat := 0
  pllHub : Bool := true
  pllPorts : Nat := 0
  refclk : Nat := 0
  passed : Nat := 0
deriving DecidableEq, Repr

/-- One reading of the sensors: temperatures in °C by class × 128 + index (Table 17-8), and the input's voltage, current
and power in the units of PW_IN. -/
structure Sensors where
  temps : List (Nat × Nat) := []
  vin : Nat := 0
  iin : Nat := 0
  pin : Nat := 0
deriving DecidableEq, Repr

/-- Where a register access comes from: the device register space through the PF of a host port, or the per-context page
of a VF, with its TEE bit (R517, R525, R397). -/
inductive RegSpace where
  | pf (port : Nat)
  | vf (v : Nat) (tee : Bool)
deriving DecidableEq, Repr

/-- What the payload of a management message says (R404, R407, R509): an SPDM request, a key-service message, a
management command, or the ESEQ an EVENT_ACK names. -/
inductive MgmtMsg where
  | none
  | spdm (m : SpdmMsg)
  | getMeasurements (index : Nat) (sign : Bool)
  | endSession
  | jobInstall (slot id : Nat) (key : Bytes)
  | jobRetire (slot : Nat)
  | connBind (conn slot : Nat)
  | connUnbind (conn : Nat)
  | ctxClose (ctx : Nat)
  | ctxQuery (ctx : Nat)
  | ctxOpen (ctx : Nat)
  | registerAccess (addr len : Nat) (write : Option Word)
  | subscribe (addr : Bytes)
  | imageTransfer (off : Nat) (data : Bytes) (op : Nat)
  | firmwareTransfer (data : Bytes) (first last flash : Bool)
  | predictiveClear
  | eventAck (eseq : Nat)
deriving DecidableEq, Repr

/-- The commands: one constructor per row of the opcode table, the rows with operands first. -/
inductive Instr where
  /-- DATA_FLIT (R317). -/
  | dataFlit (link : Nat) (block : Bytes)
  /-- IDLE_FLIT (R502). -/
  | idleFlit (link : Nat) (block : Bytes)
  /-- HELLO (R312). -/
  | hello (link : Nat) (block : Bytes)
  /-- NAK (R318). -/
  | nak (link : Nat) (block : Bytes)
  /-- CREDIT (R317). -/
  | credit (link : Nat) (block : Bytes)
  /-- LDREP (R319). -/
  | ldrep (link : Nat) (block : Bytes)
  /-- LDACK (R319). -/
  | ldack (link : Nat) (block : Bytes)
  /-- ACK_LIMIT_EXPIRY (R318). -/
  | ackLimitExpiry (link : Nat) (nak : Bool)
  /-- RETRY_TIME_EXPIRY (R318). -/
  | retryTimeExpiry (link : Nat)
  /-- TRAINING_COMPLETE (R311). -/
  | trainingComplete (link : Nat) (swap : Bool) (inv : Nat)
  /-- TRAIN_LIMIT_EXPIRY (R311). -/
  | trainLimitExpiry (link : Nat)
  /-- BLOCK_LOCK (R311). -/
  | blockLock (link : Nat) (lane0 lane1 : Bytes)
  /-- BAD_BLOCK_RUN (R311). -/
  | badBlockRun (link : Nat)
  /-- LANE_LOSS (R311). -/
  | laneLoss (link : Nat)
  /-- HELLO_TIMER (R312). -/
  | helloTimer (link : Nat)
  /-- CREDIT_TIMER (R317). -/
  | creditTimer (link : Nat) (stalled : Nat)
  /-- LDREP_TIMER (R319). -/
  | ldrepTimer (link : Nat)
  /-- DOWN_FURROW_DISCARD (R319). -/
  | downFurrowDiscard (furrow : Nat)
  /-- EVENT_RECEIVE (R334). -/
  | eventReceive (furrow code eseq : Nat) (arg : Word)
  /-- REASM_LIMIT_EXPIRY (R288). -/
  | reasmLimitExpiry (src : Src) (cls : CarrierClass) (origin seq : Nat)
  /-- HG_GRANT (R354). -/
  | hgGrant (ctx : Nat)
  /-- ACCRUAL_ADVANCE (R345). -/
  | accrualAdvance (t : Tick)
  /-- WAIT_LIMIT_EXPIRY (R348). -/
  | waitLimitExpiry (ctx : Nat)
  /-- GAP_LIMIT_EXPIRY (R295). -/
  | gapLimitExpiry (origin : Nat)
  /-- ATTEND (R40). -/
  | attend (slot : Nat)
  /-- SCORING_ROUND_DONE (R118). -/
  | scoringRoundDone (slot : Nat)
  /-- STALL_LIMIT_EXPIRY (R229). -/
  | stallLimitExpiry (slot : Nat)
  /-- PIPE_DESCRIPTOR (R91). -/
  | pipeDescriptor (pipe : Nat)
  /-- LANE_EMIT (R93). -/
  | laneEmit (pipe lane : Nat) (stalls : PipeStalls)
  /-- PIPE_READ_UE (R95). -/
  | pipeReadUe (pipe lane : Nat) (addr : Nat)
  /-- MERGE_PARTIALS (R45). -/
  | mergePartials (slot : Nat)
  /-- ASSAY_COMPARE (R472). -/
  | assayCompare (slot : Nat)
  /-- APPEND (R33). -/
  | append (slot : Nat)
  /-- SEAL (R151). -/
  | seal (slot : Nat)
  /-- HINT (R221). -/
  | hint (slot : Nat)
  /-- OPEN_CONV (R281). -/
  | openConv (slot : Nat)
  /-- CLOSE_CONV (R39). -/
  | closeConv (slot : Nat)
  /-- PROMOTE (R226). -/
  | promote (slot : Nat)
  /-- RELAYED_RESPONSE (R301). -/
  | relayedResponse (conn : Nat) (hdr : Hdr) (body : Bytes)
  /-- OWN_REQUEST_RESEND (R299). -/
  | ownRequestResend (index : Nat)
  /-- RESPONSE_SEND (R289). -/
  | responseSend (slot : Nat)
  /-- GATE_ENTRY (R355). -/
  | gateEntry (furrow : Nat) (closed guarded unfit : Nat)
  /-- RMA_RESPONSE (R331). -/
  | rmaResponse (conn : Nat) (hdr : Hdr) (body : Bytes)
  /-- RMA_GAP_EXPIRY (R330). -/
  | rmaGapExpiry (conn : Nat)
  /-- RMA_TIMEOUT (R331). -/
  | rmaTimeout (conn : Nat)
  /-- MOPEN (R253). -/
  | mopen (conn : Nat) (hdr : Hdr) (body : Bytes)
  /-- MROWS (R328). -/
  | mrows (conn : Nat) (hdr : Hdr) (body : Bytes)
  /-- MSTATE_COMMIT (R157). -/
  | mstateCommit (conn : Nat) (hdr : Hdr) (body : Bytes)
  /-- MSTATE_SEAL (R172). -/
  | mstateSeal (conn : Nat) (hdr : Hdr) (body : Bytes)
  /-- MSTATE_HINT (R171). -/
  | mstateHint (conn : Nat) (hdr : Hdr) (body : Bytes)
  /-- MSTATE_CLOSE (R171). -/
  | mstateClose (conn : Nat) (hdr : Hdr) (body : Bytes)
  /-- MSTATE_FREE_PAGE (R328). -/
  | mstateFreePage (conn : Nat) (hdr : Hdr) (body : Bytes)
  /-- MSTATE_RELEASE_COPY (R466). -/
  | mstateReleaseCopy (conn : Nat) (hdr : Hdr) (body : Bytes)
  /-- MPAGE (R328). -/
  | mpage (conn : Nat) (hdr : Hdr) (body : Bytes)
  /-- CODE (R174). -/
  | code (conn : Nat) (hdr : Hdr) (body : Bytes)
  /-- PUT (R467). -/
  | put (conn : Nat) (hdr : Hdr) (body : Bytes)
  /-- LOOKUP (R326). -/
  | lookup (conn : Nat) (hdr : Hdr) (body : Bytes)
  /-- GET (R329). -/
  | get (conn : Nat) (hdr : Hdr) (body : Bytes)
  /-- LEDGER (R326). -/
  | ledger (conn : Nat) (hdr : Hdr) (body : Bytes)
  /-- DRAIN_EPOCH (R303). -/
  | drainEpoch (conn : Nat) (hdr : Hdr) (body : Bytes)
  /-- DRAIN_CTX (R415). -/
  | drainCtx (conn : Nat) (hdr : Hdr) (body : Bytes)
  /-- MARKER_RETURN (R303). -/
  | markerReturn (index : Nat)
  /-- RETURNED_MARKER (R530). -/
  | returnedMarker (conn : Nat) (hdr : Hdr) (body : Bytes)
  /-- ORIGIN_OPEN (R304). -/
  | originOpen (src : Src) (hdr : Hdr) (body : Bytes)
  /-- ORIGIN_CLOSE (R304). -/
  | originClose (src : Src) (hdr : Hdr) (body : Bytes)
  /-- ACTIVATE (R487). -/
  | activate (conn : Nat) (hdr : Hdr) (body : Bytes)
  /-- FIRMWARE_TRANSFER (R483). -/
  | firmwareTransfer (data : Bytes) (first last flash : Bool)
  /-- ALIAS_CERT_SIGNED (R484). -/
  | aliasCertSigned (pending : Bool)
  /-- SCRUB_DUE (R167). -/
  | scrubDue (core : Nat) (upsets : List (Nat × Nat)) (v : VendorIn)
  /-- REFRESH_DUE (R165). -/
  | refreshDue (bank : Nat) (postpone : Bool)
  /-- REFRESH_END (R191). -/
  | refreshEnd (bank : Nat) (again : Bool)
  /-- BANK_GRANT (R190). -/
  | bankGrant (core refresh pipe other : Nat)
  /-- UE_RESTORE (R164). -/
  | ueRestore (page : Nat)
  /-- RESTORE_DONE (R164). -/
  | restoreDone (page : Nat) (decoded : Option Bytes)
  /-- META_REBUILD_DONE (R164). -/
  | metaRebuildDone (pc addr : Nat)
  /-- SINK_START (R222). -/
  | sinkStart (pc : Nat)
  /-- CELL_PROGRAM_DONE (R219). -/
  | cellProgramDone (chan : Nat) (ok second : Bool) (used spare : Nat)
  /-- FRAME_RELEASE (R220). -/
  | frameRelease (page : Nat)
  /-- PROMOTION_DONE (R225). -/
  | promotionDone (chan : Nat) (bad bad2 : List Nat)
  /-- CELL_READ_FAIL (R230). -/
  | cellReadFail (chan : Nat) (second : Bool)
  /-- CHANNEL_DOWN (R232). -/
  | channelDown (chan : Nat)
  /-- SEAL_PROGRAM (R152). -/
  | sealProgram (page : Nat) (v : VendorIn)
  /-- SUMCOPY (R140). -/
  | sumcopy (page : Nat) (v : VendorIn)
  /-- SCORE (R104). -/
  | score (slot : Nat) (cores : List (Nat × VendorIn))
  /-- COPY_PROGRAM (R181). -/
  | copyProgram (page : Nat) (v : VendorIn)
  /-- CODE_PROGRAM (R173). -/
  | codeProgram (page : Nat) (v : VendorIn) (other : Option Bytes)
  /-- TEST (R181). -/
  | test (core : Nat) (defect : Bool) (v : VendorIn)
  /-- VENDOR_QUEUE_EMPTY (R183). -/
  | vendorQueueEmpty (core cycles : Nat)
  /-- ACQUIRE (R203). -/
  | acquire (ctx : Nat) (tee : Bool)
  /-- LEASE_RELEASE (R207). -/
  | leaseRelease (ctx : Nat) (tee : Bool)
  /-- LEASE_ZEROED (R207). -/
  | leaseZeroed (core : Nat)
  /-- LOAD (R193). -/
  | load (ctx : Nat)
  /-- RUN (R184). -/
  | run (ctx : Nat)
  /-- STOP (R185). -/
  | stop (ctx : Nat)
  /-- GRANT (R205). -/
  | grant (ctx : Nat)
  /-- RELEASE (R204). -/
  | release (ctx : Nat)
  /-- DEQ (R204). -/
  | deq (ctx : Nat)
  /-- CLEAR (R204). -/
  | clear (ctx : Nat)
  /-- RESERVED_COMMAND (R204). -/
  | reservedCommand (ctx op : Nat)
  /-- ADD (R200). -/
  | add (core : Nat)
  /-- SUB (R200). -/
  | sub (core : Nat)
  /-- AND (R200). -/
  | and (core : Nat)
  /-- OR (R200). -/
  | or (core : Nat)
  /-- XOR (R200). -/
  | xor (core : Nat)
  /-- SHL (R200). -/
  | shl (core : Nat)
  /-- SHR (R200). -/
  | shr (core : Nat)
  /-- SRA (R200). -/
  | sra (core : Nat)
  /-- MUL (R200). -/
  | mul (core : Nat)
  /-- SLT (R200). -/
  | slt (core : Nat)
  /-- SLTU (R200). -/
  | sltu (core : Nat)
  /-- FADD (R200). -/
  | fadd (core : Nat)
  /-- FMUL (R200). -/
  | fmul (core : Nat)
  /-- FMAX (R200). -/
  | fmax (core : Nat)
  /-- FMIN (R200). -/
  | fmin (core : Nat)
  /-- FLT (R200). -/
  | flt (core : Nat)
  /-- CVTF (R200). -/
  | cvtf (core : Nat)
  /-- CVTI (R200). -/
  | cvti (core : Nat)
  /-- JR (R200). -/
  | jr (core : Nat)
  /-- ADDI (R200). -/
  | addi (core : Nat)
  /-- ANDI (R200). -/
  | andi (core : Nat)
  /-- ORI (R200). -/
  | ori (core : Nat)
  /-- XORI (R200). -/
  | xori (core : Nat)
  /-- SHLI (R200). -/
  | shli (core : Nat)
  /-- SHRI (R200). -/
  | shri (core : Nat)
  /-- LUI (R200). -/
  | lui (core : Nat)
  /-- LDS (R200). -/
  | lds (core : Nat)
  /-- STS (R200). -/
  | sts (core : Nat)
  /-- BEQ (R200). -/
  | beq (core : Nat)
  /-- BNE (R200). -/
  | bne (core : Nat)
  /-- BLT (R200). -/
  | blt (core : Nat)
  /-- BGE (R200). -/
  | bge (core : Nat)
  /-- BLTU (R200). -/
  | bltu (core : Nat)
  /-- JAL (R200). -/
  | jal (core : Nat)
  /-- BLD (R187). -/
  | bld (core : Nat) (held : Bool)
  /-- BST (R187). -/
  | bst (core : Nat) (held : Bool)
  /-- BURST_END (R191). -/
  | burstEnd (core : Nat)
  /-- VLD (R200). -/
  | vld (core : Nat)
  /-- VST (R200). -/
  | vst (core : Nat)
  /-- VWID (R201). -/
  | vwid (core : Nat)
  /-- VSPL (R200). -/
  | vspl (core : Nat)
  /-- VADD (R200). -/
  | vadd (core : Nat)
  /-- VMUL (R200). -/
  | vmul (core : Nat)
  /-- VFMA (R200). -/
  | vfma (core : Nat)
  /-- VMAX (R200). -/
  | vmax (core : Nat)
  /-- VMIN (R200). -/
  | vmin (core : Nat)
  /-- VEXP (R200). -/
  | vexp (core : Nat)
  /-- VRSUM (R200). -/
  | vrsum (core : Nat)
  /-- VRMAX (R200). -/
  | vrmax (core : Nat)
  /-- VBND (R200). -/
  | vbnd (core : Nat)
  /-- VCVT (R200). -/
  | vcvt (core : Nat)
  /-- VSTN (R200). -/
  | vstn (core : Nat)
  /-- VXOR (R200). -/
  | vxor (core : Nat)
  /-- VGFMA (R200). -/
  | vgfma (core : Nat)
  /-- VSTH (R200). -/
  | vsth (core : Nat)
  /-- NOP (R200). -/
  | nop (core : Nat)
  /-- HALT (R185). -/
  | halt (core : Nat)
  /-- FENCE (R198). -/
  | fence (core : Nat)
  /-- VIEW (R194). -/
  | view (core : Nat)
  /-- KRND (R200). -/
  | krnd (core : Nat) (vendor : Option (Nat × Nat))
  /-- ILLEGAL (R202). -/
  | illegal (core : Nat)
  /-- DEBUG_HALT (R212). -/
  | debugHalt (on : Bool)
  /-- LC_SCRUB (R261). -/
  | lcScrub (upsets : List (Nat × Bool × Nat × Nat)) (stalled : Nat)
  /-- SHADOW_UE (R249). -/
  | shadowUe (index : Nat) (keys : List Nat)
  /-- CAM_REBUILD_DONE (R265). -/
  | camRebuildDone (stalled : Nat)
  /-- APERTURE_WRITE (R371). -/
  | apertureWrite (vf off : Nat) (data : Bytes) (tee : Bool)
  /-- RESPONSE_RING_WRITE (R375). -/
  | responseRingWrite (vf : Nat)
  /-- CQ_HEAD (R377). -/
  | cqHead (vf head : Nat) (arm tee : Bool)
  /-- RSP_HEAD (R376). -/
  | rspHead (vf head : Nat) (tee : Bool)
  /-- MSIX_UNMASK (R378). -/
  | msixUnmask (fn : Nat) (enable fmask bme : Bool) (vec : Option (Nat × Bool))
  /-- WINDOW_READ (R381). -/
  | windowRead (vf rid addr len tag : Nat) (atomic tee : Bool)
  /-- WINDOW_WRITE (R381). -/
  | windowWrite (vf rid addr : Nat) (data : Bytes) (enables : List Bool) (poisoned tee : Bool)
  /-- WINDOW_EFFECT (R382). -/
  | windowEffect (index : Nat) (bad : List Nat)
  /-- HP_VF_RING_COMMIT (R374). -/
  | hpVfRingCommit (vf : Nat) (tee : Bool)
  /-- FLR (R389). -/
  | flr (vf : Nat)
  /-- FLR_COMPLETE (R391). -/
  | flrComplete (vf : Nat)
  /-- PF_FLR (R393). -/
  | pfFlr (port : Nat)
  /-- PERST (R499). -/
  | perst (port : Nat)
  /-- PORT_TRAINED (R366). -/
  | portTrained (port width rate : Nat) (flit : Bool)
  /-- IDE_FAILURE (R394). -/
  | ideFailure (port : Nat) (stream : Option Nat)
  /-- LOCK_INTERFACE (R395). -/
  | lockInterface (vf : Nat) (stream : Option Nat)
  /-- SPDM_REQUEST (R404). -/
  | spdmRequest (via : SpdmVia) (session : Option Nat) (msg : SpdmMsg)
  /-- GET_MEASUREMENTS (R406). -/
  | getMeasurements (session : Option Nat) (index : Nat) (sign : Bool)
  /-- END_SESSION (R421). -/
  | endSession (session : Nat)
  /-- HEARTBEAT_FAILURE (R421). -/
  | heartbeatFailure (session : Nat)
  /-- JOB_INSTALL (R408). -/
  | jobInstall (session : Option Nat) (slot : Nat) (id : Nat) (key : Bytes)
  /-- JOB_RETIRE (R408). -/
  | jobRetire (session : Option Nat) (slot : Nat)
  /-- CONN_BIND (R325). -/
  | connBind (session : Option Nat) (conn : Nat) (slot : Nat)
  /-- CONN_UNBIND (R408). -/
  | connUnbind (session : Option Nat) (conn : Nat)
  /-- CTX_CLOSE (R414). -/
  | ctxClose (session : Option Nat) (ctx : Nat)
  /-- CTX_QUERY (R408). -/
  | ctxQuery (session : Option Nat) (ctx : Nat)
  /-- CLOSE_DRAINED (R360). -/
  | closeDrained (ctx : Nat)
  /-- CLOSE_REVOKED (R414). -/
  | closeRevoked (ctx : Nat)
  /-- CLOSE_MARKERS_RETURNED (R414). -/
  | closeMarkersReturned (ctx : Nat)
  /-- DRAIN_LIMIT_EXPIRY (R416). -/
  | drainLimitExpiry (ctx : Nat)
  /-- CLOSE_CONNS_CLOSED (R414). -/
  | closeConnsClosed (ctx : Nat)
  /-- CLOSE_SCRUB_DONE (R418). -/
  | closeScrubDone (ctx : Nat)
  /-- CTX_OPEN (R411). -/
  | ctxOpen (session : Option Nat) (ctx : Nat)
  /-- CB_DATA (R435). -/
  | cbData (write : Option Word)
  /-- HG_CTX_COMMIT (R351). -/
  | hgCtxCommit (ctx : Nat)
  /-- HG_GATE_COMMIT (R358). -/
  | hgGateCommit (furrow : Nat)
  /-- WP_CFG_COMMIT (R97). -/
  | wpCfgCommit (stack : Nat)
  /-- SC_CFG_COMMIT (R210). -/
  | scCfgCommit (stack : Nat)
  /-- PG_CFG_COMMIT (R177). -/
  | pgCfgCommit (stack : Nat)
  /-- ST_CFG_COMMIT (R236). -/
  | stCfgCommit (die : Nat)
  /-- FU_COMMIT (R335). -/
  | fuCommit (furrow : Nat)
  /-- FU_CONN_COMMIT (R337). -/
  | fuConnCommit (far : Option Nat)
  /-- CONN_CLOSED (R337). -/
  | connClosed (conn : Nat)
  /-- RS_SHADOW_COMMIT (R474). -/
  | rsShadowCommit (slice : Nat)
  /-- CAPTURE_EFFECT (R438). -/
  | captureEffect (group : CapGroup)
  /-- COUNTER_READ (R17). -/
  | counterRead (port addr len : Nat)
  /-- HG_VF_IRQ (R362). -/
  | hgVfIrq (ctx : Nat) (value : Word) (tee : Bool)
  /-- RQ_ORIGIN_CLR (R304). -/
  | rqOriginClr (origin : Nat)
  /-- REGISTER_WRITE (R13). -/
  | registerWrite (space : RegSpace) (addr len : Nat) (value : Word)
  /-- STAGNATION_SAMPLE (R453). -/
  | stagnationSample (edges : List WaitEdge)
  /-- WITHDRAW_TIMEOUT (R462). -/
  | withdrawTimeout (slot : Nat)
  /-- PORTDIE_DOWN (R464). -/
  | portdieDown (die : Nat) (pll : Bool)
  /-- STACK_DOWN (R446). -/
  | stackDown (stack : Nat) (pll : Bool)
  /-- RS_TAKE (R465). -/
  | rsTake (ctx : Nat)
  /-- LOST_ADD (R469). -/
  | lostAdd (ctx : Nat)
  /-- LOST_REMOVE (R469). -/
  | lostRemove (ctx : Nat)
  /-- SHADOW_COMPARE (R476). -/
  | shadowCompare (slice : Nat)
  /-- PWR_FAIL (R496). -/
  | pwrFail (cycles : Nat)
  /-- MOD_RESET (R499). -/
  | modReset (us : Nat)
  /-- STARTUP_STEP_DONE (R512). -/
  | startupStepDone (e : StepEnd)
  /-- SENSOR_READING (R503). -/
  | sensorReading (r : Sensors)
  /-- MANAGEMENT_DATAGRAM (R507). -/
  | managementDatagram (port : Nat) (atGlobal : Bool) (hdr : Bytes) (len : Nat) (msg : MgmtMsg)
  /-- DISCOVER (R507). -/
  | discover (port mseq : Nat)
  /-- EVENT_ACK (R510). -/
  | eventAck (eseq : Nat)
  /-- EVENT_RESEND (R510). -/
  | eventResend (eseq : Nat)
  /-- REGISTER_ACCESS (R509). -/
  | registerAccess (session : Option Nat) (addr len : Nat) (write : Option Word)
  /-- SUBSCRIBE (R509). -/
  | subscribe (session : Option Nat) (addr : Bytes)
  /-- IMAGE_TRANSFER (R509). -/
  | imageTransfer (session : Option Nat) (off : Nat) (data : Bytes) (op : Nat)
  /-- CELL_READ_DONE (R224). -/
  | cellReadDone (chan : Nat) (bad bad2 : List Nat)
  /-- HOST_LINK_DOWN (R500). -/
  | hostLinkDown (port : Nat) (refclk : Bool)
  /-- DYNAMIC_ADDRESS_ASSIGNMENT (R511). -/
  | dynamicAddressAssignment (addr eid : Nat)
  /-- START_INTERFACE (R397). -/
  | startInterface (vf : Nat)
  /-- PREDICTIVE_CLEAR (R478). -/
  | predictiveClear (session : Option Nat)
  /-- REBALANCE (R258). -/
  | rebalance
  /-- ACTIVATION_QUIESCED (R487). -/
  | activationQuiesced
  /-- ACTIVATION_END (R487). -/
  | activationEnd
  /-- CONFIRM (R489). -/
  | confirm
  /-- HEALTH_LIMIT_EXPIRY (R490). -/
  | healthLimitExpiry
  /-- FALLBACK_END (R490). -/
  | fallbackEnd
  /-- ARM (R486). -/
  | arm
  /-- DISARM (R486). -/
  | disarm
  /-- REVERT (R490). -/
  | revert
  /-- DISCARD (R483). -/
  | discard
  /-- BOOT (R488). -/
  | boot
  /-- DEBUG_STEP (R212). -/
  | debugStep
  /-- PRIVILEGED_SEARCH (R262). -/
  | privilegedSearch (mid : Option Nat)
  /-- HP_RNG_COMMIT (R380). -/
  | hpRngCommit
  /-- MT_CTX_CMD_CLOSE (R420). -/
  | mtCtxCmdClose
  /-- ENTROPY (R401). -/
  | entropy
  /-- CB_LOAD (R436). -/
  | cbLoad
  /-- CB_STORE (R434). -/
  | cbStore
  /-- CB_AMEND (R441). -/
  | cbAmend
  /-- CB_CLEAR (R435). -/
  | cbClear
  /-- HUB_RET_CFG_COMMIT (R126). -/
  | hubRetCfgCommit
  /-- HG_CFG_COMMIT (R350). -/
  | hgCfgCommit
  /-- PG_CODE_COMMIT (R177). -/
  | pgCodeCommit
  /-- LC_CFG_COMMIT (R266). -/
  | lcCfgCommit
  /-- RQ_CFG_COMMIT (R305). -/
  | rqCfgCommit
  /-- RQ_EPOCH_COMMIT (R302). -/
  | rqEpochCommit
  /-- LK_CFG_COMMIT (R338). -/
  | lkCfgCommit
  /-- MT_CFG_COMMIT (R422). -/
  | mtCfgCommit
  /-- RS_CFG_COMMIT (R479). -/
  | rsCfgCommit
  /-- BR_FW_COMMIT (R491). -/
  | brFwCommit
  /-- PW_CFG_COMMIT (R438). -/
  | pwCfgCommit
  /-- CRESET (R458). -/
  | creset
  /-- WITHDRAW (R462). -/
  | withdraw
  /-- COMPUTE_RESET (R454). -/
  | computeReset
  /-- RESET_CUTOFF (R454). -/
  | resetCutoff
  /-- COMPUTE_RESET_QUIESCED (R454). -/
  | computeResetQuiesced
  /-- COMPUTE_RESET_END (R454). -/
  | computeResetEnd
  /-- WITHDRAW_OUT (R462). -/
  | withdrawOut
  /-- TAKEOVER_DONE (R465). -/
  | takeoverDone
  /-- REBUILD_DECODE (R468). -/
  | rebuildDecode
  /-- REBUILD_RECORD (R468). -/
  | rebuildRecord
  /-- PREDICTIVE_SAVE (R478). -/
  | predictiveSave
  /-- OVERCURRENT (R494). -/
  | overcurrent
  /-- OVERVOLTAGE (R494). -/
  | overvoltage
  /-- INPUT_RISE (R512). -/
  | inputRise
  /-- UNDERVOLTAGE (R493). -/
  | undervoltage
  /-- FABRIC_RESET (R449). -/
  | fabricReset
  /-- SERVICE (R513). -/
  | service
  /-- OFF (R514). -/
  | off
  /-- HUB_PLL_LOSS (R501). -/
  | hubPllLoss
  /-- ENTROPY_RECOVERY (R401). -/
  | entropyRecovery
  /-- SIGNATURE_COMPLETE (R405). -/
  | signatureComplete
  /-- MANAGEMENT_PLL_LOSS (R500). -/
  | managementPllLoss
  /-- MEMORY_INIT_REQUEST (R449). -/
  | memoryInitRequest
deriving DecidableEq, Repr

end Sys2Proof
end

