-- ==== Sys2Proof/Config.lean ====
section
/-! DEFINITION. What the specification leaves open: free values. Every constant here is opaque, so nothing
can be proved of its value; each is a function of plain data (operands, or the counter `fresh` of State). -/

namespace Sys2Proof

/-- The shape of a sum: which terms are added in which grouping (R65). -/
inductive SumTree where
  | leaf (i : Nat)
  | node (l r : SumTree)
deriving DecidableEq, Repr, Inhabited

/-- Free value: a 32-bit value the specification leaves undefined or does not state (log entries 8, 15). -/
opaque Config.free32 : Nat → W32
/-- Free value: a natural number the specification leaves open (log entry 8). -/
opaque Config.freeNat : Nat → Nat
/-- Free value: what a read of an offset that no register occupies returns (R19, log entry 79): by number of the read and
address. -/
opaque Config.readOpen : Nat → Nat → Word
/-- Free value: bytes the specification leaves open, such as ciphertext and certificates (log entry 7). -/
opaque Config.freeBytes : Nat → Bytes
/-- Free value: the order and grouping of the `n`-th sum (R65, log entry 8). -/
opaque Config.sumTree : Nat → SumTree
/-- Free value: the payload and sign of a NaN that arithmetic produces (R62, log entry 15). -/
opaque Config.nanOf : F32 → F32 → F32
/-- Free value: FMAX and FMIN where an operand is NaN; its sign bit picks the zero where both are zeros of different sign
(R200, log entry 15). -/
opaque Config.maxminOpen : F32 → F32 → F32
/-- Free value: an FP32 to integer conversion of a NaN or of a value out of range (R200, log entry 15). -/
opaque Config.cvtOpen : F32 → W32
/-- Free value: which of the permitted results the exponent unit returns for an argument (R64, R200, log entry 9). -/
opaque Config.expSlack : F32 → Nat
/-- Free value: by how many units a term of S lies above the least permitted result (R113, log entry 10). -/
opaque Config.boundSlack : F32 → Nat
/-- Free value: what SPDM has signed for an answer, by session and payload: the transcript's layout is SPDM's (R403, R404,
log entry 7). -/
opaque Config.transcript : Nat → Bytes → Bytes
/-- Free value: the 64-byte firmware public key that lies in the Mint ROM (16.1, R481, log entry 7). -/
opaque Config.romKey : Bytes
/-- Free value: the Bursar firmware within a firmware image, whose layout is not given (Table 13-3, log entry 7). -/
opaque Config.fwBursar : Bytes → Bytes
/-- Free value: the reckoner microcode and vendor programs within a firmware image (Table 13-3, log entry 7). -/
opaque Config.fwPrograms : Bytes → Bytes
/-- Free value: the bytes measurement 5 digests, from CONF and the key-service root (Table 13-3, log entry 7). -/
opaque Config.securityState : Bool → Bytes → Bytes
/-- Free value: which reckoner of its slice's run serves a request's slot (R428, log entry 54). -/
opaque Config.reckonerOf : Nat → Nat

/-- Free value: the digest of the Mint ROM, measurement 1 (R406, log entry 7). -/
opaque Config.mintRomDigest : Bytes
/-- Free value: the unique device secret (Table 13-1, log entry 7). -/
opaque Config.uds : Bytes
/-- Free value: the certificate chain of slot 0, by the public keys of the DevID and of the alias key (R403, log entry
7). -/
opaque Config.certChain : Bytes → Bytes → Bytes
/-- Free value: the serial number of the DevID certificate (R507, log entry 7). -/
opaque Config.devIdSerial : Nat
/-- Free value: what the random bit generator gives at its n-th draw (R401, R411, log entry 7). -/
opaque Config.draw : Nat → Bytes
/-- Free value: the four check bytes of a 32-byte word at a PC-local address; the code's generator and the way the
address is folded in are not given (R160, log entry 7). -/
opaque Config.eccBytes : Nat → Bytes → Bytes

/-- Free value: the words of the vendor half that a firmware image's programs, named by their digest, hold (R181, log
entry 7). -/
opaque Config.vendorWord : Bytes → Nat → W32
/-- Free value: where in a gate entry a moment lies (R356, log entry 182). -/
opaque Config.gateLeft : Nat → Nat
/-- Free value: how many bursts a vendor program makes; the programs are not given (R210, log entry 76). -/
opaque Config.vendorBursts : Nat → Nat
/-- Free value: the word a vendor station stands at when it faults (R202, log entry 76). -/
opaque Config.vendorPc : Nat → Nat
/-- Free value: what a vendor program leaves in a byte of the vendor working space (R192, log entry 76). -/
opaque Config.vendorByte : Nat → Nat → Byte
/-- Free value: what a vendor program leaves in the lanes of its station's registers and views (R180, log entry 76). -/
opaque Config.vendorReg : Nat → Nat → W32
/-- Free value: STEPPING of HUB_CAP (Table 18-2, log entry 7). -/
opaque Config.stepping : Nat

end Sys2Proof
end

