-- ==== Sys2Proof/Machine/Bits.lean ====
section
/-! DEFINITION. Bit fields and little-endian byte strings (R10, R11). -/

namespace Sys2Proof

/-- The field [hi:lo] of a number. -/
def fieldOf (x hi lo : Nat) : Nat := (x / 2 ^ lo) % 2 ^ (hi + 1 - lo)

/-- The field [hi:lo] of a register. -/
def Word.fld (w : Word) (hi lo : Nat) : Nat := fieldOf w.toNat hi lo

/-- Bit i of a register. -/
def Word.bit (w : Word) (i : Nat) : Bool := w.toNat.testBit i

/-- A number placed at a bit position. -/
def place (lo x : Nat) : Nat := x * 2 ^ lo

/-- One bit as a number. -/
def bnat (b : Bool) : Nat := if b then 1 else 0

/-- A number as a register, upper bits cut. -/
def wordOf (n : Nat) : Word := BitVec.ofNat 64 n

/-- The bits [hi:lo] as a mask. -/
def fieldMask (hi lo : Nat) : Word := wordOf ((2 ^ (hi + 1 - lo) - 1) * 2 ^ lo)

/-- A register with the field [hi:lo] replaced. -/
def Word.setFld (w : Word) (hi lo v : Nat) : Word :=
  (w &&& ~~~(fieldMask hi lo)) ||| (wordOf (v * 2 ^ lo) &&& fieldMask hi lo)

/-- A register with bit i replaced. -/
def Word.setBit (w : Word) (i : Nat) (b : Bool) : Word := w.setFld i i (bnat b)

/-- A number as n bytes, least significant byte first (R10). -/
def leBytes : Nat → Nat → Bytes
  | 0, _ => []
  | n + 1, x => BitVec.ofNat 8 x :: leBytes n (x / 256)

/-- The number a byte string spells, least significant byte first (R10). -/
def leNat : Bytes → Nat
  | [] => 0
  | b :: t => b.toNat + 256 * leNat t

/-- The n bytes at an offset; bytes beyond the end are absent. -/
def sub (bs : Bytes) (off n : Nat) : Bytes := (bs.drop off).take n

/-- The n-byte number at an offset. -/
def numAt (bs : Bytes) (off n : Nat) : Nat := leNat (sub bs off n)

/-- The byte at an offset, 0 beyond the end. -/
def byteAt (bs : Bytes) (off : Nat) : Nat := numAt bs off 1

/-- n zero bytes. -/
def zeros (n : Nat) : Bytes := List.replicate n 0

/-- A byte string cut or padded with zeros to n bytes. -/
def fit (n : Nat) (bs : Bytes) : Bytes := bs.take n ++ zeros (n - bs.length)

/-- Every byte is 0. -/
def allZero (bs : Bytes) : Bool := bs.all (fun b => b == 0)

/-- A byte string with the bytes from an offset replaced. -/
def splice (bs : Bytes) (off : Nat) (x : Bytes) : Bytes :=
  bs.take off ++ zeros (off - bs.length) ++ x ++ bs.drop (off + x.length)

/-- A number rounded up to a multiple. -/
def roundUp (n k : Nat) : Nat := (n + k - 1) / k * k

/-- Quotient rounded up. -/
def ceilDiv (n k : Nat) : Nat := (n + k - 1) / k

/-- The numbers below n, rising. -/
def upTo (n : Nat) : List Nat := List.range n

/-- Apply a step for each i below n, rising. -/
def forUpTo {σ : Type} (n : Nat) (s : σ) (f : Nat → σ → σ) : σ :=
  (List.range n).foldl (fun acc i => f i acc) s

/-- The bitwise exclusive or of two byte strings of one length. -/
def xorBytes (a b : Bytes) : Bytes := List.zipWith (fun x y => x ^^^ y) a b

/-- Cut a byte string into pieces of n bytes, at most k of them. -/
def chunksOf (n : Nat) : Nat → Bytes → List Bytes
  | 0, _ => []
  | k + 1, bs => if bs.isEmpty then [] else bs.take n :: chunksOf n k (bs.drop n)

/-- The 64-bit words of a byte string, little-endian, the last padded with zeros. -/
def toWords (bs : Bytes) : List Word := (chunksOf 8 bs.length bs).map (fun c => wordOf (leNat c))

/-- The bytes of 64-bit words. -/
def ofWords (ws : List Word) : Bytes := ws.flatMap (fun w => leBytes 8 w.toNat)

/-- Replace the element at an index of a list; beyond the end nothing changes. -/
def setAt {α : Type} : List α → Nat → α → List α
  | [], _, _ => []
  | _ :: t, 0, x => x :: t
  | h :: t, n + 1, x => h :: setAt t n x

/-- The element at an index, or a default. -/
def getAt {α : Type} (d : α) (l : List α) (i : Nat) : α := (l[i]?).getD d

/-- The number of ones among the low n bits. -/
def popcount : Nat → Nat → Nat
  | 0, _ => 0
  | n + 1, x => x % 2 + popcount n (x / 2)

/-- Position of the lowest bit that is 1 among the low n bits. -/
def lowestBit (n x : Nat) : Option Nat := (List.range n).find? (fun i => x.testBit i)

/-- Two's complement reading of the low n bits. -/
def signedOf (n x : Nat) : Int :=
  let y := x % 2 ^ n
  if y < 2 ^ (n - 1) then (y : Int) else (y : Int) - (2 ^ n : Nat)

end Sys2Proof
end

