-- ==== Sys2Proof/Machine/Regs.lean ====
section
/-! DEFINITION. The registers and counters of the register index: names, places and access (R13, R517, Tables 18-1
to 18-6 and the register tables of the chapters). -/

namespace Sys2Proof

/-- The registers, one name for all instances of a register. -/
inductive Reg where
  | wpCap | wpCfg | wpCfgCommit | wpStatus | wpFault | wpFaultCause | wpCntSel | hubRetCap | hubRetCfg
  | hubRetCfgCommit | pgCap | pgCfg | pgCfgCommit | pgFault | pgFaultCause | pgSel | pgFree | pgCodeCfg
  | pgCodeCommit | scVfSel | scVfLease | scVfCmd | scVfArg0 | scVfArg1 | scVfArg2 | scVfState | scVfMbox
  | scCap | scCfg | scCfgCommit | scFault | scFaultCause | scSel | scLeaseQuota | scDbgSel | scDbgCtl
  | scDbgAddr | scDbgData | stCap | stCfg | stCfgCommit | stChan | stFault | stFaultCause | stSel | stUsage
  | stWear | lcCap | lcCfg | lcCfgCommit | lcStatus | lcFault | lcFaultCause | lcUsage | lcPsKey0 | lcPsKey1
  | lcPsGmask0 | lcPsGmask1 | lcPsStart | lcPsCmd | lcPsRes | lcPsData | lcPsVal0 | lcPsVal1 | lcPsCare0
  | lcPsCare1 | rqCap | rqCfg | rqCfgCommit | rqEpochCfg | rqEpochCommit | rqEpochStatus | rqSlots
  | rqOriginUse | rqOriginClr | lkCap | lkCfg | lkEn | lkIftype | lkCfgCommit | lkUp | lkSel | lkLstate
  | lkFault | lkFaultCause | fuCfg | fuLinks | fuCtrl | fuCommit | fuStatus | fuEvt | fuEvtArg | fuConnSel
  | fuConnCfg | fuConnCommit | fuConnStatus | fuConnTxseq | hgCap | hgCfg | hgCfgCommit | hgOvh | hgStatus
  | hgSel | hgBktRate | hgBktBurst | hgCtxSlots | hgCtxArb | hgCtxCommit | hgBktState | hgCtxState | hgGateCfg
  | hgGateCommit | hgGateStatus | hgGateEnt | hgVfStatus | hgVfUse | hgVfIrq | hgVfIrqCause | hpCap | hpSel
  | hpPortStatus | hpFlr | hpVfCfg | hpRngSel | hpRngCfg0 | hpRngCfg1 | hpRngCfg2 | hpRngCommit | hpRngStatus
  | hpRngVer | hpVfCqBase | hpVfRspBase | hpVfRingCfg | hpVfRingCommit | hpVfCqHead | hpVfCqIrq | hpVfRspHead
  | hpVfRingStatus | mtCap | mtMode | mtCfg | mtCfgCommit | mtStatus | mtFault | mtCtxSel | mtCtxStatus
  | mtCtxCmd | mtJobSel | mtJobStatus | mtJobId | mtMeasSel | mtMeasData | cbCap | cbFeat | cbCtl | cbAddr
  | cbData | cbStatus | cbSerial | cbLast | cbLog | rsCap | rsCfg | rsCfgCommit | rsState | rsFault
  | rsCrCause | rsCmd | rsStagLog | rsListSel | rsListUse | rsListData | rsLostCmd | rsLostConv | rsTake
  | rsTakeStatus | rsRbArg0 | rsRbArg1 | rsRbArg2 | rsRbArg3 | rsRbCmd | rsRbStatus | rsShadowCfg
  | rsShadowCommit | rsShadowStatus | rsPredSel | rsPredData0 | rsPredData1 | brFwCap | brFwCfg | brFwCommit
  | brFwStatus | brFwArmStep | brFwCmd | brFwVer | brFwProb | pwCap | pwCfg | pwCfgCommit | pwStatus | pwIn
  | pwTempSel | pwTemp | pwClk | pwFault | pwCmd | brCap | brTime | brCmd | brSvc | brMpStatus | hubCap
  | hpVfInfo
deriving DecidableEq, Repr

/-- The counters (R17), one name for all instances of a counter. -/
inductive Ctr where
  | wpCntDesc | wpCntPages | wpCntRows | wpCntMasked | wpCntEmpty | wpCntUe | wpStallData | wpStallRefresh
  | wpStallBank | wpStallEmit | hubRetCntScored | hubRetCntByscore | hubRetCntPinned | hubRetCntSkipped
  | hubRetCntDense | hubRetCntAllsel | hubRetCntTies | hubRetCntRaIssued | hubRetCntRaUsed
  | hubRetCntRaDropped | hubRetCntRaWasted | hubRetCntSinf | pgCntCe | pgCntUe | pgCntPoison | pgCntRetired
  | pgCntRefForced | pgCntScrubPass | pgCntSeal | pgCntEarlyseal | pgCntTentcopy | pgCntRollback
  | pgCntNoframe | pgCntNoledger | pgCntTagmis | pgCodeCntCoded | pgCodeCntMirrel | pgCodeCntZerodecl
  | pgCodeCntRebuilt | scCntVcmd | scCntCcmd | scCntBurst | scWaitRefresh | scWaitPipe | scWaitOther
  | scCntPreempt | scCntSpill | scCntCfault | scCntUe | scCntCmddrop | scCntLeaseref | stCntProg
  | stCntProgfail | stCntRelease | stCntPromote | stCntSecfix | stCntReadfail | stCntRestore
  | stCntRestoreFail | stCntStalled | stCntDeepunav | stStallFlash | stStallFrame | stStallRestore | stCntFull
  | lcCntSearch | lcCntHit | lcCntMulti | lcCntFalsehit | lcCntFalsemiss | lcCntScrubfix | lcCntInsert
  | lcCntMoves | lcCntInswait | lcCntFull | lcCntPfrows | lcStallWrite | lcStallScrub | lcStallTherm
  | lcStallRebuild | rqCntAccept | rqCntResp | rqCntDup | rqCntEcho | rqDropOld | rqDropAhead | rqDropOrigin
  | rqDropHdr | rqDropNobuf | rqDropReasm | rqCntDupseg | rqCntHeld | rqCntSkip | rqStallGap | rqCntStale
  | rqCntFuture | rqCntFwd | rqCntReplay | lkCntFlitTx | lkCntFlitRx | lkCntFecCorr | lkCntFecUncorr
  | lkCntCrc | lkCntNak | lkCntEpisode | lkCntReplay | lkCntReflit | lkCntRetryFail | lkCntTrain
  | lkCntTrainFail | lkStallCredit | fuCntTx | fuCntRx | fuCntMoved | fuDropDown | fuDropConn | fuDropAuth
  | fuRmaDup | fuRmaEcho | fuRmaOld | fuRmaAhead | fuRmaStale | fuRmaRights | fuRmaLate | fuCntConnfail
  | fuCntEvtTx | fuCntEvtRx | fuCntEvtGap | hgGateCntWait | hgGateStallClosed | hgGateStallGuard
  | hgGateStallFit | hgCntAdmit | hgCntCharge | hgCntClosed | hgCntQuotaTok | hgCntQuotaSlot | hgCntQuotaQfull
  | hgCntWaited | hgStallTokens | hgStallSlots | hgCntDuppass | hgDropDupres | hgDropDupq | hgCntSkipq
  | hpCntCarrier | hpDropAphdr | hpDropApoff | hpCntRsp | hpStallRing | hpDropRspflr | hpCntWrd | hpCntWwr
  | hpCntUr | hpCntCa | hpCntPoison | hpCntPub | hpCntMsixDrop | hpCntMsixPend | mtCntSpdmReq | mtCntSpdmBusy
  | mtCntSpdmErr | mtCntSign | mtCntKeyinst | mtCntKeyret | mtCntNokey | mtCntClose | mtCntDrainTo
  | mtCntScrub | mtCntConfref | cbCntLoad | cbCntAmend | cbCntFail | cbCntRefused | rsCntCreset | rsCntStag
  | rsCntOrphan | rsCntAssay | rsCntAssaySkip | rsCntMismatch | rsCntShadowCmp | rsCntShadowMis | rsCntGapbusy
  | rsCntLost | rsDropOut | brCntStage | brCntStageFail | brCntActivate | brCntActMiss | brCntConfirm
  | brCntFallback | pwCntStep | pwStallPipe | pwStallReckon | pwCntRef2x | pwCntPwrfail | brCntMpRx
  | brCntMpDup | brCntMpBad | brCntMpAuth | brCntEvtUnack
deriving DecidableEq, Repr

/-- Where the instances of a register lie: the address of the first and, outermost first, how many there are and
how far apart. -/
structure Place where
  base : Nat
  dims : List (Nat × Nat)
deriving DecidableEq, Repr

/-- The access of each bit of a register (Table 00-5) and its reset value. Bits in no mask are reserved. -/
structure Access where
  ro : Nat
  rw : Nat
  rwc : Nat
  w1c : Nat
  wo : Nat
  reset : Nat
deriving DecidableEq, Repr

/-- The place of a register in the device register space; none for a register of the per-context page (Table 18-3). -/
def Reg.place? : Reg → Option Place
  | .wpCap => some ⟨0x200000, [(20, 0x1000)]⟩
  | .wpCfg => some ⟨0x200008, [(20, 0x1000)]⟩
  | .wpCfgCommit => some ⟨0x200010, [(20, 0x1000)]⟩
  | .wpStatus => some ⟨0x200018, [(20, 0x1000)]⟩
  | .wpFault => some ⟨0x200020, [(20, 0x1000)]⟩
  | .wpFaultCause => some ⟨0x200028, [(20, 0x1000)]⟩
  | .wpCntSel => some ⟨0x200030, [(20, 0x1000)]⟩
  | .hubRetCap => some ⟨0x001000, []⟩
  | .hubRetCfg => some ⟨0x001008, []⟩
  | .hubRetCfgCommit => some ⟨0x001010, []⟩
  | .pgCap => some ⟨0x400000, [(20, 0x1000)]⟩
  | .pgCfg => some ⟨0x400008, [(20, 0x1000)]⟩
  | .pgCfgCommit => some ⟨0x400010, [(20, 0x1000)]⟩
  | .pgFault => some ⟨0x400020, [(20, 0x1000)]⟩
  | .pgFaultCause => some ⟨0x400028, [(20, 0x1000)]⟩
  | .pgSel => some ⟨0x400030, [(20, 0x1000)]⟩
  | .pgFree => some ⟨0x400038, [(20, 0x1000)]⟩
  | .pgCodeCfg => some ⟨0x418000, []⟩
  | .pgCodeCommit => some ⟨0x418008, []⟩
  | .scCap => some ⟨0x300000, [(20, 0x1000)]⟩
  | .scCfg => some ⟨0x300008, [(20, 0x1000)]⟩
  | .scCfgCommit => some ⟨0x300010, [(20, 0x1000)]⟩
  | .scFault => some ⟨0x300020, [(20, 0x1000)]⟩
  | .scFaultCause => some ⟨0x300028, [(20, 0x1000)]⟩
  | .scSel => some ⟨0x300030, [(20, 0x1000)]⟩
  | .scLeaseQuota => some ⟨0x320000, [(1024, 0x8)]⟩
  | .scDbgSel => some ⟨0x330000, []⟩
  | .scDbgCtl => some ⟨0x330008, []⟩
  | .scDbgAddr => some ⟨0x330010, []⟩
  | .scDbgData => some ⟨0x330018, []⟩
  | .stCap => some ⟨0x500000, [(4, 0x1000)]⟩
  | .stCfg => some ⟨0x500008, [(4, 0x1000)]⟩
  | .stCfgCommit => some ⟨0x500010, [(4, 0x1000)]⟩
  | .stChan => some ⟨0x500018, [(4, 0x1000)]⟩
  | .stFault => some ⟨0x500020, [(4, 0x1000)]⟩
  | .stFaultCause => some ⟨0x500028, [(4, 0x1000)]⟩
  | .stSel => some ⟨0x500030, [(4, 0x1000)]⟩
  | .stUsage => some ⟨0x500038, [(4, 0x1000)]⟩
  | .stWear => some ⟨0x500040, [(4, 0x1000)]⟩
  | .lcCap => some ⟨0x600000, []⟩
  | .lcCfg => some ⟨0x600008, []⟩
  | .lcCfgCommit => some ⟨0x600010, []⟩
  | .lcStatus => some ⟨0x600018, []⟩
  | .lcFault => some ⟨0x600020, []⟩
  | .lcFaultCause => some ⟨0x600028, []⟩
  | .lcUsage => some ⟨0x600030, []⟩
  | .lcPsKey0 => some ⟨0x600040, []⟩
  | .lcPsKey1 => some ⟨0x600048, []⟩
  | .lcPsGmask0 => some ⟨0x600050, []⟩
  | .lcPsGmask1 => some ⟨0x600058, []⟩
  | .lcPsStart => some ⟨0x600060, []⟩
  | .lcPsCmd => some ⟨0x600068, []⟩
  | .lcPsRes => some ⟨0x600070, []⟩
  | .lcPsData => some ⟨0x600078, []⟩
  | .lcPsVal0 => some ⟨0x600080, []⟩
  | .lcPsVal1 => some ⟨0x600088, []⟩
  | .lcPsCare0 => some ⟨0x600090, []⟩
  | .lcPsCare1 => some ⟨0x600098, []⟩
  | .rqCap => some ⟨0x700000, []⟩
  | .rqCfg => some ⟨0x700008, []⟩
  | .rqCfgCommit => some ⟨0x700010, []⟩
  | .rqEpochCfg => some ⟨0x700018, []⟩
  | .rqEpochCommit => some ⟨0x700020, []⟩
  | .rqEpochStatus => some ⟨0x700028, []⟩
  | .rqSlots => some ⟨0x700030, []⟩
  | .rqOriginUse => some ⟨0x700038, []⟩
  | .rqOriginClr => some ⟨0x700040, []⟩
  | .lkCap => some ⟨0x800000, []⟩
  | .lkCfg => some ⟨0x800008, []⟩
  | .lkEn => some ⟨0x800010, []⟩
  | .lkIftype => some ⟨0x800018, []⟩
  | .lkCfgCommit => some ⟨0x800020, []⟩
  | .lkUp => some ⟨0x800028, []⟩
  | .lkSel => some ⟨0x800030, []⟩
  | .lkLstate => some ⟨0x800038, []⟩
  | .lkFault => some ⟨0x800040, []⟩
  | .lkFaultCause => some ⟨0x800048, []⟩
  | .fuCfg => some ⟨0x900000, [(8, 0x100)]⟩
  | .fuLinks => some ⟨0x900008, [(8, 0x100)]⟩
  | .fuCtrl => some ⟨0x900010, [(8, 0x100)]⟩
  | .fuCommit => some ⟨0x900018, [(8, 0x100)]⟩
  | .fuStatus => some ⟨0x900020, [(8, 0x100)]⟩
  | .fuEvt => some ⟨0x900028, [(8, 0x100)]⟩
  | .fuEvtArg => some ⟨0x900030, [(8, 0x100)]⟩
  | .fuConnSel => some ⟨0x901000, []⟩
  | .fuConnCfg => some ⟨0x901008, []⟩
  | .fuConnCommit => some ⟨0x901010, []⟩
  | .fuConnStatus => some ⟨0x901018, []⟩
  | .fuConnTxseq => some ⟨0x901020, []⟩
  | .hgCap => some ⟨0x100000, []⟩
  | .hgCfg => some ⟨0x100008, []⟩
  | .hgCfgCommit => some ⟨0x100010, []⟩
  | .hgOvh => some ⟨0x100018, []⟩
  | .hgStatus => some ⟨0x100020, []⟩
  | .hgSel => some ⟨0x100028, []⟩
  | .hgBktRate => some ⟨0x110000, [(1024, 0x40)]⟩
  | .hgBktBurst => some ⟨0x110008, [(1024, 0x40)]⟩
  | .hgCtxSlots => some ⟨0x110010, [(1024, 0x40)]⟩
  | .hgCtxArb => some ⟨0x110018, [(1024, 0x40)]⟩
  | .hgCtxCommit => some ⟨0x110020, [(1024, 0x40)]⟩
  | .hgBktState => some ⟨0x110028, [(1024, 0x40)]⟩
  | .hgCtxState => some ⟨0x110030, [(1024, 0x40)]⟩
  | .hgGateCfg => some ⟨0x104000, [(8, 0x100)]⟩
  | .hgGateCommit => some ⟨0x104008, [(8, 0x100)]⟩
  | .hgGateStatus => some ⟨0x104010, [(8, 0x100)]⟩
  | .hgGateEnt => some ⟨0x104040, [(8, 0x100), (16, 0x8)]⟩
  | .hpCap => some ⟨0xA00000, []⟩
  | .hpSel => some ⟨0xA00008, []⟩
  | .hpPortStatus => some ⟨0xA10000, [(2, 0x10000)]⟩
  | .hpFlr => some ⟨0xA10100, [(2, 0x10000), (8, 0x8)]⟩
  | .hpVfCfg => some ⟨0xA11000, [(2, 0x10000), (513, 0x8)]⟩
  | .hpRngSel => some ⟨0xA40000, []⟩
  | .hpRngCfg0 => some ⟨0xA40008, []⟩
  | .hpRngCfg1 => some ⟨0xA40010, []⟩
  | .hpRngCfg2 => some ⟨0xA40018, []⟩
  | .hpRngCommit => some ⟨0xA40020, []⟩
  | .hpRngStatus => some ⟨0xA40028, []⟩
  | .hpRngVer => some ⟨0xA40030, []⟩
  | .mtCap => some ⟨0xB00000, []⟩
  | .mtMode => some ⟨0xB00008, []⟩
  | .mtCfg => some ⟨0xB00010, []⟩
  | .mtCfgCommit => some ⟨0xB00018, []⟩
  | .mtStatus => some ⟨0xB00020, []⟩
  | .mtFault => some ⟨0xB00028, []⟩
  | .mtCtxSel => some ⟨0xB00030, []⟩
  | .mtCtxStatus => some ⟨0xB00038, []⟩
  | .mtCtxCmd => some ⟨0xB00040, []⟩
  | .mtJobSel => some ⟨0xB00048, []⟩
  | .mtJobStatus => some ⟨0xB00050, []⟩
  | .mtJobId => some ⟨0xB00058, []⟩
  | .mtMeasSel => some ⟨0xB00060, []⟩
  | .mtMeasData => some ⟨0xB00068, []⟩
  | .cbCap => some ⟨0xC00000, []⟩
  | .cbFeat => some ⟨0xC00008, []⟩
  | .cbCtl => some ⟨0xC00010, []⟩
  | .cbAddr => some ⟨0xC00018, []⟩
  | .cbData => some ⟨0xC00020, []⟩
  | .cbStatus => some ⟨0xC00028, []⟩
  | .cbSerial => some ⟨0xC00030, []⟩
  | .cbLast => some ⟨0xC00038, []⟩
  | .cbLog => some ⟨0xC00040, []⟩
  | .rsCap => some ⟨0xD00000, []⟩
  | .rsCfg => some ⟨0xD00008, []⟩
  | .rsCfgCommit => some ⟨0xD00010, []⟩
  | .rsState => some ⟨0xD00018, []⟩
  | .rsFault => some ⟨0xD00020, []⟩
  | .rsCrCause => some ⟨0xD00028, []⟩
  | .rsCmd => some ⟨0xD00030, []⟩
  | .rsStagLog => some ⟨0xD00040, [(8, 0x8)]⟩
  | .rsListSel => some ⟨0xD00080, []⟩
  | .rsListUse => some ⟨0xD00088, []⟩
  | .rsListData => some ⟨0xD00090, [(8, 0x8)]⟩
  | .rsLostCmd => some ⟨0xD000D0, []⟩
  | .rsLostConv => some ⟨0xD000D8, []⟩
  | .rsTake => some ⟨0xD000E0, []⟩
  | .rsTakeStatus => some ⟨0xD000E8, []⟩
  | .rsRbArg0 => some ⟨0xD00100, []⟩
  | .rsRbArg1 => some ⟨0xD00108, []⟩
  | .rsRbArg2 => some ⟨0xD00110, []⟩
  | .rsRbArg3 => some ⟨0xD00118, []⟩
  | .rsRbCmd => some ⟨0xD00120, []⟩
  | .rsRbStatus => some ⟨0xD00128, []⟩
  | .rsShadowCfg => some ⟨0xD00200, [(8, 0x20)]⟩
  | .rsShadowCommit => some ⟨0xD00208, [(8, 0x20)]⟩
  | .rsShadowStatus => some ⟨0xD00210, [(8, 0x20)]⟩
  | .rsPredSel => some ⟨0xD00300, []⟩
  | .rsPredData0 => some ⟨0xD00308, []⟩
  | .rsPredData1 => some ⟨0xD00310, []⟩
  | .brFwCap => some ⟨0xE01000, []⟩
  | .brFwCfg => some ⟨0xE01008, []⟩
  | .brFwCommit => some ⟨0xE01010, []⟩
  | .brFwStatus => some ⟨0xE01018, []⟩
  | .brFwArmStep => some ⟨0xE01020, []⟩
  | .brFwCmd => some ⟨0xE01028, []⟩
  | .brFwVer => some ⟨0xE01030, [(2, 0x8)]⟩
  | .brFwProb => some ⟨0xE01040, []⟩
  | .pwCap => some ⟨0xF00000, []⟩
  | .pwCfg => some ⟨0xF00008, []⟩
  | .pwCfgCommit => some ⟨0xF00010, []⟩
  | .pwStatus => some ⟨0xF00018, []⟩
  | .pwIn => some ⟨0xF00020, []⟩
  | .pwTempSel => some ⟨0xF00028, []⟩
  | .pwTemp => some ⟨0xF00030, []⟩
  | .pwClk => some ⟨0xF00038, []⟩
  | .pwFault => some ⟨0xF00040, []⟩
  | .pwCmd => some ⟨0xF00048, []⟩
  | .brCap => some ⟨0xE00000, []⟩
  | .brTime => some ⟨0xE00008, []⟩
  | .brCmd => some ⟨0xE00010, []⟩
  | .brSvc => some ⟨0xE00018, []⟩
  | .brMpStatus => some ⟨0xE00020, [(2, 0x8)]⟩
  | .hubCap => some ⟨0x000000, []⟩
  | .scVfSel => none
  | .scVfLease => none
  | .scVfCmd => none
  | .scVfArg0 => none
  | .scVfArg1 => none
  | .scVfArg2 => none
  | .scVfState => none
  | .scVfMbox => none
  | .hgVfStatus => none
  | .hgVfUse => none
  | .hgVfIrq => none
  | .hgVfIrqCause => none
  | .hpVfCqBase => none
  | .hpVfRspBase => none
  | .hpVfRingCfg => none
  | .hpVfRingCommit => none
  | .hpVfCqHead => none
  | .hpVfCqIrq => none
  | .hpVfRspHead => none
  | .hpVfRingStatus => none
  | .hpVfInfo => none

/-- The place of a register in the per-context page (Table 18-6). -/
def Reg.page? : Reg → Option Place
  | .scVfSel => some ⟨0x200, []⟩
  | .scVfLease => some ⟨0x208, []⟩
  | .scVfCmd => some ⟨0x210, []⟩
  | .scVfArg0 => some ⟨0x218, []⟩
  | .scVfArg1 => some ⟨0x220, []⟩
  | .scVfArg2 => some ⟨0x228, []⟩
  | .scVfState => some ⟨0x230, []⟩
  | .scVfMbox => some ⟨0x300, [(32, 0x8)]⟩
  | .hgVfStatus => some ⟨0x080, []⟩
  | .hgVfUse => some ⟨0x088, []⟩
  | .hgVfIrq => some ⟨0x090, []⟩
  | .hgVfIrqCause => some ⟨0x098, []⟩
  | .hpVfCqBase => some ⟨0x040, []⟩
  | .hpVfRspBase => some ⟨0x048, []⟩
  | .hpVfRingCfg => some ⟨0x050, []⟩
  | .hpVfRingCommit => some ⟨0x058, []⟩
  | .hpVfCqHead => some ⟨0x060, []⟩
  | .hpVfCqIrq => some ⟨0x068, []⟩
  | .hpVfRspHead => some ⟨0x070, []⟩
  | .hpVfRingStatus => some ⟨0x078, []⟩
  | .hpVfInfo => some ⟨0x000, []⟩
  | _ => none

/-- The place of a counter in the device register space (Table 18-3). -/
def Ctr.place : Ctr → Place
  | .wpCntDesc => ⟨0x200040, [(20, 0x1000)]⟩
  | .wpCntPages => ⟨0x200048, [(20, 0x1000)]⟩
  | .wpCntRows => ⟨0x200050, [(20, 0x1000)]⟩
  | .wpCntMasked => ⟨0x200058, [(20, 0x1000)]⟩
  | .wpCntEmpty => ⟨0x200060, [(20, 0x1000)]⟩
  | .wpCntUe => ⟨0x200068, [(20, 0x1000)]⟩
  | .wpStallData => ⟨0x200070, [(20, 0x1000)]⟩
  | .wpStallRefresh => ⟨0x200078, [(20, 0x1000)]⟩
  | .wpStallBank => ⟨0x200080, [(20, 0x1000)]⟩
  | .wpStallEmit => ⟨0x200088, [(20, 0x1000)]⟩
  | .hubRetCntScored => ⟨0x001040, []⟩
  | .hubRetCntByscore => ⟨0x001048, []⟩
  | .hubRetCntPinned => ⟨0x001050, []⟩
  | .hubRetCntSkipped => ⟨0x001058, []⟩
  | .hubRetCntDense => ⟨0x001060, []⟩
  | .hubRetCntAllsel => ⟨0x001068, []⟩
  | .hubRetCntTies => ⟨0x001070, []⟩
  | .hubRetCntRaIssued => ⟨0x001078, []⟩
  | .hubRetCntRaUsed => ⟨0x001080, []⟩
  | .hubRetCntRaDropped => ⟨0x001088, []⟩
  | .hubRetCntRaWasted => ⟨0x001090, []⟩
  | .hubRetCntSinf => ⟨0x001098, []⟩
  | .pgCntCe => ⟨0x400040, [(20, 0x1000)]⟩
  | .pgCntUe => ⟨0x400048, [(20, 0x1000)]⟩
  | .pgCntPoison => ⟨0x400050, [(20, 0x1000)]⟩
  | .pgCntRetired => ⟨0x400058, [(20, 0x1000)]⟩
  | .pgCntRefForced => ⟨0x400060, [(20, 0x1000)]⟩
  | .pgCntScrubPass => ⟨0x400068, [(20, 0x1000)]⟩
  | .pgCntSeal => ⟨0x400070, [(20, 0x1000)]⟩
  | .pgCntEarlyseal => ⟨0x400078, [(20, 0x1000)]⟩
  | .pgCntTentcopy => ⟨0x400080, [(20, 0x1000)]⟩
  | .pgCntRollback => ⟨0x400088, [(20, 0x1000)]⟩
  | .pgCntNoframe => ⟨0x400090, [(20, 0x1000)]⟩
  | .pgCntNoledger => ⟨0x400098, [(20, 0x1000)]⟩
  | .pgCntTagmis => ⟨0x4000A0, [(20, 0x1000)]⟩
  | .pgCodeCntCoded => ⟨0x418040, []⟩
  | .pgCodeCntMirrel => ⟨0x418048, []⟩
  | .pgCodeCntZerodecl => ⟨0x418050, []⟩
  | .pgCodeCntRebuilt => ⟨0x418058, []⟩
  | .scCntVcmd => ⟨0x300040, [(20, 0x1000)]⟩
  | .scCntCcmd => ⟨0x300048, [(20, 0x1000)]⟩
  | .scCntBurst => ⟨0x300050, [(20, 0x1000)]⟩
  | .scWaitRefresh => ⟨0x300058, [(20, 0x1000)]⟩
  | .scWaitPipe => ⟨0x300060, [(20, 0x1000)]⟩
  | .scWaitOther => ⟨0x300068, [(20, 0x1000)]⟩
  | .scCntPreempt => ⟨0x300070, [(20, 0x1000)]⟩
  | .scCntSpill => ⟨0x300078, [(20, 0x1000)]⟩
  | .scCntCfault => ⟨0x300080, [(20, 0x1000)]⟩
  | .scCntUe => ⟨0x300088, [(20, 0x1000)]⟩
  | .scCntCmddrop => ⟨0x300090, [(20, 0x1000)]⟩
  | .scCntLeaseref => ⟨0x300098, [(20, 0x1000)]⟩
  | .stCntProg => ⟨0x500080, [(4, 0x1000)]⟩
  | .stCntProgfail => ⟨0x500088, [(4, 0x1000)]⟩
  | .stCntRelease => ⟨0x500090, [(4, 0x1000)]⟩
  | .stCntPromote => ⟨0x500098, [(4, 0x1000)]⟩
  | .stCntSecfix => ⟨0x5000A0, [(4, 0x1000)]⟩
  | .stCntReadfail => ⟨0x5000A8, [(4, 0x1000)]⟩
  | .stCntRestore => ⟨0x5000B0, [(4, 0x1000)]⟩
  | .stCntRestoreFail => ⟨0x5000B8, [(4, 0x1000)]⟩
  | .stCntStalled => ⟨0x5000C0, [(4, 0x1000)]⟩
  | .stCntDeepunav => ⟨0x5000C8, [(4, 0x1000)]⟩
  | .stStallFlash => ⟨0x5000D0, [(4, 0x1000)]⟩
  | .stStallFrame => ⟨0x5000D8, [(4, 0x1000)]⟩
  | .stStallRestore => ⟨0x5000E0, [(4, 0x1000)]⟩
  | .stCntFull => ⟨0x5000E8, [(4, 0x1000)]⟩
  | .lcCntSearch => ⟨0x600100, []⟩
  | .lcCntHit => ⟨0x600108, []⟩
  | .lcCntMulti => ⟨0x600110, []⟩
  | .lcCntFalsehit => ⟨0x600118, []⟩
  | .lcCntFalsemiss => ⟨0x600120, []⟩
  | .lcCntScrubfix => ⟨0x600128, []⟩
  | .lcCntInsert => ⟨0x600130, []⟩
  | .lcCntMoves => ⟨0x600138, []⟩
  | .lcCntInswait => ⟨0x600140, []⟩
  | .lcCntFull => ⟨0x600148, []⟩
  | .lcCntPfrows => ⟨0x600150, []⟩
  | .lcStallWrite => ⟨0x600158, []⟩
  | .lcStallScrub => ⟨0x600160, []⟩
  | .lcStallTherm => ⟨0x600168, []⟩
  | .lcStallRebuild => ⟨0x600170, []⟩
  | .rqCntAccept => ⟨0x700080, []⟩
  | .rqCntResp => ⟨0x700088, []⟩
  | .rqCntDup => ⟨0x700090, []⟩
  | .rqCntEcho => ⟨0x700098, []⟩
  | .rqDropOld => ⟨0x7000A0, []⟩
  | .rqDropAhead => ⟨0x7000A8, []⟩
  | .rqDropOrigin => ⟨0x7000B0, []⟩
  | .rqDropHdr => ⟨0x7000B8, []⟩
  | .rqDropNobuf => ⟨0x7000C0, []⟩
  | .rqDropReasm => ⟨0x7000C8, []⟩
  | .rqCntDupseg => ⟨0x7000D0, []⟩
  | .rqCntHeld => ⟨0x7000D8, []⟩
  | .rqCntSkip => ⟨0x7000E0, []⟩
  | .rqStallGap => ⟨0x7000E8, []⟩
  | .rqCntStale => ⟨0x7000F0, []⟩
  | .rqCntFuture => ⟨0x7000F8, []⟩
  | .rqCntFwd => ⟨0x700100, []⟩
  | .rqCntReplay => ⟨0x700108, []⟩
  | .lkCntFlitTx => ⟨0x800080, []⟩
  | .lkCntFlitRx => ⟨0x800088, []⟩
  | .lkCntFecCorr => ⟨0x800090, []⟩
  | .lkCntFecUncorr => ⟨0x800098, []⟩
  | .lkCntCrc => ⟨0x8000A0, []⟩
  | .lkCntNak => ⟨0x8000A8, []⟩
  | .lkCntEpisode => ⟨0x8000B0, []⟩
  | .lkCntReplay => ⟨0x8000B8, []⟩
  | .lkCntReflit => ⟨0x8000C0, []⟩
  | .lkCntRetryFail => ⟨0x8000C8, []⟩
  | .lkCntTrain => ⟨0x8000D0, []⟩
  | .lkCntTrainFail => ⟨0x8000D8, []⟩
  | .lkStallCredit => ⟨0x8000E0, []⟩
  | .fuCntTx => ⟨0x900080, [(8, 0x100)]⟩
  | .fuCntRx => ⟨0x900088, [(8, 0x100)]⟩
  | .fuCntMoved => ⟨0x900090, [(8, 0x100)]⟩
  | .fuDropDown => ⟨0x900098, [(8, 0x100)]⟩
  | .fuDropConn => ⟨0x9000A0, [(8, 0x100)]⟩
  | .fuDropAuth => ⟨0x9000A8, [(8, 0x100)]⟩
  | .fuRmaDup => ⟨0x9000B0, [(8, 0x100)]⟩
  | .fuRmaEcho => ⟨0x9000B8, [(8, 0x100)]⟩
  | .fuRmaOld => ⟨0x9000C0, [(8, 0x100)]⟩
  | .fuRmaAhead => ⟨0x9000C8, [(8, 0x100)]⟩
  | .fuRmaStale => ⟨0x9000D0, [(8, 0x100)]⟩
  | .fuRmaRights => ⟨0x9000D8, [(8, 0x100)]⟩
  | .fuRmaLate => ⟨0x9000E0, [(8, 0x100)]⟩
  | .fuCntConnfail => ⟨0x9000E8, [(8, 0x100)]⟩
  | .fuCntEvtTx => ⟨0x9000F0, [(8, 0x100)]⟩
  | .fuCntEvtRx => ⟨0x9000F8, [(8, 0x100)]⟩
  | .fuCntEvtGap => ⟨0x900078, [(8, 0x100)]⟩
  | .hgGateCntWait => ⟨0x1040C0, [(8, 0x100)]⟩
  | .hgGateStallClosed => ⟨0x1040C8, [(8, 0x100)]⟩
  | .hgGateStallGuard => ⟨0x1040D0, [(8, 0x100)]⟩
  | .hgGateStallFit => ⟨0x1040D8, [(8, 0x100)]⟩
  | .hgCntAdmit => ⟨0x100100, []⟩
  | .hgCntCharge => ⟨0x100108, []⟩
  | .hgCntClosed => ⟨0x100110, []⟩
  | .hgCntQuotaTok => ⟨0x100118, []⟩
  | .hgCntQuotaSlot => ⟨0x100120, []⟩
  | .hgCntQuotaQfull => ⟨0x100128, []⟩
  | .hgCntWaited => ⟨0x100130, []⟩
  | .hgStallTokens => ⟨0x100138, []⟩
  | .hgStallSlots => ⟨0x100140, []⟩
  | .hgCntDuppass => ⟨0x100148, []⟩
  | .hgDropDupres => ⟨0x100150, []⟩
  | .hgDropDupq => ⟨0x100158, []⟩
  | .hgCntSkipq => ⟨0x100160, []⟩
  | .hpCntCarrier => ⟨0xA00080, []⟩
  | .hpDropAphdr => ⟨0xA00088, []⟩
  | .hpDropApoff => ⟨0xA00090, []⟩
  | .hpCntRsp => ⟨0xA00098, []⟩
  | .hpStallRing => ⟨0xA000A0, []⟩
  | .hpDropRspflr => ⟨0xA000A8, []⟩
  | .hpCntWrd => ⟨0xA000B0, []⟩
  | .hpCntWwr => ⟨0xA000B8, []⟩
  | .hpCntUr => ⟨0xA000C0, []⟩
  | .hpCntCa => ⟨0xA000C8, []⟩
  | .hpCntPoison => ⟨0xA000D0, []⟩
  | .hpCntPub => ⟨0xA000D8, []⟩
  | .hpCntMsixDrop => ⟨0xA000E0, []⟩
  | .hpCntMsixPend => ⟨0xA000E8, []⟩
  | .mtCntSpdmReq => ⟨0xB00080, []⟩
  | .mtCntSpdmBusy => ⟨0xB00088, []⟩
  | .mtCntSpdmErr => ⟨0xB00090, []⟩
  | .mtCntSign => ⟨0xB00098, []⟩
  | .mtCntKeyinst => ⟨0xB000A0, []⟩
  | .mtCntKeyret => ⟨0xB000A8, []⟩
  | .mtCntNokey => ⟨0xB000B0, []⟩
  | .mtCntClose => ⟨0xB000B8, []⟩
  | .mtCntDrainTo => ⟨0xB000C0, []⟩
  | .mtCntScrub => ⟨0xB000C8, []⟩
  | .mtCntConfref => ⟨0xB000D0, []⟩
  | .cbCntLoad => ⟨0xC00080, []⟩
  | .cbCntAmend => ⟨0xC00088, []⟩
  | .cbCntFail => ⟨0xC00090, []⟩
  | .cbCntRefused => ⟨0xC00098, []⟩
  | .rsCntCreset => ⟨0xD00400, []⟩
  | .rsCntStag => ⟨0xD00408, []⟩
  | .rsCntOrphan => ⟨0xD00410, []⟩
  | .rsCntAssay => ⟨0xD00418, []⟩
  | .rsCntAssaySkip => ⟨0xD00420, []⟩
  | .rsCntMismatch => ⟨0xD00428, []⟩
  | .rsCntShadowCmp => ⟨0xD00430, []⟩
  | .rsCntShadowMis => ⟨0xD00438, []⟩
  | .rsCntGapbusy => ⟨0xD00440, []⟩
  | .rsCntLost => ⟨0xD00448, []⟩
  | .rsDropOut => ⟨0xD00450, []⟩
  | .brCntStage => ⟨0xE01080, []⟩
  | .brCntStageFail => ⟨0xE01088, []⟩
  | .brCntActivate => ⟨0xE01090, []⟩
  | .brCntActMiss => ⟨0xE01098, []⟩
  | .brCntConfirm => ⟨0xE010A0, []⟩
  | .brCntFallback => ⟨0xE010A8, []⟩
  | .pwCntStep => ⟨0xF00080, []⟩
  | .pwStallPipe => ⟨0xF00088, []⟩
  | .pwStallReckon => ⟨0xF00090, []⟩
  | .pwCntRef2x => ⟨0xF00098, []⟩
  | .pwCntPwrfail => ⟨0xF000A0, []⟩
  | .brCntMpRx => ⟨0xE00080, []⟩
  | .brCntMpDup => ⟨0xE00088, []⟩
  | .brCntMpBad => ⟨0xE00090, []⟩
  | .brCntMpAuth => ⟨0xE00098, []⟩
  | .brCntEvtUnack => ⟨0xE000A0, []⟩

/-- The access masks and reset value of a register: ro, rw, rwc, w1c, wo, reset. -/
def Reg.access : Reg → Access
  | .wpCap => ⟨0x7FFFF, 0x0, 0x0, 0x0, 0x0, 0x67F87⟩
  | .wpCfg => ⟨0x0, 0x0, 0xFFFFFFFFFFFFFFFF, 0x0, 0x0, 0x0⟩
  | .wpCfgCommit => ⟨0x0, 0x0, 0x0, 0x0, 0x1, 0x0⟩
  | .wpStatus => ⟨0xFFFFFFFFFFFFFFFF, 0x0, 0x0, 0x0, 0x0, 0x0⟩
  | .wpFault => ⟨0x0, 0x0, 0x0, 0xFFFFFFFFFFFFFFFF, 0x0, 0x0⟩
  | .wpFaultCause => ⟨0xFFFFFFF, 0x0, 0x0, 0x0, 0x0, 0x0⟩
  | .wpCntSel => ⟨0x0, 0x7F, 0x0, 0x0, 0x0, 0x40⟩
  | .hubRetCap => ⟨0x3FFFF, 0x0, 0x0, 0x0, 0x0, 0x23000⟩
  | .hubRetCfg => ⟨0x0, 0x0, 0x3FFFF, 0x0, 0x0, 0x20020⟩
  | .hubRetCfgCommit => ⟨0x0, 0x0, 0x0, 0x0, 0x1, 0x0⟩
  | .pgCap => ⟨0xFFFFFF, 0x0, 0x0, 0x0, 0x0, 0xAF8007⟩
  | .pgCfg => ⟨0x0, 0x0, 0x1FFFF, 0x0, 0x0, 0x400⟩
  | .pgCfgCommit => ⟨0x0, 0x0, 0x0, 0x0, 0x1, 0x0⟩
  | .pgFault => ⟨0x0, 0x0, 0x0, 0xFFFFFFFFFFFFFFFF, 0x0, 0x0⟩
  | .pgFaultCause => ⟨0x1FFFFFFFFFF, 0x0, 0x0, 0x0, 0x0, 0x0⟩
  | .pgSel => ⟨0x0, 0x7F, 0x0, 0x0, 0x0, 0x40⟩
  | .pgFree => ⟨0x3FFFFFFFFFFFF, 0x0, 0x0, 0x0, 0x0, 0x0⟩
  | .pgCodeCfg => ⟨0x0, 0x0, 0xFF, 0x0, 0x0, 0x40⟩
  | .pgCodeCommit => ⟨0x0, 0x0, 0x0, 0x0, 0x1, 0x0⟩
  | .scVfSel => ⟨0x0, 0x7FFF, 0x0, 0x0, 0x0, 0x0⟩
  | .scVfLease => ⟨0x0, 0x0, 0x0, 0x0, 0x3, 0x0⟩
  | .scVfCmd => ⟨0x0, 0x0, 0x0, 0x0, 0xF, 0x0⟩
  | .scVfArg0 => ⟨0x0, 0xFFFFFFFFFFFFFFFF, 0x0, 0x0, 0x0, 0x0⟩
  | .scVfArg1 => ⟨0x0, 0xFFFFFFFFFFFFFFFF, 0x0, 0x0, 0x0, 0x0⟩
  | .scVfArg2 => ⟨0x0, 0xFFFFFFFFFFFFFFFF, 0x0, 0x0, 0x0, 0x0⟩
  | .scVfState => ⟨0xFFFF0003FFFF, 0x0, 0x0, 0x0, 0x0, 0x0⟩
  | .scVfMbox => ⟨0x0, 0xFFFFFFFFFFFFFFFF, 0x0, 0x0, 0x0, 0x0⟩
  | .scCap => ⟨0xFFFFFF, 0x0, 0x0, 0x0, 0x0, 0x801809⟩
  | .scCfg => ⟨0x0, 0x0, 0x3, 0x0, 0x0, 0x0⟩
  | .scCfgCommit => ⟨0x0, 0x0, 0x0, 0x0, 0x1, 0x0⟩
  | .scFault => ⟨0x0, 0x0, 0x0, 0xFFFFFFFFFFFFFFFF, 0x0, 0x0⟩
  | .scFaultCause => ⟨0xFFFFFF, 0x0, 0x0, 0x0, 0x0, 0x0⟩
  | .scSel => ⟨0x0, 0xFFF, 0x0, 0x0, 0x0, 0x840⟩
  | .scLeaseQuota => ⟨0x7FFF0000, 0x7FFF, 0x0, 0x0, 0x0, 0x0⟩
  | .scDbgSel => ⟨0x0, 0x7FFF, 0x0, 0x0, 0x0, 0x0⟩
  | .scDbgCtl => ⟨0x4, 0x1, 0x0, 0x0, 0x2, 0x0⟩
  | .scDbgAddr => ⟨0x0, 0x3FFFF, 0x0, 0x0, 0x0, 0x0⟩
  | .scDbgData => ⟨0xFFFFFFFFFFFFFFFF, 0x0, 0x0, 0x0, 0x0, 0x0⟩
  | .stCap => ⟨0xFFF, 0x0, 0x0, 0x0, 0x0, 0xF50⟩
  | .stCfg => ⟨0x0, 0x0, 0xFFFFFFFFFFFFF, 0x0, 0x0, 0xB100008000400⟩
  | .stCfgCommit => ⟨0x0, 0x0, 0x0, 0x0, 0x1, 0x0⟩
  | .stChan => ⟨0xFF, 0x0, 0x0, 0x0, 0x0, 0xF⟩
  | .stFault => ⟨0x0, 0x0, 0x0, 0xF, 0x0, 0x0⟩
  | .stFaultCause => ⟨0xFF, 0x0, 0x0, 0x0, 0x0, 0x0⟩
  | .stSel => ⟨0x0, 0x7, 0x0, 0x0, 0x0, 0x4⟩
  | .stUsage => ⟨0x3FFFFFFFFFFFFFF, 0x0, 0x0, 0x0, 0x0, 0x0⟩
  | .stWear => ⟨0xFFFFFFFF, 0x0, 0x0, 0x0, 0x0, 0x0⟩
  | .lcCap => ⟨0x3FFFFFFF, 0x0, 0x0, 0x0, 0x0, 0x3D070804⟩
  | .lcCfg => ⟨0x0, 0x0, 0x1FFFFFFFFFFFFFFF, 0x0, 0x0, 0xD2C8BE008040400⟩
  | .lcCfgCommit => ⟨0x0, 0x0, 0x0, 0x0, 0x1, 0x0⟩
  | .lcStatus => ⟨0xFF, 0x0, 0x0, 0x0, 0x0, 0x3C⟩
  | .lcFault => ⟨0x0, 0x0, 0x0, 0xF, 0x0, 0x0⟩
  | .lcFaultCause => ⟨0xFFFFFF, 0x0, 0x0, 0x0, 0x0, 0x0⟩
  | .lcUsage => ⟨0x1FFFFFFFFFFFFFF, 0x0, 0x0, 0x0, 0x0, 0x0⟩
  | .lcPsKey0 => ⟨0x0, 0xFFFFFFFFFFFFFFFF, 0x0, 0x0, 0x0, 0x0⟩
  | .lcPsKey1 => ⟨0x0, 0xFFFFFFFFFFFF, 0x0, 0x0, 0x0, 0x0⟩
  | .lcPsGmask0 => ⟨0x0, 0xFFFFFFFFFFFFFFFF, 0x0, 0x0, 0x0, 0x0⟩
  | .lcPsGmask1 => ⟨0x0, 0xFFFFFFFFFFFF, 0x0, 0x0, 0x0, 0x0⟩
  | .lcPsStart => ⟨0x0, 0x3FFFF, 0x0, 0x0, 0x0, 0x0⟩
  | .lcPsCmd => ⟨0x0, 0x0, 0x0, 0x0, 0x1, 0x0⟩
  | .lcPsRes => ⟨0x3FFFFF, 0x0, 0x0, 0x0, 0x0, 0x0⟩
  | .lcPsData => ⟨0xFFFFFFFFFFFFFFFF, 0x0, 0x0, 0x0, 0x0, 0x0⟩
  | .lcPsVal0 => ⟨0xFFFFFFFFFFFFFFFF, 0x0, 0x0, 0x0, 0x0, 0x0⟩
  | .lcPsVal1 => ⟨0xFFFFFFFFFFFFFFFF, 0x0, 0x0, 0x0, 0x0, 0x0⟩
  | .lcPsCare0 => ⟨0xFFFFFFFFFFFFFFFF, 0x0, 0x0, 0x0, 0x0, 0x0⟩
  | .lcPsCare1 => ⟨0xFFFFFFFFFFFFFFFF, 0x0, 0x0, 0x0, 0x0, 0x0⟩
  | .rqCap => ⟨0x3FFFFFFF, 0x0, 0x0, 0x0, 0x0, 0x30010012⟩
  | .rqCfg => ⟨0x0, 0x0, 0xFFFFFFFFFFFF, 0x0, 0x0, 0x10004000000⟩
  | .rqCfgCommit => ⟨0x0, 0x0, 0x0, 0x0, 0x1, 0x0⟩
  | .rqEpochCfg => ⟨0x0, 0x0, 0xFFFF, 0x0, 0x0, 0x0⟩
  | .rqEpochCommit => ⟨0x0, 0x0, 0x0, 0x0, 0x1, 0x0⟩
  | .rqEpochStatus => ⟨0x1FFFFFFFFFF, 0x0, 0x0, 0x20000000000, 0x0, 0x0⟩
  | .rqSlots => ⟨0x1FFFFFFFFFFFFFF, 0x0, 0x0, 0x0, 0x0, 0x40000⟩
  | .rqOriginUse => ⟨0xFFF, 0x0, 0x0, 0x0, 0x0, 0x0⟩
  | .rqOriginClr => ⟨0x0, 0x0, 0x0, 0x0, 0x1FFFF, 0x0⟩
  | .lkCap => ⟨0x7FFF, 0x0, 0x0, 0x0, 0x0, 0x6021⟩
  | .lkCfg => ⟨0x0, 0x0, 0x3FFFFFFFFF, 0x0, 0x0, 0x400403D8⟩
  | .lkEn => ⟨0x0, 0x0, 0xFFFFFFFFFFFFFFFF, 0x0, 0x0, 0x0⟩
  | .lkIftype => ⟨0x0, 0x0, 0xFFFFFFFFFFFFFFFF, 0x0, 0x0, 0x0⟩
  | .lkCfgCommit => ⟨0x0, 0x0, 0x0, 0x0, 0x1, 0x0⟩
  | .lkUp => ⟨0xFFFFFFFFFFFFFFFF, 0x0, 0x0, 0x0, 0x0, 0x0⟩
  | .lkSel => ⟨0x0, 0x7F, 0x0, 0x0, 0x0, 0x40⟩
  | .lkLstate => ⟨0x1FFFFFFFF, 0x0, 0x0, 0x0, 0x0, 0x0⟩
  | .lkFault => ⟨0x0, 0x0, 0x0, 0xFFFFFFFFFFFFFFFF, 0x0, 0x0⟩
  | .lkFaultCause => ⟨0x3FF, 0x0, 0x0, 0x0, 0x0, 0x0⟩
  | .fuCfg => ⟨0x0, 0x0, 0x7FFFFFFFFFFFFF, 0x0, 0x0, 0x800008010000⟩
  | .fuLinks => ⟨0x0, 0x0, 0xFFFFFFFFFFFFFFFF, 0x0, 0x0, 0x0⟩
  | .fuCtrl => ⟨0x0, 0x0, 0x3FFF, 0x0, 0x0, 0x0⟩
  | .fuCommit => ⟨0x0, 0x0, 0x0, 0x0, 0x1, 0x0⟩
  | .fuStatus => ⟨0x1FFFFFFFF, 0x0, 0x0, 0x200000000, 0x0, 0x0⟩
  | .fuEvt => ⟨0xFFFFFF, 0x0, 0x0, 0x0, 0x0, 0x0⟩
  | .fuEvtArg => ⟨0xFFFFFFFFFFFFFFFF, 0x0, 0x0, 0x0, 0x0, 0x0⟩
  | .fuConnSel => ⟨0x0, 0x3FFF, 0x0, 0x0, 0x0, 0x0⟩
  | .fuConnCfg => ⟨0x0, 0x0, 0x7FFFFFFFF, 0x0, 0x0, 0x0⟩
  | .fuConnCommit => ⟨0x0, 0x0, 0x0, 0x0, 0x1, 0x0⟩
  | .fuConnStatus => ⟨0x7FFFFFFFFFFFF, 0x0, 0x0, 0x0, 0x0, 0x0⟩
  | .fuConnTxseq => ⟨0xFFFFFFFFFFFF, 0x0, 0x0, 0x0, 0x0, 0x0⟩
  | .hgCap => ⟨0x1FFFFF, 0x0, 0x0, 0x0, 0x0, 0x108C00⟩
  | .hgCfg => ⟨0x0, 0x0, 0x3FFFF, 0x0, 0x0, 0x400⟩
  | .hgCfgCommit => ⟨0x0, 0x0, 0x0, 0x0, 0x1, 0x0⟩
  | .hgOvh => ⟨0x0, 0x0, 0xFFFFFFFFFFFFFF, 0x0, 0x0, 0x8082002080410⟩
  | .hgStatus => ⟨0x7FFFF, 0x0, 0x0, 0x80000, 0x0, 0x3FC00⟩
  | .hgSel => ⟨0x0, 0x7FF, 0x0, 0x0, 0x0, 0x400⟩
  | .hgBktRate => ⟨0x0, 0x0, 0x1FFFFFFFF, 0x0, 0x0, 0x100001000⟩
  | .hgBktBurst => ⟨0x0, 0x0, 0xFFFFFFFF, 0x0, 0x0, 0x1000⟩
  | .hgCtxSlots => ⟨0x0, 0x0, 0x3FFFFFFFFF, 0x0, 0x0, 0x8000000⟩
  | .hgCtxArb => ⟨0x0, 0x0, 0x7FFFFFFFF, 0x0, 0x0, 0x8020010⟩
  | .hgCtxCommit => ⟨0x0, 0x0, 0x0, 0x0, 0x1, 0x0⟩
  | .hgBktState => ⟨0xFFFFFFFFFF, 0x0, 0x0, 0x0, 0x0, 0x100000⟩
  | .hgCtxState => ⟨0x3FFFFFFF, 0x0, 0x0, 0x0, 0x0, 0x0⟩
  | .hgGateCfg => ⟨0x0, 0x0, 0x1F, 0x0, 0x0, 0x0⟩
  | .hgGateCommit => ⟨0x0, 0x0, 0x0, 0x0, 0x1, 0x0⟩
  | .hgGateStatus => ⟨0x2F, 0x0, 0x0, 0x10, 0x0, 0x0⟩
  | .hgGateEnt => ⟨0x0, 0x0, 0xFFFFF, 0x0, 0x0, 0x0⟩
  | .hgVfStatus => ⟨0xFFFFFFFFFF, 0x0, 0x0, 0x0, 0x0, 0x0⟩
  | .hgVfUse => ⟨0x1FFFFFFF, 0x0, 0x0, 0x0, 0x0, 0x0⟩
  | .hgVfIrq => ⟨0x0, 0xFFF, 0x0, 0x0, 0x0, 0x0⟩
  | .hgVfIrqCause => ⟨0x0, 0x0, 0x0, 0x7, 0x0, 0x0⟩
  | .hpCap => ⟨0x3FFFFFFF, 0x0, 0x0, 0x0, 0x0, 0x30008803⟩
  | .hpSel => ⟨0x0, 0xFFF, 0x0, 0x0, 0x0, 0x2⟩
  | .hpPortStatus => ⟨0x3FF, 0x0, 0x0, 0x0, 0x0, 0x0⟩
  | .hpFlr => ⟨0xFFFFFFFFFFFFFFFF, 0x0, 0x0, 0x0, 0x0, 0x0⟩
  | .hpVfCfg => ⟨0x0, 0xFFFF, 0x0, 0x0, 0x0, 0x0⟩
  | .hpRngSel => ⟨0x0, 0xFFF, 0x0, 0x0, 0x0, 0x0⟩
  | .hpRngCfg0 => ⟨0x0, 0x0, 0x7FFFFFFFFFFF, 0x0, 0x0, 0x0⟩
  | .hpRngCfg1 => ⟨0x0, 0x0, 0x3FFFFFFF, 0x0, 0x0, 0x0⟩
  | .hpRngCfg2 => ⟨0x0, 0x0, 0x7FFFFF, 0x0, 0x0, 0x0⟩
  | .hpRngCommit => ⟨0x0, 0x0, 0x0, 0x0, 0x1, 0x0⟩
  | .hpRngStatus => ⟨0x1FFFFFE7, 0x0, 0x0, 0x18, 0x0, 0x4⟩
  | .hpRngVer => ⟨0xFFFFFFFFFFFFFFFF, 0x0, 0x0, 0x0, 0x0, 0x0⟩
  | .hpVfCqBase => ⟨0x0, 0x0, 0xFFFFFFFFFFFFFFC0, 0x0, 0x0, 0x0⟩
  | .hpVfRspBase => ⟨0x0, 0x0, 0xFFFFFFFFFFFFF000, 0x0, 0x0, 0x0⟩
  | .hpVfRingCfg => ⟨0x0, 0x0, 0x7FF, 0x0, 0x0, 0x266⟩
  | .hpVfRingCommit => ⟨0x0, 0x0, 0x0, 0x0, 0x1, 0x0⟩
  | .hpVfCqHead => ⟨0x0, 0xFFFFF, 0x0, 0x0, 0x100000, 0x0⟩
  | .hpVfCqIrq => ⟨0x0, 0x7, 0x0, 0x0, 0x0, 0x0⟩
  | .hpVfRspHead => ⟨0x0, 0x3FFFFFF, 0x0, 0x0, 0x0, 0x0⟩
  | .hpVfRingStatus => ⟨0x2FFFFFFFFFFFF, 0x0, 0x0, 0x1000000000000, 0x0, 0x100000⟩
  | .mtCap => ⟨0x3FFFFFF, 0x0, 0x0, 0x0, 0x0, 0x3100011⟩
  | .mtMode => ⟨0x3, 0x0, 0x0, 0x0, 0x0, 0x2⟩
  | .mtCfg => ⟨0x0, 0x0, 0xFFFF, 0x0, 0x0, 0x8000⟩
  | .mtCfgCommit => ⟨0x0, 0x0, 0x0, 0x0, 0x1, 0x0⟩
  | .mtStatus => ⟨0x3FF, 0x0, 0x0, 0x0, 0x0, 0x0⟩
  | .mtFault => ⟨0x0, 0x0, 0x0, 0x1, 0x0, 0x0⟩
  | .mtCtxSel => ⟨0x0, 0x3FF, 0x0, 0x0, 0x0, 0x0⟩
  | .mtCtxStatus => ⟨0x1FFFF, 0x0, 0x0, 0x0, 0x0, 0x0⟩
  | .mtCtxCmd => ⟨0x0, 0x0, 0x0, 0x0, 0x1, 0x0⟩
  | .mtJobSel => ⟨0x0, 0xFFF, 0x0, 0x0, 0x0, 0x0⟩
  | .mtJobStatus => ⟨0xFFFF, 0x0, 0x0, 0x0, 0x0, 0x0⟩
  | .mtJobId => ⟨0xFFFFFFFFFFFFFFFF, 0x0, 0x0, 0x0, 0x0, 0x0⟩
  | .mtMeasSel => ⟨0x0, 0x3F, 0x0, 0x0, 0x0, 0x1⟩
  | .mtMeasData => ⟨0xFFFFFFFFFFFFFFFF, 0x0, 0x0, 0x0, 0x0, 0x0⟩
  | .cbCap => ⟨0xFFFF, 0x0, 0x0, 0x0, 0x0, 0xFF01⟩
  | .cbFeat => ⟨0xFFFFFFFFFFFFFFFF, 0x0, 0x0, 0x0, 0x0, 0x0⟩
  | .cbCtl => ⟨0x0, 0x0, 0x0, 0x0, 0x7, 0x0⟩
  | .cbAddr => ⟨0x0, 0xFFFFFF, 0x0, 0x0, 0x0, 0x0⟩
  | .cbData => ⟨0x0, 0xFFFFFFFFFFFFFFFF, 0x0, 0x0, 0x0, 0x0⟩
  | .cbStatus => ⟨0x7FFFFFFFFF, 0x0, 0x0, 0x0, 0x0, 0x0⟩
  | .cbSerial => ⟨0xFFFFFFFFFFFFFFFF, 0x0, 0x0, 0x0, 0x0, 0x0⟩
  | .cbLast => ⟨0xFFFFFFFFFFFFFFFF, 0x0, 0x0, 0x0, 0x0, 0x0⟩
  | .cbLog => ⟨0xFF, 0x0, 0x0, 0x0, 0x0, 0x0⟩
  | .rsCap => ⟨0x7FFFF, 0x0, 0x0, 0x0, 0x0, 0x4000F⟩
  | .rsCfg => ⟨0x0, 0x0, 0xFFFFFFFFFFFFFFF, 0x0, 0x0, 0x401000010003844⟩
  | .rsCfgCommit => ⟨0x0, 0x0, 0x0, 0x0, 0x1, 0x0⟩
  | .rsState => ⟨0x7FF, 0x0, 0x0, 0x0, 0x0, 0x0⟩
  | .rsFault => ⟨0x0, 0x0, 0x0, 0x1FF, 0x0, 0x0⟩
  | .rsCrCause => ⟨0x7FFF, 0x0, 0x0, 0x0, 0x0, 0x0⟩
  | .rsCmd => ⟨0x0, 0x0, 0x0, 0x0, 0x3, 0x0⟩
  | .rsStagLog => ⟨0x1FFFFFF, 0x0, 0x0, 0x0, 0x0, 0x0⟩
  | .rsListSel => ⟨0x0, 0x3FFFF, 0x0, 0x0, 0x0, 0x0⟩
  | .rsListUse => ⟨0x3FFFFFFFFF, 0x0, 0x0, 0x0, 0x0, 0x0⟩
  | .rsListData => ⟨0xFFFFFFFFFFFFFFFF, 0x0, 0x0, 0x0, 0x0, 0x0⟩
  | .rsLostCmd => ⟨0x0, 0x0, 0x0, 0x0, 0xFFF, 0x0⟩
  | .rsLostConv => ⟨0x0, 0xFFFFFFFFFFFFFFFF, 0x0, 0x0, 0x0, 0x0⟩
  | .rsTake => ⟨0x0, 0x0, 0x0, 0x0, 0x7FF, 0x0⟩
  | .rsTakeStatus => ⟨0x3FFFFFFFFFF, 0x0, 0x0, 0x0, 0x0, 0x0⟩
  | .rsRbArg0 => ⟨0x0, 0x3FFFFFFFFFFFF, 0x0, 0x0, 0x0, 0x0⟩
  | .rsRbArg1 => ⟨0x0, 0xFFFFFFFFFFFFFFFF, 0x0, 0x0, 0x0, 0x0⟩
  | .rsRbArg2 => ⟨0x0, 0xFFFFFFFFFFFFFF, 0x0, 0x0, 0x0, 0x0⟩
  | .rsRbArg3 => ⟨0x0, 0xFFFFFFFFFF, 0x0, 0x0, 0x0, 0x0⟩
  | .rsRbCmd => ⟨0x0, 0x0, 0x0, 0x0, 0x1, 0x0⟩
  | .rsRbStatus => ⟨0x3F, 0x0, 0x0, 0x0, 0x0, 0x0⟩
  | .rsShadowCfg => ⟨0x0, 0x0, 0x1FFFFFFFF, 0x0, 0x0, 0x800000⟩
  | .rsShadowCommit => ⟨0x0, 0x0, 0x0, 0x0, 0x1, 0x0⟩
  | .rsShadowStatus => ⟨0x3FFFFF, 0x0, 0x0, 0x0, 0x0, 0x0⟩
  | .rsPredSel => ⟨0x0, 0x3FF, 0x0, 0x0, 0x0, 0x1⟩
  | .rsPredData0 => ⟨0xFFFFFFFFFFFFFFFF, 0x0, 0x0, 0x0, 0x0, 0x0⟩
  | .rsPredData1 => ⟨0xFFFFFFFFFFFFFFFF, 0x0, 0x0, 0x0, 0x0, 0x0⟩
  | .brFwCap => ⟨0xF, 0x0, 0x0, 0x0, 0x0, 0xE⟩
  | .brFwCfg => ⟨0x0, 0x0, 0xFFFFFFFFFFFF, 0x0, 0x0, 0x780100012C⟩
  | .brFwCommit => ⟨0x0, 0x0, 0x0, 0x0, 0x1, 0x0⟩
  | .brFwStatus => ⟨0x7FFFBFF, 0x0, 0x0, 0x400, 0x0, 0x0⟩
  | .brFwArmStep => ⟨0x0, 0xFFFFFFFFFFFFFFFF, 0x0, 0x0, 0x0, 0x0⟩
  | .brFwCmd => ⟨0x0, 0x0, 0x0, 0x0, 0x7, 0x0⟩
  | .brFwVer => ⟨0xFFFFFFFFFFFFFFFF, 0x0, 0x0, 0x0, 0x0, 0x0⟩
  | .brFwProb => ⟨0xFFFFFFFF, 0x0, 0x0, 0x0, 0x0, 0x0⟩
  | .pwCap => ⟨0x7, 0x0, 0x0, 0x0, 0x0, 0x7⟩
  | .pwCfg => ⟨0x0, 0x0, 0xFFFFFFFFFFFF, 0x0, 0x0, 0x6E696469645F⟩
  | .pwCfgCommit => ⟨0x0, 0x0, 0x0, 0x0, 0x1, 0x0⟩
  | .pwStatus => ⟨0xFFFFFFFFFFFFFFFF, 0x0, 0x0, 0x0, 0x0, 0x0⟩
  | .pwIn => ⟨0xFFFFFFFFFFFF, 0x0, 0x0, 0x0, 0x0, 0x0⟩
  | .pwTempSel => ⟨0x0, 0x3FF, 0x0, 0x0, 0x0, 0x0⟩
  | .pwTemp => ⟨0xFFFF, 0x0, 0x0, 0x0, 0x0, 0x0⟩
  | .pwClk => ⟨0x7FFFFFF, 0x0, 0x0, 0x0, 0x0, 0x0⟩
  | .pwFault => ⟨0x0, 0x0, 0x0, 0x1F, 0x0, 0x0⟩
  | .pwCmd => ⟨0x0, 0x0, 0x0, 0x0, 0x1, 0x0⟩
  | .brCap => ⟨0x3, 0x0, 0x0, 0x0, 0x0, 0x3⟩
  | .brTime => ⟨0xFFFFFFFF, 0x0, 0x0, 0x0, 0x0, 0x0⟩
  | .brCmd => ⟨0x0, 0x0, 0x0, 0x0, 0x1, 0x0⟩
  | .brSvc => ⟨0x1F, 0x0, 0x0, 0x20, 0x0, 0x0⟩
  | .brMpStatus => ⟨0x3, 0x0, 0x0, 0x0, 0x0, 0x0⟩
  | .hubCap => ⟨0x3FFFFFF, 0x0, 0x0, 0x0, 0x0, 0x4400⟩
  | .hpVfInfo => ⟨0x3FFFFF, 0x0, 0x0, 0x0, 0x0, 0x0⟩

/-- Every register. -/
def Reg.all : List Reg := (List.range 213).map Reg.ofNat

/-- Every counter. -/
def Ctr.all : List Ctr := (List.range 201).map Ctr.ofNat

/-- The instance an offset from the base names, if it is the address of one. -/
def instAt : List (Nat × Nat) → Nat → Option Nat
  | [], off => if off = 0 then some 0 else none
  | (n, stride) :: t, off =>
    let i := off / stride
    if i < n then (instAt t (off % stride)).map (fun j => i * t.foldl (fun a d => a * d.1) 1 + j) else none

/-- The instance of a place an address names. -/
def Place.inst? (p : Place) (a : Nat) : Option Nat :=
  if p.base ≤ a then instAt p.dims (a - p.base) else none

/-- Whether an instance is a register: HP_VF_CFG has one for VFs 1 to 512 of a port, and none for number 0 (Table 12-7). -/
def Reg.occupied (r : Reg) (i : Nat) : Bool := r != .hpVfCfg || i % 513 != 0

/-- The register and instance an address of the device register space names. -/
def regAt (a : Nat) : Option (Reg × Nat) :=
  Reg.all.findSome? (fun r => r.place?.bind (fun p => (p.inst? a).bind (fun i => if r.occupied i then some (r, i) else none)))

/-- The register and word an offset of the per-context page names. -/
def pageRegAt (a : Nat) : Option (Reg × Nat) :=
  Reg.all.findSome? (fun r => r.page?.bind (fun p => (p.inst? a).map (fun i => (r, i))))

/-- The counter and instance an address names. -/
def ctrAt (a : Nat) : Option (Ctr × Nat) :=
  Ctr.all.findSome? (fun c => (c.place.inst? a).map (fun i => (c, i)))

/-- The bits of a register no field occupies (R15). -/
def Reg.reserved (r : Reg) : Word :=
  let m := r.access
  ~~~(wordOf (m.ro ||| m.rw ||| m.rwc ||| m.w1c ||| m.wo))

/-- The key of a register instance in the register file. -/
def Reg.key (r : Reg) (inst : Nat) : Nat := inst * 256 + r.ctorIdx

/-- The key of a counter instance in the counter file. -/
def Ctr.key (c : Ctr) (inst : Nat) : Nat := inst * 256 + c.ctorIdx

end Sys2Proof
end

