-- ==== Sys2Proof/Machine/SMap.lean ====
section
/-! DEFINITION. Sparse tables: a list of key and value pairs, keys strictly rising, no entry equal to the
default. Registers, counters, frames, slots and rows are held in this one form, so equal tables are equal lists. -/

namespace Sys2Proof.SMap

/-- The value at a key; the default where the key is not listed. -/
def get {α : Type} (d : α) : List (Nat × α) → Nat → α
  | [], _ => d
  | (k, v) :: t, i => if i = k then v else get d t i

/-- Take the entry of a key out. -/
def del {α : Type} : List (Nat × α) → Nat → List (Nat × α)
  | [], _ => []
  | (k, v) :: t, i => if i = k then t else if i < k then (k, v) :: t else (k, v) :: del t i

/-- Put a value at a key, keeping the keys rising. -/
def ins {α : Type} : List (Nat × α) → Nat → α → List (Nat × α)
  | [], i, x => [(i, x)]
  | (k, v) :: t, i, x =>
    if i = k then (k, x) :: t
    else if i < k then (i, x) :: (k, v) :: t
    else (k, v) :: ins t i x

/-- Write a value: an entry equal to the default is not listed. -/
def set {α : Type} [DecidableEq α] (d : α) (m : List (Nat × α)) (i : Nat) (x : α) : List (Nat × α) :=
  if x = d then del m i else ins m i x

/-- Change the value at a key. -/
def upd {α : Type} [DecidableEq α] (d : α) (m : List (Nat × α)) (i : Nat) (f : α → α) : List (Nat × α) :=
  set d m i (f (get d m i))

/-- The keys lie above a bound and rise strictly. -/
def risesFrom {α : Type} : Nat → List (Nat × α) → Bool
  | _, [] => true
  | lo, (k, _) :: t => decide (lo ≤ k) && risesFrom (k + 1) t

/-- The canonical form: keys strictly rising and no entry equal to the default. -/
def wf {α : Type} [DecidableEq α] (d : α) (m : List (Nat × α)) : Bool :=
  risesFrom 0 m && m.all (fun e => decide (e.2 ≠ d))

/-- The lowest key from `lo` below `hi` that is not listed. -/
def firstGap {α : Type} : List (Nat × α) → Nat → Nat → Option Nat
  | [], lo, hi => if lo < hi then some lo else none
  | (k, _) :: t, lo, hi =>
    if k < lo then firstGap t lo hi
    else if k = lo then firstGap t (lo + 1) hi
    else if lo < hi then some lo else none

/-- The lowest key from `lo` below `hi` whose value satisfies a test, among listed keys; unlisted keys hold the
default and pass when `d` passes. -/
def firstWhere {α : Type} (d : α) (p : α → Bool) : List (Nat × α) → Nat → Nat → Option Nat
  | [], lo, hi => if lo < hi && p d then some lo else none
  | (k, v) :: t, lo, hi =>
    if k < lo then firstWhere d p t lo hi
    else if lo < k && lo < hi && p d then some lo
    else if k < hi && p v then some k
    else firstWhere d p t (k + 1) hi

/-- The entries whose keys lie from `lo` below `hi`. -/
def range {α : Type} (m : List (Nat × α)) (lo hi : Nat) : List (Nat × α) :=
  m.filter (fun e => decide (lo ≤ e.1) && decide (e.1 < hi))

end Sys2Proof.SMap
end

