-- ==== Sys2Proof/Machine/Cam.lean ====
section
/-! DEFINITION. The ledger CAM (chapter 8): rows with their array and shadow parts, the exact-key directory,
searches, insertion, rebalancing and scrubbing. -/

namespace Sys2Proof.Machine

/-- A CAM row: the array part, and the shadow part with the associated data and RANK (R243, R244). `ue` marks an
uncorrectable shadow row (R249). -/
structure CamRow where
  aValid : Bool := false
  aValue : Nat := 0
  aCare : Nat := 0
  sValid : Bool := false
  sValue : Nat := 0
  sCare : Nat := 0
  data : Nat := 0
  rank : Nat := 0
  ue : Bool := false
deriving DecidableEq, Repr

/-- An entry to be inserted: VALUE, CARE and associated data. -/
structure CamEntry where
  value : Nat := 0
  care : Nat := 0
  data : Nat := 0
deriving DecidableEq, Repr

/-- The CAM. `dir` lists the index of every valid exact entry under its key, plus one; `joins` is the Bursar's copy
of the JOIN entries; `down` are
CAM slices out of service; `dirUe` are keys whose directory bucket is uncorrectable; `psGo` says that a privileged
search has stalled and not ended (R262); `stuck` that a search stalls, so that no later one delivers its result, and
`waiting` whose searches are issued and not delivered (R245, R249); `period` is a committed SCRUB_PERIOD that waits for
the next pass (R266). -/
structure Cam where
  rows : List (Nat × CamRow) := []
  dir : List (Nat × Nat) := []
  joins : List CamEntry := []
  down : List Nat := []
  dirUe : List Nat := []
  rebuild : Bool := false
  throttle : Nat := 0
  psGo : Bool := false
  stuck : Bool := false
  waiting : List Nat := []
  period : Option Nat := none
deriving DecidableEq, Repr

/-- KIND codes (Table 08-3). -/
def kindConv : Nat := 1
def kindGroup : Nat := 2
def kindJoin : Nat := 3
def kindMconv : Nat := 4
def kindMgroup : Nat := 5

/-- A search key (Table 08-2). -/
def camKey (ctx kind conv : Nat) : Nat := ctx + place 10 kind + place 16 conv

/-- All 112 CARE bits. -/
def allCare : Nat := 2 ^ 112 - 1

/-- CARE bits of KIND and SPARE, which every entry sets (R243). -/
def fixedCare : Nat := place 10 63 + place 80 (2 ^ 32 - 1)

/-- Associated data (Table 08-4). -/
def assoc (ledger slice : Nat) (pend closing xctx : Bool) : Nat :=
  ledger + place 40 slice + place 44 (bnat pend) + place 45 (bnat closing) + place 46 (bnat xctx)
def assocLedger (d : Nat) : Nat := fieldOf d 39 0
def assocSlice (d : Nat) : Nat := fieldOf d 43 40
def assocPend (d : Nat) : Bool := d.testBit 44
def assocClosing (d : Nat) : Bool := d.testBit 45
def assocXctx (d : Nat) : Bool := d.testBit 46
/-- Set or clear one bit of associated data. -/
def assocBit (d i : Nat) (b : Bool) : Nat :=
  (if d.testBit i then d - 2 ^ i else d) + place i (bnat b)

/-- KIND of a key or VALUE. -/
def kindOf (k : Nat) : Nat := fieldOf k 15 10

/-- RANK of an entry: CARE bits set within CTX and CONV (R255). -/
def rankOf (care : Nat) : Nat := popcount 10 care + popcount 64 (care / 2 ^ 16)

/-- Whether a ternary pattern matches a key, ignoring the bits of a global mask (R243, R262). -/
def camMatch (key value care gmask : Nat) : Bool := Nat.land (Nat.xor key value) (Nat.land care (allCare - gmask)) == 0

namespace Cam

def row (c : Cam) (i : Nat) : CamRow := SMap.get {} c.rows i
def setRow (c : Cam) (i : Nat) (r : CamRow) : Cam := { c with rows := SMap.set {} c.rows i r }

/-- Whether the CAM slice of an index is in service. -/
def up (c : Cam) (i : Nat) : Bool := !c.down.contains (i / 65536)

/-- The array matches of a key at or above an index, in priority order. -/
def arrayMatches (c : Cam) (key gmask lo : Nat) : List (Nat × CamRow) :=
  c.rows.filter (fun e => decide (lo ≤ e.1) && c.up e.1 && e.2.aValid &&
    camMatch key e.2.aValue e.2.aCare gmask)

/-- Rewrite a row of the array from its shadow. -/
def rewrite (c : Cam) (i : Nat) : Cam :=
  let r := c.row i
  c.setRow i { r with aValid := r.sValid, aValue := r.sValue, aCare := r.sCare }

/-- What a search answers. -/
inductive Found where
  | hit (index data : Nat)
  | miss
  | stall (index : Nat)
deriving DecidableEq, Repr

/-- A search's effect: the CAM after it, its answer, the rows of the false hits and false misses met, the rows the pre-filter enabled,
and whether two or more rows matched. -/
structure SearchOut where
  cam : Cam
  found : Found
  falseHits : List Nat := []
  falseMisses : List Nat := []
  enabled : Nat := 0
  multi : Bool := false

/-- Rows the pre-filter enables for a key at or above an index: 8 key bits from a position compared with each valid row,
masked bits agreeing (R262, R263). -/
def prefiltered (c : Cam) (key gmask lo pos : Nat) : Nat :=
  c.rows.countP (fun e => e.2.aValid && decide (lo ≤ e.1) && c.up e.1 &&
    Nat.land (fieldOf (Nat.xor key e.2.aValue) (pos + 7) pos)
      (fieldOf (Nat.land e.2.aCare (allCare - gmask)) (pos + 7) pos) == 0)

/-- Search the array from an index, suppressing false hits (R247); `n` bounds how many, and `pos` is where the pre-filter
looks. -/
def searchFrom (pos : Nat) : Nat → Cam → Nat → Nat → Nat → SearchOut
  | 0, c, _, _, _ => { cam := c, found := .miss }
  | n + 1, c, key, gmask, lo =>
    let on := c.prefiltered key gmask lo pos
    match c.arrayMatches key gmask lo with
    | [] => { cam := c, found := .miss, enabled := on }
    | (i, r) :: rest =>
      if r.ue then { cam := c, found := .stall i, enabled := on, multi := !rest.isEmpty }
      else if r.sValid && camMatch key r.sValue r.sCare gmask then
        { cam := c, found := .hit i r.data, enabled := on, multi := !rest.isEmpty }
      else
        let o := searchFrom pos n (c.rewrite i) key gmask (i + 1)
        { o with falseHits := i :: o.falseHits, enabled := o.enabled + on, multi := o.multi || !rest.isEmpty }

/-- The entry of the directory that agrees with a key outside a global mask and lies at or above an index: the lowest
index. With no mask that is the entry under the key. -/
def listed (c : Cam) (key gmask lo : Nat) : Option Nat :=
  (c.dir.filter (fun e => camMatch key e.1 allCare gmask && decide (lo < e.2))).foldl (fun b e =>
    match b with
    | none => some (e.2 - 1)
    | some i => some (Nat.min i (e.2 - 1))) none

/-- A search: one that finds no match is confirmed against the directory, JOIN searches apart (R248). A masked privileged
search is confirmed for the keys its unmasked bits allow (R262, log entry 74). -/
def searchAt (c : Cam) (key gmask lo pos : Nat) : SearchOut :=
  let o := searchFrom pos (c.rows.length + 1) c key gmask lo
  match o.found with
  | .miss =>
    if kindOf key == kindJoin && kindOf gmask == 0 then o
    else if c.dirUe.any (fun k => camMatch key k allCare gmask) then { o with found := .stall 0 }
    else
      match o.cam.listed key gmask lo with
      | none => o
      | some i =>
        if (o.cam.row i).ue then { o with found := .stall i }
        else { o with cam := o.cam.rewrite i, found := .hit i (o.cam.row i).data, falseMisses := [i] }
  | _ => o

/-- Write an entry's shadow, directory entry and array row, in that order (R250). -/
def put (c : Cam) (i : Nat) (e : CamEntry) : Cam :=
  let r : CamRow :=
    { aValid := true, aValue := e.value, aCare := e.care, sValid := true, sValue := e.value, sCare := e.care,
      data := e.data, rank := rankOf e.care }
  let c := c.setRow i r
  if kindOf e.value == kindJoin then c else { c with dir := SMap.ins c.dir e.value (i + 1) }

/-- Clear a row: array valid bit, shadow, directory (R252). -/
def clear (c : Cam) (i : Nat) : Cam :=
  let r := c.row i
  let c := c.setRow i {}
  if kindOf r.sValue == kindJoin then c else { c with dir := SMap.del c.dir r.sValue }

/-- Change the associated data of a row. -/
def setData (c : Cam) (i d : Nat) : Cam := c.setRow i { c.row i with data := d }

/-- Whether a row is free. -/
def rowFree (c : Cam) (i : Nat) : Bool := !(c.row i).sValid && !(c.row i).aValid && c.up i

/-- The lowest free row of the unordered region (R250; which one is log entry 11). -/
def freeRow (c : Cam) (ordRuns total : Nat) : Option Nat :=
  findFromTo c (16 * ordRuns) total
where
  /-- The first free row from lo below hi. -/
  findFromTo (c : Cam) (lo hi : Nat) : Option Nat :=
    let cand := (List.range (c.rows.length + 65536 * c.down.length + 1)).map (fun k => lo + k)
    cand.find? (fun i => decide (i < hi) && c.rowFree i)

/-- Valid exact entries, valid JOIN entries. -/
def exactCount (c : Cam) : Nat := c.rows.countP (fun e => e.2.sValid && kindOf e.2.sValue != kindJoin)
def joinCount (c : Cam) : Nat := c.rows.countP (fun e => e.2.sValid && kindOf e.2.sValue == kindJoin)

/-- Free rows of the unordered region, in the CAM slices in service. -/
def freeUnordered (c : Cam) (ordRuns slices : Nat) : Nat :=
  (((List.range slices).filter (fun k => !c.down.contains k)).map (fun k =>
    65536 - Nat.min 65536 (16 * ordRuns - 65536 * k))).sum -
    c.rows.countP (fun e => decide (16 * ordRuns ≤ e.1) && (e.2.sValid || e.2.aValid) && c.up e.1)

/-! The ordered region (R255 to R259). -/

/-- The JOIN rows of the ordered region, in index order. -/
def joinRows (c : Cam) : List (Nat × CamRow) :=
  c.rows.filter (fun e => e.2.sValid && kindOf e.2.sValue == kindJoin)

/-- Whether R255 places a valid row before an entry: its RANK is higher, or equal and the row's entry is the older; the
Bursar's copy keeps the order in which entries came, and an entry it does not hold yet is the youngest. -/
def placedBefore (c : Cam) (e : CamEntry) (r : CamRow) : Bool :=
  decide (rankOf e.care < r.rank) ||
  (rankOf e.care == r.rank && decide (c.joins.idxOf { value := r.sValue, care := r.sCare, data := r.data } < c.joins.idxOf e))

/-- An index, or where its CAM slice is out of service the first of the next slice that is not (R265). -/
def nextUp (c : Cam) (i : Nat) : Nat :=
  if c.up i then i
  else (((List.range 4).map (fun k => 65536 * (i / 65536 + 1 + k))).find? c.up).getD (65536 * (i / 65536 + 4))

/-- The target index of a new entry: just after the last entry R255 places before it (R257 step 1). -/
def target (c : Cam) (e : CamEntry) : Nat :=
  c.nextUp (match (c.joinRows.filter (fun x => c.up x.1 && c.placedBefore e x.2)).getLast? with
    | some x => x.1 + 1
    | none => 0)

/-- The runs of the ordered region in CAM slices that are in service, in index order. -/
def upRuns (c : Cam) (ordRuns : Nat) : List Nat := (List.range ordRuns).filter (fun r => c.up (r * 16))

/-- The run a target index lies in; past the region's end, its last run (R257 step 1). -/
def targetRun (c : Cam) (ordRuns t : Nat) : Nat :=
  if t < 16 * ordRuns then t / 16 else (c.upRuns ordRuns).getLast?.getD (ordRuns - 1)

/-- The free rows of a run. -/
def runFree (c : Cam) (run : Nat) : List Nat :=
  ((List.range 16).map (fun k => run * 16 + k)).filter c.rowFree

/-- Copy a row to another index and clear the source: one move (R259). -/
def moveRow (c : Cam) (src dst : Nat) : Cam :=
  let r := c.row src
  (c.setRow dst r).setRow src {}

/-- Shift the rows src, src - 1, …, down to lo up by one, from the top down. -/
def shiftUp (c : Cam) (lo : Nat) : Nat → Cam
  | 0 => c
  | n + 1 => (c.moveRow (lo + n) (lo + n + 1)).shiftUp lo n

/-- Shift n rows starting at lo + 1 down by one, from the bottom up. -/
def shiftDown (c : Cam) (lo : Nat) : Nat → Cam
  | 0 => c
  | n + 1 => (c.moveRow (lo + 1) lo).shiftDown (lo + 1) n

/-- Moves that placing an entry with target t needs when free row f is used. -/
def movesFor (t f : Nat) : Nat := if t ≤ f then f - t else t - 1 - f

/-- The free row needing fewest moves, the lower on a tie (R257 step 2). -/
def bestFree (t : Nat) : List Nat → Option Nat
  | [] => none
  | f :: rest =>
    match bestFree t rest with
    | none => some f
    | some g => if movesFor t f ≤ movesFor t g then some f else some g

/-- Insert a JOIN entry: the CAM after it and the moves made, or none when the target run has no free row. -/
def insertJoin (c : Cam) (ordRuns : Nat) (e : CamEntry) : Option (Cam × Nat) :=
  let t := c.target e
  match bestFree t (c.runFree (c.targetRun ordRuns t)) with
  | none => none
  | some f =>
    if t ≤ f then some ((c.shiftUp t (f - t)).put t e, f - t)
    else some ((c.shiftDown f (t - 1 - f)).put (t - 1) e, t - 1 - f)

/-- The first run of the ordered region with no free row. -/
def fullRun (c : Cam) (ordRuns : Nat) : Option Nat :=
  let runs := (c.joinRows.map (fun e => e.1 / 16)).dedup
  runs.find? (fun r => decide (r < ordRuns) && c.up (r * 16) && (c.runFree r).isEmpty)

/-- The runs from a full one to the nearest run with two or more free rows, both included, forward first at equal
distance (R258); runs of CAM slices out of service are passed over (R265). -/
def roomPath (c : Cam) (ordRuns run : Nat) : List Nat :=
  let rs := c.upRuns ordRuns
  let fwd := rs.filter (fun r => decide (run < r))
  let back := (rs.filter (fun r => decide (r < run))).reverse
  ((List.range ordRuns).findSome? (fun d =>
    if decide (2 ≤ (c.runFree (getAt 0 fwd d)).length) && decide (d < fwd.length) then some (run :: fwd.take (d + 1))
    else if decide (2 ≤ (c.runFree (getAt 0 back d)).length) && decide (d < back.length) then some (run :: back.take (d + 1))
    else none)).getD []

/-- Make moves, one after the other. -/
def makeMoves (c : Cam) (ms : List (Nat × Nat)) : Cam := ms.foldl (fun q m => q.moveRow m.1 m.2) c

/-- The moves that make the first index of a run free, shifting its entries toward its lowest free row. -/
def openFirst (c : Cam) (run : Nat) : List (Nat × Nat) :=
  match c.runFree run with
  | [] => []
  | f :: _ => (List.range (f - run * 16)).reverse.map (fun k => (run * 16 + k, run * 16 + k + 1))

/-- The moves that make the last index of a run free, shifting its entries toward its highest free row. -/
def openLast (c : Cam) (run : Nat) : List (Nat × Nat) :=
  match (c.runFree run).getLast? with
  | none => []
  | some f => (List.range (run * 16 + 15 - f)).map (fun k => (f + k + 1, f + k))

/-- The last entry of a run; the first entry of a run. -/
def lastEntry (c : Cam) (run : Nat) : Nat :=
  (((List.range 16).reverse.map (fun k => run * 16 + k)).find? (fun i => !c.rowFree i)).getD (run * 16 + 15)
def firstEntry (c : Cam) (run : Nat) : Nat :=
  (((List.range 16).map (fun k => run * 16 + k)).find? (fun i => !c.rowFree i)).getD (run * 16)

/-- The moves that carry one entry from a run into the next of a path, once room is made there. -/
def carryOne (c : Cam) (a b : Nat) : List (Nat × Nat) :=
  let ms := if a < b then c.openFirst b else c.openLast b
  let q := c.makeMoves ms
  ms ++ [if a < b then (q.lastEntry a, b * 16) else (q.firstEntry a, b * 16 + 15)]

/-- The moves that carry one entry across each boundary of a path, the far boundary first. -/
def carryMoves (c : Cam) : List (Nat × Nat) → List (Nat × Nat)
  | [] => []
  | (a, b) :: rest => let ms := c.carryOne a b
                      ms ++ (c.makeMoves ms).carryMoves rest

/-- The moves of one rebalance of a full run (R258). -/
def rebalanceMoves (c : Cam) (ordRuns run : Nat) : List (Nat × Nat) :=
  let p := c.roomPath ordRuns run
  c.carryMoves (p.zip (p.drop 1)).reverse

/-- One rebalance of a full run: the CAM after it and the moves made. -/
def rebalance (c : Cam) (ordRuns run : Nat) : Cam × Nat :=
  let ms := c.rebalanceMoves ordRuns run
  (c.makeMoves ms, ms.length)

/-- The CAM within a rebalance: some moves made, and the destination of the next written but its source not yet cleared
(R259). The answer also names that move. -/
def midRebalance (c : Cam) (ordRuns run k : Nat) : Option (Cam × (Nat × Nat)) :=
  let ms := c.rebalanceMoves ordRuns run
  (ms[k]?).map (fun m => let q := c.makeMoves (ms.take k)
                         (q.setRow m.2 (q.row m.1), m))

/-! Scrubbing (R261). -/

/-- Whether the array part of a row equals its shadow. -/
def rowGood (r : CamRow) : Bool := r.aValid == r.sValid && r.aValue == r.sValue && r.aCare == r.sCare

/-- What the scrubber leaves: the CAM, the rows it rewrote, its searches, those with two or more matches, and the rows
they enabled. -/
structure ScrubOut where
  cam : Cam
  fixes : List Nat := []
  searches : Nat := 0
  multi : Nat := 0
  enabled : Nat := 0

/-- Scrub one row: the array is rewritten from the shadow where they differ, and every other row that matches a valid
exact entry's key is rewritten. -/
def scrubRow (pos : Nat) (o : ScrubOut) (i : Nat) : ScrubOut :=
  let r := o.cam.row i
  if r.ue then o
  else
    let o := if rowGood r then o else { o with cam := o.cam.rewrite i, fixes := o.fixes ++ [i] }
    if r.sValid && kindOf r.sValue != kindJoin then
      let others := (o.cam.arrayMatches r.sValue 0 0).filter (fun e => e.1 != i)
      let bad := others.filter (fun e => !e.2.ue)
      { cam := bad.foldl (fun q e => q.rewrite e.1) o.cam, fixes := o.fixes ++ bad.map (·.1), searches := o.searches + 1
        multi := o.multi + bnat (!others.isEmpty), enabled := o.enabled + o.cam.prefiltered r.sValue 0 0 pos }
    else o

/-- The directory listing every valid exact entry and no other. -/
def rebuiltDir (c : Cam) : List (Nat × Nat) :=
  (c.rows.filter (fun e => e.2.sValid && kindOf e.2.sValue != kindJoin)).foldl
    (fun d e => SMap.ins d e.2.sValue (e.1 + 1)) []

/-- A whole pass of the scrubber. -/
def scrub (c : Cam) (pos : Nat) : ScrubOut :=
  let o := c.rows.foldl (fun o e => scrubRow pos o e.1) { cam := c }
  { o with cam := { o.cam with dir := o.cam.rebuiltDir, dirUe := [] } }

end Cam

end Sys2Proof.Machine
end

