-- ==== Sys2Proof/Machine/Galois.lean ====
section
/-! DEFINITION. Bytes as elements of GF(2⁸) with the polynomial 0x11D and α = 0x02, which coding groups (R173), VGFMA
(R200) and the blocks of a link (R308) use. -/

namespace Sys2Proof

/-- Multiply by α. -/
def gfDouble (b : Byte) : Byte := if b.toNat.testBit 7 then (b <<< 1) ^^^ 0x1D else b <<< 1

/-- Multiply by α^i. -/
def gfPow : Nat → Byte → Byte
  | 0, b => b
  | n + 1, b => gfPow n (gfDouble b)

/-- Multiply two bytes. -/
def gfMul (a b : Byte) : Byte :=
  (List.range 8).foldl (fun acc i => if a.toNat.testBit i then acc ^^^ gfPow i b else acc) 0

/-- A power of a byte. -/
def gfExp : Nat → Byte → Byte
  | 0, _ => 1
  | n + 1, b => gfMul b (gfExp n b)

/-- The inverse of a nonzero byte. -/
def gfInv (a : Byte) : Byte := gfExp 254 a

/-- The value of a polynomial at a point, its constant coefficient first. -/
def gfEval (p : Bytes) (x : Byte) : Byte := p.foldr (fun c acc => c ^^^ gfMul x acc) 0

end Sys2Proof
end

