-- ==== Sys2Proof/Machine/Flit.lean ====
section
/-! DEFINITION. Blocks and flits of a link: the RS(136,128) code of a block, the CRC-32 and the fields of a flit, and the
messages of CTRL flits (10.1, 10.2; log entries 16 and 17). -/

namespace Sys2Proof

/-! The code of a block (R308). A codeword is its bytes from the highest power down, the last eight the parity, and its
eight roots are α^0 to α^7 (log entry 16). A remainder is eight bytes packed in one number, the highest power on top. -/

/-- Every byte of a packed remainder multiplied by α. -/
def rsDouble (r : Nat) : Nat :=
  let high := (r >>> 7) &&& 0x0101010101010101
  ((r &&& 0x7F7F7F7F7F7F7F7F) <<< 1) ^^^ (high * 0x1D)

/-- The generator polynomial, the product of x + α^i for i from 0 to 7, without its leading term. -/
def rsGenerator : Nat := 0xFF0B5136EFADC818

/-- The generator multiplied by a byte. -/
def rsTimes (f : Nat) : Nat :=
  ((upTo 8).foldl (fun (acc : Nat × Nat) i =>
    (if f.testBit i then acc.1 ^^^ acc.2 else acc.1, rsDouble acc.2)) (0, rsGenerator)).1

/-- The remainder of a polynomial times x^8 on division by the generator. -/
def rsRemainder (data : Bytes) : Nat :=
  data.foldl (fun r b => (r <<< 8) % 2 ^ 64 ^^^ rsTimes ((r >>> 56) ^^^ b.toNat)) 0

/-- The parity of 128 data bytes, in the order they are sent. -/
def rsParity (data : Bytes) : Bytes := (leBytes 8 (rsRemainder data)).reverse

/-- State of the search for the error locator: the locator, its length, the locator before the last change of length, the
discrepancy then, and the shift since. -/
structure Locator where
  cur : Bytes := [1]
  len : Nat := 0
  old : Bytes := [1]
  last : Byte := 1
  gap : Nat := 1
deriving DecidableEq, Repr

/-- One step of the search, for the n-th syndrome. -/
def Locator.next (synd : Bytes) (t : Locator) (n : Nat) : Locator :=
  let d := (upTo (t.len + 1)).foldl (fun acc i => acc ^^^ gfMul (getAt 0 t.cur i) (getAt 0 synd (n - i))) 0
  if d = 0 then { t with gap := t.gap + 1 }
  else
    let shifted := zeros t.gap ++ t.old.map (gfMul (gfMul d (gfInv t.last)))
    let size := max t.cur.length shifted.length
    let c := xorBytes (fit size t.cur) (fit size shifted)
    if 2 * t.len ≤ n then { cur := c, len := n + 1 - t.len, old := t.cur, last := d, gap := 1 }
    else { t with cur := c, gap := t.gap + 1 }

/-- The errors of a codeword whose remainder is r, as position from the front and value; none where they are more than
four and so cannot be corrected. -/
def rsErrors (r : Nat) : Option (List (Nat × Byte)) :=
  let rem := leBytes 8 r
  let synd := (upTo 8).map (fun i => gfEval rem (gfPow i 1))
  let t := (upTo 8).foldl (Locator.next synd) {}
  let omega := (upTo 8).map (fun n => (upTo (n + 1)).foldl (fun acc i => acc ^^^ gfMul (getAt 0 t.cur i) (getAt 0 synd (n - i))) 0)
  let slope := (upTo 5).map (fun i => if i % 2 = 0 then getAt 0 t.cur (i + 1) else 0)
  let found := (upTo 136).filterMap (fun j =>
    let x := gfPow (135 - j) 1
    let y := gfPow (120 + j) 1
    if gfEval t.cur y = 0 then some (j, gfMul x (gfMul (gfEval omega y) (gfInv (gfEval slope y)))) else none)
  if t.len ≤ 4 ∧ found.length = t.len then some found else none

/-- A codeword of 136 bytes decoded: its data, and whether errors were corrected. -/
def rsDecode (word : Bytes) : Option (Bytes × Bool) :=
  let r := rsRemainder (word.take 128) ^^^ leNat (word.drop 128).reverse
  if r = 0 then some (word.take 128, false)
  else (rsErrors r).map (fun es =>
    ((es.foldl (fun w e => setAt w e.1 (getAt 0 w e.1 ^^^ e.2)) word).take 128, true))

/-- The two codewords of a block: byte i belongs to codeword (i ÷ 2) mod 2. -/
def deinterleave : Bytes → Bytes × Bytes
  | a :: b :: c :: d :: t => let r := deinterleave t; (a :: b :: r.1, c :: d :: r.2)
  | _ => ([], [])

/-- The inverse. -/
def interleave : Bytes → Bytes → Bytes
  | a :: b :: s, c :: d :: t => a :: b :: c :: d :: interleave s t
  | _, _ => []

/-! Flits (R309). -/

/-- Eight steps of the CRC register, bit-reflected. -/
def crcByte (c : Nat) : Nat := (upTo 8).foldl (fun c _ => if c % 2 = 1 then (c / 2) ^^^ 0xEDB88320 else c / 2) c

/-- CRC-32 with the polynomial 0x04C1_1DB7, in the form IEEE 802.3 gives it (log entry 16). -/
def crc32 (bs : Bytes) : Nat := bs.foldl (fun c b => crcByte (c ^^^ b.toNat)) 0xFFFFFFFF ^^^ 0xFFFFFFFF

def ftIdle : Nat := 0
def ftData : Nat := 1
def ftCtrl : Nat := 2

/-- A flit (Table 10-2). -/
structure Flit where
  ft : Nat := 0
  fseq : Nat := 0
  fack : Nat := 0
  av : Bool := false
  data : Bytes := []
deriving DecidableEq, Repr

/-- The 256 bytes of a flit. -/
def Flit.toBytes (f : Flit) : Bytes :=
  let body := leBytes 4 (f.ft + place 2 f.fseq + place 14 f.fack + place 26 (bnat f.av)) ++ fit 248 f.data
  body ++ leBytes 4 (crc32 body)

/-- The block a flit is sent in. -/
def Flit.block (f : Flit) : Bytes :=
  let w := deinterleave f.toBytes
  interleave (w.1 ++ rsParity w.1) (w.2 ++ rsParity w.2)

/-- What a receiver makes of a block: the codewords corrected, whether one could not be, whether the CRC matches, and the
flit. -/
structure RxFlit where
  corrected : Nat := 0
  uncorrectable : Bool := false
  crcOk : Bool := true
  flit : Flit := {}
deriving DecidableEq, Repr

/-- The fields of 256 bytes. -/
def Flit.ofBytes (b : Bytes) : Flit :=
  let w := numAt b 0 4
  { ft := fieldOf w 1 0, fseq := fieldOf w 13 2, fack := fieldOf w 25 14, av := w.testBit 26, data := sub b 4 248 }

/-- Decode a block of 272 bytes. -/
def rxBlock (block : Bytes) : RxFlit :=
  let w := deinterleave block
  let a := rsDecode w.1
  let b := rsDecode w.2
  let fixed (x : Option (Bytes × Bool)) : Nat := match x with | some (_, true) => 1 | _ => 0
  match a, b with
  | some x, some y =>
    let bytes := interleave x.1 y.1
    { corrected := fixed a + fixed b, uncorrectable := false, crcOk := numAt bytes 0xFC 4 == crc32 (bytes.take 0xFC)
      flit := Flit.ofBytes bytes }
  | _, _ => { corrected := fixed a + fixed b, uncorrectable := true, crcOk := false }

/-! Block lock (R308, R311). -/

/-- The block whose bytes the two lanes carry: byte i travels on lane i mod 2. -/
def laneBlock : Bytes → Bytes → Bytes
  | a :: s, b :: t => a :: b :: laneBlock s t
  | _, _ => []

/-- Whether a codeword has a zero syndrome. -/
def rsZero (word : Bytes) : Bool := rsRemainder (word.take 128) ^^^ leNat (word.drop 128).reverse == 0

/-- Whether a number of consecutive blocks of 136 bytes a lane decode with zero syndrome. -/
def blocksZero : Nat → Bytes → Bytes → Bool
  | 0, _, _ => true
  | n + 1, x, y =>
    let w := deinterleave (laneBlock (x.take 136) (y.take 136))
    decide (136 ≤ x.length) && decide (136 ≤ y.length) && rsZero w.1 && rsZero w.2 && blocksZero n (x.drop 136) (y.drop 136)

/-- The block boundary on lane 0 and on lane 1 at which 64 consecutive blocks decode with zero syndrome, the first by lane 0, then
by lane 1; a good block is one with zero syndrome (DEDUCED, log entry 181). -/
def lockAt (lane0 lane1 : Bytes) : Option (Nat × Nat) :=
  ((List.range 136).flatMap (fun p => (List.range 136).map (fun q => (p, q)))).find? (fun e =>
    blocksZero 64 (lane0.drop e.1) (lane1.drop e.2))

/-! CTRL messages (Table 10-5): the code at byte 0x004 of the flit, the fields from byte 0x008 in the table's order, each
after the last from the low bit up (log entry 17). -/

/-- The widths of the fields of a message. -/
def ctrlWidths : Nat → List Nat
  | 1 => [16, 3, 6, 4, 3, 4, 6, 16, 1, 16, 6]
  | 2 => [6, 12]
  | 3 => [6, 11]
  | 4 => [6, 12]
  | 5 => [6]
  | _ => []

def packFields : List Nat → List Nat → Nat
  | w :: ws, x :: xs => x % 2 ^ w + 2 ^ w * packFields ws xs
  | _, _ => 0

def unpackFields : List Nat → Nat → List Nat
  | w :: ws, x => x % 2 ^ w :: unpackFields ws (x / 2 ^ w)
  | [], _ => []

/-- The data area of a CTRL flit. -/
def ctrlData (code : Nat) (fields : List Nat) : Bytes :=
  fit 248 (leBytes 4 code ++ leBytes 16 (packFields (ctrlWidths code) fields))

/-- A received message of a code; none where the flit carries another. -/
def ctrlFields (code : Nat) (f : Flit) : Option (List Nat) :=
  if f.ft = ftCtrl ∧ byteAt f.data 0 = code then some (unpackFields (ctrlWidths code) (numAt f.data 4 16)) else none

/-- A HELLO. -/
structure HelloMsg where
  node : Nat := 0
  furrow : Nat := 0
  linkid : Nat := 0
  gens : Nat := 1
  lanes : Nat := 2
  retryMax : Nat := 8
  retryTime : Nat := 61
  floor : Nat := 32
  seen : Bool := false
  peerNode : Nat := 0
  peerLinkid : Nat := 0
deriving DecidableEq, Repr

/-- The HELLO that eleven fields spell. -/
def HelloMsg.ofFields (x : List Nat) : HelloMsg :=
  let at' (i : Nat) : Nat := getAt 0 x i
  { node := at' 0, furrow := at' 1, linkid := at' 2, gens := at' 3, lanes := at' 4, retryMax := at' 5, retryTime := at' 6
    floor := at' 7, seen := at' 8 == 1, peerNode := at' 9, peerLinkid := at' 10 }

end Sys2Proof
end

