-- ==== Sys2Proof/Machine/Net.lean ====
section
/-! DEFINITION. What links, furrows, connections, the headgate and the request table hold (chapters 9 to 11), and
the layouts of headers, envelopes and markers. -/

namespace Sys2Proof

/-! The carrier header (Table 09-1). -/

/-- The header 32 bytes spell. -/
def Hdr.ofBytes (b : Bytes) : Hdr :=
  let w0 := numAt b 0 4
  let w4 := numAt b 4 4
  let w8 := numAt b 8 8
  let w18 := numAt b 0x18 8
  { gen := fieldOf w0 1 0, kind := fieldOf w0 7 2, ctx := fieldOf w0 17 8, flags := fieldOf w0 31 18,
    epoch := fieldOf w4 15 0, status := fieldOf w4 23 16, spare := fieldOf w4 31 24,
    origin := fieldOf w8 15 0, seq := fieldOf w8 63 16, conv := numAt b 0x10 8,
    layer := fieldOf w18 7 0, kvh := fieldOf w18 15 8, offset := fieldOf w18 39 16, total := fieldOf w18 63 40 }

/-- The 32 bytes of a header. -/
def Hdr.toBytes (h : Hdr) : Bytes :=
  leBytes 4 (h.gen + place 2 h.kind + place 8 h.ctx + place 18 h.flags) ++
  leBytes 4 (h.epoch + place 16 h.status + place 24 h.spare) ++
  leBytes 8 (h.origin + place 16 h.seq) ++ leBytes 8 h.conv ++
  leBytes 8 (h.layer + place 8 h.kvh + place 16 h.offset + place 40 h.total)

/-- A flag of a header (Table 09-2). -/
def Hdr.flag (h : Hdr) (i : Nat) : Bool := h.flags.testBit i
/-- A header with a flag set or cleared. -/
def Hdr.setFlag (h : Hdr) (i : Nat) (b : Bool) : Hdr :=
  { h with flags := (if h.flags.testBit i then h.flags - 2 ^ i else h.flags) + place i (bnat b) }

def flagTentative : Nat := 0
def flagCommit : Nat := 1
def flagRollback : Nat := 2
def flagMirror : Nat := 3
def flagReissued : Nat := 4
def flagFence : Nat := 5
def flagGroup : Nat := 6
def flagFwd : Nat := 7

/-! Kinds (Table 09-3). -/
def kAttend : Nat := 0x01
def kAppend : Nat := 0x02
def kSeal : Nat := 0x03
def kHint : Nat := 0x04
def kOpenConv : Nat := 0x05
def kCloseConv : Nat := 0x06
def kPromote : Nat := 0x07
def kRmaRead : Nat := 0x08
def kRmaWrite : Nat := 0x09
def kMarker : Nat := 0x0A
def kEcho : Nat := 0x3E

/-- Whether a KIND value is one of Table 09-3. -/
def kindKnown (k : Nat) : Bool := (1 ≤ k && k ≤ 0x0A) || (0x21 ≤ k && k ≤ 0x2A) || k == kEcho

/-- The class of a kind (R286). -/
def classOf (k : Nat) : CarrierClass :=
  if k == kRmaRead || k == kRmaWrite then .rmaRequest
  else if k == kRmaRead + 0x20 || k == kRmaWrite + 0x20 then .rmaResponse
  else if k < 0x20 then .request else .response

/-! Status codes (Table 09-9). -/
def stDone : Nat := 0
def stFormat : Nat := 1
def stNoConv : Nat := 2
def stCtxClosed : Nat := 3
def stQuota : Nat := 4
def stEpochStale : Nat := 5
def stDeep : Nat := 6
def stLost : Nat := 7
def stBusy : Nat := 8
def stBadRange : Nat := 9

/-! Markers (Table 09-8). -/
def mDrainEpoch : Nat := 1
def mDrainCtx : Nat := 2
def mActivate : Nat := 3
def mOriginOpen : Nat := 4
def mOriginClose : Nat := 5

/-- A marker body. -/
def markerBody (mtype arg : Nat) : Bytes := leBytes 8 mtype ++ leBytes 8 arg
def markerType (b : Bytes) : Nat := numAt b 0 8
def markerArg (b : Bytes) : Nat := numAt b 8 8

/-- The fence key of an RMA descriptor (Table 10-7). -/
structure RmaDesc where
  op : Nat := 0
  form : Nat := 0
  grp : Bool := false
  firstpos : Nat := 0
  page : Nat := 0
  insilt : Bool := false
  gen : Nat := 0
  arg : Nat := 0
  arg2 : Nat := 0
deriving DecidableEq, Repr

/-- The descriptor 32 bytes spell. -/
def RmaDesc.ofBytes (b : Bytes) : RmaDesc :=
  let w0 := numAt b 0 4
  let w8 := numAt b 8 8
  { op := fieldOf w0 3 0, form := fieldOf w0 5 4, grp := w0.testBit 6, firstpos := fieldOf (numAt b 4 4) 23 0,
    page := fieldOf w8 39 0, insilt := w8.testBit 40, gen := numAt b 0x10 4, arg := numAt b 0x14 4,
    arg2 := numAt b 0x18 8 }

/-- The 32 bytes of a descriptor. -/
def RmaDesc.toBytes (d : RmaDesc) : Bytes :=
  leBytes 4 (d.op + place 4 d.form + place 6 (bnat d.grp)) ++ leBytes 4 d.firstpos ++
  leBytes 8 (d.page + place 40 (bnat d.insilt)) ++ leBytes 4 d.gen ++ leBytes 4 d.arg ++ leBytes 8 d.arg2

/-- A page reference (Table 10-8). -/
def refBytes (page rows gen firstpos : Nat) (insilt : Bool) : Bytes :=
  leBytes 8 (page + place 40 (bnat insilt) + place 41 rows) ++ leBytes 8 (gen + place 32 firstpos)

namespace Machine

/-! Links (10.1 to 10.4). -/

/-- Link states (Table 10-4). -/
inductive LinkState where
  | disabled | phyTrain | lock | hello | active
deriving DecidableEq, Repr

/-- What travels in the carrier stream: a carrier with its connection, or an event; `no` is the order in which the furrow's
were formed, `fence` says that it waits for all formed before it (R315),
and `slot` the slot whose response it is part of and which has not yet left (R291). -/
structure TxItem where
  bytes : Bytes := []
  furrow : Nat := 0
  conn : Nat := 0
  no : Nat := 0
  carrier : Bool := true
  slot : Option Nat := none
  fence : Bool := false
  since : Nat := 0
deriving DecidableEq, Repr

/-- A DATA flit in the replay buffer, with the items whose last byte it carries. -/
structure RFlit where
  fseq : Nat := 0
  data : Bytes := []
  ends : List TxItem := []
deriving DecidableEq, Repr

/-- A link. `cur` is the item partly sent and how many of its bytes have gone; `rest` the received bytes of an item
not yet whole; `lastWhole` the FSEQ that ended the last whole carrier handed over; `nak` a NAK is outstanding;
`epReplays` the replays of the open retry episode and `epFseq` its first FSEQ; `ldrep` the failure being reported:
the LINKID the peer gave the failed link and DFSEQ; `lost` and `lostRest` are the flits and items that waited when the
link failed, until the peer's LDREP says what it has (R319). `epMax` is RETRY_MAX when the episode began (R338). -/
structure Link where
  state : LinkState := .disabled
  swap : Bool := false
  inv : Nat := 0
  gen : Nat := 0
  peer : Nat := 0
  peerLink : Nat := 0
  heard : Bool := false
  heardSeen : Bool := false
  peerGens : Nat := 0
  peerLanes : Nat := 0
  txNext : Nat := 0
  txAcked : Nat := 0
  replay : List RFlit := []
  queue : List TxItem := []
  cur : Option (TxItem × Nat) := none
  credit : Nat := 0
  rxNext : Nat := 0
  rest : Bytes := []
  lastWhole : Nat := 4095
  nak : Bool := false
  episode : Bool := false
  epReplays : Nat := 0
  epFseq : Nat := 0
  epMax : Nat := 8
  ldrep : Option (Nat × Nat) := none
  lost : List RFlit := []
  lostRest : List TxItem := []
deriving DecidableEq, Repr

/-- A furrow beyond its registers. `formed` numbers the items formed for it; `out` are the items waiting to be placed on a link, in order. -/
structure Furrow where
  gen : Nat := 0
  peerFloor : Nat := 0
  peerRetry : Nat := 0
  evtCode : Nat := 0
  evtSeq : Nat := 0
  evtArg : Word := 0
  evtHeard : Bool := false
  eseq : Nat := 0
  wasDown : Bool := true
  wasState : Nat := 0
  formed : Nat := 0
  out : List TxItem := []
  gates : List (List TxItem) := [[], [], [], []]
  entry : Nat := 0
deriving DecidableEq, Repr

/-! Connections and RMA (10.5, 10.6). -/

inductive ConnState where
  | closed | opn | failed | closing
deriving DecidableEq, Repr

/-- The operation an outstanding RMA request of the module's own serves: what its response completes. -/
inductive RmaUse where
  | none
  | slot (n : Nat)
  | rows (n : Nat) (page : Nat)
  | look (n : Nat) (page : Nat)
  | seal (n : Option Nat) (page : Nat)
  | resend (n : Option Nat) (page : Nat)
  | lookSeal (n : Option Nat) (page : Nat)
  | restore (page : Nat)
  | contribute (page : Nat)
  | uncode (page : Nat)
  | parity (group : Nat) (conn : Nat) (seq : Nat) (lag : Nat)
  | release (page : Nat)
  | released (page : Nat)
  | take (ctx : Nat)
  | takePage (page : Nat)
  | rebuild (step : Nat)
  | freed (n : Option Nat) (firstpos : Nat)
  | lookFree (n : Option Nat) (firstpos : Nat)
  | ledgerUe (pc : Nat) (addr : Nat)
  | shadow (slice : Nat)
  | ledger (root : Nat)
deriving DecidableEq, Repr

/-- An outstanding RMA request (R331). -/
structure RmaOut where
  seq : Nat := 0
  hdr : Hdr := {}
  body : Bytes := []
  use : RmaUse := .none
  since : Nat := 0
deriving DecidableEq, Repr

/-- A resolved RMA sequence: kind, status and stored response payload (R330). -/
structure RmaDone where
  seq : Nat := 0
  kind : Nat := 0
  status : Nat := 0
  body : Bytes := []
deriving DecidableEq, Repr

/-- A held RMA request (R330). -/
structure RmaHeld where
  hdr : Hdr := {}
  body : Bytes := []
  since : Nat := 0
deriving DecidableEq, Repr

/-- A connection beyond its registers. `key0` and `key1` are the job slots of the two phases plus one (0: no key, 4,097:
a slot zeroed since), `kn0` and `kn1` the keys they hold, as numbers; `ctr` is the next send counter (R324); `retire`
the old phase waits for a carrier under the new one, and `fenceNext` the first carrier under it waits for the fence
(R325). -/
structure Conn where
  state : ConnState := .closed
  kp : Nat := 0
  key0 : Nat := 0
  key1 : Nat := 0
  kn0 : Nat := 0
  kn1 : Nat := 0
  retire : Bool := false
  fenceNext : Bool := false
  ctr : Nat := 0
  usedKeys : List Nat := []
  stopped : Bool := false
  rnext : Nat := 0
  window : List RmaDone := []
  held : List RmaHeld := []
  waiting : List Nat := []
  txseq : Nat := 0
  outs : List RmaOut := []
deriving DecidableEq, Repr

/-! The request table and the headgate (chapters 9 and 11). -/

/-- Slot states (Table 09-10). -/
inductive SlotState where
  | free | held | active | forwarded | respond
deriving DecidableEq, Repr

/-- A reassembly entry (R286): bytes received, by offset and length, when it opened, and the limit
then in effect (R305). -/
structure Reasm where
  src : Src
  cls : CarrierClass
  hdr : Hdr := {}
  body : Bytes := []
  got : List (Nat × Nat) := []
  since : Nat := 0
  limit : Nat := 0
deriving DecidableEq, Repr

/-- A request waiting in an admission queue (R352). `passed` counts waiting that has been reported (R348). -/
structure QReq where
  hdr : Hdr := {}
  body : Bytes := []
  src : Src := .conn 0
  since : Nat := 0
  waited : Bool := false
deriving DecidableEq, Repr

/-- Context states (R22). -/
inductive CtxState where
  | closed | opn | closing
deriving DecidableEq, Repr

/-- The headgate's part of a context. TOKENS is in 256ths of a charge unit; `none` means BURST as it stands at reset. -/
structure CtxGate where
  state : CtxState := .closed
  tokens : Nat := 0x100000
  deficit : Nat := 0
  queue : List QReq := []
  drained : Bool := false
deriving DecidableEq, Repr

/-- An origin entry (R293): NEXT and the statuses of resolved sequences. -/
structure Origin where
  node : Nat := 0
  next : Nat := 0
  done : List (Nat × Nat) := []
deriving DecidableEq, Repr

/-- A marker held until it can be returned (R303, R415, R487). `slots` are the requests it waits for by source and
sequence, as (origin, seq), and `rma` the RMA requests, as (connection, seq). -/
structure HeldMarker where
  src : Src := .conn 0
  hdr : Hdr := {}
  body : Bytes := []
  waits : List (Nat × Nat) := []
  rma : List (Nat × Nat) := []
deriving DecidableEq, Repr

/-- The module's own numbering toward a destination (R299): next SEQ, and how far the resynchronisation after a
fabric reset has come (0 numbered, 1 close to be sent, 2 close sent, 3 open sent). -/
structure Dest where
  node : Nat := 0
  next : Nat := 0
  resync : Nat := 0
deriving DecidableEq, Repr

/-- A relayed request of the module's own (R299, R301): the slot it serves, its header and body, when it was last
sent, its destination, and the furrow that last carried it. -/
structure OwnReq where
  slot : Nat := 0
  hdr : Hdr := {}
  body : Bytes := []
  dest : Nat := 0
  since : Nat := 0
  furrow : Nat := 0
  sent : Bool := false
  shadow : Option Nat := none
deriving DecidableEq, Repr

/-- A marker of the module's own that has not returned (R299, R530): the connection and furrow that last carried it, its type and
argument, and when it was last sent. -/
structure SentMarker where
  conn : Nat := 0
  furrow : Nat := 0
  mtype : Nat := 0
  arg : Nat := 0
  since : Nat := 0
deriving DecidableEq, Repr

/-- A forwarding entry: context, first handle, last handle and the holder. -/
structure FwdEntry where
  ctx : Nat := 0
  lo : Nat := 0
  hi : Nat := 0
  node : Nat := 0
deriving DecidableEq, Repr

end Machine

end Sys2Proof
end

