-- ==== Sys2Proof/Machine/StateAttn.lean ====
section
/-! DEFINITION. What attention holds: ATTENDs between their snapshot and their merge, and the weir pipes (chapters 3
and 4). -/

namespace Sys2Proof.Machine

/-- A page of an ATTEND's snapshot (R107): the record whose list holds it, its rows, the visible ones among them, its
SUMV, whether it lay in silt, whether it is pinned (R109), and its bounds U(p, h) once scored (R104). -/
structure AttPage where
  page : Nat := 0
  firstpos : Nat := 0
  rows : Nat := 0
  visible : Nat := 0
  sumv : Bool := false
  silt : Bool := false
  pinned : Bool := false
  bounds : List F32 := []
deriving DecidableEq, Repr

/-- How far an ATTEND has come: scoring (stage 6), waiting on silt (stage 7), at the pipes (stage 8), merged and under
assay. -/
inductive AttStage where
  | scoring | silt | pipes | assay
deriving DecidableEq, Repr

/-- A page entry a reckoner gives a pipe (Table 03-6), with the page it stands for. -/
structure ChainEnt where
  page : Nat := 0
  frame : Nat := 0
  firstpos : Nat := 0
  rows : Nat := 0
  gen8 : Nat := 0
deriving DecidableEq, Repr

/-- One pipe's share of an ATTEND: its page entries, how many descriptors are sent, whether it has emitted, whether it
waits to be reissued after an uncorrectable read (R95), and the computation it serves (0 the original, 1 the assay). -/
structure Chain where
  pipe : Nat := 0
  entries : List ChainEnt := []
  sent : Nat := 0
  done : Bool := false
  ue : Option Nat := none
  copy : Nat := 0
deriving DecidableEq, Repr

/-- One query head's partial: m, l, o, whether it is empty (R44, R93), and whether its values are undefined (R75). -/
structure Partial where
  m : F32 := 0xFF800000
  l : F32 := 0
  o : List F32 := []
  empty : Bool := true
  undef : Bool := false
deriving DecidableEq, Repr

/-- The trailer of an emission (Table 03-7): SLOT, PC, STACK, ASSAYREC, ROWS, PAGES and STATUS, and the A and V_MAX that
follow where ASSAYREC is 1. -/
structure Trailer where
  slot : Nat := 0
  pc : Nat := 0
  stack : Nat := 0
  assayrec : Bool := false
  rows : Nat := 0
  pages : Nat := 0
  status : Nat := 0
  a : List F32 := []
  vmax : List F32 := []
deriving DecidableEq, Repr

/-- What a pipe handed back: the computation it served, the records and the trailer (R93, R94). -/
structure Emission where
  pipe : Nat := 0
  copy : Nat := 0
  recs : List Partial := []
  trailer : Trailer := {}
deriving DecidableEq, Repr

/-- An ATTEND after its snapshot. `raEn`, `raMax` and `round` are HUB_RET_CFG at the snapshot (R126), `turn` the pages
being scored, `prov` the provisional set of the last round done (R120), `ra` the pages of its run-ahead promotions,
`raRead` those of them whose flash read was issued and `relied` those another request relies on, `chosen` the selected pages, `waited` that stage 7 waited, `assay` that it is assayed, `frames` the assay copies' frames as
pseudo-channel, frame and width, `pipeA` and `pipeB` its pipes, `load` LOAD of Table 15-8, `sample` that the request is
to be compared with a spare's (R476), `merged` and `body` the original's merge and response payload. -/
structure Att where
  root : Nat := 0
  ix : Nat := 0
  stage : AttStage := .scoring
  raEn : Bool := false
  raMax : Nat := 0
  round : Nat := 0
  snap : List AttPage := []
  snaplen : Nat := 0
  turn : List Nat := []
  prov : List Nat := []
  ra : List Nat := []
  raRead : List Nat := []
  relied : List Nat := []
  chosen : List Nat := []
  waited : Bool := false
  assay : Bool := false
  frames : List (Nat × Nat × Bool) := []
  pipeA : Nat := 0
  pipeB : Nat := 0
  load : Nat := 0
  chains : List Chain := []
  got : List Emission := []
  sample : Bool := false
  merged : List Partial := []
  body : Bytes := []
deriving DecidableEq, Repr

/-- A lane of a pipe: the descriptors it has taken, whole, and whether the last has come. -/
structure Lane where
  slot : Nat := 0
  part : Nat := 0
  descs : List Bytes := []
  last : Bool := false
deriving DecidableEq, Repr

/-- A weir pipe (R77): its descriptor queue and two lanes. -/
structure Pipe where
  queue : List Bytes := []
  lanes : List (Option Lane) := [none, none]
deriving DecidableEq, Repr

/-- The weir pipes, by 64 × stack + pseudo-channel. -/
structure AttnSt where
  pipes : List (Nat × Pipe) := []
deriving DecidableEq, Repr

end Sys2Proof.Machine
end

