-- ==== Sys2Proof/Machine/StateFirm.lean ====
section
/-! DEFINITION. What firmware update holds (chapter 16). -/

namespace Sys2Proof.Machine

/-- Update states (Table 16-2). -/
inductive FwState where
  | idle | receiving | staged | armed | activating | probation | reverting
deriving DecidableEq, Repr

/-- A firmware slot: whether it holds an image, and what of the image the specification uses: SVN, VERSION, DIGEST and
the digests of its two measured parts (Tables 13-3, 16-1). -/
structure FwSlot where
  used : Bool := false
  svn : Nat := 0
  version : Nat := 0
  digest : Bytes := []
  m2 : Bytes := []
  m3 : Bytes := []
deriving DecidableEq, Repr

/-- Firmware update. `holding` keeps stage 4 closed from the acting marker to the end of the window (R487), `window` is
MT_STATUS.ACTWIN, `armed` the armed step, `since` the hub unit of the acting marker with QUIESCE then in effect and
`upMask` the furrows up at it; `slot0` and `slot1` the slots, `run` the running one, `buffer` the bytes received of a
staging, `flipped` that the running slot has changed for an activation, fall-back or start-up that has not ended, `err` and `boot` as BR_FW_STATUS gives, `pendCert` PENDCERT, `fuse` the fused SVN; `began` the second of the
activation with HEALTH_LIMIT and SETTLE then in effect (R491), `steady` that no compute reset has begun since, and
`healthy` the second since which R489 has held. -/
structure FirmSt where
  st : FwState := .idle
  holding : Bool := false
  window : Bool := false
  flipped : Bool := false
  armed : Nat := 0
  since : Nat := 0
  quiesce : Nat := 0
  upMask : Nat := 0
  slot0 : FwSlot := { used := true }
  slot1 : FwSlot := {}
  run : Nat := 0
  buffer : Bytes := []
  err : Nat := 0
  boot : Bool := false
  pendCert : Bool := false
  fuse : Nat := 0
  began : Nat := 0
  health : Nat := 0
  settle : Nat := 0
  steady : Bool := false
  healthy : Option Nat := none
deriving DecidableEq, Repr

end Sys2Proof.Machine
end

