-- ==== Sys2Proof/Machine/StateHostPort.lean ====
section
/-! DEFINITION. What the host ports hold (chapter 12). -/

namespace Sys2Proof.Machine

/-- A response that waits for room in a VF's rings (R375, R376). -/
structure HostRsp where
  vf : Nat := 0
  hdr : Hdr := {}
  body : Bytes := []
  slot : Option Nat := none
  since : Nat := 0
deriving DecidableEq, Repr

/-- One MSI-X vector: address, data, Mask bit and Pending bit. -/
structure MsixVec where
  addr : Nat := 0
  data : Nat := 0
  masked : Bool := true
  pending : Bool := false
deriving DecidableEq, Repr

/-- The MSI-X state of a function (R378). -/
structure MsixFn where
  enable : Bool := false
  fmask : Bool := false
  bme : Bool := false
  vecs : List (Nat × MsixVec) := []
deriving DecidableEq, Repr

/-- TDI states (R395). -/
inductive Tdi where
  | unlocked | locked | run | error
deriving DecidableEq, Repr

/-- A virtual function: aperture lanes being filled as pieces by offset, ring tails, the pass of the completion ring,
records and bytes that software has not consumed, whether a ring commit was refused, whether the ring is armed, FLR, the
TDI with the selective stream it is bound to, MSI-X. -/
structure Vf where
  lanes : List (Nat × List (Nat × Bytes)) := []
  cqTail : Nat := 0
  cqPass : Nat := 0
  cqUsed : Nat := 0
  rspTail : Nat := 0
  rspUsed : Nat := 0
  refused : Bool := false
  armed : Bool := false
  flr : Bool := false
  tdi : Tdi := .unlocked
  stream : Option Nat := none
  msix : MsixFn := {}
deriving DecidableEq, Repr

/-- A host port: width, rate code, FLIT mode, the keys of its active IDE streams (R394: 16 selective streams, and the link
stream as number 16), and its PF's MSI-X state. -/
structure HPort where
  width : Nat := 0
  rate : Nat := 0
  flit : Bool := false
  degraded : Bool := false
  streams : List (Nat × Bytes) := []
  pf : MsixFn := {}
deriving DecidableEq, Repr

/-- Host-range entry states (Table 12-8). -/
inductive RngState where
  | free | active | revoking
deriving DecidableEq, Repr

/-- A host-range entry beyond its registers: INFLIGHT, DONE, REFUSED and CAUSE (Table 12-8). The version word of a
published range lies in DRAM (R385). -/
structure HRange where
  state : RngState := .free
  inflight : Nat := 0
  done : Bool := false
  refused : Bool := false
  cause : Nat := 0
deriving DecidableEq, Repr

/-- An accepted window request that has not taken effect (R382): its entry, the port it came by, the offset in the
entry's target, the bytes read or written with their byte enables, the tag of a read, and the
context that leased the target core then. -/
structure WinReq where
  entry : Nat := 0
  port : Nat := 0
  write : Bool := false
  off : Nat := 0
  len : Nat := 0
  data : Bytes := []
  enables : List Bool := []
  tag : Nat := 0
  lessee : Nat := 1024
deriving DecidableEq, Repr

/-- The host ports. -/
structure HostPortSt where
  rspq : List HostRsp := []
  vfs : List (Nat × Vf) := []
  ports : List (Nat × HPort) := []
  ranges : List (Nat × HRange) := []
  window : List WinReq := []
deriving DecidableEq, Repr

end Sys2Proof.Machine
end

