-- ==== Sys2Proof/Machine/StateImage.lean ====
section
/-! DEFINITION. What the Creko loader holds (chapter 14). -/

namespace Sys2Proof.Machine

/-- A slice record (Table 14-3). -/
structure SliceRec where
  valid : Bool := false
  coded : Bool := false
  furmask : Nat := 0
  mirror : Nat := 0
  cidx : Nat := 0
  rkFirst : Nat := 0
  rkCount : Nat := 0
  cset : Nat := 0
  stackMask : Nat := 0
  pcs : Nat := 0
  cnode : List Nat := []
deriving DecidableEq, Repr

/-- A context record (Table 14-4); a context no record names has every field 0 (R429). -/
structure CtxRec where
  slice : Nat := 0
  enable : Bool := false
  share : Nat := 0
  vforigin : Nat := 0
  leases : Nat := 0
deriving DecidableEq, Repr

/-- The loader's state (Table 14-12) and the image in effect. `buffer` is the 16 MiB load buffer; `state`, `err`, `sect`
and `record` are CB_STATUS; `base` and `amends` are the base image in effect and the amendments applied to it; `stored`
and `log` are what the flash store keeps (R434). `routes` holds one more than the node a connection reaches, 0 for no
route, and `added` the connections whose routes the Bursar added (R431). -/
structure ImageSt where
  buffer : List Host.Cell := []
  state : Nat := 0
  err : Nat := 0
  sect : Nat := 0
  record : Nat := 0
  base : Option Bytes := none
  amends : List Bytes := []
  stored : Option Bytes := none
  log : List Bytes := []
  slices : List (Nat × SliceRec) := []
  ctxs : List (Nat × CtxRec) := []
  routes : List (Nat × Nat) := []
  added : List Nat := []
  fwdCur : List FwdEntry := []
  fwdPrev : List FwdEntry := []
  fwdShadow : List FwdEntry := []
  ksroot : Bytes := []
  conf : Bool := false
  epoch : Nat := 0
  prev : Nat := 0
  prevv : Bool := false
  drain : Nat := 0
deriving DecidableEq, Repr

end Sys2Proof.Machine
end

