-- ==== Sys2Proof/Machine/StateMint.lean ====
section
/-! DEFINITION. What the Mint holds (chapter 13). -/

namespace Sys2Proof.Machine

/-- An operation an internal path of Table 13-8 holds for a context: base dies from 0, silt controllers from 32, remote memory
engines from 64, host ports from 96, and what tells the operation from others of its path. -/
structure PathOp where
  path : Nat := 0
  key : List Nat := []
deriving DecidableEq, Repr

/-- A close in progress (Table 13-7): its step, the unit step 4 began and DRAIN_LIMIT then in effect (R422), the
furrows whose markers have not returned, and the operations the internal paths had taken before their markers. -/
structure Close where
  step : Nat := 1
  since : Nat := 0
  limit : Nat := 0
  furrows : List Nat := []
  ops : List PathOp := []
deriving DecidableEq, Repr

/-- A job slot (R408). -/
structure Job where
  loaded : Bool := false
  id : Nat := 0
  key : Bytes := []
deriving DecidableEq, Repr

/-- A secure session: its number, the transport it began on, the secret ML-KEM-1024 agreed, from which SPDM derives its keys (Table 13-1), the
SHAKE256 digest of the root public key its requester authenticated with, if it did so (R407), and whether it is
established. -/
structure SpdmSession where
  id : Nat := 0
  via : SpdmVia := .management
  secret : Bytes := []
  root : Option Bytes := none
  opened : Bool := false
deriving DecidableEq, Repr

/-- A request that needs a signature (R405): the session or transport it came by, what it asks for, and what is
signed. -/
structure SignReq where
  session : Nat := 0
  code : String := ""
  payload : Bytes := []
deriving DecidableEq, Repr

/-- The Mint. `drainto` are the contexts whose last close met DRAIN_LIMIT; `ctxKeys` the number of the draw each
installed context key came from, and `metaKey` that of the metadata key (R411); `jobs` the job slots; `signer` the
signer queue, its front being signed; `aliasCert` whether the certificate of the alias key is signed
(R403); `ready` and `stopped` as MT_STATUS gives. -/
structure MintSt where
  closes : List (Nat × Close) := []
  drainto : List Nat := []
  ctxKeys : List (Nat × Nat) := []
  metaKey : Option Nat := none
  jobs : List (Nat × Job) := []
  sessions : List SpdmSession := []
  signer : List SignReq := []
  aliasCert : Bool := false
  ready : Bool := false
  stopped : Bool := false
deriving DecidableEq, Repr

end Sys2Proof.Machine
end

