-- ==== Sys2Proof/Machine/StatePower.lean ====
section
/-! DEFINITION. What power, clocks, the Bursar and its management ports hold (chapter 17). -/

namespace Sys2Proof.Machine

/-- What the Bursar reports to management (R447, R504, R510). -/
inductive Report where
  | blockFault (bit : Nat)
  | computeReset (cause : Nat)
  | withdrawal (cause : Nat)
  | mismatch
  | lost (ctx conv : Nat)
  | thermal (step : Nat)
  | event (furrow code : Nat) (arg : Word)
deriving DecidableEq, Repr

/-- Whether R447 names a report: all but the events of partners and the thermal step. -/
def Report.ofR447 : Report → Bool
  | .thermal _ => false
  | .event _ _ _ => false
  | _ => true

/-- An EVENT message not yet acknowledged (R510). -/
structure MEvent where
  eseq : Nat := 0
  what : Report
  sends : Nat := 1
  since : Nat := 0
deriving DecidableEq, Repr

/-- Why the converters are off (R493, R494, R499, R505, R514): running, no input, overvoltage, overcurrent latched, held
in module reset, thermal trip, or turned off by software. -/
inductive Rails where
  | on | noInput | overvolt | overcurrent | inReset | tripped | commanded
deriving DecidableEq, Repr

/-- A request of a management session that was performed, by its MSEQ: the port its copy came by and what was answered
(R508), with what the request said; nothing yet where the answer waits for a signature. -/
structure MAnswer where
  seq : Nat := 0
  req : MgmtMsg := .none
  port : Nat := 0
  msgs : List (String × Bytes) := []
deriving DecidableEq, Repr

/-- A management session (R508): one past the highest MSEQ performed, and the answers kept. -/
structure MSession where
  session : Nat := 0
  next : Nat := 0
  answers : List MAnswer := []
deriving DecidableEq, Repr

/-- Power, clocks and management. `step` is the start-up step in progress (Table 17-7; 7 once all have ended) and
`failed` that it failed, `halted` that PWR_FAIL_N stopped start-up (R496); `pulsed` that MOD_RESET_N was pulsed after a
thermal trip; `ocLatch` and `ovLatch` the hot-swap controller's latches (R494); `temps` are the latest readings by class × 128 + index. -/
structure PowerSt where
  rails : Rails := .on
  step : Nat := 1
  failed : Bool := false
  halted : Bool := false
  pulsed : Bool := false
  ocLatch : Bool := false
  ovLatch : Bool := false
  pwrFail : Bool := false
  seconds : Nat := 0
  tested : Nat := 0
  temps : List (Nat × Nat) := []
  tripOnce : Bool := false
  bsteps : List (Nat × Nat) := []
  hstep : Nat := 0
  mstep : Nat := 0
  ref2x : Nat := 0
  vin : Nat := 0
  iin : Nat := 0
  pin : Nat := 0
  pllStack : Nat := 0
  pllHub : Bool := false
  pllPort : Nat := 0
  refclk : Nat := 0
  subs : List Bytes := []
  events : List MEvent := []
  nextEseq : Nat := 0
  sessions : List MSession := []
  mpLink : Nat := 0
  mpGlobal : Nat := 0
  i3cAddr : Option Nat := none
  eid : Option Nat := none
deriving DecidableEq, Repr

end Sys2Proof.Machine
end

