-- ==== Sys2Proof/Machine/Aes.lean ====
section
/-! DEFINITION. AES-256 (FIPS 197), AES-256-XTS on a 64-byte data unit and AES-256-GCM with a 16-byte tag (NIST SP
800-38D), which pages at rest and encrypted connections use (R9, R168, R169, R215, R323). A block is 16 bytes, byte
r + 4c the byte of row r and column c. -/

namespace Sys2Proof.Aes

/-- The substitution table, the byte of entry i at bits 8i and up. -/
def sboxTable : Nat :=
  0xC072A49CAFA2D4ADF04759FA7DC982CA76ABD7FE2B670130C56F6BF27B777C63 |||
  0x75B227EBE28012079A059618C323C7041531D871F1E5A534CCF73F362693FDB7 <<< 256 |||
  0xCF584C4A39BECB6A5BB1FC20ED00D153842FE329B3D63B52A05A6E1B1A2C8309 <<< 512 |||
  0xD2F3FF1021DAB6BCF5389D928F40A351A89F3C507F02F94585334D43FBAAEFD0 <<< 768 |||
  0xDB0B5EDE14B8EE4688902A22DC4F816073195D643D7EA7C41744975FEC130CCD <<< 1024 |||
  0x08AE7A65EAF4566CA94ED58D6D37C8E779E4959162ACD3C25C2406490A3A32E0 <<< 1280 |||
  0x9E1DC186B95735610EF6034866B53E708A8BBD4B1F74DDE8C6B4A61C2E2578BA <<< 1536 |||
  0x16BB54B00F2D99416842E6BF0D89A18CDF2855CEE9871E9B948ED9691198F8E1 <<< 1792

/-- The inverse substitution table. -/
def invTable : Nat :=
  0xCBE9DEC444438E3487FF2F9B8239E37CFBD7F3819EA340BF38A53630D56A0952 |||
  0x25D18B6D49A25B76B224D92866A12E084EC3FA420B954CEE3D23C2A632947B54 <<< 256 |||
  0x849D8DA75746155EDAB9EDFD5048706C92B6655DCC5CA4D41698688664F6F872 <<< 512 |||
  0x6B8A130103BDAFC1020F3FCA8F1E2CD00645B3B80558E4F70AD3BC8C00ABD890 <<< 768 |||
  0x6EDF751CE837F9E28535ADE72274AC9673E6B4F0CECFF297EADC674F4111913A <<< 1024 |||
  0xF45ACD78FEC0DB9A2079D2C64B3E56FC1BBE18AA0E62B76F89C5291D711AF147 <<< 1280 |||
  0xEF9CC9939F7AE52D0D4AB519A97F51605FEC8027591012B131C7078833A8DD1F <<< 1536 |||
  0x7D0C2155631469E126D677BA7E042B17619953833CBBEBC8B0F52AAE4D3BE0A0 <<< 1792

/-- The byte of a table for a byte. -/
def entry (t : Nat) (b : Byte) : Byte := BitVec.ofNat 8 (t >>> (8 * b.toNat))

/-- Multiply by x modulo the field polynomial 0x11B. -/
def xtime (b : Byte) : Byte := if b.toNat < 128 then b <<< 1 else b <<< 1 ^^^ 0x1B

/-- Multiply by a constant of at most four bits. -/
def scale (c : Nat) (b : Byte) : Byte :=
  let b2 := xtime b
  let b4 := xtime b2
  let pick (i : Nat) (v : Byte) : Byte := if c.testBit i then v else 0
  pick 0 b ^^^ pick 1 b2 ^^^ pick 2 b4 ^^^ pick 3 (xtime b4)

/-- Every row r of a block moved r columns to the left, or k times as far. -/
def shiftRows (k : Nat) (s : Bytes) : Bytes := (upTo 16).map (fun i => getAt 0 s ((i + k * 4 * (i % 4)) % 16))

/-- Every column of a block multiplied by the circulant matrix with a given first row. -/
def mixColumns (m : List Nat) (s : Bytes) : Bytes :=
  (upTo 16).map (fun i =>
    let c := i / 4 * 4
    (upTo 4).foldl (fun acc j => acc ^^^ scale (getAt 0 m j) (getAt 0 s (c + (i + j) % 4))) 0)

/-- The words of a key schedule still to come, after those given, latest first (FIPS 197 5.2, eight key words). -/
def expand : Nat → Nat → Byte → List Bytes → List Bytes
  | 0, _, _, ws => ws
  | n + 1, i, rc, ws =>
    let last := getAt [] ws 0
    let t : Bytes :=
      if i % 8 = 0 then xorBytes ((last.drop 1 ++ last.take 1).map (entry sboxTable)) [rc, 0, 0, 0]
      else if i % 8 = 4 then last.map (entry sboxTable) else last
    expand n (i + 1) (if i % 8 = 0 then xtime rc else rc) (xorBytes (getAt [] ws 7) t :: ws)

/-- The 15 round keys of a 32-byte key. -/
def roundKeys (k : Bytes) : List Bytes := chunksOf 16 15 (expand 52 8 1 (chunksOf 4 8 k).reverse).reverse.flatten

/-- The rounds of the cipher but the last. -/
def rounds : List Bytes → Bytes → Bytes
  | [], s => s
  | [k], s => xorBytes (shiftRows 1 (s.map (entry sboxTable))) k
  | k :: ks, s => rounds ks (xorBytes (mixColumns [2, 3, 1, 1] (shiftRows 1 (s.map (entry sboxTable)))) k)

/-- One block enciphered under a key schedule. -/
def cipher (ks : List Bytes) (b : Bytes) : Bytes :=
  match ks with
  | [] => b
  | k :: t => rounds t (xorBytes b k)

/-- The rounds of the inverse cipher, the last round key first. -/
def invRounds : List Bytes → Bytes → Bytes
  | [], s => s
  | [k], s => xorBytes ((shiftRows 3 s).map (entry invTable)) k
  | k :: ks, s => invRounds ks (mixColumns [14, 11, 13, 9] (xorBytes ((shiftRows 3 s).map (entry invTable)) k))

/-- One block deciphered under a key schedule. -/
def decipher (ks : List Bytes) (b : Bytes) : Bytes :=
  match ks.reverse with
  | [] => b
  | k :: t => invRounds t (xorBytes b k)

/-! XTS on one data unit of 64 bytes. -/

/-- The tweak of block j from the encrypted tweak: multiplied by α^j. -/
def tweakAt : Nat → Nat → Nat
  | 0, t => t
  | n + 1, t => tweakAt n (if t < 2 ^ 127 then 2 * t else (2 * t) % 2 ^ 128 ^^^ 0x87)

/-- One line through the block cipher of a 64-byte XTS key pair, each block whitened by its tweak. -/
def xts (f : List Bytes → Bytes → Bytes) (key : Bytes) (tweak : Nat) (line : Bytes) : Bytes :=
  let ks := roundKeys (key.take 32)
  let t := leNat (cipher (roundKeys (key.drop 32)) (leBytes 16 tweak))
  (upTo 4).flatMap (fun j =>
    let w := leBytes 16 (tweakAt j t)
    xorBytes (f ks (xorBytes (sub line (16 * j) 16) w)) w)

/-- A line enciphered. -/
def xtsEncrypt : Bytes → Nat → Bytes → Bytes := xts cipher

/-- A line deciphered. -/
def xtsDecrypt : Bytes → Nat → Bytes → Bytes := xts decipher

/-! GCM with a 96-bit IV. -/

/-- The number a block spells, first byte highest. -/
def beNat (b : Bytes) : Nat := leNat b.reverse

/-- A number as a block, first byte highest. -/
def beBytes (n x : Nat) : Bytes := (leBytes n x).reverse

/-- The product in GHASH: n bits of x, from the highest, are still to come. -/
def ghMul : Nat → Nat → Nat → Nat → Nat
  | 0, _, _, z => z
  | n + 1, x, v, z =>
    ghMul n x (if v % 2 = 0 then v / 2 else v / 2 ^^^ 0xE1 * 2 ^ 120) (if x.testBit n then z ^^^ v else z)

/-- GHASH of whole blocks under a subkey. -/
def ghash (h : Nat) (bs : Bytes) : Nat :=
  (chunksOf 16 bs.length bs).foldl (fun y b => ghMul 128 (y ^^^ beNat b) h 0) 0

/-- A byte string padded with zeros to whole blocks. -/
def padBlocks (bs : Bytes) : Bytes := fit (roundUp bs.length 16) bs

/-- The key stream of n bytes for an IV, its counter blocks from a number up. -/
def stream (ks : List Bytes) (iv : Bytes) (from_ n : Nat) : Bytes :=
  ((upTo (ceilDiv n 16)).flatMap (fun i => cipher ks (iv ++ beBytes 4 (from_ + i)))).take n

/-- A text enciphered or deciphered in counter mode. -/
def gcmText (key iv text : Bytes) : Bytes := xorBytes text (stream (roundKeys key) iv 2 text.length)

/-- The 16-byte tag of additional data and ciphertext. -/
def gcmTag (key iv aad ct : Bytes) : Bytes :=
  let ks := roundKeys key
  let h := beNat (cipher ks (zeros 16))
  let y := ghash h (padBlocks aad ++ padBlocks ct ++ beBytes 8 (8 * aad.length) ++ beBytes 8 (8 * ct.length))
  xorBytes (beBytes 16 y) (stream ks iv 1 16)

/-- Ciphertext and tag. -/
def gcmSeal (key iv aad text : Bytes) : Bytes :=
  let ct := gcmText key iv text
  ct ++ gcmTag key iv aad ct

end Sys2Proof.Aes
end

