-- ==== Sys2Proof/Machine/Store.lean ====
section
/-! DEFINITION. What the pseudo-channels and the silt tier hold: DRAM bytes and their uncorrectable words, stub
headers, page map, ledger structures, coding groups and silt cells (chapters 5 and 7), and the operations on them. -/

namespace Sys2Proof.Machine

/-- What is wrong with a 32-byte word of DRAM and its check bytes (R160, R162): nothing; one byte, which a read corrects;
two or three bytes, or a word read from another address than it was written to, which a read detects; the poison check
pattern of a partial write to a word that could not be read. -/
inductive WordErr where
  | clean | oneByte | bytes | address | poison
deriving DecidableEq, Repr

/-- PSTATE of a stub header (Table 05-6). -/
inductive PState where
  | free | opn | sealing | sealed | mirror | parity | ext | retired
deriving DecidableEq, Repr

/-- TIER of a page-map entry (Table 05-3). -/
inductive Tier where
  | free | near | silt | both
deriving DecidableEq, Repr

/-- HINT of a root record (Table 05-9). -/
inductive Hint where
  | hot | warm | cold | resumeSoon
deriving DecidableEq, Repr

/-- A stub header (Table 05-6). `sealedCopy` is the sealed state of a MIRROR copy (R218). -/
structure Frame where
  gen : Nat := 0
  pstate : PState := .free
  wide : Bool := false
  kvfmt : Nat := 0
  dim : Nat := 0
  ctx : Nat := 0
  tent : Nat := 0
  page : Nat := 0
  firstpos : Nat := 0
  rows : Nat := 0
  cidx : Nat := 0
  cset : Nat := 0
  cseq : Nat := 0
  conv : Nat := 0
  layer : Nat := 0
  kvh : Nat := 0
  origin : Nat := 0
  originPage : Nat := 0
  sealedCopy : Bool := false
deriving DecidableEq, Repr

/-- A page-map entry (Table 05-3). -/
structure PEntry where
  tier : Tier := .free
  use : Nat := 0
  frame : Nat := 0
  sidx : Nat := 0
  wide : Bool := false
  silt : Nat := 0
deriving DecidableEq, Repr

/-- A page-list entry (Table 05-11). -/
structure PageEnt where
  page : Nat := 0
  firstpos : Nat := 0
  rows : Nat := 0
  sealed : Bool := false
  sumv : Bool := false
  tentp : Bool := false
deriving DecidableEq, Repr

/-- A stream descriptor and its page list (Tables 05-10, 05-11); `chunks` are the ledger addresses of the list's
chunks, first to last (R144). -/
structure Stream where
  length : Nat := 0
  basepos : Nat := 0
  tent : Nat := 0
  openPage : Nat := 0
  openv : Bool := false
  closed : Bool := false
  pages : List PageEnt := []
  chunks : List Nat := []
deriving DecidableEq, Repr

/-- A root record (Table 05-9). `mirror` marks a partner's copy, `epoch` the epoch its OPEN_CONV carried (R466) and
`attended` the place of its last ATTEND in the order R222 keeps; `lostCause` the cause a group lost a page by, 0 if none
(R52). -/
structure Root where
  conv : Nat := 0
  ctx : Nat := 0
  closing : Bool := false
  group : Bool := false
  kvfmt : Nat := 0
  dim : Nat := 0
  layers : Nat := 0
  kvhs : Nat := 0
  headSet : Nat := 0
  firstPage : Nat := 0
  pageLimit : Nat := 0
  groupLedger : Nat := 0
  members : Nat := 0
  hint : Hint := .warm
  closepend : Bool := false
  streamTab : Nat := 0
  mirror : Bool := false
  originNode : Nat := 0
  patterns : List (Nat × Nat) := []
  attended : Nat := 0
  lostCause : Nat := 0
deriving DecidableEq, Repr

/-- State of a silt cell in the directory (R217). -/
inductive CellState where
  | free | live | retired
deriving DecidableEq, Repr

/-- A silt cell: directory state, trailer and contents, and the key its extent and stub are ciphertext under (R170,
R214, R217). -/
structure SiltCell where
  state : CellState := .free
  page : Nat := 0
  use : Nat := 0
  second : Bool := false
  hdr : Frame := {}
  extent : Bytes := []
  stub : Bytes := []
  under : Nat := 0
deriving DecidableEq, Repr

/-- What a silt channel's queued work does (Table 07-4). -/
inductive SiltJob where
  | promote | copy | read
deriving DecidableEq, Repr

/-- Whom a cell read that is no promotion serves (R224, R329, R468): an RMA request by connection and header, the
removal of a coded page from parity, or a rebuild. -/
inductive Reader where
  | none | rma (conn : Nat) (hdr : Hdr) | remove
deriving DecidableEq, Repr

/-- Work queued at a silt channel. `cell` is the cell a started copy programs or a started read reads, `frame` the frame a started promotion
fills or a started copy reads, `ra` the slot whose run-ahead it is, `other` that a request other than an ATTEND waits
for it, `relied` that a request other than the issuer does, `release` that the frame is to be released after the copy,
`freed` that the page was freed while the work ran. -/
structure ChanJob where
  kind : SiltJob := .read
  cls : Nat := 0
  page : Nat := 0
  started : Bool := false
  cell : Nat := 0
  frame : Nat := 0
  wide : Bool := false
  ra : Option Nat := none
  other : Bool := false
  relied : Bool := false
  release : Bool := false
  freed : Bool := false
  reader : Reader := .none
deriving DecidableEq, Repr

/-- A silt channel (R232, R235). -/
structure Chan where
  down : Bool := false
  noprog : Bool := false
  used : Nat := 0
  spare : Nat := 0
  queue : List ChanJob := []
deriving DecidableEq, Repr

/-- One index of a coding group as the group record lists it (R175), with the conversation and stream its carrier named,
which a GET of the member needs (R327, R468). -/
structure Member where
  filled : Bool := false
  declared : Bool := false
  node : Nat := 0
  page : Nat := 0
  gen : Nat := 0
  firstpos : Nat := 0
  rows : Nat := 0
  kvfmt : Nat := 0
  dim : Nat := 0
  conv : Nat := 0
  layer : Nat := 0
  kvh : Nat := 0
deriving DecidableEq, Repr

/-- A coding group at its keeper or at node 9 (R173 to R175): its record, the parity page and the ledger address of
the group record. -/
structure CodeGroup where
  live : Bool := false
  index : Nat := 8
  wide : Bool := false
  members : List Member := []
  parity : Nat := 0
  record : Nat := 0
  parts : List Nat := []
deriving DecidableEq, Repr

/-- A reference to the partner's copy of a page (R332). -/
structure CopyRef where
  live : Bool := false
  page : Nat := 0
  gen : Nat := 0
  insilt : Bool := false
deriving DecidableEq, Repr

/-- DRAM and silt. `dram` holds what each line decrypts to under the key it was written with; `under` is that key, one
for the lines of a frame and its stub or of a data area, and `keys` are the key slots of the base dies and silt
controllers (R168): slot c of context c, slot 1,024 of the metadata, each the number of the draw its key came from plus
one, 0 where it is empty. `errs` are the words that do not read clean. `metaUe` are the uncorrectable metadata words and
`ledgerUe` those of ledger structures, by pseudo-channel and PC-local address (R164). `pins` are the pages valid grant
entries name, once for each, and `kept` the pages freed while pinned, with the frame each still holds (R206), and
`relieving` the pseudo-channels whose pressure is being relieved (R222); `closed` the coding groups whose record this
node has freed (R175). -/
structure Store where
  dram : List Host.Cell := []
  errs : List (Nat × WordErr) := []
  keys : List (Nat × Nat) := []
  under : List (Nat × Nat) := []
  frames : List (Nat × Frame) := []
  pmap : List (Nat × PEntry) := []
  areas : List (Nat × Nat) := []
  roots : List (Nat × Option Root) := []
  streams : List (Nat × Stream) := []
  groups : List (Nat × CodeGroup) := []
  copies : List (Nat × CopyRef) := []
  nextGroup : List (Nat × Nat) := []
  asides : List (Nat × Nat × Nat) := []
  cells : List (Nat × SiltCell) := []
  chans : List (Nat × Chan) := []
  releases : List Nat := []
  pins : List Nat := []
  kept : List (Nat × Nat × Bool) := []
  sumcopied : List (Nat × Nat × Nat) := []
  clock : Nat := 0
  metaUe : List (Nat × Nat) := []
  ledgerUe : List (Nat × Nat) := []
  relieving : List Nat := []
  closed : List Nat := []
deriving DecidableEq, Repr

/-! Numbers of pages, frames and lines. A pseudo-channel is numbered 64 × stack + PC. -/

/-- The page number of a slot (Table 05-2). -/
def pageNum (pc slot use : Nat) : Nat := slot + place 21 use + place 29 (pc % 64) + place 35 (pc / 64)
/-- SLOT of a page number. -/
def pageSlot (p : Nat) : Nat := fieldOf p 20 0
/-- USE of a page number. -/
def pageUse (p : Nat) : Nat := fieldOf p 28 21
/-- Home pseudo-channel of a page number. -/
def pagePc (p : Nat) : Nat := fieldOf p 39 35 * 64 + fieldOf p 34 29
/-- Key of a frame. -/
def frameKey (pc f : Nat) : Nat := pc * 65536 + f
/-- Key of a page's slot in the page map. -/
def slotKey (p : Nat) : Nat := pagePc p * 2 ^ 21 + pageSlot p
/-- Frames of a pseudo-channel (R128). -/
def framesPerPc : Nat := 61440
/-- The address of a PC-local address of a pseudo-channel. -/
def gaddr (pc a : Nat) : Nat := pc * 2 ^ 31 + a
/-- PC-local address of a frame (Table 05-1). -/
def frameAddr (f : Nat) : Nat := f * 0x4000
/-- PC-local address of a stub (Table 05-1). -/
def stubAddr (f : Nat) : Nat := 0x3C000000 + f * 0x800
/-- PC-local address of the sluice-core data of a bank pair (Table 05-1). -/
def dataAddr (bp : Nat) : Nat := 0x47000000 + bp * 0x100000

/-- Head dimension of a DIM code (Table 03-5). -/
def dimOf (dim : Nat) : Nat := if dim = 0 then 64 else if dim = 1 then 128 else 256
/-- Tokens per page of a KVFMT code (Table 02-1). -/
def tokensPerPage (kvfmt : Nat) : Nat := if kvfmt < 4 then 64 else if kvfmt < 6 then 80 else 128
/-- Bytes of a row (Table 02-3). -/
def rowBytes (kvfmt dim : Nat) : Nat :=
  if kvfmt < 4 then dimOf dim else if kvfmt < 6 then dimOf dim * 3 / 4 else dimOf dim / 2
/-- Scale bytes of a row (Table 02-3). -/
def scaleBytes (kvfmt dim : Nat) : Nat := if kvfmt < 2 then 0 else dimOf dim / 32
/-- Bytes of an extent (R135). -/
def extentBytes (wide : Bool) : Nat := if wide then 0x8000 else 0x4000
/-- Extent offset of key row j (R135). -/
def keyOff (kvfmt dim j : Nat) : Nat := j * rowBytes kvfmt dim
/-- Extent offset of value row j (R135). -/
def valOff (kvfmt dim j : Nat) : Nat := extentBytes (dim == 2) / 2 + j * rowBytes kvfmt dim
/-- PC-local address of the scale string of key row j (R137, R138). -/
def keyScaleAddr (f dim j : Nat) : Nat := stubAddr f + 0x400 + j * (dimOf dim / 32)
/-- PC-local address of the scale string of value row j (R137, R138). -/
def valScaleAddr (f dim j : Nat) : Nat :=
  (if dim = 2 then stubAddr (f + 1) + 0x400 else stubAddr f + 0x600) + j * (dimOf dim / 32)
/-- Where the first rows of a page lie: PC-local addresses and lengths. -/
def rowRegions (f kvfmt dim rows : Nat) : List (Nat × Nat) :=
  let rb := rowBytes kvfmt dim
  let c := scaleBytes kvfmt dim
  [(frameAddr f + keyOff kvfmt dim 0, rows * rb), (frameAddr f + valOff kvfmt dim 0, rows * rb),
   (keyScaleAddr f dim 0, rows * c), (valScaleAddr f dim 0, rows * c)]

/-- Bytes of a summary (Table 04-1). -/
def summaryBytes (dim : Nat) : Nat := 16 + 2 * dimOf dim
/-- Bytes of a summary slot (Table 05-7). -/
def slotBytes (dim : Nat) : Nat := if dim = 0 then 192 else if dim = 1 then 320 else 576
/-- Summary slots of a frame (Table 05-7). -/
def slotsPerFrame (dim : Nat) : Nat := if dim = 0 then 85 else if dim = 1 then 51 else 28

/-- The first number from i, at most n of them, that satisfies a test. -/
def findFrom (p : Nat → Bool) : Nat → Nat → Option Nat
  | 0, _ => none
  | n + 1, i => if p i then some i else findFrom p n (i + 1)

/-! DRAM bytes. An unlisted byte reads 0 (log entry 4). -/

/-- One byte of DRAM. -/
def dramGet : List Host.Cell → Nat → Byte := SMap.get 0

/-- Write one byte of DRAM, keeping the canonical form. -/
def dramSet (m : List Host.Cell) (a : Nat) (b : Byte) : List Host.Cell := SMap.set 0 m a b

/-- n bytes of DRAM from an address. -/
def dramRead (m : List Host.Cell) (a : Nat) : Nat → Bytes
  | 0 => []
  | n + 1 => dramGet m a :: dramRead m (a + 1) n

/-- Write bytes from an address. -/
def dramWrite (m : List Host.Cell) (a : Nat) : Bytes → List Host.Cell
  | [] => m
  | b :: t => dramWrite (dramSet m a b) (a + 1) t

namespace Store

def frame (st : Store) (pc f : Nat) : Frame := SMap.get {} st.frames (frameKey pc f)
def setFrame (st : Store) (pc f : Nat) (x : Frame) : Store :=
  { st with frames := SMap.set {} st.frames (frameKey pc f) x }
def updFrame (st : Store) (pc f : Nat) (g : Frame → Frame) : Store := st.setFrame pc f (g (st.frame pc f))
def pent (st : Store) (p : Nat) : PEntry := SMap.get {} st.pmap (slotKey p)
def setPent (st : Store) (p : Nat) (e : PEntry) : Store := { st with pmap := SMap.set {} st.pmap (slotKey p) e }
def root (st : Store) (a : Nat) : Option Root := SMap.get none st.roots a
def setRoot (st : Store) (a : Nat) (r : Option Root) : Store := { st with roots := SMap.set none st.roots a r }
def updRoot (st : Store) (a : Nat) (g : Root → Root) : Store := st.setRoot a ((st.root a).map g)
def stream (st : Store) (a i : Nat) : Stream := SMap.get {} st.streams (a * 8192 + i)
def setStream (st : Store) (a i : Nat) (x : Stream) : Store :=
  { st with streams := SMap.set {} st.streams (a * 8192 + i) x }
def updStream (st : Store) (a i : Nat) (g : Stream → Stream) : Store := st.setStream a i (g (st.stream a i))
def cell (st : Store) (k : Nat) : SiltCell := SMap.get {} st.cells k
def setCell (st : Store) (k : Nat) (x : SiltCell) : Store := { st with cells := SMap.set {} st.cells k x }
def chan (st : Store) (c : Nat) : Chan := SMap.get {} st.chans c
def setChan (st : Store) (c : Nat) (x : Chan) : Store := { st with chans := SMap.set {} st.chans c x }
def updChan (st : Store) (c : Nat) (g : Chan → Chan) : Store := st.setChan c (g (st.chan c))
def group (st : Store) (k : Nat) : CodeGroup := SMap.get {} st.groups k
def setGroup (st : Store) (k : Nat) (g : CodeGroup) : Store := { st with groups := SMap.set {} st.groups k g }
def copyRef (st : Store) (p : Nat) : CopyRef := SMap.get {} st.copies p
def setCopyRef (st : Store) (p : Nat) (r : CopyRef) : Store := { st with copies := SMap.set {} st.copies p r }

/-! The ECC words of an access (R160 to R163). -/

/-- The numbers of the 32-byte words an access of n bytes touches. -/
def words (a n : Nat) : List Nat :=
  if n = 0 then [] else (List.range ((a + n - 1) / 32 - a / 32 + 1)).map (fun i => a / 32 + i)

/-- What is wrong with a word. -/
def wordErr (st : Store) (w : Nat) : WordErr := SMap.get .clean st.errs w

/-- Whether a word reads as uncorrectable: more than one byte of it is wrong, it was written to another address, or it
was poisoned (R160, R162). -/
def wordBad (st : Store) (w : Nat) : Bool :=
  match st.wordErr w with
  | .clean => false
  | .oneByte => false
  | _ => true

/-- Whether an access meets an uncorrectable word. -/
def anyBad (st : Store) (a n : Nat) : Bool := (words a n).any st.wordBad

/-- Set what is wrong with a word. -/
def setErr (st : Store) (w : Nat) (e : WordErr) : Store := { st with errs := SMap.set .clean st.errs w e }

/-- Mark a word as uncorrectable, or clean. -/
def markBad (st : Store) (w : Nat) (b : Bool) : Store := st.setErr w (if b then .bytes else .clean)

/-- An upset of a word: n of its bytes go wrong; 0 stands for an error of its address (R160). -/
def upset (st : Store) (w n : Nat) : Store :=
  if st.wordBad w then st
  else st.setErr w (if n = 0 then .address else if n = 1 ∧ st.wordErr w = .clean then .oneByte else .bytes)

/-- What a write leaves of one word it touches (R162): a word wholly written is clean; one written in part is read and
corrected first, and poisoned where that fails. -/
def writeWord (g n : Nat) (st : Store) (w : Nat) : Store :=
  if g ≤ w * 32 ∧ w * 32 + 32 ≤ g + n then st.setErr w .clean
  else if st.wordBad w then st.setErr w .poison else st.setErr w .clean

/-- PSTATE as its code. -/
def pstateCode : PState → Nat
  | .free => 0 | .opn => 1 | .sealing => 2 | .sealed => 3 | .mirror => 4 | .parity => 5 | .ext => 6 | .retired => 7

/-- The bytes of a stub header (Table 05-6). -/
def headerBytes (h : Frame) : Bytes :=
  leBytes 4 h.gen ++
  leBytes 4 (pstateCode h.pstate + place 3 (bnat h.wide) + place 4 h.kvfmt + place 8 h.dim + place 10 h.ctx +
    place 20 h.tent) ++
  leBytes 8 (h.page + place 40 h.firstpos) ++ leBytes 4 h.rows ++ leBytes 4 h.cidx ++
  leBytes 8 (place 32 h.cset + h.cseq) ++ leBytes 8 h.conv ++ leBytes 4 (h.layer + place 8 h.kvh) ++ zeros 4 ++
  leBytes 8 (h.origin + place 16 h.originPage) ++ zeros 8

/-! Encryption at rest (R168 to R170). -/

/-- The key a slot of the base dies holds (0: none). -/
def key (st : Store) (slot : Nat) : Nat := SMap.get 0 st.keys slot

/-- The unit of lines that share one key: a frame with its stub, or one of the two data areas of a bank pair (Tables
05-1, 06-7). -/
def unitOf (pc a : Nat) : Nat :=
  frameKey pc (if a < 0x3C000000 then a / 0x4000 else if a < 0x43800000 then (a - 0x3C000000) / 0x800
    else if a < 0x47000000 then 65535
    else 61440 + (a - 0x47000000) / 0x100000 * 2 + bnat (decide (0x40000 ≤ (a - 0x47000000) % 0x100000)))

/-- The key the lines of an address were encrypted under. -/
def underAt (st : Store) (pc a : Nat) : Nat := SMap.get 0 st.under (unitOf pc a)

/-- Record the key of a unit of lines. -/
def setUnder (st : Store) (u k : Nat) : Store := { st with under := SMap.set 0 st.under u k }

/-- The context that owns the ledger structure in a line of a pseudo-channel (R141): that of the root record the line is
part of, be it the record itself, its stream table or a chunk of a page list; a group record is its parity page's context's
(R175). -/
def ledgerCtx (st : Store) (line : Nat) : Option Nat :=
  let part (a : Nat) : Bool :=
    decide (a ≤ line) && decide (line < a + SMap.get 0 st.areas a)
  (st.roots.findSome? (fun e => match e.2 with
    | some r =>
      let n := r.layers * popcount 32 r.headSet
      if part e.1 || part r.streamTab ||
          ((List.range n).any (fun i => (SMap.get {} st.streams (e.1 * 8192 + i) : Stream).chunks.any part)) then some r.ctx
      else none
    | none => none)).orElse (fun _ => st.groups.findSome? (fun e =>
      if e.2.live && part e.2.record then some (st.frame (pagePc e.2.parity) (st.pent e.2.parity).frame).ctx else none))

/-- Whether a PC-local address lies in a stub header. -/
def inHeader (a : Nat) : Bool :=
  decide (0x3C000000 ≤ a) && decide (a < 0x43800000) && decide ((a - 0x3C000000) % 0x800 < 0x40)

/-- The key slot of an address (Table 05-13): that of the context that owns the frame or ledger structure; slot 1,024 for
stub headers, the page map, the allocation state and the vendor's data. A read or write of DATA_C names its lessee's slot
itself. -/
def slotAt (st : Store) (pc a : Nat) : Nat :=
  if inHeader a then 1024
  else if a < 0x43800000 then (st.frame pc (unitOf pc a - frameKey pc 0)).ctx
  else if 0x44880000 ≤ a ∧ a < 0x47000000 then (st.ledgerCtx (a / 64 + place 25 (pc % 64) + place 31 (pc / 64))).getD 1024
  else 1024

/-- The page whose summary a slot of a summary frame holds: one in silt, or one whose summary has been copied there before
its frame is released. -/
def slotPage (st : Store) (pc f i : Nat) : Option Nat :=
  ((st.sumcopied.find? (fun x => pagePc x.1 == pc && x.2.1 == f && x.2.2 == i)).map (·.1)).orElse (fun _ =>
  ((SMap.range st.pmap (pc * 2 ^ 21) ((pc + 1) * 2 ^ 21)).find? (fun e =>
    decide (e.2.tier = .silt) && e.2.frame == f && e.2.sidx == i)).map (fun e => pageNum pc (e.1 % 2 ^ 21) e.2.use))

/-- The tweak of a line by its PC-local address (Table 05-13). A summary slot is named by the page of the page map that
uses it. -/
def tweakAt (st : Store) (pc a : Nat) : Nat :=
  let f := unitOf pc a - frameKey pc 0
  let h := st.frame pc f
  let second := bnat (decide (h.pstate = .ext))
  if a < 0x3C000000 then
    let o := a - frameAddr f
    if decide (h.pstate = .sealed) && h.rows == 0 && h.cidx == 15 && h.conv == 0 then
      (st.slotPage pc f (o / slotBytes h.dim)).getD 0 + place 40 (o % slotBytes h.dim / 64) + place 49 2
    else h.page + place 40 (o / 64 + 256 * second)
  else if a < 0x43800000 ∧ !inHeader a then h.page + place 40 ((a - stubAddr f) / 64 + 32 * second) + place 49 1
  else a / 64 + place 25 (pc % 64) + place 31 (pc / 64) + place 49 3

/-- The key of a number: 64 bytes of the draw it came from. -/
def keyBytes (k : Nat) : Bytes := fit 64 (Config.draw (k - 1))

/-- A line encrypted under a key; under none it passes in bypass. -/
def sealLine (k tweak : Nat) (line : Bytes) : Bytes := if k = 0 then line else Aes.xtsEncrypt (keyBytes k) tweak line

/-- A line decrypted under a key; under none it passes in bypass. -/
def openLine (k tweak : Nat) (line : Bytes) : Bytes := if k = 0 then line else Aes.xtsDecrypt (keyBytes k) tweak line

/-- The 64 bytes of the line at a PC-local address as the DRAM array holds them: ciphertext under the key it was written
with; a stub header's under the metadata key. -/
def lineAtRest (st : Store) (pc a : Nat) : Bytes :=
  let l := a / 64 * 64
  if inHeader l then sealLine (st.key 1024) (st.tweakAt pc l) (headerBytes (st.frame pc (unitOf pc l - frameKey pc 0)))
  else sealLine (st.underAt pc l) (st.tweakAt pc l) (dramRead st.dram (gaddr pc l) 64)

/-- The check bytes that go with a word of a line at rest: the encoder sees the ciphertext (R160, R169). -/
def checkBytes (st : Store) (pc a : Nat) : Bytes :=
  fit 4 (Config.eccBytes (a / 32 * 32) (sub (st.lineAtRest pc a) (a % 64 / 32 * 32) 32))

/-- Bytes read under a key: every line at rest is decrypted under it, which gives what was written where the line was
encrypted under that same key. -/
def readUnder (st : Store) (k pc a n : Nat) : Bytes :=
  if st.underAt pc a = k then dramRead st.dram (gaddr pc a) n
  else
    let ls := (List.range (ceilDiv (a % 64 + n) 64)).flatMap (fun i =>
      let l := a / 64 * 64 + 64 * i
      openLine k (st.tweakAt pc l) (st.lineAtRest pc l))
    sub ls (a % 64) n

/-- Bytes written under a key, encrypted and then encoded (R161, R162, R169). -/
def writeUnder (st : Store) (k pc a : Nat) (bs : Bytes) : Store :=
  let g := gaddr pc a
  let st := (words g bs.length).foldl (writeWord g bs.length) st
  { (st.setUnder (unitOf pc a) k) with dram := dramWrite st.dram g bs }

/-- Bytes of DRAM by pseudo-channel and PC-local address, under the key of the context that owns them (R169). -/
def read (st : Store) (pc a n : Nat) : Bytes := st.readUnder (st.key (st.slotAt pc a)) pc a n

/-- A write under the key of the owning context (R161, R169); under an empty key slot it is refused (R412). -/
def write (st : Store) (pc a : Nat) (bs : Bytes) : Store :=
  let k := st.key (st.slotAt pc a)
  if k = 0 then st else st.writeUnder k pc a bs

/-- Copy a frame and its stub body as ciphertext (R170, R219, R472): the copy is under the key the frame was written
with. -/
def copyRaw (st : Store) (pc f pc2 f2 : Nat) : Store :=
  let k := st.underAt pc (frameAddr f)
  let x := dramRead st.dram (gaddr pc (frameAddr f)) 0x4000
  let y := dramRead st.dram (gaddr pc (stubAddr f + 0x40)) 0x7C0
  (st.writeUnder k pc2 (frameAddr f2) x).writeUnder k pc2 (stubAddr f2 + 0x40) y

/-- Whether an access names an empty key slot (R412). -/
def noKey (st : Store) (pc a : Nat) : Bool := st.key (st.slotAt pc a) == 0

/-- The words a write covers only in part, which are read, corrected and merged (R162). -/
def partWords (pc a n : Nat) : List Nat :=
  let g := gaddr pc a
  (words g n).filter (fun w => !(decide (g ≤ w * 32) && decide (w * 32 + 32 ≤ g + n)))

/-- How many words a write poisons: those it writes in part while they read as uncorrectable (R162). -/
def poisons (st : Store) (pc a n : Nat) : Nat := (partWords pc a n).countP st.wordBad

/-- Write n zero bytes, wholly written words reading clean. -/
def zero (st : Store) (pc a n : Nat) : Store :=
  let g := gaddr pc a
  { st with
    dram := st.dram.filter (fun c => decide (c.1 < g) || decide (g + n ≤ c.1))
    errs := st.errs.filter (fun e => !(decide (g ≤ e.1 * 32) && decide (e.1 * 32 + 32 ≤ g + n))) }

/-! Pages. -/

/-- Whether a page number is valid (R132). -/
def valid (st : Store) (p : Nat) : Bool :=
  let e := st.pent p
  decide (e.tier ≠ .free) && e.use == pageUse p

/-- The frame of a page that lies in DRAM. -/
def frameOf (st : Store) (p : Nat) : Nat := (st.pent p).frame

/-- Whether a page lies in DRAM (R132). -/
def inDram (st : Store) (p : Nat) : Bool :=
  st.valid p && (decide ((st.pent p).tier = .near) || decide ((st.pent p).tier = .both))

/-- The stub header of a page in DRAM. -/
def header (st : Store) (p : Nat) : Frame := st.frame (pagePc p) (st.frameOf p)

/-- Change the stub header of a page in DRAM. -/
def updHeader (st : Store) (p : Nat) (g : Frame → Frame) : Store :=
  if st.inDram p then st.updFrame (pagePc p) (st.frameOf p) g else st

/-- Change the stub header of a page wherever it lies: in its frame, or in the trailers of its cells. -/
def updAnyHeader (st : Store) (p : Nat) (g : Frame → Frame) : Store :=
  let e := st.pent p
  if e.tier = .silt then
    let k := (e.silt % 16) * 2 ^ 26 + e.silt / 16
    let one (q : Store) (k : Nat) : Store := q.setCell k { q.cell k with hdr := g (q.cell k).hdr }
    if e.wide then one (one st k) (k + 1) else one st k
  else st.updHeader p g

/-- Bytes of a page's extent. -/
def readExtent (st : Store) (p off n : Nat) : Bytes := st.read (pagePc p) (frameAddr (st.frameOf p) + off) n

/-- Key row j, value row j and their scale strings. -/
def keyRow (st : Store) (p kvfmt dim j : Nat) : Bytes :=
  st.readExtent p (keyOff kvfmt dim j) (rowBytes kvfmt dim)
def valRow (st : Store) (p kvfmt dim j : Nat) : Bytes :=
  st.readExtent p (valOff kvfmt dim j) (rowBytes kvfmt dim)
def keyScales (st : Store) (p kvfmt dim j : Nat) : Bytes :=
  st.read (pagePc p) (keyScaleAddr (st.frameOf p) dim j) (scaleBytes kvfmt dim)
def valScales (st : Store) (p kvfmt dim j : Nat) : Bytes :=
  st.read (pagePc p) (valScaleAddr (st.frameOf p) dim j) (scaleBytes kvfmt dim)

/-- One row as an APPEND carries it: key, value, key scales, value scales (R56, R279). -/
structure Row where
  key : Bytes := []
  val : Bytes := []
  ks : Bytes := []
  vs : Bytes := []
deriving DecidableEq, Repr

/-- Row j of a page. -/
def readRow (st : Store) (p kvfmt dim j : Nat) : Row :=
  { key := st.keyRow p kvfmt dim j, val := st.valRow p kvfmt dim j,
    ks := st.keyScales p kvfmt dim j, vs := st.valScales p kvfmt dim j }

/-- Write row j of a page (R135, R138). -/
def writeRow (st : Store) (p kvfmt dim j : Nat) (r : Row) : Store :=
  let pc := pagePc p
  let f := st.frameOf p
  let st := st.write pc (frameAddr f + keyOff kvfmt dim j) r.key
  let st := st.write pc (frameAddr f + valOff kvfmt dim j) r.val
  let st := st.write pc (keyScaleAddr f dim j) r.ks
  st.write pc (valScaleAddr f dim j) r.vs

/-- Words that writing one row poisons. -/
def rowPoisons (st : Store) (p kvfmt dim j : Nat) (r : Row) : Nat :=
  let pc := pagePc p
  let f := st.frameOf p
  st.poisons pc (frameAddr f + keyOff kvfmt dim j) r.key.length +
  st.poisons pc (frameAddr f + valOff kvfmt dim j) r.val.length +
  st.poisons pc (keyScaleAddr f dim j) r.ks.length + st.poisons pc (valScaleAddr f dim j) r.vs.length

/-- Words that writing rows from index j poisons (R162). -/
def rowsPoisons (st : Store) (p kvfmt dim : Nat) : Nat → List Row → Nat
  | _, [] => 0
  | j, r :: t => st.rowPoisons p kvfmt dim j r + (st.writeRow p kvfmt dim j r).rowsPoisons p kvfmt dim (j + 1) t

/-- Write rows from index j. -/
def writeRows (st : Store) (p kvfmt dim : Nat) : Nat → List Row → Store
  | _, [] => st
  | j, r :: t => (st.writeRow p kvfmt dim j r).writeRows p kvfmt dim (j + 1) t

/-- Rows j to j + n - 1 of a page. -/
def readRows (st : Store) (p kvfmt dim : Nat) (j : Nat) : Nat → List Row
  | 0 => []
  | n + 1 => st.readRow p kvfmt dim j :: st.readRows p kvfmt dim (j + 1) n

/-- The seal tag of a page (R137). -/
def sealTag (st : Store) (p : Nat) : Bytes := st.read (pagePc p) (stubAddr (st.frameOf p) + 0x40) 32

/-- PC-local address of a page's summary: in its stub, or in its summary slot when the page lies in silt (R140). -/
def summaryAddr (st : Store) (p dim : Nat) : Nat :=
  let e := st.pent p
  if e.tier = .silt then frameAddr e.frame + e.sidx * slotBytes dim else stubAddr e.frame + 0x100

/-- A page's summary. -/
def summary (st : Store) (p dim : Nat) : Bytes := st.read (pagePc p) (st.summaryAddr p dim) (summaryBytes dim)

/-- Bytes 0x040 to 0x7FF of a frame's stub. -/
def stubBody (st : Store) (pc f : Nat) : Bytes := st.read pc (stubAddr f + 0x40) 0x7C0

/-- The coded payload of a page: extent, stub bytes 0x040 to 0x7FF, and those of FRAME + 1 (R173). -/
def payload (st : Store) (p : Nat) : Bytes :=
  let e := st.pent p
  let pc := pagePc p
  st.read pc (frameAddr e.frame) (extentBytes e.wide) ++ st.stubBody pc e.frame ++
    (if e.wide then st.stubBody pc (e.frame + 1) else [])

/-- Write a coded payload into a page's frame. -/
def writePayload (st : Store) (p : Nat) (bs : Bytes) : Store :=
  let e := st.pent p
  let pc := pagePc p
  let n := extentBytes e.wide
  let st := st.write pc (frameAddr e.frame) (bs.take n)
  let st := st.write pc (stubAddr e.frame + 0x40) (sub bs n 0x7C0)
  if e.wide then st.write pc (stubAddr (e.frame + 1) + 0x40) (sub bs (n + 0x7C0) 0x7C0) else st

/-- A stub: header and body. -/
def stubBytes (st : Store) (pc f : Nat) : Bytes := headerBytes (st.frame pc f) ++ st.stubBody pc f

/-! Taking and freeing frames, slots and pages (R131, R133, R134, R147). -/

/-- Whether a frame is FREE. -/
def frameFree (st : Store) (pc f : Nat) : Bool := decide ((st.frame pc f).pstate = .free)

/-- The lowest free frame, or the lowest even free pair (R147; which free frame is log entry 11). -/
def freeFrame (st : Store) (pc : Nat) (wide : Bool) : Option Nat :=
  if wide then
    (findFrom (fun i => st.frameFree pc (2 * i) && st.frameFree pc (2 * i + 1)) (framesPerPc / 2) 0).map (2 * ·)
  else findFrom (st.frameFree pc) framesPerPc 0

/-- The lowest free slot (log entry 11). -/
def freeSlot (st : Store) (pc : Nat) : Option Nat :=
  findFrom (fun i => decide ((SMap.get {} st.pmap (pc * 2 ^ 21 + i) : PEntry).tier = .free)) (2 ^ 21) 0

/-- Free frames of a pseudo-channel. -/
def freeFrames (st : Store) (pc : Nat) : Nat :=
  framesPerPc - (SMap.range st.frames (frameKey pc 0) (frameKey pc framesPerPc)).countP
    (fun e => decide (e.2.pstate ≠ .free))

/-- Free slots of a pseudo-channel. -/
def freeSlots (st : Store) (pc : Nat) : Nat :=
  2 ^ 21 - (SMap.range st.pmap (pc * 2 ^ 21) ((pc + 1) * 2 ^ 21)).countP (fun e => decide (e.2.tier ≠ .free))

/-- Whether a frame and a slot are free in a pseudo-channel. -/
def hasRoom (st : Store) (wide : Bool) (pc : Nat) : Bool :=
  (st.freeFrame pc wide).isSome && (st.freeSlot pc).isSome

/-- The pseudo-channel R134 chooses from a slice's list, starting at an index. -/
def choosePc (st : Store) (pcs : List Nat) (start : Nat) (wide : Bool) : Option Nat :=
  let n := pcs.length
  if n = 0 then none
  else (List.range n).findSome? (fun i =>
    let pc := getAt 0 pcs ((start + i) % n)
    if st.hasRoom wide pc then some pc else none)

/-- Take a frame: GEN advances, the header is written and zero plaintext under the owner's key fills the extent and the
stub body (R136, R147, R158). The zeros that R136 asks for are those of the unused bytes; what the bytes of the rows
hold before they are written is open, and the model zeroes them too, poisoned words included (log entry 62). Under an empty
key slot the fill is refused (R412). -/
def takeFrame (st : Store) (pc f : Nat) (h : Frame) : Store :=
  let k := st.key h.ctx
  let fill (st : Store) (f : Nat) : Store :=
    if k = 0 then st else ((st.setUnder (frameKey pc f) k).zero pc (frameAddr f) 0x4000).zero pc (stubAddr f) 0x800
  let st := fill (st.setFrame pc f { h with gen := ((st.frame pc f).gen + 1) % 2 ^ 32 }) f
  if h.wide then
    fill (st.setFrame pc (f + 1) { h with gen := ((st.frame pc (f + 1)).gen + 1) % 2 ^ 32, pstate := .ext }) (f + 1)
  else st

/-- Take a slot and a frame in a pseudo-channel for a page (R133, R147 steps 1 to 3). The header is completed with
the page number; ORIGIN_PAGE equals it unless `mirrorOf` names the origin's number (Table 05-6). -/
def takePage (st : Store) (pc : Nat) (h : Frame) (mirrorOf : Option Nat) : Option (Store × Nat) :=
  match st.freeFrame pc h.wide, st.freeSlot pc with
  | some f, some slot =>
    let old : PEntry := SMap.get {} st.pmap (pc * 2 ^ 21 + slot)
    let use := (old.use + 1) % 256
    let p := pageNum pc slot use
    let st := st.takeFrame pc f { h with page := p, originPage := mirrorOf.getD p }
    some (st.setPent p { tier := .near, use := use, frame := f, wide := h.wide }, p)
  | _, _ => none

/-- Make a frame FREE; a RETIRED frame stays retired. -/
def freeFrameAt (st : Store) (pc f : Nat) (wide : Bool) : Store :=
  let one (s : Store) (f : Nat) : Store := s.updFrame pc f (fun h =>
    if h.pstate = .retired then h else { gen := h.gen })
  let st := one st f
  if wide then one st (f + 1) else st

/-! Summary slots (R140). -/

/-- The page-map entries of a pseudo-channel that use summary slots of a frame. -/
def slotUsers (st : Store) (pc f : Nat) : List Nat :=
  ((SMap.range st.pmap (pc * 2 ^ 21) ((pc + 1) * 2 ^ 21)).filter
    (fun e => decide (e.2.tier = .silt) && e.2.frame == f && f != 0)).map (fun e => e.2.sidx) ++
  (st.sumcopied.filter (fun x => pagePc x.1 == pc && x.2.1 == f)).map (fun x => x.2.2)

/-- Whether a frame is a summary frame: SEALED, ROWS 0, no coding index, named by a page-map slot of its own. -/
def isSummaryFrame (h : Frame) : Bool := decide (h.pstate = .sealed) && h.rows == 0 && h.cidx == 15 && h.conv == 0

/-- A free summary slot for a context's pages of a format in a pseudo-channel, in the lowest summary frame that has one:
the header's CTX, KVFMT and DIM are those of the slots it holds (R140). -/
def freeSummarySlot (st : Store) (pc ctx kvfmt dim : Nat) : Option (Nat × Nat) :=
  (SMap.range st.frames (frameKey pc 0) (frameKey pc framesPerPc)).findSome? (fun e =>
    let f := e.1 - frameKey pc 0
    if isSummaryFrame e.2 && e.2.dim == dim && e.2.kvfmt == kvfmt && e.2.ctx == ctx then
      let used := st.slotUsers pc f
      (findFrom (fun i => !used.contains i) (slotsPerFrame dim) 0).map (fun i => (f, i))
    else none)

/-- A summary slot, taking a new summary frame where none has one. Frame 0 never becomes a summary frame, since a
page-map entry with FRAME 0 and SIDX 0 names no slot (R220). -/
def takeSummarySlot (st : Store) (node pc ctx kvfmt dim : Nat) : Option (Store × Nat × Nat) :=
  match st.freeSummarySlot pc ctx kvfmt dim with
  | some (f, i) => some (st, f, i)
  | none =>
    match findFrom (st.frameFree pc) (framesPerPc - 1) 1, st.freeSlot pc with
    | some f, some slot =>
      let old : PEntry := SMap.get {} st.pmap (pc * 2 ^ 21 + slot)
      let use := (old.use + 1) % 256
      let p := pageNum pc slot use
      let st := st.takeFrame pc f
        { pstate := .sealed, kvfmt := kvfmt, dim := dim, ctx := ctx, cidx := 15, page := p, origin := node, originPage := p }
      some (st.setPent p { tier := .near, use := use, frame := f }, f, 0)
    | _, _ => none

/-- Free a summary frame whose last slot is freed, with its page-map slot (R140). -/
def dropSummaryFrame (st : Store) (pc f : Nat) : Store :=
  if f != 0 && isSummaryFrame (st.frame pc f) && (st.slotUsers pc f).isEmpty then
    let p := (st.frame pc f).page
    let e := st.pent p
    (st.freeFrameAt pc f false).setPent p { use := e.use }
  else st

/-! Silt cells (R214, R217). A cell is keyed channel × 2^26 + cell. -/

/-- Key of the cell SILT_ADDR names. -/
def cellKey (silt : Nat) : Nat := (silt % 16) * 2 ^ 26 + silt / 16

/-- SILT_ADDR of a cell. -/
def siltAddr (ch c : Nat) : Nat := ch + c * 16

/-- Make the cells of a silt address FREE, unless retired. -/
def freeCells (st : Store) (silt : Nat) (wide : Bool) : Store :=
  let one (s : Store) (k : Nat) : Store :=
    if (s.cell k).state = .retired then s else s.setCell k {}
  let st := one st (cellKey silt)
  if wide then one st (cellKey silt + 1) else st

/-- Make the cells of a silt address that hold a page FREE, unless retired (R230). -/
def freeOwnCells (st : Store) (p silt : Nat) (wide : Bool) : Store :=
  let one (s : Store) (k : Nat) : Store :=
    if (s.cell k).state = .retired ∨ (s.cell k).page ≠ p then s else s.setCell k {}
  let st := one st (cellKey silt)
  if wide then one st (cellKey silt + 1) else st

/-- Whether a cell is free. -/
def cellFree (st : Store) (ch c : Nat) : Bool := decide ((st.cell (ch * 2 ^ 26 + c)).state = .free)

/-- The tweak of a line of a page's cell (R170, Table 07-1): that of the same line in the page's frame and stub. -/
def cellTweak (c : SiltCell) (i : Nat) : Nat :=
  if i < 256 then c.page + place 40 (i + 256 * bnat c.second)
  else c.page + place 40 (i - 256 + 1 + 32 * bnat c.second) + place 49 1

/-- The nine sectors of a cell, as the flash holds them (Tables 07-1, 07-2, R215): extent and stub as the ciphertext that
left DRAM, and the trailer under slot 1,024. -/
def cellSectors (st : Store) (k : Nat) : Bytes :=
  let c := st.cell k
  let lines := chunksOf 64 287 (fit 0x47C0 (fit 0x4000 c.extent ++ c.stub))
  let tr := leBytes 8 (c.page + place 40 c.use + place 48 (bnat c.second)) ++ sub (headerBytes c.hdr) 4 56
  (List.range 287).flatMap (fun i => sealLine c.under (cellTweak c i) (getAt [] lines i)) ++
    sealLine (st.key 1024) (c.page + place 49 3 + place 51 1) tr

/-- A cell of 20 KiB: its nine sectors and their sector parity. -/
def cellAtRest (st : Store) (k : Nat) : Bytes :=
  let ss := chunksOf 2048 9 (st.cellSectors k)
  st.cellSectors k ++ ss.foldl xorBytes (zeros 2048)

/-- A sector of a cell as the other eight and the sector parity rebuild it (R215). -/
def rebuildSector (st : Store) (k i : Nat) : Bytes :=
  let ss := chunksOf 2048 10 (st.cellAtRest k)
  ((List.range 10).filter (· != i)).foldl (fun b j => xorBytes b (getAt [] ss j)) (zeros 2048)

/-- The extent and stub of a cell under the key of its context; they are what was written where that key is still the one
they were encrypted under. -/
def openCell (st : Store) (k : Nat) : Bytes × Bytes :=
  let c := st.cell k
  let key := st.key c.hdr.ctx
  if key = c.under then (c.extent, c.stub)
  else
    let bs := (List.range 287).flatMap (fun i => openLine key (cellTweak c i) (sub (st.cellSectors k) (64 * i) 64))
    (bs.take 0x4000, bs.drop 0x4000)

/-- A free cell of a channel's 2^26, or two consecutive ones (R214; which one is the controller's choice, log entry
11). -/
def freeCell (st : Store) (ch : Nat) (wide : Bool) : Option Nat :=
  if wide then findFrom (fun c => st.cellFree ch c && st.cellFree ch (c + 1)) (2 ^ 26 - 1) 0
  else findFrom (st.cellFree ch) (2 ^ 26) 0

/-- Whether a silt copy of a page is being programmed. -/
def copyRunning (st : Store) (p : Nat) : Bool :=
  st.chans.any (fun e => e.2.queue.any (fun j => decide (j.kind = .copy) && j.page == p && j.started))

/-- Work on a freed page: what has not started is withdrawn, unless it reads the page for its removal from parity; what
has started runs to its end (R125, R223, R224). -/
def dropJobs (st : Store) (p : Nat) : Store :=
  let slots := st.sumcopied.filter (fun x => x.1 == p)
  let st := { st with
    chans := st.chans.map (fun e => (e.1, { e.2 with
      queue := (e.2.queue.filter (fun j => j.page != p || j.started || decide (j.reader = .remove))).map
        (fun j => if j.page = p then { j with freed := true } else j) }))
    releases := st.releases.filter (· != p)
    sumcopied := st.sumcopied.filter (fun x => x.1 != p) }
  slots.foldl (fun t x => t.dropSummaryFrame (pagePc p) x.2.1) st

/-- A page in both tiers whose bytes change loses its silt copy, which is no longer valid: its cells are freed and it lies
in DRAM only. -/
def dropSilt (st : Store) (p : Nat) : Store :=
  let e := st.pent p
  if st.valid p && decide (e.tier = .both) then
    ((st.freeCells e.silt e.wide).setPent p { e with tier := .near, silt := 0 }).dropJobs p
  else st

/-- Free a page: its frame or frames, its slot, its cells and its summary slot (R133, R223). A frame whose silt copy is
being programmed is kept until the program ends. -/
def freePage (st : Store) (p : Nat) : Store :=
  if st.valid p then
    let e := st.pent p
    let pc := pagePc p
    let near := decide (e.tier = .near) || decide (e.tier = .both)
    let st := if near && st.pins.contains p then { st with kept := st.kept ++ [(p, e.frame, e.wide)] }
      else if near && !st.copyRunning p then st.freeFrameAt pc e.frame e.wide else st
    let st := if e.tier = .silt ∨ e.tier = .both then st.freeCells e.silt e.wide else st
    let st := st.setPent p { use := e.use }
    let st := ({ st with copies := SMap.del st.copies p }).dropJobs p
    if e.tier = .silt then st.dropSummaryFrame pc e.frame else st
  else st

/-- Whether the frame of a freed page is still kept by a grant. -/
def keptBy (st : Store) (p : Nat) : Bool := st.kept.any (fun x => x.1 == p)

/-- Drop the frame a freed page kept, once neither a grant nor a program holds it. -/
def dropKept (st : Store) (p : Nat) : Store :=
  match st.kept.find? (fun x => x.1 == p) with
  | none => st
  | some x =>
    if st.pins.contains p then st
    else
      let st := { st with kept := st.kept.filter (fun y => y.1 != p) }
      if st.copyRunning p then st else st.freeFrameAt (pagePc p) x.2.1 x.2.2

/-- A grant entry of a page is released (R206). -/
def unpin (st : Store) (p : Nat) : Store := ({ st with pins := st.pins.erase p }).dropKept p

/-! Ledger area (R141, R144, R146). A line is keyed pseudo-channel × 2^25 + LINE. -/

/-- First line of the ledger area after the allocation state. -/
def firstLine : Nat := 0x44880000 / 64
/-- One past the last line of the ledger area. -/
def endLine : Nat := 0x47000000 / 64

/-- The ledger address of a line (Table 05-8). -/
def ledgerAddr (pc line : Nat) : Nat := line + place 25 (pc % 64) + place 31 (pc / 64)

/-- The pseudo-channel of a ledger address. -/
def ledgerPc (a : Nat) : Nat := fieldOf a 35 31 * 64 + fieldOf a 30 25

/-- The lowest gap of n lines in a pseudo-channel's area. -/
def lineGap : List (Nat × Nat) → Nat → Nat → Nat → Option Nat
  | [], lo, hi, n => if lo + n ≤ hi then some lo else none
  | (k, len) :: t, lo, hi, n =>
    if k + len ≤ lo then lineGap t lo hi n
    else if hi ≤ k then (if lo + n ≤ hi then some lo else none)
    else if lo + n ≤ k then some lo
    else lineGap t (k + len) hi n

/-- Take n consecutive lines in the first pseudo-channel of the slice that has them (log entry 11). -/
def takeLines (st : Store) (pcs : List Nat) (n : Nat) : Option (Store × Nat) :=
  pcs.findSome? (fun pc =>
    (lineGap st.areas (pc * 2 ^ 25 + firstLine) (pc * 2 ^ 25 + endLine) n).map (fun k =>
      ({ st with areas := SMap.ins st.areas k n }, ledgerAddr pc (k % 2 ^ 25))))

/-- Give a structure's lines back. -/
def freeLines (st : Store) (a : Nat) : Store :=
  { st with areas := SMap.del st.areas (ledgerPc a * 2 ^ 25 + fieldOf a 24 0) }

/-- The streams of a root record: layers times the heads it holds (Table 05-9). -/
def nstreams (r : Root) : Nat := r.layers * popcount 32 r.headSet

/-- The index of a stream in the stream table (R143). -/
def streamIx (r : Root) (layer kvh : Nat) : Nat :=
  layer * popcount 32 r.headSet + popcount kvh r.headSet

/-- The KV head of a stream index (R143). -/
def headOfIx (r : Root) (i : Nat) : Nat :=
  let c := popcount 32 r.headSet
  getAt 0 ((List.range 32).filter (fun h => r.headSet.testBit h)) (if c = 0 then 0 else i % c)

/-- The layer of a stream index (R143). -/
def layerOfIx (r : Root) (i : Nat) : Nat :=
  let c := popcount 32 r.headSet
  if c = 0 then 0 else i / c

/-- Put an entry into a page list, which is in ascending FIRSTPOS (R144). -/
def insertPage (e : PageEnt) : List PageEnt → List PageEnt
  | [] => [e]
  | y :: t => if e.firstpos < y.firstpos then e :: y :: t else y :: insertPage e t

/-- Make room for one more page-list entry: a chunk is taken where the last is full (R144, R146). -/
def roomForEnt (st : Store) (pcs : List Nat) (a i : Nat) : Option Store :=
  let x := st.stream a i
  if x.pages.length < 63 * x.chunks.length then some st
  else (st.takeLines pcs 16).map (fun q => q.1.setStream a i { x with chunks := x.chunks ++ [q.2] })

/-- Add a page-list entry (R144, R146). -/
def addPageEnt (st : Store) (pcs : List Nat) (a i : Nat) (e : PageEnt) : Option Store :=
  (st.roomForEnt pcs a i).map (fun t => t.updStream a i (fun x => { x with pages := insertPage e x.pages }))

/-- Take page-list entries out and give back the chunks no longer needed. -/
def keepPages (st : Store) (a i : Nat) (keep : PageEnt → Bool) : Store :=
  let x := st.stream a i
  let ps := x.pages.filter keep
  let need := ceilDiv ps.length 63
  let st := (x.chunks.drop need).foldl freeLines st
  st.setStream a i { x with pages := ps, chunks := x.chunks.take need }

/-- Change the page-list entry of a page. -/
def updPageEnt (st : Store) (a i p : Nat) (g : PageEnt → PageEnt) : Store :=
  st.updStream a i (fun x => { x with pages := x.pages.map (fun e => if e.page = p then g e else e) })

/-- The stream pages a request sees: the group's first, then the member's own (R145). Each entry carries the ledger
address of the record whose list holds it. -/
def allPages (st : Store) (a i : Nat) : List (Nat × PageEnt) :=
  let own := (st.stream a i).pages.map (fun e => (a, e))
  match st.root a with
  | some r => if r.groupLedger = 0 then own
      else (st.stream r.groupLedger i).pages.map (fun e => (r.groupLedger, e)) ++ own
  | none => own

/-- TENTSTREAMS of a root record. -/
def tentStreams (st : Store) (a : Nat) (r : Root) : Nat :=
  ((List.range (nstreams r)).filter (fun i => decide ((st.stream a i).tent > 0))).length

/-- Free a root record, its stream table, chunks and pages. -/
def freeRecord (st : Store) (a : Nat) : Store :=
  match st.root a with
  | none => st
  | some r =>
    let st := (List.range (nstreams r)).foldl (fun (s : Store) i =>
      let x := s.stream a i
      let s := x.pages.foldl (fun q e => q.freePage e.page) s
      let s := x.chunks.foldl freeLines s
      s.setStream a i {}) st
    let st := (st.freeLines r.streamTab).freeLines a
    st.setRoot a none

/-- Zero a structure's lines with fresh check bytes, under no key (R418): what was wrong with its words is gone. -/
def zeroLines (st : Store) (a : Nat) : Store :=
  let pc := ledgerPc a
  let lo := fieldOf a 24 0 * 64
  let n := SMap.get 0 st.areas (pc * 2 ^ 25 + fieldOf a 24 0) * 64
  let st := st.zero pc lo n
  { st with ledgerUe := st.ledgerUe.filter (fun e => !(e.1 == pc && decide (lo ≤ e.2) && decide (e.2 < lo + n))) }

/-- Zero the ledger structures of a root record: itself, its stream table and the chunks of its page lists (R418). -/
def zeroLedger (st : Store) (a : Nat) (r : Root) : Store :=
  let st := (List.range (nstreams r)).foldl (fun q i => (st.stream a i).chunks.foldl zeroLines q) st
  (st.zeroLines r.streamTab).zeroLines a

/-- Create a root record and its stream table; none when no ledger area of the slice has room (R146). -/
def makeRecord (st : Store) (pcs : List Nat) (r : Root) : Option (Store × Nat) :=
  (st.takeLines pcs 4).bind (fun q =>
    (q.1.takeLines pcs (ceilDiv (nstreams r * 32) 64)).map (fun t =>
      (t.1.setRoot q.2 (some { r with streamTab := t.2 }), q.2)))

/-! Bytes of ledger structures (Tables 05-9, 05-10). -/

/-- HINT as its code. -/
def hintCode : Hint → Nat
  | .hot => 0 | .warm => 1 | .cold => 2 | .resumeSoon => 3
/-- The hint of a code. -/
def hintOf (n : Nat) : Hint := if n = 0 then .hot else if n = 1 then .warm else if n = 2 then .cold else .resumeSoon

/-- The 256 bytes of a root record. -/
def rootBytes (st : Store) (a : Nat) (r : Root) : Bytes :=
  fit 256 (leBytes 8 r.conv ++
    leBytes 4 (r.ctx + place 10 (bnat r.closing) + place 12 (bnat r.group) + place 13 r.kvfmt + place 17 r.dim +
      place 19 (r.layers - 1) + place 27 (r.kvhs - 1)) ++ leBytes 4 r.headSet ++
    leBytes 8 (r.firstPage + place 24 r.pageLimit) ++ leBytes 8 r.groupLedger ++
    leBytes 8 (r.members + place 32 (hintCode r.hint) + place 34 (bnat r.closepend)) ++
    leBytes 8 (r.streamTab + place 40 (nstreams r)) ++ leBytes 8 (st.tentStreams a r))

/-- The root record 256 bytes spell. -/
def rootOf (b : Bytes) : Root :=
  let w := numAt b 8 4
  let w10 := numAt b 0x10 8
  let w20 := numAt b 0x20 8
  { conv := numAt b 0 8, ctx := fieldOf w 9 0, closing := fieldOf w 11 10 == 1, group := w.testBit 12,
    kvfmt := fieldOf w 16 13, dim := fieldOf w 18 17, layers := fieldOf w 26 19 + 1, kvhs := fieldOf w 31 27 + 1,
    headSet := numAt b 0xC 4, firstPage := fieldOf w10 23 0, pageLimit := fieldOf w10 47 24,
    groupLedger := fieldOf (numAt b 0x18 8) 39 0, members := fieldOf w20 31 0, hint := hintOf (fieldOf w20 33 32),
    closepend := w20.testBit 34 }

/-- The 32 bytes of a stream descriptor. -/
def streamBytes (x : Stream) : Bytes :=
  leBytes 8 (x.length + place 25 x.basepos + place 49 x.tent) ++
  leBytes 8 (x.openPage + place 40 (bnat x.openv) + place 41 (bnat x.closed)) ++
  leBytes 8 ((x.chunks.head?).getD 0 + place 40 x.pages.length) ++ leBytes 8 ((x.chunks.getLast?).getD 0)

/-- The stream descriptor 32 bytes spell, with no page of this node's. -/
def streamOf (b : Bytes) : Stream :=
  let w := numAt b 0 8
  let w8 := numAt b 8 8
  { length := fieldOf w 24 0, basepos := fieldOf w 48 25, tent := fieldOf w 53 49, closed := w8.testBit 41 }

/-- A record and its stream table, as MOPEN and LEDGER carry them (Table 10-9). -/
def recordBytes (st : Store) (a : Nat) (r : Root) : Bytes :=
  st.rootBytes a r ++ (List.range (nstreams r)).flatMap (fun i => streamBytes (st.stream a i))

/-! Gap marks (R466). -/

/-- The gap mark of a released copy: 0b11111 in the STACK bits, the data index and the group sequence. -/
def gapMark (cidx gseq : Nat) : Nat := gseq % 2 ^ 32 + place 32 (cidx % 8) + place 35 31

/-- Whether a PAGE field holds a gap mark. -/
def isGap (p : Nat) : Bool := fieldOf p 39 35 == 31

end Store

/-! The seal tag (R152). -/

/-- The word that heads the sealed bytes (R152 step 2). -/
def sealWord (firstpos rows kvfmt dim : Nat) : Bytes :=
  leBytes 8 (firstpos + place 24 rows + place 32 kvfmt + place 36 dim)

/-- The bytes the seal tag is computed over: the word, key rows, value rows, key scales, value scales (R152). -/
def sealBytesOf (rs : List Store.Row) (kvfmt dim firstpos : Nat) : Bytes :=
  sealWord firstpos rs.length kvfmt dim ++ rs.flatMap (·.key) ++ rs.flatMap (·.val) ++ rs.flatMap (·.ks) ++
    rs.flatMap (·.vs)

/-- Those bytes of a page in DRAM. -/
def sealBytes (st : Store) (p kvfmt dim firstpos rows : Nat) : Bytes :=
  let rs := st.readRows p kvfmt dim 0 rows
  sealWord firstpos rows kvfmt dim ++ rs.flatMap (·.key) ++ rs.flatMap (·.val) ++ rs.flatMap (·.ks) ++
    rs.flatMap (·.vs)

end Sys2Proof.Machine
end

