-- ==== Sys2Proof/Machine/StateRel.lean ====
section
/-! DEFINITION. What the reliability blocks hold (chapter 15): the service state, the progress of a compute reset, the
lost and gap lists, the mismatch log, the predictive counters, takeover, rebuild and shadowing. -/

namespace Sys2Proof.Machine

/-- Service states (RS_STATE.STATE, Table 15-10). -/
inductive Svc where
  | start | service | withdrawing | out
deriving DecidableEq, Repr

/-- An entry of the lost list (Table 15-11). -/
structure LostEnt where
  ctx : Nat := 0
  conv : Nat := 0
  cause : Nat := 0
deriving DecidableEq, Repr

/-- An entry of the gap list (Table 15-11). -/
structure GapEnt where
  ctx : Nat := 0
  layer : Nat := 0
  kvh : Nat := 0
  firstpos : Nat := 0
  conv : Nat := 0
  gseq : Nat := 0
  cidx : Nat := 0
  rows : Nat := 0
deriving DecidableEq, Repr

/-- How far a compute reset has come (Table 15-6): none, steps 1 and 2, steps 4 and 5. -/
inductive CrStep where
  | none | draining | rebuilding
deriving DecidableEq, Repr

/-- A requested compute reset: RS_CR_CAUSE's fields. -/
structure CrWant where
  cause : Nat := 0
  stack : Nat := 0
  pc : Nat := 0
deriving DecidableEq, Repr

/-- A watched queue (Table 15-5). -/
structure WaitQ where
  cls : Nat := 0
  index : Nat := 0
deriving DecidableEq, Repr

/-- A takeover (R465): the context and the confirmations step 5 still waits for. -/
structure TakeJob where
  busy : Bool := false
  refused : Bool := false
  done : Bool := false
  ctx : Nat := 0
  convs : Nat := 0
  gaps : Nat := 0
  waits : Nat := 0
deriving DecidableEq, Repr

/-- A page under restoration (R164): what the other copy answered, whether it was asked, and the cell reads that wait for
its end. -/
structure Restore where
  page : Nat := 0
  asked : Bool := false
  body : Option Bytes := none
  refused : Bool := false
  readers : List Reader := []
deriving DecidableEq, Repr

/-- A rebuild (R468): the group, the index decoded, the members read, asked for and not readable, whether the CODE program
decodes, and how it ended. -/
structure RebuildJob where
  state : Nat := 0
  cause : Nat := 0
  key : Nat := 0
  cidx : Nat := 0
  conn : Nat := 0
  conv : Nat := 0
  layer : Nat := 0
  kvh : Nat := 0
  firstpos : Nat := 0
  rows : Nat := 0
  got : List (Nat × Bytes) := []
  asked : List Nat := []
  failed : List Nat := []
  decoding : Bool := false
deriving DecidableEq, Repr

/-- An ATTEND kept for comparison with the spare's response (R476): its request, response, how many pages it selected,
the format and head dimension of its stream, LOAD and the stacks that served it (Table 15-8), that it has been relayed,
and the spare's answer. -/
structure Sample where
  hdr : Hdr := {}
  body : Bytes := []
  status : Nat := 0
  resp : Bytes := []
  vmax : List F32 := []
  areas : List (List F32) := []
  pages : Nat := 0
  kvfmt : Nat := 0
  dim : Nat := 0
  load : Nat := 0
  served : List Nat := []
  sent : Bool := false
  answer : Option (Nat × Bytes) := none
deriving DecidableEq, Repr

/-- The shadowing of a slice (R474 to R477). `cur` is the record being copied, `sent`
its pages sent, `waits` the confirmations it waits for, `opened` that its OPEN_CONV was answered. -/
structure ShadowSt where
  phase : Nat := 0
  spare : Nat := 0
  cur : Option Nat := none
  opened : Bool := false
  sent : List Nat := []
  waits : Nat := 0
  holding : Bool := false
  copied : List Nat := []
  counts : List (Nat × Nat) := []
  samples : List Sample := []
deriving DecidableEq, Repr

/-- The reliability blocks. `resets` are the start times of recent compute resets in seconds (R460), `mis` the mismatch
records, `pred` and `predFlash` the predictive counters and what flash holds of them, `cycles` the cycles
the stagnation detector follows and for how many samples each has stood, `wstart` the unit a withdrawal began. -/
structure RelSt where
  svc : Svc := .start
  cr : CrStep := .none
  wanted : List CrWant := []
  wcause : Nat := 0
  wstart : Nat := 0
  resets : List Nat := []
  escalate : Bool := false
  lost : List LostEnt := []
  gaps : List GapEnt := []
  gapovf : Bool := false
  mis : List Bytes := []
  misNext : Nat := 0
  pred : List (Nat × Nat) := []
  predFlash : List (Nat × Nat) := []
  predSaved : Nat := 0
  cycles : List (List WaitQ × Nat) := []
  assayCount : Nat := 0
  assayTurn : Nat := 0
  restores : List Restore := []
  take : TakeJob := {}
  rb : RebuildJob := {}
  shadows : List (Nat × ShadowSt) := []
deriving DecidableEq, Repr

end Sys2Proof.Machine
end

