-- ==== Sys2Proof/Machine/StateSluice.lean ====
section
/-! DEFINITION. What the sluice cores hold (chapter 6). A core is numbered 16 × pseudo-channel + bank pair, and a bank
2 × core + bank. -/

namespace Sys2Proof.Machine

/-- The vendor programs (R181). -/
inductive VProg where
  | seal | sumcopy | score | copy | code | deq | test | scrub
deriving DecidableEq, Repr

/-- A command for the vendor station of a core: its program, the page and stream it works on, the slot that waits for it,
the arguments of a DEQ or TEST, and what a TEST does to its core. -/
structure VJob where
  core : Nat := 0
  prog : VProg := .seal
  page : Nat := 0
  root : Nat := 0
  ix : Nat := 0
  slot : Option Nat := none
  arg : Nat := 0
  vin : VendorIn := {}
deriving DecidableEq, Repr

/-- States of a station (Table 06-3). -/
inductive StState where
  | ready | run | wait | fault
deriving DecidableEq, Repr

/-- A grant entry (Table 06-13). -/
structure Grant where
  page : Nat := 0
  firstpos : Nat := 0
  rows : Nat := 0
  kvfmt : Nat := 0
  dim : Nat := 0
  wide : Bool := false
  valid : Bool := false
  opened : Bool := false
  frame : Nat := 0
  gen : Nat := 0
deriving DecidableEq, Repr

/-- A view (Table 06-7); the customer station holds only the first three. -/
inductive SView where
  | unset | grant (index : Nat) | dataC | extent (frame : Nat) (wide : Bool) | stub (frame : Nat)
  | sumslot (frame slot dim : Nat) | metadata | ledger | dataV
deriving DecidableEq, Repr

/-- A burst in hand: load or store, its view, view offset, lines and scratch address, and whether its bank is granted. -/
structure Burst where
  load : Bool := true
  view : SView := .unset
  off : Nat := 0
  lines : Nat := 1
  scr : Nat := 0
  granted : Bool := false
deriving DecidableEq, Repr

/-- A GRANT whose lookup stalls: its context and its arguments, taken when SC_VF_CMD was written (R204). -/
structure GrantArgs where
  ctx : Nat := 0
  arg0 : Word := 0
  arg1 : Word := 0
deriving DecidableEq, Repr

/-- A sluice core's customer station and lease (R180, R184, R203). `prog` says that a program runs, `zeroing` that a
lease of that context has ended and DATA_C is still to be zeroed, `vendor` that the vendor station holds the core, `preempted` that the
customer station was preempted, `halted` the debug halt, and `search` a GRANT that waits for its lookup (R205, R249). -/
structure Core where
  lessee : Option Nat := none
  zeroing : Option Nat := none
  st : StState := .ready
  pc : Nat := 0
  fcause : Nat := 0
  fpc : Nat := 0
  result : Nat := 0
  prog : Bool := false
  code : List (Nat × W32) := []
  scratch : List (Nat × Byte) := []
  regs : List (Nat × W32) := []
  vregs : List (Nat × List W32) := []
  views : List (Nat × SView) := []
  grants : List (Nat × Grant) := []
  burst : Option Burst := none
  halted : Bool := false
  vendor : Bool := false
  preempted : Bool := false
  search : Option GrantArgs := none
deriving DecidableEq, Repr

/-- What the core saves of a preempted customer station (R183): its registers and views, and the customer region where it
was spilled. -/
structure Saved where
  regs : List (Nat × W32) := []
  vregs : List (Nat × List W32) := []
  views : List (Nat × SView) := []
  spill : Bool := false
deriving DecidableEq, Repr

/-- A SCRUB step that fell due while the vendor station had commands (R182): the upsets its burst meets and what it does to
its core. -/
structure ScrubStep where
  upsets : List (Nat × Nat) := []
  vin : VendorIn := {}
deriving DecidableEq, Repr

/-- A vendor station (R180, R182, R186): its state, the commands it has taken in arrival order, what it saved of the
customer station, and its working space: what the last program left there, named by `rev`, with the bytes KRND wrote
since; its program counter, scalar registers s1 to s15, vector registers and views, and the SCRUB steps that wait for the
command in progress, whose turn has come where `turn` says so. -/
structure Vendor where
  st : StState := .ready
  queue : List VJob := []
  saved : Option Saved := none
  rev : Nat := 0
  scratch : List (Nat × Byte) := []
  pc : Nat := 0
  regs : List W32 := []
  vregs : List (List W32) := []
  views : List SView := []
  due : List ScrubStep := []
  turn : Bool := false
deriving DecidableEq, Repr

/-- A burst request that waits for a bank: of a core's customer or vendor station (R190). -/
structure BankReq where
  bank : Nat
  core : Nat
  vendor : Bool
deriving DecidableEq, Repr

/-- The sluice cores and the banks. `vjobs` are the commands of reckoners that wait for room in a vendor station's queue
(R182), `vendors` the vendor stations, and `vload` the programs loaded into the vendor halves, by their digest (R181).
`refreshing` are the banks under refresh, `postponed` the refresh commands each bank
has postponed, `forced` the banks whose forced refresh waits for a burst to end (R165, R166), `units` the banks that a pipe
read unit or a read-modify-write holds, `waiting` the bursts that wait for a bank in order of request (R190), and
`scrub` each core's place in its scrub pass, in 1 KiB steps (R167), `periods` the SCRUB_PERIOD that pass began with (R177); `reset` that a compute reset has been, so that a
core that is not listed stands in FAULT with cause RESET (R208). -/
structure SluiceSt where
  vjobs : List VJob := []
  vendors : List (Nat × Vendor) := []
  vload : Option Bytes := none
  cores : List (Nat × Core) := []
  refreshing : List Nat := []
  postponed : List (Nat × Nat) := []
  forced : List Nat := []
  units : List Nat := []
  waiting : List BankReq := []
  scrub : List (Nat × Nat) := []
  periods : List (Nat × Nat) := []
  reset : Bool := false
deriving DecidableEq, Repr

end Sys2Proof.Machine
end

