-- ==== Sys2Proof/Machine/State.lean ====
section
/-! DEFINITION. The state of the module, the reasons a step can stop, and the state right after reset. -/

namespace Sys2Proof.Machine

/-- The reasons a command stops the model. -/
inductive Fault where
  /-- Raised by a command whose result the named rule of the specification calls undefined and to which it gives no
  effect (log entry 6). Safe: the model stops where the hardware does something the specification does not say. -/
  | undefinedResult (rule : Nat)
deriving DecidableEq, Repr

/-- The reasons the model gives a command no meaning. -/
inductive Refusal where
  /-- Raised by the dispatch for a command that has no meaning yet. Safe: the model says nothing of it. -/
  | notModelled (mnemonic : String)
deriving DecidableEq, Repr

/-- The variants (Table 00-1). -/
inductive Variant where
  | q20 | d20 | q12
deriving DecidableEq, Repr

/-- The register file: values in effect, shadows, and captures waiting for their moment (R438 to R440). A register
that is not listed holds its reset value; a shadow that is not listed equals the value in effect. -/
structure RegFile where
  eff : List (Nat × Word) := []
  shadow : List (Nat × Option Word) := []
  cap : List (Nat × Option Word) := []
deriving DecidableEq, Repr

/-- What leaves the module (log entry 12). -/
inductive Out where
  /-- The block of a flit on a link (R308, R309). -/
  | block (link : Nat) (bs : Bytes)
  /-- A posted write to host memory by a VF's function (R375), with its TEE bit (R397). -/
  | hostWrite (port vf addr : Nat) (tee : Bool) (bs : Bytes)
  /-- An MSI-X message of a function (vf 0: the PF): its vector, with the address and data the vector holds,
  and the TEE bit (R397). -/
  | msix (port vf vec addr data : Nat) (tee : Bool)
  /-- A completion with data of a host read: the request's tag, and the 32-byte words that carry the poisoned bit. -/
  | completion (port tag : Nat) (bs : Bytes) (poisoned : List Nat)
  /-- A host request that completes as an error, or is logged as one in AER: "UR", "CA", "Poisoned TLP Received", "IDE". -/
  | hostError (port tag : Nat) (why : String)
  /-- The answer to LOCK_INTERFACE: whether the TDI locked, and what its interface report lists: BAR, first and length in
  4 KiB units (R395). -/
  | tdiReport (port vf : Nat) (locked : Bool) (extents : List (Nat × Nat × Nat))
  /-- The value a register read returns. -/
  | value (w : Word)
  /-- A response of the Mint in a session: code and payload. -/
  | spdm (session : Nat) (code : String) (payload : Bytes)
  /-- A message of the management protocol: port, type, session, sequence, SPDM code where it has one, payload. -/
  | mgmt (port type session seq : Nat) (code : String) (payload : Bytes)
  /-- An EVENT message to an address, on both ports: its ESEQ and what it reports (R510). -/
  | event (addr : Bytes) (eseq : Nat) (what : Report)
  /-- A PLDM type 2 event to an MCTP endpoint on the I3C port (R447, R511). -/
  | pldm (eid : Nat) (what : Report)
deriving DecidableEq, Repr

/-- An APPEND whose rows are written but not yet accepted (R148, R153): the stream, where its rows lie by page, row
index and count, the pages it took, the page held aside with the rows copied to it, and what is still to be sent. -/
structure Staged where
  root : Nat := 0
  ix : Nat := 0
  pos : Nat := 0
  n : Nat := 0
  tent : Bool := false
  parts : List (Nat × Nat × Nat) := []
  fresh : List Nat := []
  aside : Option Nat := none
  copied : Nat := 0
  oldPage : Nat := 0
deriving DecidableEq, Repr

/-- What follows when the partner has confirmed a request's changes (R171). -/
inductive Finish where
  | plain
  | openConv (root : Nat)
deriving DecidableEq, Repr

/-- How far a slot's request has come in stages 4 to 9. -/
inductive Prog where
  | queued
  | inserting (left : List CamEntry) (root : Nat)
  | staged (x : Staged)
  | confirm (status : Nat) (body : Bytes) (fin : Finish)
  | promote (pages : List Nat)
  | attend (a : Att)
deriving DecidableEq, Repr

/-- A request-table slot (R290). `entry` is the entry number, `grantNo` the order of the grant, `taken` says that the
request has taken effect (R296), `waits` counts confirmations outstanding, `failed` a confirmation that failed, `stall` the unit stage 7 began,
`limit` its limit, `stallCh` the channel whose work it waited on last and `units` its stall units by cause (R237), `since` the unit it entered HELD or last did, `began` the unit its rows were first sent to the partner and `via` the
furrow that carried them (R42), `sent` the carriers of its response still to leave, `dup` a slot of the duplicate reserve,
`prev` that stage 3 took the request under PREV (R300), and
`snaplen` the LENGTH at an ATTEND's first snapshot (R457). -/
structure Slot where
  state : SlotState := .free
  hdr : Hdr := {}
  body : Bytes := []
  src : Src := .conn 0
  entry : Nat := 0
  grantNo : Nat := 0
  since : Nat := 0
  began : Nat := 0
  via : Nat := 0
  stall : Nat := 0
  limit : Nat := 0
  stallCh : Nat := 0
  units : Nat × Nat × Nat := (0, 0, 0)
  dup : Bool := false
  prev : Bool := false
  taken : Bool := false
  applied : Bool := false
  reissued : Bool := false
  waits : Nat := 0
  failed : Bool := false
  stalled : Bool := false
  snaplen : Option Nat := none
  prog : Prog := .queued
  respHdr : Hdr := {}
  resp : Bytes := []
  sent : Nat := 0
  formed : Bool := false
deriving DecidableEq, Repr

/-- A change the partner has not confirmed, to be sent again when a connection opens (R536). -/
structure Unsent where
  ctx : Nat := 0
  conv : Nat := 0
  layer : Nat := 0
  kvh : Nat := 0
  desc : RmaDesc := {}
  body : Bytes := []
  use : RmaUse := .none
deriving DecidableEq, Repr

/-- The module. `turn` is the context from which arbitration looks for its next visit (R354). `undef` is the
model's own: the rule that leaves the result of the running command undefined, where one of its carriers showed so (log entry 6). -/
structure State where
  variant : Variant := .q20
  regs : RegFile := {}
  ctrs : List (Nat × Nat) := []
  hubUnits : Nat := 0
  mgmtMs : Nat := 0
  fresh : Nat := 0
  out : List Out := []
  pending : List Instr := []
  undef : Option Nat := none
  store : Store := {}
  cam : Cam := {}
  links : List (Nat × Link) := []
  furrows : List (Nat × Furrow) := []
  conns : List (Nat × Conn) := []
  reasm : List Reasm := []
  slots : List (Nat × Slot) := []
  ctxs : List (Nat × CtxGate) := []
  turn : Nat := 0
  origins : List Origin := []
  nextEntry : Nat := 0
  nextAdmit : Nat := 0
  held : List HeldMarker := []
  sentMarkers : List SentMarker := []
  dests : List Dest := []
  own : List OwnReq := []
  unsent : List Unsent := []
  img : ImageSt := {}
  attn : AttnSt := {}
  sluice : SluiceSt := {}
  host : HostPortSt := {}
  mint : MintSt := {}
  rel : RelSt := {}
  firm : FirmSt := {}
  power : PowerSt := {}
deriving DecidableEq, Repr

/-- The module right after power is applied: every register at its reset value, nothing stored, start-up in step 1
(R512; the values the specification does not give are log entry 5). -/
def State.reset : State := {}

end Sys2Proof.Machine
end

