-- ==== Sys2Proof/Machine/Ops.lean ====
section
/-! DEFINITION. The shared operations: registers, counters, fault bits, the image in effect, links and what they
send. -/

namespace Sys2Proof.Machine

/-- The outcome of a command: always a next state unless a rule calls its result undefined. -/
abbrev Result := Host.Outcome State Fault Refusal

/-- The end of a command that took carriers: a carrier whose use a rule leaves undefined stops it (R306, log entry 6). -/
def State.outcome (s : State) : Result :=
  match s.undef with
  | some r => .fault (.undefinedResult r)
  | none => .next s

namespace State

/-- Append to what leaves the module. -/
def emit (s : State) (o : Out) : State := { s with out := s.out ++ [o] }

/-- A number for a free value, and the state after it is taken (log entry 8). -/
def tick (s : State) : State := { s with fresh := s.fresh + 1 }

/-! Registers (R13, R438). -/

/-- The value in effect of a register. -/
def reg (s : State) (r : Reg) (i : Nat) : Word := SMap.get (wordOf r.access.reset) s.regs.eff (r.key i)

/-- Set the value in effect. -/
def setReg (s : State) (r : Reg) (i : Nat) (w : Word) : State :=
  { s with regs := { s.regs with eff := SMap.set (wordOf r.access.reset) s.regs.eff (r.key i) w } }

/-- A field of a register. -/
def rfld (s : State) (r : Reg) (i hi lo : Nat) : Nat := (s.reg r i).fld hi lo

/-- A bit of a register. -/
def rbit (s : State) (r : Reg) (i b : Nat) : Bool := (s.reg r i).bit b

/-- Set a field of a register. -/
def setFld (s : State) (r : Reg) (i hi lo v : Nat) : State := s.setReg r i ((s.reg r i).setFld hi lo v)

/-- Set one bit. -/
def setBit (s : State) (r : Reg) (i b : Nat) : State := s.setFld r i b b 1

/-- The shadow of a register: what was written to it, else the value in effect (R438). -/
def shadow (s : State) (r : Reg) (i : Nat) : Word := (SMap.get none s.regs.shadow (r.key i)).getD (s.reg r i)

/-- Write a shadow. -/
def setShadow (s : State) (r : Reg) (i : Nat) (w : Word) : State :=
  { s with regs := { s.regs with shadow := SMap.set none s.regs.shadow (r.key i) (some w) } }

/-- The captured value of a register, if a commit of its group waits (R439). -/
def captured (s : State) (r : Reg) (i : Nat) : Option Word := SMap.get none s.regs.cap (r.key i)

/-- Capture the shadows of a group (R438, R439). -/
def capture (s : State) (rs : List (Reg × Nat)) : State :=
  rs.foldl (fun q x => { q with regs := { q.regs with
    cap := SMap.set none q.regs.cap (x.1.key x.2) (some (q.shadow x.1 x.2)) } }) s

/-- Let a waiting capture take effect as one change (R438). -/
def takeEffect (s : State) (rs : List (Reg × Nat)) : State :=
  rs.foldl (fun q x =>
    match q.captured x.1 x.2 with
    | some w => { q.setReg x.1 x.2 w with regs := { (q.setReg x.1 x.2 w).regs with
        cap := SMap.set none q.regs.cap (x.1.key x.2) none } }
    | none => q) s

/-- Commit a group at once: the shadows become the values in effect (R438). -/
def commitNow (s : State) (rs : List (Reg × Nat)) : State := (s.capture rs).takeEffect rs

/-! Counters (R17). -/

/-- The greatest count of a 48-bit counter. -/
def ctrMax : Nat := 2 ^ 48 - 1

/-- A counter's value. -/
def ctr (s : State) (c : Ctr) (i : Nat) : Nat := SMap.get 0 s.ctrs (c.key i)

/-- Advance a counter, saturating (R17). -/
def count (s : State) (c : Ctr) (i n : Nat) : State :=
  { s with ctrs := SMap.set 0 s.ctrs (c.key i) (min ctrMax (s.ctr c i + n)) }

/-- Clear a counter. -/
def clearCtr (s : State) (c : Ctr) (i : Nat) : State := { s with ctrs := SMap.del s.ctrs (c.key i) }

/-! Resources of the variant (Table 00-1). -/

def stackCount (s : State) : Nat := match s.variant with | .q12 => 12 | _ => 20
def portDies (s : State) : Nat := match s.variant with | .d20 => 2 | _ => 4
def linkCount (s : State) : Nat := s.portDies * 16
def chanCount (s : State) : Nat := s.portDies * 4
def camSlices (s : State) : Nat := s.portDies
def camTotal (s : State) : Nat := s.camSlices * 65536

/-- LC_CAP, as the variant gives it (Table 08-9). -/
def lcCapWord (s : State) : Word := ((s.reg .lcCap 0).setFld 2 0 s.camSlices).setFld 11 3 (s.camTotal / 1024)
/-- Fit-or-wait mode (R5). -/
def fitOrWait (s : State) : Bool := match s.variant with | .d20 => false | _ => true
def variantCode (s : State) : Nat := match s.variant with | .q20 => 0 | .d20 => 1 | .q12 => 2

/-! The image in effect (chapter 14). -/

def ctxRec (s : State) (c : Nat) : CtxRec := SMap.get {} s.img.ctxs c
def sliceRec (s : State) (n : Nat) : SliceRec := SMap.get {} s.img.slices n
def sliceOf (s : State) (c : Nat) : Nat := (s.ctxRec c).slice

/-- The pseudo-channels of a slice in ascending (stack, PC) order (R134, Table 14-3). -/
def slicePcs (s : State) (n : Nat) : List Nat :=
  let r := s.sliceRec n
  if r.valid then
    ((List.range 20).filter (fun k => r.stackMask.testBit k)).flatMap (fun k =>
      ((List.range 64).filter (fun p => r.pcs.testBit p)).map (fun p => k * 64 + p))
  else []

/-- The pseudo-channels of a context's slice (R21). -/
def ctxPcs (s : State) (c : Nat) : List Nat := s.slicePcs (s.sliceOf c)

/-- Whether two contexts may share (R429). -/
def mayShare (s : State) (a b : Nat) : Bool :=
  a == b || ((s.ctxRec a).share != 0 && (s.ctxRec a).share == (s.ctxRec b).share)

/-- The number of the node (RQ_CFG.ORIGIN). -/
def node (s : State) : Nat := s.rfld .rqCfg 0 15 0

/-! Contexts, slots. -/

def ctx (s : State) (c : Nat) : CtxGate := SMap.get {} s.ctxs c
def setCtx (s : State) (c : Nat) (x : CtxGate) : State := { s with ctxs := SMap.set {} s.ctxs c x }
def updCtx (s : State) (c : Nat) (g : CtxGate → CtxGate) : State := s.setCtx c (g (s.ctx c))
def slot (s : State) (n : Nat) : Slot := SMap.get {} s.slots n
def setSlot (s : State) (n : Nat) (x : Slot) : State := { s with slots := SMap.set {} s.slots n x }
def updSlot (s : State) (n : Nat) (g : Slot → Slot) : State := s.setSlot n (g (s.slot n))

/-- Slots of the request table. -/
def slotTotal : Nat := 262144

/-- Slots a context holds, the duplicate reserve apart (R349). -/
def heldBy (s : State) (c : Nat) : Nat :=
  s.slots.countP (fun e => decide (e.2.state ≠ .free) && !e.2.dup && e.2.hdr.ctx == c)

/-- Slots of the duplicate reserve in use (R341). -/
def dupUsed (s : State) : Nat := s.slots.countP (fun e => decide (e.2.state ≠ .free) && e.2.dup)

/-- VF index p * 1024 + v of a context (R20). -/
def vfOfCtx (c : Nat) : Nat := (c / 512) * 1024 + c % 512 + 1
/-- Context of a VF index (R20). -/
def ctxOfVf (v : Nat) : Nat := (v / 1024) * 512 + v % 1024 - 1

/-! Links and furrows. -/

def link (s : State) (l : Nat) : Link := SMap.get {} s.links l
def setLink (s : State) (l : Nat) (x : Link) : State := { s with links := SMap.set {} s.links l x }
def updLink (s : State) (l : Nat) (g : Link → Link) : State := s.setLink l (g (s.link l))
def furrow (s : State) (f : Nat) : Furrow := SMap.get {} s.furrows f
def setFurrow (s : State) (f : Nat) (x : Furrow) : State := { s with furrows := SMap.set {} s.furrows f x }
def updFurrow (s : State) (f : Nat) (g : Furrow → Furrow) : State := s.setFurrow f (g (s.furrow f))
def conn (s : State) (c : Nat) : Conn := SMap.get {} s.conns c
def setConn (s : State) (c : Nat) (x : Conn) : State := { s with conns := SMap.set {} s.conns c x }
def updConn (s : State) (c : Nat) (g : Conn → Conn) : State := s.setConn c (g (s.conn c))

/-- Whether a link is listed in a furrow's FU_LINKS. -/
def inFurrow (s : State) (f l : Nat) : Bool := s.rbit .fuLinks f l

/-- The furrow that lists a link (R314). -/
def furrowOf (s : State) (l : Nat) : Option Nat := (List.range 8).find? (fun f => s.inFurrow f l)

/-- The ACTIVE links of a furrow. -/
def activeLinks (s : State) (f : Nat) : List Nat :=
  (s.links.filter (fun e => decide (e.2.state = .active) && s.inFurrow f e.1)).map (·.1)

/-- Furrow state: 0 DOWN, 1 UP, 2 DEGRADED (R314). -/
def furrowState (s : State) (f : Nat) : Nat :=
  let n := (s.activeLinks f).length
  if n = 0 then 0 else if n < s.rfld .fuCfg f 21 16 then 2 else 1

/-- FU_CFG.E2E of a furrow, in hub units. -/
def e2e (s : State) (f : Nat) : Nat := s.rfld .fuCfg f 53 38

/-! Connection fields (Table 10-16). -/

def connFurrow (s : State) (c : Nat) : Nat := s.rfld .fuConnCfg c 3 1
def connPeer (s : State) (c : Nat) : Bool := s.rbit .fuConnCfg c 4
def connCtx (s : State) (c : Nat) : Option Nat :=
  if s.rbit .fuConnCfg c 5 then some (s.rfld .fuConnCfg c 15 6) else none
def connEnc (s : State) (c : Nat) : Bool := s.rbit .fuConnCfg c 16
def connRights (s : State) (c : Nat) : Nat := s.rfld .fuConnCfg c 20 17
def connTo (s : State) (c : Nat) : Nat := s.rfld .fuConnCfg c 34 21
def rightMirror : Nat := 0
def rightCode : Nat := 1
def rightRead : Nat := 2
def rightShadow : Nat := 3

/-- The node a connection reaches, where the route table names one (R431). -/
def routeTo (s : State) (c : Nat) : Option Nat :=
  let n := SMap.get 0 s.img.routes c
  if n = 0 then none else some (n - 1)

/-- Whether the module sends requests: in WITHDRAWING and OUT its links carry only responses, events and returned markers
(R463). -/
def sendsRequests (s : State) : Bool := decide (s.rel.svc ≠ .withdrawing) && decide (s.rel.svc ≠ .out)

/-- The OPEN connection that reaches a node, is bound to a context and passes a test (R322, R431), while requests are sent
(R463). -/
def connFor (s : State) (c nodeTo : Nat) (p : Nat → Bool) : Option Nat :=
  (s.conns.find? (fun e => s.sendsRequests && e.1 != 0 && decide (e.2.state = .opn) && s.connCtx e.1 == some c &&
    s.routeTo e.1 == some nodeTo && p e.1)).map (·.1)

/-- The connection for an RMA request to a node with a right (R431). -/
def rmaConn (s : State) (c nodeTo right : Nat) : Option Nat :=
  s.connFor c nodeTo (fun k => (s.connRights k).testBit right && s.connPeer k)

/-- The connection for mirror traffic of a context (R171, R431). -/
def mirrorConn (s : State) (c : Nat) : Option Nat := s.rmaConn c (s.sliceRec (s.sliceOf c)).mirror rightMirror

/-! Reports of the Bursar (R447, R510). -/

/-- Send an EVENT message to every subscribed address. -/
def sendReport (s : State) (e : MEvent) : State :=
  s.power.subs.foldl (fun q a => q.emit (.event a e.eseq e.what)) s

/-- PLDM type 2 monitoring on the I3C port, once the port has an endpoint ID (R447, R511, log entry 185). -/
def sendPldm (s : State) (r : Report) : State :=
  match s.power.eid with
  | some e => if r.ofR447 then s.emit (.pldm e r) else s
  | none => s

/-- The Bursar reports something to management: the report takes the next ESEQ, is sent, and is kept until it is
acknowledged, where it fits (R510). -/
def report (s : State) (r : Report) : State :=
  let e : MEvent := { eseq := s.power.nextEseq, what := r, since := s.power.seconds }
  let s := ({ s with power := { s.power with nextEseq := (s.power.nextEseq + 1) % 2 ^ 32 } } : State).sendPldm r
  if s.power.subs.isEmpty then s
  else if 1024 ≤ s.power.events.length then s.count .brCntEvtUnack 0 1
  else ({ s with power := { s.power with events := s.power.events ++ [e] } }).sendReport e

/-! Predictive counters (Table 15-9). -/

/-- Key of a predictive counter. -/
def predKey (cls index ev : Nat) : Nat := (cls * 64 + index) * 4 + ev

/-- Advance a predictive counter, saturating at 32 bits (R478). -/
def pred (s : State) (cls index ev n : Nat) : State :=
  let k := predKey cls index ev
  { s with rel := { s.rel with
      pred := SMap.set 0 s.rel.pred k (Nat.min (2 ^ 32 - 1) (SMap.get 0 s.rel.pred k + n)) } }

end State

end Sys2Proof.Machine
end

