-- ==== Sys2Proof/Machine/Window.lean ====
section
/-! DEFINITION. Shared operations on interrupts, origin windows and the freeing of slots (chapters 9, 11 and 12). -/

namespace Sys2Proof.Machine

namespace State

/-! Interrupt messages (R362, R378). -/

def vf (s : State) (v : Nat) : Vf := SMap.get {} s.host.vfs v
def setVf (s : State) (v : Nat) (x : Vf) : State := { s with host := { s.host with vfs := SMap.set {} s.host.vfs v x } }
def updVf (s : State) (v : Nat) (g : Vf → Vf) : State := s.setVf v (g (s.vf v))
def hport (s : State) (p : Nat) : HPort := SMap.get {} s.host.ports p
def setHport (s : State) (p : Nat) (x : HPort) : State :=
  { s with host := { s.host with ports := SMap.set {} s.host.ports p x } }

/-- The number of an IDE stream of a port: a selective stream's own, 16 for the link stream (R394). -/
def ideStream (x : Option Nat) : Nat := x.getD 16

/-- Whether an IDE stream of a port is active (R394, Table 12-7). -/
def ideActive (p : HPort) (x : Option Nat) : Bool := p.streams.any (fun e => e.1 == ideStream x)

/-- Start an IDE stream of a port with a key, or stop it (R394). -/
def setIde (s : State) (p : Nat) (x : Option Nat) (key : Option Bytes) : State :=
  s.setHport p { s.hport p with streams := match key with
    | some k => SMap.ins (s.hport p).streams (ideStream x) (fit 32 k)
    | none => (s.hport p).streams.filter (fun e => e.1 != ideStream x) }

/-- Key of an HP counter: port and function (0 for the PF). -/
def hpKey (v : Nat) : Nat := v

/-- A vector of a function. -/
def msixVec (f : MsixFn) (i : Nat) : MsixVec := SMap.get {} f.vecs i

/-- Whether a message of a vector must wait (Table 12-3, third row). -/
def msixBlocked (f : MsixFn) (i : Nat) : Bool := f.fmask || (msixVec f i).masked || !f.bme

/-- Send the message of a vector of function v. -/
def sendMsix (s : State) (v : Nat) (f : MsixFn) (i : Nat) : State :=
  s.emit (.msix (v / 1024) (v % 1024) i (msixVec f i).addr (msixVec f i).data ((s.vf v).tdi == .run))

/-- A message requested for a VF (Table 12-3). -/
def requestMsix (s : State) (v i : Nat) : State :=
  let x := s.vf v
  if x.flr || !x.msix.enable then s.count .hpCntMsixDrop (hpKey v) 1
  else if msixBlocked x.msix i then
    (s.setVf v { x with msix := { x.msix with
      vecs := SMap.set {} x.msix.vecs i { msixVec x.msix i with pending := true } } }).count .hpCntMsixPend (hpKey v) 1
  else s.sendMsix v x.msix i

/-- A message requested on the PF of each port (R448, Table 12-3). -/
def requestPf (s : State) (i : Nat) : State :=
  forUpTo 2 s (fun p q =>
    let x := q.hport p
    if !x.pf.enable then q.count .hpCntMsixDrop (p * 1024) 1
    else if msixBlocked x.pf i then
      (q.setHport p { x with pf := { x.pf with
        vecs := SMap.set {} x.pf.vecs i { msixVec x.pf i with pending := true } } }).count .hpCntMsixPend (p * 1024) 1
    else q.sendMsix (p * 1024) x.pf i)

/-- Set a bit of RS_FAULT: when it rises, PF vector 0 is requested; block faults are reported (R447, R448). -/
def rsFault (s : State) (bit : Nat) : State :=
  let s := if s.rbit .rsFault 0 bit then s else (s.setBit .rsFault 0 bit).requestPf 0
  s.report (.blockFault bit)

/-- Set a bit of PW_FAULT; PF vector 6 is requested when it rises (R504). -/
def pwFault (s : State) (b : Nat) : State := if s.rbit .pwFault 0 b then s else (s.setBit .pwFault 0 b).requestPf 6

/-- Ask for a compute reset (Table 15-2, R458): one asked for while one runs has no effect. -/
def wantReset (s : State) (cause stack pc : Nat) : State :=
  if s.rel.cr = .none ∧ s.rel.wanted.isEmpty then { s with rel := { s.rel with wanted := [⟨cause, stack, pc⟩] } } else s

/-- Raise an interrupt cause of a context: 0 REFUSED, 1 THROTTLED, 2 DRAINED (R362). -/
def raiseIrq (s : State) (c cause : Nat) : State :=
  let v := vfOfCtx c
  if (decide (cause < 2) && !decide ((s.ctx c).state = .opn)) || s.rbit .hgVfIrqCause v cause then s
  else
    let s := s.setBit .hgVfIrqCause v cause
    if s.rbit .hgVfIrq v cause then s.requestMsix v (s.rfld .hgVfIrq v (5 + 3 * cause) (3 + 3 * cause)) else s

/-! Sequences (R292 to R295). -/

/-- The entry of an origin. -/
def origin? (s : State) (o : Nat) : Option Origin := s.origins.find? (fun e => e.node == o)

/-- Replace the entry of an origin. -/
def setOrigin (s : State) (x : Origin) : State :=
  { s with origins := s.origins.map (fun e => if e.node = x.node then x else e) }

/-- The slot, outside the duplicate reserve, that holds a REQ_ID. -/
def slotOfReq (s : State) (o q : Nat) : Option Nat :=
  (s.slots.find? (fun e => decide (e.2.state ≠ .free) && !e.2.dup && e.2.hdr.origin == o && e.2.hdr.seq == q)).map (·.1)

/-- What a sequence is to its origin's window (Table 09-11). -/
inductive SeqClass where
  | noEntry | old | resolved (status : Nat) | inSlot | fresh | ahead
deriving DecidableEq, Repr

/-- Classify a REQ_ID (R293). -/
def classify (s : State) (o q : Nat) : SeqClass :=
  match s.origin? o with
  | none => .noEntry
  | some e =>
    if q + 2048 < e.next then .old
    else if e.next + 2048 ≤ q then .ahead
    else
      match e.done.find? (fun d => d.1 == q) with
      | some d => .resolved d.2
      | none => if (s.slotOfReq o q).isSome then .inSlot else if q < e.next then .resolved stBusy else .fresh

/-- A slot enters stage 4 and takes the next entry number (R296). -/
def enterStage4 (s : State) (n : Nat) : State :=
  let e := s.nextEntry
  { (s.updSlot n (fun x => { x with state := .active, entry := e, prog := .queued })) with nextEntry := e + 1 }

/-- The HELD slot of a REQ_ID. -/
def heldSlot (s : State) (o q : Nat) : Option Nat :=
  (s.slots.find? (fun e => decide (e.2.state = .held) && !e.2.dup && e.2.hdr.origin == o && e.2.hdr.seq == q)).map (·.1)

/-- Whether requests may enter stage 4: no compute reset, activation or withdrawal holds it closed (R454, R462,
R487). -/
def stage4Open (s : State) : Bool :=
  decide (s.rel.cr = .none) && !decide (s.rel.svc = .withdrawing) && !decide (s.rel.svc = .out) && !s.firm.holding

/-- Advance NEXT past resolved sequences, HELD requests it reaches entering stage 4 (R294). -/
def advance : Nat → Nat → State → State
  | 0, _, s => s
  | n + 1, o, s =>
    match s.origin? o with
    | none => s
    | some e =>
      if e.done.any (fun d => d.1 == e.next) then advance n o (s.setOrigin { e with next := e.next + 1 })
      else
        match s.heldSlot o e.next with
        | some k => if s.stage4Open then advance n o ((s.setOrigin { e with next := e.next + 1 }).enterStage4 k) else s
        | none => s

/-- Resolve a sequence with a status (R294); the window keeps the last 2,048 (R293). -/
def resolve (s : State) (o q status : Nat) : State :=
  match s.origin? o with
  | none => s
  | some e =>
    let done := (e.done.filter (fun d => decide (e.next ≤ d.1 + 2048) && d.1 != q)) ++
      (if e.next ≤ q + 2048 then [(q, status)] else [])
    advance 4097 o (s.setOrigin { e with done := done })

/-- Whether a CLOSING context has drained (R360); DRAINED is raised when it has. -/
def checkDrained (s : State) (c : Nat) : State :=
  let g := s.ctx c
  if decide (g.state = .closing) && !g.drained && s.heldBy c == 0 && g.queue.isEmpty then
    (s.setCtx c { g with drained := true }).raiseIrq c 2
  else s

/-- Free a slot, resolving its sequence with its final status (R291). -/
def freeSlot (s : State) (n : Nat) : State :=
  let x := s.slot n
  let s := { s.setSlot n {} with cam := { s.cam with waiting := s.cam.waiting.filter (fun w => w % 2 ^ 18 != n || 2 ^ 19 ≤ w) } }
  let s := if x.dup then s else s.resolve x.hdr.origin x.hdr.seq x.respHdr.status
  s.checkDrained x.hdr.ctx

/-- A carrier of a slot's response has left the node: the slot is freed with the last (R291). `sent` counts those still to
leave. -/
def carrierLeft (s : State) (n : Nat) : State :=
  if (s.slot n).sent ≤ 1 then s.freeSlot n else s.updSlot n (fun x => { x with sent := x.sent - 1 })

end State

end Sys2Proof.Machine
end

