-- ==== Sys2Proof/Machine/Egress.lean ====
section
/-! DEFINITION. What leaves on links: flits, placing on links, egress gates, carriers and events (chapters 10 and 11). -/

namespace Sys2Proof.Machine

namespace State

/-! Forming flits (R309, R310, R317, R318, log entry 17). -/

/-- Fill a data area: bytes taken, what is partly sent, what is left queued, and the items that end in it. -/
def fillFlit : Nat → Option (TxItem × Nat) → List TxItem → Nat → Bytes × Option (TxItem × Nat) × List TxItem × List TxItem
  | 0, cur, q, _ => ([], cur, q, [])
  | n + 1, cur, q, space =>
    match cur, q with
    | some (it, off), q =>
      let left := it.bytes.length - off
      if left ≤ space then
        let r := fillFlit n none q (space - left)
        (it.bytes.drop off ++ r.1, r.2.1, r.2.2.1, it :: r.2.2.2)
      else (sub it.bytes off space, some (it, off + space), q, [])
    | none, [] => ([], none, [], [])
    | none, it :: rest => if space = 0 then ([], none, it :: rest, []) else fillFlit n (some (it, 0)) rest space

/-- Send a flit of a type: every flit an ACTIVE link sends carries FACK, the FSEQ expected next on it (R309, R317). -/
def sendFlit (s : State) (l ft fseq : Nat) (data : Bytes) : State :=
  let k := s.link l
  s.emit (.block l (Flit.block { ft := ft, fseq := fseq, fack := k.rxNext, av := decide (k.state = .active), data := data }))

/-- Send a CTRL message (Table 10-5). -/
def sendCtrl (s : State) (l code : Nat) (fields : List Nat) : State := s.sendFlit l ftCtrl 0 (ctrlData code fields)

/-- Send DATA flits of a link while it has something to send, credit and replay-buffer room (R317, R318). -/
def pumpLink : Nat → Nat → State → State
  | 0, _, s => s
  | n + 1, l, s =>
    let k := s.link l
    if decide (k.state = .active) && decide (0 < k.credit) && decide (k.replay.length < 512) &&
        (k.cur.isSome || !k.queue.isEmpty) then
      let r := fillFlit (2 * k.queue.length + 4) k.cur k.queue 248
      let data := fit 248 r.1
      let s := s.setLink l { k with
        cur := r.2.1, queue := r.2.2.1, credit := k.credit - 1, txNext := (k.txNext + 1) % 4096
        replay := k.replay ++ [{ fseq := k.txNext, data := data, ends := r.2.2.2.map (fun it => { it with slot := none }) }] }
      let s := (s.sendFlit l ftData k.txNext data).count .lkCntFlitTx l 1
      pumpLink n l (r.2.2.2.foldl (fun q it => match it.slot with | some m => q.carrierLeft m | none => q) s)
    else s

/-- Bytes queued at a link. -/
def queuedBytes (k : Link) : Nat :=
  (k.queue.map (fun i => i.bytes.length)).sum + (match k.cur with | some (i, off) => i.bytes.length - off | none => 0)

/-- The ACTIVE link of a furrow with the fewest queued bytes (R315). -/
def leastLoaded (s : State) (f : Nat) : Option Nat :=
  (s.activeLinks f).foldl (fun b l =>
    match b with
    | none => some l
    | some m => if queuedBytes (s.link l) < queuedBytes (s.link m) then some l else some m) none

/-- Whether everything sent on a furrow has been acknowledged (R315). -/
def allAcked (s : State) (f : Nat) : Bool :=
  s.links.all (fun e => !s.inFurrow f e.1 || (e.2.replay.isEmpty && e.2.cur.isNone && e.2.queue.isEmpty &&
    e.2.lost.isEmpty && e.2.lostRest.isEmpty))

/-- Whether an item formed before a number waits in a gate of a furrow. -/
def gatesHold (x : Furrow) (n : Nat) : Bool := x.gates.any (·.any (fun j => decide (j.no < n)))

/-- Place the furrow's waiting items on links, in order (R315). A MARKER or the first carrier under a new key phase waits for
everything formed before it, what a gate holds included. -/
def pumpFurrow : Nat → Nat → State → State
  | 0, _, s => s
  | n + 1, f, s =>
    match (s.furrow f).out with
    | [] => s
    | it :: rest =>
      if it.fence && (gatesHold (s.furrow f) it.no || !s.allAcked f) then s
      else
        match s.leastLoaded f with
        | none => s
        | some l =>
          let s := s.updFurrow f (fun x => { x with out := rest })
          let s := s.updLink l (fun k => { k with queue := k.queue ++ [it] })
          let s := if it.carrier then s.count .fuCntTx f 1 else s
          pumpFurrow n f (pumpLink 512 l s)

/-- Number an item as it is formed. -/
def formItem (s : State) (it : TxItem) : State × TxItem :=
  let n := (s.furrow it.furrow).formed
  (s.updFurrow it.furrow (fun x => { x with formed := n + 1 }), { it with no := n })

/-- An item joins those waiting for a link, before any fence formed after it. -/
def joinOut (l : List TxItem) (it : TxItem) : List TxItem :=
  let before := l.takeWhile (fun j => !(j.fence && decide (it.no < j.no)))
  before ++ it :: l.drop before.length

/-- Hand an item to a furrow. -/
def sendItem (s : State) (it : TxItem) : State :=
  let s := s.updFurrow it.furrow (fun x => { x with out := joinOut x.out it })
  pumpFurrow ((s.furrow it.furrow).out.length + 1) it.furrow s

/-! Egress gates (R355, R356). -/

/-- Whether the first carrier under a new key phase waits elsewhere and was formed before a carrier of its connection, which
then waits for it (R315). -/
def phaseWaits (x : Furrow) (it : TxItem) : Bool :=
  (x.gates.flatten ++ x.out).any (fun j => j.fence && decide (j.conn = it.conn) && decide (j.no < it.no))

/-- Whether a class may start carriers on a furrow: the gate is off, or the current entry opens it. -/
def gateOpen (s : State) (f cls : Nat) : Bool :=
  !s.rbit .hgGateCfg f 0 || s.rbit .hgGateEnt (f * 16 + (s.furrow f).entry) (16 + cls)

/-- The entry of a gate list that follows one. -/
def gateAfter (s : State) (f e : Nat) : Nat := if s.rfld .hgGateCfg f 4 1 ≤ e then 0 else e + 1

/-- Hub cycles of the entries after one in which a class stays open; none where it never closes. -/
def gateRun : Nat → State → Nat → Nat → Nat → Option Nat
  | 0, _, _, _, _ => none
  | n + 1, s, f, cls, e =>
    let e' := s.gateAfter f e
    if s.rbit .hgGateEnt (f * 16 + e') (16 + cls) then
      (gateRun n s f cls e').map (· + 64 * s.rfld .hgGateEnt (f * 16 + e') 15 0)
    else some 0

/-- Whether a carrier may start on a link while `left` hub cycles of the current entry remain: outside the guard band, or where
the fit test passes on the link that R315 chooses, whose queue is the shortest (R356). -/
def gateFits (s : State) (f cls left : Nat) (it : TxItem) : Bool :=
  if s.fitOrWait then
    match gateRun 16 s f cls (s.furrow f).entry, s.leastLoaded f with
    | some run, some l =>
      decide ((ceilDiv (queuedBytes (s.link l)) 248 + ceilDiv it.bytes.length 248 + 1) * 1024 ≤ (left + run) * 100)
    | _, _ => true
  else s.rbit .hgGateEnt (f * 16 + s.gateAfter f (s.furrow f).entry) (16 + cls) || decide (192 < left)

/-- Hub cycles of the current entry that remain at a moment no command marks: a free value within the entry's DURATION (log entry
182). -/
def gateLeft (s : State) (f : Nat) : Nat :=
  let d := 64 * s.rfld .hgGateEnt (f * 16 + (s.furrow f).entry) 15 0
  if d = 0 then 0 else Config.gateLeft s.fresh % d + 1

/-- Send the carriers of a class that its gate lets start, in order (R356): each starts once a link is ACTIVE and nothing formed
before it waits for one. `start` says that the current entry begins now. -/
def pumpGate : Nat → Bool → Nat → Nat → State → State
  | 0, _, _, _, s => s
  | n + 1, start, f, cls, s =>
    match getAt [] (s.furrow f).gates cls with
    | [] => s
    | it :: rest =>
      if s.gateOpen f cls && !phaseWaits (s.furrow f) it && (s.leastLoaded f).isSome &&
          !(s.furrow f).out.any (fun j => decide (j.no < it.no)) then
        let gated := s.rbit .hgGateCfg f 0
        let left := if start then 64 * s.rfld .hgGateEnt (f * 16 + (s.furrow f).entry) 15 0 else s.gateLeft f
        let s := if gated && !start then s.tick else s
        if !gated || s.gateFits f cls left it then
          let s := s.updFurrow f (fun x => { x with gates := setAt x.gates cls rest })
          pumpGate n start f cls (s.sendItem it)
        else s
      else s

/-- Send again whatever a furrow, its links and its gates can now send. -/
def pump (s : State) (f : Nat) : State :=
  let s := (s.activeLinks f).foldl (fun q l => pumpLink 512 l q) s
  let s := pumpFurrow ((s.furrow f).out.length + 1) f s
  forUpTo 4 s (fun c q => pumpGate ((getAt [] (q.furrow f).gates c).length + 1) false f c q)

/-- Hand a carrier of a class to its furrow's gate. -/
def sendGated (s : State) (cls : Nat) (it : TxItem) : State :=
  let waits := !s.gateOpen it.furrow cls || !(getAt [] (s.furrow it.furrow).gates cls).isEmpty
  let s := if waits then s.count .hgGateCntWait it.furrow 1 else s
  let s := s.updFurrow it.furrow (fun x =>
    { x with gates := setAt x.gates cls (getAt [] x.gates cls ++ [it]) })
  pumpGate ((getAt [] (s.furrow it.furrow).gates cls).length + 1) false it.furrow cls s

/-! Carriers of a connection (R310, R323, R324). -/

/-- The key of a phase: a job slot plus one, 0 for none. -/
def phaseKey (k : Conn) (kp : Nat) : Nat := if kp = 0 then k.key0 else k.key1

/-- The image in a firmware slot, and that of the running slot. -/
def fwSlot (s : State) (n : Nat) : FwSlot := if n = 0 then s.firm.slot0 else s.firm.slot1
def running (s : State) : FwSlot := s.fwSlot s.firm.run

/-- A job slot of the Mint (R408). -/
def job (s : State) (n : Nat) : Job := SMap.get {} s.mint.jobs n

/-- The job key a phase holds, as a number; 0 for none. -/
def keyNum (k : Conn) (kp : Nat) : Nat := if kp = 0 then k.kn0 else k.kn1

/-- The key a number stands for. -/
def jobBytes (n : Nat) : Bytes := leBytes 32 (n - 1)

/-- The 96-bit IV of a carrier: its counter, the sender's own connection number and the sender's ORIGIN (R323). -/
def carrierIv (ctr conn origin : Nat) : Bytes := leBytes 12 (ctr % 2 ^ 64 + place 64 (conn % 2 ^ 14) + place 78 (origin % 2 ^ 16))

/-- The 16-byte envelope of a carrier (Table 10-3). -/
def envelope (dst : Nat) (enc : Bool) (kp len ctr : Nat) : Bytes :=
  leBytes 8 (1 + place 2 dst + place 16 (bnat enc) + place 17 kp + place 18 len) ++ leBytes 8 ctr

/-- The bytes of one carrier on a connection: envelope, header, segment sealed where the connection encrypts. -/
def carrierBytes (s : State) (c : Nat) (h : Hdr) (seg : Bytes) : Bytes :=
  let k := s.conn c
  let enc := s.connEnc c
  let env := envelope (s.connTo c) enc k.kp seg.length k.ctr
  let aad := env ++ h.toBytes
  aad ++ (if enc then Aes.gcmSeal (jobBytes (keyNum k k.kp)) (carrierIv k.ctr c s.node) aad seg else seg)

/-- Whether a connection may send now: it is OPEN, or CLOSING with requests of its own outstanding (R337), its counter has not
run out (R324), and one that encrypts holds a key (R410). -/
def maySend (s : State) (c : Nat) : Bool :=
  let k := s.conn c
  (decide (k.state = .opn) || (decide (k.state = .closing) && !k.outs.isEmpty)) && decide (k.ctr < 2 ^ 64) && (!s.connEnc c || phaseKey k k.kp != 0)

/-- Send one carrier on a connection in an egress class (`none`: never gated), for a slot's response or none. -/
def sendCarrier (s : State) (c : Nat) (cls : Option Nat) (fence : Bool) (slot : Option Nat) (h : Hdr) (seg : Bytes) : State :=
  if s.maySend c then
    let h := { h with gen := (s.furrow (s.connFurrow c)).gen }
    let it : TxItem :=
      { bytes := s.carrierBytes c h seg, furrow := s.connFurrow c, conn := c, carrier := true, slot := slot
        fence := fence || (s.conn c).fenceNext, since := s.hubUnits }
    let num := keyNum (s.conn c) (s.conn c).kp
    let s := s.updConn c (fun k => { k with
      ctr := k.ctr + 1, fenceNext := false,
      usedKeys := if num = 0 ∨ k.usedKeys.contains num then k.usedKeys else num :: k.usedKeys })
    let r := s.formItem it
    match cls with
    | some g => r.1.sendGated g r.2
    | none => r.1.sendItem r.2
  else
    match slot with
    | some n => s.carrierLeft n
    | none => s

/-- How many carriers a payload takes on a link (R273). -/
def carriersOf (len : Nat) : Nat := Nat.max 1 (ceilDiv len 4096)

/-- Send a payload as carriers of at most 4,096 bytes (R273, R289). -/
def sendPayload (s : State) (c : Nat) (cls : Option Nat) (slot : Option Nat) (h : Hdr) (body : Bytes) : State :=
  forUpTo (carriersOf body.length) s (fun i q =>
    q.sendCarrier c cls false slot { h with offset := i * 4096, total := body.length } (sub body (i * 4096) 4096))

/-! Events (R333). -/

/-- Event codes (Table 10-11). -/
def evLinkDown : Nat := 1
def evLinkUp : Nat := 2
def evDegraded : Nat := 3
def evConnFail : Nat := 4
def evResetBegin : Nat := 5
def evResetEnd : Nat := 6
def evWithdraw : Nat := 7
def evSiltDown : Nat := 8
def evThermal : Nat := 9
def evPowerFail : Nat := 10

/-- Send an event on one furrow (R333). -/
def sendEvent (s : State) (f code arg : Nat) : State :=
  let e := (s.furrow f).eseq
  let bs := leBytes 8 (2 + place 2 code + place 10 e) ++ leBytes 8 arg
  let s := s.updFurrow f (fun x => { x with eseq := (e + 1) % 65536 })
  let r := s.formItem { bytes := bs, furrow := f, carrier := false, since := s.hubUnits }
  (r.1.sendItem r.2).count .fuCntEvtTx f 1

/-- Send an event on every furrow that is UP or DEGRADED (R333). -/
def broadcast (s : State) (code arg : Nat) : State :=
  forUpTo 8 s (fun f q => if q.furrowState f = 0 then q else q.sendEvent f code arg)

end State

end Sys2Proof.Machine
end

