-- ==== Sys2Proof/Machine/Fabric.lean ====
section
/-! DEFINITION. Shared operations on requests: responses, sequences, slots, interrupts, RMA requests of the module's
own, markers (chapters 9 to 12). -/

namespace Sys2Proof.Machine

namespace State

/-! Responses (R272, R276, R289). -/

/-- The header of the response to a request (R272). -/
def respHdrOf (s : State) (h : Hdr) (reissued : Bool) (kind status total : Nat) : Hdr :=
  { gen := h.gen, kind := kind, ctx := h.ctx, flags := place flagReissued (bnat reissued), epoch := s.img.epoch,
    status := status, origin := h.origin, seq := h.seq, conv := h.conv, layer := h.layer, kvh := h.kvh,
    offset := 0, total := total }

/-- Send a response toward its requester: carriers on the connection, or a block for the host's ring. -/
def sendResponse (s : State) (src : Src) (h : Hdr) (body : Bytes) (slot : Option Nat) : State :=
  match src with
  | .conn c =>
    if (s.conn c).state = .opn then s.sendPayload c (some (s.rfld .hgCtxArb h.ctx 9 8)) slot h body
    else
      match slot with
      | some n => s.freeSlot n
      | none => s
  | .aperture v =>
    { s with host := { s.host with
        rspq := s.host.rspq ++ [{ vf := v, hdr := h, body := body, slot := slot, since := s.hubUnits }] } }

/-- Answer a request that holds no slot: header only, its sequence resolved (R276, R342). -/
def refuse (s : State) (src : Src) (h : Hdr) (status : Nat) : State :=
  let s := s.sendResponse src (s.respHdrOf h false (h.kind + 0x20) status 0) [] none
  let s := s.count .rqCntResp 0 1
  let s := if status = stQuota then s.raiseIrq h.ctx 0 else s
  s.resolve h.origin h.seq status

/-- Form the response of a slot: it takes effect if it has not, and goes to RESPOND (R291, R296). -/
def complete (s : State) (n status : Nat) (body : Bytes) : State :=
  let x := s.slot n
  let b := if status = stDone then body else []
  let s := if status = stEpochStale then s.count .rqCntStale 0 1 else s
  s.setSlot n { x with
    state := .respond, taken := true, formed := true, resp := b, sent := 0
    respHdr := s.respHdrOf x.hdr x.reissued (x.hdr.kind + 0x20) status b.length }

/-- Form an ECHO as the response of a slot (R297, R301). -/
def completeEcho (s : State) (n status : Nat) : State :=
  let x := s.slot n
  s.setSlot n { x with
    state := .respond, taken := true, formed := true, resp := [], sent := 0
    respHdr := s.respHdrOf x.hdr x.reissued kEcho status 0 }

/-! Charges and slots (11.2 to 11.4). -/

/-- The charge of a request (R343). -/
def charge (s : State) (h : Hdr) : Nat :=
  s.rfld .hgOvh 0 (8 * (h.kind - 1) + 7) (8 * (h.kind - 1)) + ceilDiv h.total 256

/-- BURST of a context, in 256ths of a unit. -/
def burst (s : State) (c : Nat) : Nat := s.rfld .hgBktBurst c 31 0 * 256
/-- Whether a context is not shaped (R346). -/
def unlim (s : State) (c : Nat) : Bool := s.rbit .hgBktRate c 32
/-- TOKENS of a context as software and the headgate see it (R346). -/
def tokens (s : State) (c : Nat) : Nat := if s.unlim c then s.burst c else (s.ctx c).tokens

/-- Whether the bucket can pay a charge (R347). -/
def canPay (s : State) (c ch : Nat) : Bool :=
  s.unlim c || decide (ch * 256 ≤ s.tokens c) || (s.tokens c == s.burst c && decide (s.burst c < ch * 256))

def minSlots (s : State) (c : Nat) : Nat := s.rfld .hgCtxSlots c 18 0
def maxSlots (s : State) (c : Nat) : Nat := s.rfld .hgCtxSlots c 37 19

/-- The sum of every context's MIN. -/
def sumMin (s : State) : Nat := ((List.range 1024).map s.minSlots).sum

/-- Slots of the shared pool in use: each context's beyond its MIN. -/
def sharedUsed (s : State) : Nat := ((List.range 1024).map (fun c => s.heldBy c - s.minSlots c)).sum

/-- Free slots of the shared pool (R349). -/
def sharedFree (s : State) : Nat := slotTotal - s.rfld .hgCfg 0 17 0 - s.sumMin - s.sharedUsed

/-- Whether a slot is available to a context (R349). -/
def slotAvailable (s : State) (c : Nat) : Bool :=
  let h := s.heldBy c
  decide (h < s.minSlots c) || (decide (h < s.maxSlots c) && decide (0 < s.sharedFree))

/-- The lowest FREE slot (log entry 11). -/
def freeSlotNo (s : State) : Option Nat := SMap.firstGap s.slots 0 slotTotal

/-- All requests waiting in admission queues. -/
def queuedTotal (s : State) : Nat := (s.ctxs.map (fun e => e.2.queue.length)).sum

/-! RMA requests of the module's own (R326, R331). -/

/-- Send an RMA request on a connection and keep it outstanding. -/
def rmaSend (s : State) (c kind : Nat) (mirror : Bool) (conv layer kvh : Nat) (d : RmaDesc) (body : Bytes)
    (use : RmaUse) : State :=
  let k := s.conn c
  let b := d.toBytes ++ body
  let h : Hdr :=
    { kind := kind, ctx := (s.connCtx c).getD 0, flags := place flagMirror (bnat mirror), epoch := s.img.epoch,
      origin := s.node, seq := k.txseq, conv := conv, layer := layer, kvh := kvh, total := b.length }
  let o : RmaOut := { seq := k.txseq, hdr := h, body := b, use := use, since := s.hubUnits }
  let s := s.setConn c { k with txseq := k.txseq + 1, outs := k.outs ++ [o] }
  s.sendPayload c (some 3) none h b

/-- A carrier that arrives in OUT is discarded and counted (R463). -/
def unlessOut (s t : State) : State := if s.rel.svc = .out then s.count .rsDropOut 0 1 else t

/-! Markers (R302, R315, R530, R531). -/

/-- Whether a furrow is trained (R531); connection 0 is none (R320). -/
def trained (s : State) (f : Nat) : Bool :=
  s.rbit .fuCfg f 54 && s.rfld .fuCtrl f 13 0 != 0 && decide ((s.conn (s.rfld .fuCtrl f 13 0)).state = .opn)

/-- The header of a marker of the module's own (R530). -/
def markerHdr (s : State) : Hdr := { kind := kMarker, epoch := s.img.epoch, origin := s.node, total := 16 }

/-- Send a marker on a connection (R530), behind everything sent before it on the furrow (R315). -/
def sendMarkerOn (s : State) (c mtype arg : Nat) : State :=
  let m : SentMarker := { conn := c, furrow := s.connFurrow c, mtype := mtype, arg := arg, since := s.hubUnits }
  let t : State := { s with sentMarkers := s.sentMarkers ++ [m] }
  if s.sendsRequests then t.sendCarrier c none true none s.markerHdr (markerBody mtype arg) else t

/-- Send a marker that has not returned again, once the end-to-end limit of the furrow that carried it has passed and its
connection is OPEN (R299). -/
def resendMarker (s : State) (i : Nat) : State :=
  let m : SentMarker := getAt {} s.sentMarkers i
  if s.sendsRequests ∧ i < s.sentMarkers.length ∧ m.since + s.e2e m.furrow ≤ s.hubUnits ∧ (s.conn m.conn).state = .opn then
    let m' : SentMarker := { m with furrow := s.connFurrow m.conn, since := s.hubUnits }
    ({ s with sentMarkers := setAt s.sentMarkers i m' } : State).sendCarrier m.conn none true none s.markerHdr
      (markerBody m.mtype m.arg)
  else s

/-- Send a marker on a furrow's control connection. -/
def sendMarker (s : State) (f mtype arg : Nat) : State := s.sendMarkerOn (s.rfld .fuCtrl f 13 0) mtype arg

/-- Return a held marker on the connection or aperture it came by: kind 0x2A, header and body repeated (R530). -/
def returnMarker (s : State) (m : HeldMarker) : State :=
  let h := { m.hdr with kind := kMarker + 0x20 }
  match m.src with
  | .conn c => if (s.conn c).state = .opn then s.sendCarrier c none true none h m.body else s
  | .aperture _ => s.sendResponse m.src h m.body none

end State

end Sys2Proof.Machine
end

