-- ==== Sys2Proof/Machine/Keccak.lean ====
section
/-! DEFINITION. Keccak-f[1600] and SHAKE256 (FIPS 202), which the seal tag, the image tag, the Mint and KRND use (R9,
R152, R200, R402, R437). A state is one number of 1,600 bits, lane (x, y) at bits 64 (x + 5y) and up, so that a plane y
is a field of 320 bits. -/

namespace Sys2Proof.Keccak

/-- The low 320 bits of a number. -/
def cut (p : Nat) : Nat := p % 2 ^ 320

/-- Plane y of a state. -/
def plane (s y : Nat) : Nat := cut (s >>> (320 * y))

/-- A plane with lane x + k moved to lane x. -/
def lanesDown (k p : Nat) : Nat := cut (p >>> (64 * k) ||| p <<< (320 - 64 * k))

/-- The number with bit 0 of every lane of a plane set. -/
def laneOnes : Nat := 1 + 2 ^ 64 + 2 ^ 128 + 2 ^ 192 + 2 ^ 256

/-- A plane with every lane rotated left by one bit. -/
def lanesLeft (p : Nat) : Nat :=
  (cut (p <<< 1) &&& (2 ^ 320 - 1 - laneOnes)) ||| ((p >>> 63) &&& laneOnes)

/-- Five planes as a state. -/
def ofPlanes (f : Nat → Nat) : Nat := (upTo 5).foldl (fun acc y => acc ||| f y <<< (320 * y)) 0

/-- Theta: every column takes the parity of the column before it and, rotated, of the one after it. -/
def theta (s : Nat) : Nat :=
  let c := (upTo 5).foldl (fun acc y => acc ^^^ plane s y) 0
  let d := lanesDown 4 c ^^^ lanesLeft (lanesDown 1 c)
  s ^^^ ofPlanes (fun _ => d)

/-- A lane rotated left. -/
def rotLane (w n : Nat) : Nat := (w <<< n ||| w >>> (64 - n)) % 2 ^ 64

/-- Rho and pi along the walk (x, y) to (y, 2x + 3y) from (1, 0): the lane met at step t, rotated by (t+1)(t+2)/2, goes
to the place met at step t + 1. -/
def walk (s : Nat) : Nat → Nat → Nat → Nat → Nat → Nat
  | 0, _, _, _, acc => acc
  | n + 1, t, x, y, acc =>
    let v := (2 * x + 3 * y) % 5
    let w := (s >>> (64 * (x + 5 * y))) % 2 ^ 64
    walk s n (t + 1) y v (acc ||| rotLane w ((t + 1) * (t + 2) / 2 % 64) <<< (64 * (y + 5 * v)))

/-- Rho and pi; lane (0, 0) stays. -/
def rhoPi (s : Nat) : Nat := walk s 24 0 1 0 (s % 2 ^ 64)

/-- Chi, plane by plane. -/
def chi (s : Nat) : Nat :=
  ofPlanes (fun y =>
    let p := plane s y
    p ^^^ ((2 ^ 320 - 1 - lanesDown 1 p) &&& lanesDown 2 p))

/-- One step of the shift register that gives the bits of the round constants. -/
def lfsr (r : Nat) : Nat := if r < 128 then 2 * r else (2 * r) % 256 ^^^ 0x71

/-- The constant of a round from the register's value at its start: bit j of the seven it gives goes to bit 2^j - 1. -/
def constant : Nat → Nat → Nat → Nat
  | 0, _, _ => 0
  | n + 1, j, r => (r % 2) <<< (2 ^ j - 1) ||| constant n (j + 1) (lfsr r)

/-- The register's value after n steps. -/
def lfsrAt : Nat → Nat → Nat
  | 0, r => r
  | n + 1, r => lfsrAt n (lfsr r)

/-- One round, by the register's value at its start. -/
def roundAt (r s : Nat) : Nat := chi (rhoPi (theta s)) ^^^ constant 7 0 r

/-- Round n of Keccak-f[1600]. -/
def round (n s : Nat) : Nat := roundAt (lfsrAt (7 * (n % 24)) 1) s

/-- n rounds, by the register's value at the start of the first. -/
def rounds : Nat → Nat → Nat → Nat
  | 0, _, s => s
  | n + 1, r, s => rounds n (lfsrAt 7 r) (roundAt r s)

/-- Keccak-f[1600]. -/
def permute (s : Nat) : Nat := rounds 24 1 s

/-- Absorb n blocks of r bytes of a padded message, its first byte lowest. -/
def absorb (r : Nat) : Nat → Nat → Nat → Nat
  | 0, _, s => s
  | n + 1, m, s => absorb r n (m >>> (8 * r)) (permute (s ^^^ m % 2 ^ (8 * r)))

/-- Squeeze n blocks of r bytes. -/
def squeeze (r : Nat) : Nat → Nat → Bytes
  | 0, _ => []
  | n + 1, s => leBytes r s ++ squeeze r n (permute s)

/-- The sponge of rate r bytes whose padding begins with the bits of e, n bytes of output. -/
def sponge (r e : Nat) (m : Bytes) (n : Nat) : Bytes :=
  let k := m.length / r + 1
  let p := leNat m ||| e <<< (8 * m.length)
  (squeeze r (ceilDiv n r) (absorb r k (p ^^^ 2 ^ (8 * r * k - 1)) 0)).take n

/-- SHAKE256 of a message, n bytes of output. -/
def shake256 (m : Bytes) (n : Nat) : Bytes := sponge 136 0x1F m n

/-- SHAKE128, which ML-KEM expands its matrix with (FIPS 203). -/
def shake128 (m : Bytes) (n : Nat) : Bytes := sponge 168 0x1F m n

/-- SHA3-256, H of ML-KEM (FIPS 203). -/
def sha3x256 (m : Bytes) : Bytes := sponge 136 0x06 m 32

/-- SHA3-512, G of ML-KEM (FIPS 203). -/
def sha3x512 (m : Bytes) : Bytes := sponge 72 0x06 m 64

end Sys2Proof.Keccak
end

