-- ==== Sys2Proof/Machine/Records.lean ====
section
/-! DEFINITION. Changes to conversations: pages taken, rows staged and accepted, commit and rollback, sealing and
mirroring, as chapters 1 and 5 give them. -/

namespace Sys2Proof.Machine

namespace State

def updStore (s : State) (g : Store → Store) : State := { s with store := g s.store }

/-- Key of a pseudo-channel's counters is its number. A PG fault: its bit, its cause, its address (R176). -/
def pgFault (s : State) (pc cause addr : Nat) : State :=
  let s := (s.setBit .pgFault (pc / 64) (pc % 64)).rsFault 1
  s.setReg .pgFaultCause (pc / 64) (wordOf (pc % 64 + place 6 cause + place 10 addr))

/-! Vendor stations (R182). -/

/-- The sluice core of a page: that of the bank pair that holds its stub or summary slot (R129). -/
def coreOf (s : State) (p : Nat) : Nat := pagePc p * 16 + (s.store.pent p).frame % 16

def vendor (s : State) (c : Nat) : Vendor := SMap.get {} s.sluice.vendors c
def setVendor (s : State) (c : Nat) (v : Vendor) : State :=
  { s with sluice := { s.sluice with vendors := SMap.set {} s.sluice.vendors c v } }
def updVendor (s : State) (c : Nat) (g : Vendor → Vendor) : State := s.setVendor c (g (s.vendor c))

/-- Give a vendor station a command, or wait while its queue of 4 is full. -/
def askCore (s : State) (c : Nat) (j : VJob) : State :=
  let v := s.vendor c
  let j := { j with core := c }
  if v.queue.length < 4 then s.setVendor c { v with queue := v.queue ++ [j], st := .run }
  else { s with sluice := { s.sluice with vjobs := s.sluice.vjobs ++ [j] } }

/-- Give the vendor station of a page's core a command. -/
def ask (s : State) (j : VJob) : State := s.askCore (s.coreOf j.page) j

/-- Commands that wait enter a queue that has room, the earliest first. -/
def refill (c : Nat) : Nat → State → State
  | 0, s => s
  | n + 1, s =>
    match s.sluice.vjobs.findIdx? (fun j => j.core == c) with
    | none => s
    | some i =>
      let w := s.sluice.vjobs
      if (s.vendor c).queue.length < 4 then
        refill c n (({ s with sluice := { s.sluice with vjobs := w.take i ++ w.drop (i + 1) } } : State).askCore c
          (getAt {} w i))
      else s

/-- The commands that a test fails leave a vendor station's queue; it is READY when none is left. Where the command in
progress goes, a SCRUB step that waited for it has its turn (R182). -/
def keepVjobs (s : State) (c : Nat) (keep : VJob → Bool) : State :=
  let v := s.vendor c
  let q := v.queue.filter keep
  if q = v.queue then s
  else
    let turn := v.turn || (decide (q.head? ≠ v.queue.head?) && !v.due.isEmpty)
    refill c 4 (s.setVendor c { v with queue := q, st := if q.isEmpty then .ready else .run, turn := turn })

/-- Withdraw vendor commands everywhere. -/
def dropVjobs (s : State) (drop : VJob → Bool) : State :=
  let s := { s with sluice := { s.sluice with vjobs := s.sluice.vjobs.filter (fun j => !drop j) } }
  s.sluice.vendors.foldl (fun q e => q.keepVjobs e.1 (fun j => !drop j)) s

/-- Every command given and not ended, in the order of each station. -/
def allVjobs (s : State) : List VJob := s.sluice.vendors.flatMap (fun e => e.2.queue) ++ s.sluice.vjobs

/-- The command in progress: the oldest of its station, of a program and page. While the vendor halves are not loaded no
station runs one (R181). -/
def vjobFor (s : State) (prog : VProg) (p : Nat) : Option VJob :=
  if s.sluice.vload.isNone then none
  else s.sluice.vendors.findSome? (fun e => match e.2.queue with
    | j :: _ => if j.prog = prog ∧ j.page = p then some j else none
    | [] => none)

/-- The command in progress of a station has ended; a SCRUB step that waited for it has its turn (R182). -/
def vpop (s : State) (c : Nat) : State :=
  let v := s.vendor c
  let q := v.queue.drop 1
  refill c 4 (s.setVendor c { v with queue := q, st := if q.isEmpty then .ready else .run, turn := !v.due.isEmpty })

/-- The command in progress is given again, behind those that wait: what it reads is first restored (R197). -/
def vagain (s : State) (j : VJob) : State := (s.vpop j.core).ask j

/-! Reads and writes as the memory controller reports them (R160 to R163, R412). -/

/-- Upsets of words of a pseudo-channel: the word's number and how many of its bytes went wrong, 0 for its address. -/
def upsets (s : State) (pc : Nat) (us : List (Nat × Nat)) : State :=
  s.updStore (fun st => us.foldl (fun t u => t.upset (gaddr pc 0 / 32 + u.1) u.2) st)

/-- Corrected words are written back and counted (R163, Table 15-9). -/
def correct (s : State) (pc : Nat) (ws : List Nat) : State :=
  let ce := ws.filter (fun w => decide (s.store.wordErr w = .oneByte))
  if ce.isEmpty then s
  else ((s.updStore (fun st => ce.foldl (fun t w => t.setErr w .clean) st)).count .pgCntCe pc ce.length).pred 1
    (pc / 64) 0 ce.length

/-- Uncorrectable reads are counted (R163, Table 15-9). -/
def countUe (s : State) (pc n : Nat) : State := if n = 0 then s else (s.count .pgCntUe pc n).pred 1 (pc / 64) 1 n

/-- A read of some words of a pseudo-channel: corrected words are written back, and the answer says whether the reader is
told of an uncorrectable word (R163). -/
def readWords (s : State) (pc : Nat) (ws : List Nat) : State × Bool :=
  let ws := (ws.filter (fun w => decide (s.store.wordErr w ≠ .clean))).dedup
  let n := ws.countP s.store.wordBad
  ((s.correct pc ws).countUe pc n, decide (0 < n))

/-- A read of some regions of a pseudo-channel. -/
def senseWords (s : State) (pc : Nat) (rs : List (Nat × Nat)) : State × Bool :=
  s.readWords pc (rs.flatMap (fun r => Store.words (gaddr pc r.1) r.2))

/-- A read under a key: one that names an empty key slot moves no data and is counted (R412). -/
def senseUnder (s : State) (key pc : Nat) (rs : List (Nat × Nat)) : State × Bool :=
  if key = 0 then (s.count .mtCntNokey 0 1, true) else s.senseWords pc rs

/-- A read of some regions under the key of the context that owns them. -/
def sense (s : State) (pc : Nat) (rs : List (Nat × Nat)) : State × Bool :=
  if rs.any (fun r => decide (0 < r.2) && s.store.noKey pc r.1) then (s.count .mtCntNokey 0 1, true)
  else s.senseWords pc rs

/-- The regions of a page's coded payload: extent and stub bytes 0x040 to 0x7FF. -/
def payloadRegions (s : State) (p : Nat) : List (Nat × Nat) :=
  let e := s.store.pent p
  [(frameAddr e.frame, extentBytes e.wide), (stubAddr e.frame + 0x40, 0x7C0)] ++
    (if e.wide then [(stubAddr (e.frame + 1) + 0x40, 0x7C0)] else [])

/-- A read of a page's payload; one that lies in silt only is read from its cell. -/
def sensePage (s : State) (p : Nat) : State × Bool :=
  if s.store.inDram p then s.sense (pagePc p) (s.payloadRegions p) else (s, false)

/-- Write bytes under a key. A word written in part is read first, and one that cannot be corrected is poisoned and counted
(R162, R163); under no key the write is refused and counted (R412). The answer says whether the write is reported as
failed. -/
def tryWrite (s : State) (key pc a : Nat) (b : Bytes) : State × Bool :=
  if key = 0 then (s.count .mtCntNokey 0 1, true)
  else
    let r := s.readWords pc (Store.partWords pc a b.length)
    ((r.1.count .pgCntPoison pc (s.store.poisons pc a b.length)).updStore (fun st => st.writeUnder key pc a b), r.2)

/-- A write whose failure its writer has no use for. -/
def writeKey (s : State) (key pc a : Nat) (b : Bytes) : State := (s.tryWrite key pc a b).1

/-- Write bytes under the key of the context that owns them. -/
def writeAt (s : State) (pc a : Nat) (b : Bytes) : State := s.writeKey (s.store.key (s.store.slotAt pc a)) pc a b

/-- The words that rows from an index lie in. -/
def rowWords (s : State) (p kvfmt dim j n : Nat) : List Nat :=
  let pc := pagePc p
  let f := s.store.frameOf p
  let rb := rowBytes kvfmt dim
  let c := scaleBytes kvfmt dim
  let ws (a k : Nat) : List Nat := Store.words (gaddr pc a) k
  (List.range n).flatMap (fun i =>
    ws (frameAddr f + keyOff kvfmt dim (j + i)) rb ++ ws (frameAddr f + valOff kvfmt dim (j + i)) rb ++
    ws (keyScaleAddr f dim (j + i)) c ++ ws (valScaleAddr f dim (j + i)) c)

/-- The words that rows from an index cover only in part. -/
def rowParts (s : State) (p kvfmt dim j n : Nat) : List Nat :=
  let pc := pagePc p
  let f := s.store.frameOf p
  let rb := rowBytes kvfmt dim
  let c := scaleBytes kvfmt dim
  (List.range n).flatMap (fun i =>
    Store.partWords pc (frameAddr f + keyOff kvfmt dim (j + i)) rb ++
    Store.partWords pc (frameAddr f + valOff kvfmt dim (j + i)) rb ++
    Store.partWords pc (keyScaleAddr f dim (j + i)) c ++ Store.partWords pc (valScaleAddr f dim (j + i)) c)

/-- Whether a write of rows would be reported as failed (R162). -/
def rowsFail (s : State) (p kvfmt dim j n : Nat) : Bool := (s.rowParts p kvfmt dim j n).any s.store.wordBad

/-- Write rows of a page from an index: words written in part are read first, and those that cannot be corrected are
poisoned and counted (R162, R163). -/
def putRows (s : State) (p kvfmt dim j : Nat) (rows : List Store.Row) : State :=
  if s.store.noKey (pagePc p) (frameAddr (s.store.frameOf p)) then s.count .mtCntNokey 0 1
  else
    let n := s.store.rowsPoisons p kvfmt dim j rows
    ((s.readWords (pagePc p) (s.rowParts p kvfmt dim j rows.length)).1.count .pgCntPoison (pagePc p) n).updStore
      (fun st => st.writeRows p kvfmt dim j rows)

/-- A page was taken for a context: its zero fill under an empty key slot is refused and counted (R412). -/
def noteFill (s : State) (c : Nat) : State := if s.store.key c = 0 then s.count .mtCntNokey 0 1 else s

/-- The mirror connection and partner: send an RMA write of MIRROR right for a context. -/
def mirrorSend (s : State) (c conv layer kvh : Nat) (d : RmaDesc) (body : Bytes) (use : RmaUse) : Option State :=
  (s.mirrorConn c).map (fun k => s.rmaSend k kRmaWrite true conv layer kvh d body use)

/-- RMA operation codes (Table 10-9). -/
def opMopen : Nat := 1
def opMrows : Nat := 2
def opMstate : Nat := 3
def opMpage : Nat := 4
def opCode : Nat := 5
def opPut : Nat := 6
def opLookup : Nat := 1
def opGet : Nat := 2
def opLedger : Nat := 3
def formNone : Nat := 0
def formRef : Nat := 1
def formStream : Nat := 2
def formNew : Nat := 3

/-- Keep a change the partner has not confirmed, to be sent again (R536). -/
def keepUnsent (s : State) (c conv layer kvh : Nat) (d : RmaDesc) (body : Bytes) : State :=
  { s with unsent := s.unsent ++ [{ ctx := c, conv := conv, layer := layer, kvh := kvh, desc := d, body := body }] }

/-- A change the partner must hear of before the response of slot n leaves (R171): sent, or kept to be sent again
when no connection is OPEN (R536). -/
def mirrorChange (s : State) (n : Option Nat) (c conv layer kvh : Nat) (d : RmaDesc) (body : Bytes) : State :=
  let use : RmaUse := match n with | some k => .slot k | none => .none
  match s.mirrorSend c conv layer kvh d body use with
  | some t => match n with
      | some k => t.updSlot k (fun x => { x with waits := x.waits + 1 })
      | none => t
  | none => s.keepUnsent c conv layer kvh d body

/-- Have the partner free its copy of a page, by the reference it gave or by what a LOOKUP of the page's first position
gives (R153, R328, R332). A slot waits for it. -/
def freeCopy (s : State) (n : Option Nat) (r : Root) (layer kvh firstpos : Nat) (ref : CopyRef) : State :=
  let look : RmaDesc := { op := opLookup, form := formStream, grp := r.group, firstpos := firstpos }
  let s := match n with
    | some k => s.updSlot k (fun x => { x with waits := x.waits + 1 })
    | none => s
  match s.mirrorConn r.ctx with
  | none =>
    let s := { s with unsent := s.unsent ++ [{ ctx := r.ctx, conv := r.conv, layer := layer, kvh := kvh, desc := look,
                                               use := .lookFree none firstpos }] }
    match n with
    | some k => s.updSlot k (fun x => { x with waits := x.waits - 1 })
    | none => s
  | some k =>
    if ref.live then
      s.rmaSend k kRmaWrite true r.conv layer kvh
        { op := opMstate, form := formRef, grp := r.group, page := ref.page, gen := ref.gen, insilt := ref.insilt, arg := 5 } []
        (.freed n firstpos)
    else s.rmaSend k kRmaRead true r.conv layer kvh look [] (.lookFree n firstpos)

/-! Taking pages (R134, R147). -/

/-- The stub header of a new page of a stream. -/
def newHeader (s : State) (r : Root) (ix firstpos : Nat) : Frame :=
  { pstate := .opn, wide := r.dim == 2, kvfmt := r.kvfmt, dim := r.dim, ctx := r.ctx, firstpos := firstpos, cidx := 15,
    conv := r.conv, layer := Store.layerOfIx r ix, kvh := Store.headOfIx r ix, origin := s.node }

/-- Where R134 starts the search for the k-th page of a stream. -/
def placeStart (r : Root) (ix k : Nat) : Nat :=
  r.conv % 2 ^ 32 + Store.layerOfIx r ix * 32 + Store.headOfIx r ix + k

/-- Take a page for a stream, with no page-list entry (R147 steps 1 to 3). k counts the pages of the stream's own list,
not those of a group it has joined (R134, log entry 63). -/
def takeFor (s : State) (a ix firstpos : Nat) : Option (State × Nat) :=
  match s.store.root a with
  | none => none
  | some r =>
    let k := (s.store.stream a ix).pages.length
    (s.store.choosePc (s.ctxPcs r.ctx) (placeStart r ix k) (r.dim == 2)).bind (fun pc =>
      (s.store.takePage pc (s.newHeader r ix firstpos) none).map (fun q => (({ s with store := q.1 } : State).noteFill r.ctx, q.2)))

/-- Enter a page in a stream's list and make it the open page (R147 step 4). -/
def enterPage (s : State) (a ix p firstpos rows : Nat) (tentp : Bool) : Option State :=
  match s.store.root a with
  | none => none
  | some r =>
    (s.store.addPageEnt (s.ctxPcs r.ctx) a ix { page := p, firstpos := firstpos, rows := rows, tentp := tentp }).map
      (fun st => { s with store := st.updStream a ix (fun x => { x with openPage := p, openv := true }) })

/-- Why rows cannot be staged: no frame or slot, no ledger room, or an open page of which a word to be read, or to be
written in part, is uncorrectable. -/
inductive NoRoom where
  | frame | ledger | unread
deriving DecidableEq, Repr

/-- Rows accepted in a page plus the rows staged in it. -/
def usedRows (s : State) (p : Nat) (parts : List (Nat × Nat × Nat)) : Nat :=
  (s.store.header p).rows + ((parts.filter (fun q => q.1 == p)).map (fun q => q.2.2)).sum

/-- Stage rows into the open page and into new pages as it fills (R147 to R149). -/
def stageRows : Nat → State → Root → Staged → List Store.Row → Except NoRoom (State × Staged)
  | 0, s, _, x, _ => .ok (s, x)
  | _, s, _, x, [] => .ok (s, x)
  | n + 1, s, r, x, row :: rows =>
    let t := tokensPerPage r.kvfmt
    let d := s.store.stream x.root x.ix
    let pos := x.pos + (x.parts.map (fun q => q.2.2)).sum
    let used := s.usedRows d.openPage x.parts
    if d.openv && decide (used < t) then
      let k := min (t - used) (rows.length + 1)
      if s.rowsFail d.openPage r.kvfmt r.dim used k then .error .unread
      else stageRows n (s.putRows d.openPage r.kvfmt r.dim used ((row :: rows).take k)) r { x with parts := x.parts ++ [(d.openPage, used, k)] }
        ((row :: rows).drop k)
    else
      match s.takeFor x.root x.ix pos with
      | none => .error .frame
      | some (s, p) =>
        match s.enterPage x.root x.ix p pos 0 x.tent with
        | none => .error .ledger
        | some s => stageRows n s r { x with fresh := x.fresh ++ [p] } (row :: rows)

/-- Stage tentative rows that do not fit the open page: a page held aside with the open page's tentative rows copied
and the new rows after them (R153 steps 1 to 3). The page-list entry that acceptance will need is made room for at once,
so that an APPEND without ledger room changes nothing (R146). -/
def stageAside (s : State) (r : Root) (x : Staged) (rows : List Store.Row) : Except NoRoom (State × Staged) :=
  let d := s.store.stream x.root x.ix
  let h := s.store.header d.openPage
  let first := x.pos - d.tent
  let seen := s.sense (pagePc d.openPage) (rowRegions (s.store.frameOf d.openPage) r.kvfmt r.dim h.rows)
  if seen.2 then .error .unread
  else
  let s := seen.1
  match s.takeFor x.root x.ix first, s.store.roomForEnt (s.ctxPcs r.ctx) x.root x.ix with
  | none, _ => .error .frame
  | _, none => .error .ledger
  | some (t, p), some _ =>
    let old := s.store.readRows d.openPage r.kvfmt r.dim (h.rows - d.tent) d.tent
    let s := (t.updStore (fun st => (st.roomForEnt (t.ctxPcs r.ctx) x.root x.ix).getD st)).putRows p r.kvfmt r.dim 0
      (old ++ rows)
    let s := (s.ask { prog := .copy, page := p }).count .pgCntTentcopy (pagePc p) d.tent
    .ok (s, { x with aside := some p, copied := d.tent, oldPage := d.openPage, parts := [(p, d.tent, rows.length)] })

/-- The rows an APPEND body carries (Table 09-5). -/
def bodyRows (b : Bytes) (kvfmt dim n : Nat) : List Store.Row :=
  let rb := rowBytes kvfmt dim
  let c := scaleBytes kvfmt dim
  (List.range n).map (fun i =>
    { key := sub b (16 + i * rb) rb, val := sub b (16 + n * rb + i * rb) rb,
      ks := sub b (16 + 2 * n * rb + i * c) c, vs := sub b (16 + 2 * n * rb + n * c + i * c) c })

/-- The APPEND body of rows at a position, padded to a multiple of 16 (Table 09-5). -/
def rowsBody (pos : Nat) (rows : List Store.Row) : Bytes :=
  let b := leBytes 4 (pos + place 24 (rows.length - 1)) ++ zeros 12 ++ rows.flatMap (·.key) ++ rows.flatMap (·.val) ++
    rows.flatMap (·.ks) ++ rows.flatMap (·.vs)
  fit (roundUp b.length 16) b

/-- Bytes of an APPEND body (R279). -/
def appendLen (kvfmt dim n : Nat) : Nat := roundUp (16 + 2 * n * rowBytes kvfmt dim + 2 * n * scaleBytes kvfmt dim) 16

/-- The kind's own body of a request: what follows the commit prefix (R277). -/
def bodyOf (h : Hdr) (b : Bytes) : Bytes := if h.flag flagCommit && h.flag flagRollback then b.drop 16 else b

/-- Send the rows of one part to the partner: REF where the partner's copy is known, NEW for a page it has not seen
(R332). The APPEND's own rows come from its body; the tentative rows copied before them (R153) are read from the page, or
from the old one where that read meets an uncorrectable word (R163), and with neither they cannot be sent. -/
def sendPart (s : State) (n : Nat) (r : Root) (x : Staged) (q : Nat × Nat × Nat) : Option State :=
  let p := q.1
  let h := s.store.header p
  let y := s.slot n
  let own := ((bodyRows (bodyOf y.hdr y.body) r.kvfmt r.dim x.n).drop (h.firstpos + q.2.1 - x.pos)).take q.2.2
  let asideRows := if x.aside = some p then x.copied else 0
  let look (s : State) (p j : Nat) : State × Bool :=
    if asideRows = 0 then (s, false)
    else s.readWords (pagePc p) (s.rowWords p r.kvfmt r.dim j asideRows)
  let a := look s p 0
  let o := (s.store.header x.oldPage).rows - x.copied
  let b := if a.2 then look a.1 x.oldPage o else (a.1, false)
  if b.2 then none
  else
  let s := b.1
  let old := if a.2 then s.store.readRows x.oldPage r.kvfmt r.dim o asideRows else s.store.readRows p r.kvfmt r.dim 0 asideRows
  let rows := old ++ own
  let pos := h.firstpos + q.2.1 - asideRows
  let ref := s.store.copyRef p
  let d : RmaDesc :=
    if ref.live then { op := opMrows, form := formRef, grp := r.group, page := ref.page, gen := ref.gen,
                        insilt := ref.insilt, arg := bnat x.tent }
    else { op := opMrows, form := formNew, grp := r.group, firstpos := h.firstpos, page := p, arg := bnat x.tent }
  (s.mirrorSend r.ctx r.conv h.layer h.kvh d (rowsBody pos rows) (.rows n p)).map
    (fun t => t.updSlot n (fun y => { y with waits := y.waits + 1 }))

/-- Send every part. -/
def sendParts (s : State) (n : Nat) (r : Root) (x : Staged) : List (Nat × Nat × Nat) → Option State
  | [] => some s
  | q :: t => (s.sendPart n r x q).bind (fun s => s.sendParts n r x t)

/-- Note when the rows of a staged APPEND were first sent, and over which furrow (R42). -/
def beginWait (s : State) (n : Nat) (c : Nat) : State :=
  match s.mirrorConn c with
  | none => s
  | some k => s.updSlot n (fun y => { y with began := s.hubUnits, via := s.connFurrow k })

/-! Sealing (R152). -/

/-- Step 1 of a seal: SEALING, SEALED in the list, OPENV cleared; the seal program is asked for. `slot` waits for the
tag and the partner's confirmation. -/
def sealStart (s : State) (a ix p : Nat) (slot : Option Nat) : State :=
  let st := s.store.updHeader p (fun h => { h with pstate := .sealing })
  let st := st.updPageEnt a ix p (fun e => { e with sealed := true })
  let st := st.updStream a ix (fun x => if x.openPage = p then { x with openv := false } else x)
  let s := ({ s with store := st } : State).ask { prog := .seal, page := p, root := a, ix := ix, slot := slot }
  match slot with
  | some n => s.updSlot n (fun x => { x with waits := x.waits + 1 })
  | none => s

/-- Free a page of a stream and take it out of the list. -/
def dropPage (s : State) (a ix p : Nat) : State :=
  let st := s.store.keepPages a ix (fun e => e.page != p)
  let st := st.updStream a ix (fun x => if x.openPage = p then { x with openv := false } else x)
  { s with store := st.freePage p }

/-- Seal the open page if its committed rows fill it (R149, R151, R156). -/
def sealIfFull (s : State) (a ix : Nat) : State :=
  match s.store.root a with
  | none => s
  | some r =>
    let d := s.store.stream a ix
    let h := s.store.header d.openPage
    if d.openv && decide (tokensPerPage r.kvfmt ≤ h.rows - h.tent) then s.sealStart a ix d.openPage none else s

/-! Accepting or failing an APPEND (R42, R148, R153). -/

/-- Count a part's rows in its page. -/
def acceptPart (s : State) (a ix : Nat) (tent : Bool) (q : Nat × Nat × Nat) : State :=
  let st := s.store.updHeader q.1 (fun h =>
    { h with rows := h.rows + q.2.2, tent := h.tent + if tent then q.2.2 else 0 })
  let st := st.updPageEnt a ix q.1 (fun e =>
    { e with rows := e.rows + q.2.2, tentp := e.tentp || tent })
  { s with store := st }

/-- Seal, in order, the pages an accepted APPEND has filled. -/
def sealFilled (s : State) (a ix t : Nat) (tent : Bool) : List (Nat × Nat × Nat) → State
  | [] => s
  | q :: rest =>
    let s := if !tent && decide (t ≤ (s.store.header q.1).rows) && decide ((s.store.header q.1).pstate = .opn)
      then s.sealStart a ix q.1 none else s
    s.sealFilled a ix t tent rest

/-- Accept the rows of a staged APPEND: ROWS and LENGTH advance together, the held-aside page takes its place and the
old page is sealed or freed, filled pages are sealed (R148, R149, R153 step 4). -/
def acceptStaged (s : State) (n : Nat) (x : Staged) : State :=
  match s.store.root x.root with
  | none => s
  | some r =>
    match x.aside with
    | none =>
      let s := x.parts.foldl (fun q p => q.acceptPart x.root x.ix x.tent p) s
      let s := s.updStore (fun st => st.updStream x.root x.ix (fun d =>
        { d with length := d.length + x.n, tent := d.tent + if x.tent then x.n else 0 }))
      s.sealFilled x.root x.ix (tokensPerPage r.kvfmt) x.tent x.parts
    | some p =>
      let first := (s.store.header p).firstpos
      let old := s.store.header x.oldPage
      let keep := old.rows - x.copied
      let s := s.updStore (fun st => st.updHeader p (fun h => { h with rows := x.copied + x.n, tent := x.copied + x.n }))
      let s := (s.enterPage x.root x.ix p first (x.copied + x.n) true).getD s
      let s := s.updStore (fun st =>
        let st := st.updHeader x.oldPage (fun h => { h with rows := keep, tent := 0 })
        let st := st.updPageEnt x.root x.ix x.oldPage (fun e => { e with rows := keep, tentp := false })
        st.updStream x.root x.ix (fun d => { d with length := d.length + x.n, tent := x.copied + x.n }))
      if keep = 0 then
        let ref := s.store.copyRef x.oldPage
        let s := s.dropPage x.root x.ix x.oldPage
        s.freeCopy (some n) r old.layer old.kvh old.firstpos ref
      else s.sealStart x.root x.ix x.oldPage (some n)

/-- Fail a staged APPEND: the pages it took are freed and the old open page stays open (R148, R153). The partner's copy
of a page held aside is freed by MSTATE action 0x5; where its reference never came, that waits for a LOOKUP of it. -/
def failStaged (s : State) (x : Staged) : State :=
  match s.store.root x.root with
  | none => s
  | some r =>
    let s := match x.aside with
      | some p =>
        let ref := s.store.copyRef p
        let h := s.store.header p
        let s := s.freeCopy none r h.layer h.kvh h.firstpos ref
        s.updStore (fun st => (st.freePage p).keepPages x.root x.ix (fun _ => true))
      | none => s
    let s := x.fresh.foldl (fun q p => q.dropPage x.root x.ix p) s
    match (s.store.stream x.root x.ix).pages.getLast? with
    | some e => if e.sealed then s else
        s.updStore (fun st => st.updStream x.root x.ix (fun d => { d with openPage := e.page, openv := true }))
    | none => s

/-! Commit and rollback (R155, R156). -/

/-- How many of a stream's tentative rows a COMMIT or ROLLBACK keeps (R155). -/
def keptRows (d : Stream) (commit rollback : Bool) (cpos : Nat) : Nat :=
  if commit && rollback then min d.tent (cpos - (d.length - d.tent))
  else if commit then d.tent else 0

/-- Apply COMMIT or ROLLBACK to one stream; `own` seals a page that its committed rows then fill. -/
def commitStream (own : Bool) (s : State) (a ix : Nat) (commit rollback : Bool) (cpos : Nat) : State :=
  let d := s.store.stream a ix
  if d.tent = 0 then s
  else
    let k := keptRows d commit rollback cpos
    let n := d.tent - k
    let p := d.openPage
    let st := s.store.updHeader p (fun h => { h with rows := h.rows - n, tent := 0 })
    let st := st.updPageEnt a ix p (fun e => { e with rows := e.rows - n, tentp := false })
    let st := st.updStream a ix (fun x => { x with length := x.length - n, tent := 0 })
    let s := { s with store := st }
    let s := if n = 0 then s else s.count .pgCntRollback (pagePc p) n
    if (s.store.header p).rows = 0 then s.dropPage a ix p else if own then s.sealIfFull a ix else s

/-- Apply COMMIT or ROLLBACK to every stream of a conversation (R155). -/
def commitAll (own : Bool) (s : State) (a : Nat) (r : Root) (commit rollback : Bool) (cpos : Nat) : State :=
  forUpTo (Store.nstreams r) s (fun i q => commitStream own q a i commit rollback cpos)

/-- Whether a conversation holds tentative rows. -/
def hasTent (s : State) (a : Nat) (r : Root) : Bool := decide (0 < s.store.tentStreams a r)

/-- Apply the COMMIT or ROLLBACK of a slot's header once (R37, R534), on the partner too (R157). -/
def applyFlags (s : State) (n a : Nat) : State :=
  let x := s.slot n
  match s.store.root a with
  | none => s
  | some r =>
    let c := x.hdr.flag flagCommit
    let b := x.hdr.flag flagRollback
    if x.applied || !(c || b) then s
    else
      let s := s.updSlot n (fun y => { y with applied := true })
      if s.hasTent a r then
        let cpos := fieldOf (numAt x.body 0 8) 23 0
        let s := commitAll true s a r c b cpos
        s.mirrorChange (some n) r.ctx r.conv 0 0
          { op := opMstate, grp := r.group, arg := 1, arg2 := bnat c + place 1 (bnat b) + place 16 cpos } []
      else s

/-- TOTAL less the commit prefix. -/
def ownTotal (h : Hdr) : Nat := if h.flag flagCommit && h.flag flagRollback then h.total - 16 else h.total

end State

end Sys2Proof.Machine
end

