-- ==== Sys2Proof/Machine/Faults.lean ====
section
/-! DEFINITION. Withdrawal, the lost list and the module's own requests to other nodes (R299, R301, R322, R461, R462,
R469). -/

namespace Sys2Proof.Machine

namespace State

/-! What an ATTEND leaves behind (R95, R122, R472). -/

/-- Replace a job of a channel. -/
def setJob (s : State) (ch i : Nat) (j : ChanJob) : State :=
  s.updStore (fun st => st.updChan ch (fun x => { x with queue := setAt x.queue i j }))

/-- Take a job off a channel. -/
def dropJob (s : State) (ch i : Nat) : State :=
  s.updStore (fun st => st.updChan ch (fun x => { x with queue := x.queue.take i ++ x.queue.drop (i + 1) }))

/-- The channel and place of a page's promotion in flight. -/
def promotionOf (s : State) (p : Nat) : Option (Nat × Nat) :=
  s.store.chans.findSome? (fun e =>
    (e.2.queue.findIdx? (fun j => decide (j.kind = .promote) && j.page == p && !j.freed)).map (fun i => (e.1, i)))

/-- A promotion that is no longer a slot's run-ahead. -/
def endRa (s : State) (n p : Nat) : State :=
  match s.promotionOf p with
  | some (ch, i) =>
    let j := getAt {} (s.store.chan ch).queue i
    if j.ra = some n then s.setJob ch i { j with ra := none } else s
  | none => s

/-- Settle a run-ahead promotion of a page that is not selected (Table 04-4): as used where another request relies on it, as
wasted where its flash read was issued, as dropped otherwise. -/
def dropRa (s : State) (n : Nat) (a : Att) (p : Nat) : State :=
  if a.relied.contains p then (s.endRa n p).count .hubRetCntRaUsed 0 1
  else if a.raRead.contains p then (s.endRa n p).count .hubRetCntRaWasted 0 1
  else
    match s.promotionOf p with
    | some (ch, i) => (s.dropJob ch i).count .hubRetCntRaDropped 0 1
    | none => s.count .hubRetCntRaDropped 0 1

/-- Settle every run-ahead promotion of an ATTEND that ends, or starts again, before its final selection: none of its
pages is selected (R122, log entry 60). -/
def settleUnselected (s : State) (n : Nat) (a : Att) : State :=
  if a.stage = .scoring then a.ra.foldl (fun q p => q.dropRa n a p) s else s

def pipe (s : State) (k : Nat) : Pipe := SMap.get {} s.attn.pipes k
def setPipe (s : State) (k : Nat) (x : Pipe) : State := { s with attn := { s.attn with pipes := SMap.set {} s.attn.pipes k x } }

/-- SLOT of a descriptor. -/
def descSlot (b : Bytes) : Nat := fieldOf (numAt b 0 4) 17 0

/-- Free assay copies. -/
def dropCopies (s : State) (fs : List (Nat × Nat × Bool)) : State :=
  fs.foldl (fun q x => q.updStore (fun st => st.freeFrameAt x.1 x.2.1 x.2.2)) s

/-- A pipe without the lanes and descriptors of a slot. -/
def pipeWithout (x : Pipe) (n : Nat) : Pipe :=
  { queue := x.queue.filter (fun b => descSlot b != n)
    lanes := x.lanes.map (fun l => match l with
      | some y => if y.slot = n then none else some y
      | none => none) }

/-- An ATTEND leaves the machine before its merge: its run-ahead settles, its scoring is dropped, its copy frames are
freed, and its lanes and descriptors are discarded without an emission (R95, log entry 60). -/
def dropAttend (s : State) (n : Nat) (a : Att) : State :=
  let s := (s.settleUnselected n a).dropCopies a.frames
  let s := s.dropVjobs (fun j => decide (j.prog = VProg.score) && j.slot == some n)
  a.chains.foldl (fun q c => q.setPipe c.pipe (pipeWithout (q.pipe c.pipe) n)) s

/-- The stall units of a slot are charged to the port die of the channel whose work it waited on last (R237, log entry
41). -/
def settleStall (s : State) (n : Nat) : State :=
  let x := s.slot n
  let c := x.stallCh
  let s := ((s.count .stStallFlash c x.units.1).count .stStallFrame c x.units.2.1).count .stStallRestore c x.units.2.2
  s.updSlot n (fun y => { y with units := (0, 0, 0) })

/-! Withdrawal. -/

/-- Take a request out of every admission queue, answering it. -/
def flushQueue (s : State) (c status : Nat) : State :=
  let q := (s.ctx c).queue
  let s := s.updCtx c (fun g => { g with queue := [], deficit := 0 })
  q.foldl (fun t r => t.refuse r.src r.hdr status) s

/-- Room of the lost list (R469). -/
def lostMax : Nat := 16384

/-- Enter a conversation in the lost list, where it has room (R469). -/
def listLost (s : State) (c conv cause : Nat) : State :=
  if s.rel.lost.any (fun e => e.ctx == c && e.conv == conv) ∨ lostMax ≤ s.rel.lost.length then s
  else
    let s := { s with rel := { s.rel with lost := s.rel.lost ++ [({ ctx := c, conv := conv, cause := cause } : LostEnt)] } }
    (((s.rsFault 8).requestPf 4).report (.lost c conv)).pred 6 0 3 1

/-- A staged APPEND whose every MROWS has resolved, in a withdrawal (R462 step 4). -/
def withdrawStaged (s : State) (n : Nat) (p : Staged) : State :=
  let x := s.slot n
  if x.failed then (s.complete n stLost []).listLost x.hdr.ctx x.hdr.conv 3
  else s.complete n stDone (leBytes 16 (p.pos + p.n))

/-- How a withdrawal completes a slot at its start (R462 steps 3 to 5): an APPEND whose rows are sent waits for them, a
FORWARDED slot waits for its response, a recorded status is answered, every other slot is BUSY. -/
def withdrawSlot (s : State) (n : Nat) : State :=
  let x := s.slot n
  match x.state with
  | .free => s
  | .respond => s
  | .forwarded => s
  | .held => s.complete n stBusy []
  | .active =>
    match x.prog with
    | .staged p => if x.waits = 0 then s.withdrawStaged n p else s
    | .attend a => ((s.settleStall n).dropAttend n a).complete n stBusy []
    | .promote _ => (s.settleStall n).complete n stBusy []
    | .confirm status body _ => if x.taken then s.complete n status body else s.complete n stBusy []
    | _ => s.complete n stBusy []

/-- Begin a withdrawal (R461, R462). -/
def startWithdraw (s : State) (cause : Nat) : State :=
  if s.rel.svc = .withdrawing ∨ s.rel.svc = .out then s
  else
    let s := { s with rel := { s.rel with svc := .withdrawing, wcause := cause, wstart := s.hubUnits,
                                          predFlash := s.rel.pred } }
    let s := ((s.broadcast evWithdraw 0).requestPf 2).report (.withdrawal cause)
    let s := s.ctxs.foldl (fun q e => q.flushQueue e.1 stBusy) s
    s.slots.foldl (fun q e => q.withdrawSlot e.1) s

/-- Add a conversation to the lost list; a full list withdraws the module (R469). -/
def addLost (s : State) (c conv cause : Nat) : State :=
  if s.rel.lost.any (fun e => e.ctx == c && e.conv == conv) then s
  else if s.rel.lost.length < lostMax then s.listLost c conv cause
  else (s.rsFault 8).startWithdraw 5

/-- Take a conversation off the lost list. -/
def dropLost (s : State) (c conv : Nat) : State :=
  { s with rel := { s.rel with lost := s.rel.lost.filter (fun e => !(e.ctx == c && e.conv == conv)) } }

/-! The module's own requests (R299, R301). -/

/-- The OPEN PEER connection toward a holder that is bound to a context (R322). -/
def peerConn (s : State) (c dest : Nat) : Option Nat := s.connFor c dest s.connPeer

/-- The numbering toward a destination; one that has not been resynchronised since the last fabric or module reset has
no entry. -/
def dest? (s : State) (d : Nat) : Option Dest := s.dests.find? (fun e => e.node == d)

/-- Replace the numbering toward a destination. -/
def setDest (s : State) (x : Dest) : State :=
  { s with dests := (s.dests.filter (fun e => e.node != x.node)) ++ [x] }

/-- A furrow whose partner is a node and whose control connection is OPEN, while requests are sent (R463). -/
def ctrlTo (s : State) (d : Nat) : Option Nat :=
  (List.range 8).find? (fun f => s.sendsRequests && s.rfld .fuCfg f 15 0 == d && s.trained f)

/-- Whether a numbering is ready to send. -/
def destReady (s : State) (d : Nat) : Bool :=
  match s.dest? d with
  | some x => x.resync == 0
  | none => false

/-- Send one request of the module's own that waits, numbering it if it is new. One sent again keeps its REQ_ID and carries the
epoch in effect when it leaves (DESIGN CHOICE, log entry 176). -/
def sendOwn (s : State) (o : OwnReq) : State × OwnReq :=
  match s.peerConn o.hdr.ctx o.dest, s.dest? o.dest with
  | some k, some d =>
    let h := { o.hdr with seq := if o.sent then o.hdr.seq else d.next, origin := s.node, epoch := s.img.epoch }
    let s := if o.sent then s else s.setDest { d with next := d.next + 1 }
    (s.sendPayload k (some 3) none h o.body,
     { o with hdr := h, sent := true, since := s.hubUnits, furrow := s.connFurrow k })
  | _, _ => (s, o)

/-- Send the waiting own requests toward a destination whose numbering is ready, in order. -/
def pumpOwn (s : State) (d : Nat) : State :=
  if s.destReady d then
    let r := s.own.foldl (fun (p : State × List OwnReq) o =>
      if o.dest = d ∧ !o.sent then
        let t := p.1.sendOwn o
        (t.1, p.2 ++ [t.2])
      else (p.1, p.2 ++ [o])) (s, [])
    { r.1 with own := r.2 }
  else s

/-- Start the numbering toward a destination: ORIGIN_CLOSE, then ORIGIN_OPEN (R299). -/
def openDest (s : State) (d : Nat) : State :=
  match s.dest? d with
  | some x =>
    if x.resync = 1 then
      match s.ctrlTo d with
      | some f => (s.setDest { x with resync := 2 }).sendMarker f mOriginClose 0
      | none => s
    else s
  | none =>
    match s.ctrlTo d with
    | some f => (s.setDest { node := d, resync := 2 }).sendMarker f mOriginClose 0
    | none => s.setDest { node := d, resync := 1 }

/-- Queue a request of the module's own toward a destination and send what can be sent. -/
def ownRequest (s : State) (o : OwnReq) : State :=
  let s := { s with own := s.own ++ [o] }
  (s.openDest o.dest).pumpOwn o.dest

/-- An ORIGIN marker returned from a destination (R299). -/
def destMarker (s : State) (f mtype : Nat) : State :=
  let d := s.rfld .fuCfg f 15 0
  match s.dest? d with
  | some x =>
    if mtype = mOriginClose ∧ x.resync = 2 then (s.setDest { x with resync := 3 }).sendMarker f mOriginOpen 0
    else if mtype = mOriginOpen ∧ x.resync = 3 then (s.setDest { node := d }).pumpOwn d
    else s
  | none => s

/-! Relays to a spare (R475). -/

def shadowSt (s : State) (k : Nat) : ShadowSt := SMap.get {} s.rel.shadows k
def setShadowSt (s : State) (k : Nat) (x : ShadowSt) : State :=
  { s with rel := { s.rel with shadows := SMap.set {} s.rel.shadows k x } }

/-- A record that has gone is copied no longer: one made later at its address is another (R475). -/
def forgetCopied (s : State) (a : Nat) : State :=
  { s with rel := { s.rel with shadows := s.rel.shadows.map (fun e =>
      (e.1, { e.2 with copied := e.2.copied.filter (· != a), counts := SMap.del e.2.counts a })) } }

/-- Relay a request to the spare of a slice. -/
def relayTo (s : State) (slice : Nat) (h : Hdr) (body : Bytes) : State :=
  s.ownRequest { hdr := (h.setFlag flagFwd true).setFlag flagReissued false, body := body,
                 dest := (s.shadowSt slice).spare, shadow := some slice }

/-- Relay a request that has taken effect on a copied conversation (R475 step 4). -/
def shadowRelay (s : State) (a : Nat) (h : Hdr) (body : Bytes) : State :=
  let k := s.sliceOf h.ctx
  let x := s.shadowSt k
  if (x.phase = 1 ∨ x.phase = 2) ∧ x.copied.contains a ∧
      (h.kind = kAppend ∨ h.kind = kSeal ∨ h.kind = kHint ∨ h.kind = kCloseConv) then s.relayTo k h body
  else s

/-- Relay an ATTEND kept for comparison once its response has left (R476). -/
def relaySample (s : State) (h : Hdr) : State :=
  let k := s.sliceOf h.ctx
  let x := s.shadowSt k
  match x.samples.findIdx? (fun m => !m.sent && m.hdr.origin == h.origin && m.hdr.seq == h.seq) with
  | none => s
  | some i =>
    let m : Sample := getAt {} x.samples i
    (s.setShadowSt k { x with samples := setAt x.samples i { m with sent := true } }).relayTo k m.hdr m.body

end State

end Sys2Proof.Machine
end

