-- ==== Sys2Proof/Machine/Settle.lean ====
section
/-! DEFINITION. Lookups in the CAM, the order in which requests take effect, and what follows when the partner's
confirmations and other remote answers return (R35, R36, R42, R171, R172, R296, R331, R332, R532, R536). -/

namespace Sys2Proof.Machine

namespace State

/-- An LC fault: its bit and cause (R249, R265). -/
def lcFault (s : State) (cs cause index : Nat) : State :=
  ((s.setBit .lcFault 0 cs).rsFault 2).setReg .lcFaultCause 0 (wordOf (cs + place 2 cause + place 6 (index % 65536)))

/-- First index of the unordered region. -/
def ordRuns (s : State) : Nat := s.rfld .lcCfg 0 13 0

/-- Who makes a search: a slot, a slot's search for a group to join, a sluice core's GRANT, the privileged port. -/
def searchSlot (n : Nat) : Nat := n
def searchJoin (n : Nat) : Nat := 2 ^ 18 + n
def searchGrant (core : Nat) : Nat := 2 ^ 19 + core
def searchPort : Nat := 2 ^ 20

/-- Count an event of rows of the CAM against their CAM slices (Table 15-9). -/
def predRows (s : State) (ev : Nat) (rows : List Nat) : State := rows.foldl (fun q i => q.pred 4 (i / 65536) ev 1) s

/-- A search with its counters (R246 to R249, R263). While the entries of a lost CAM slice are rebuilt every search
stalls (R265), and while one search stalls no later one delivers its result (R245). A search is counted when it is issued;
`who` makes it. -/
def camSearch (s : State) (who key gmask lo : Nat) : State × Cam.Found :=
  let again := s.cam.waiting.contains who
  let s := if again then s else s.count .lcCntSearch 0 1
  let wait (c : Cam) : Cam := { c with stuck := true, waiting := if again then c.waiting else c.waiting ++ [who] }
  if s.cam.rebuild || s.cam.stuck then ({ s with cam := wait s.cam }, .stall lo) else
  let o := s.cam.searchAt key gmask lo (s.rfld .lcCfg 0 20 14)
  match o.found with
  | .stall i => ({ s with cam := wait s.cam }, .stall i)
  | _ =>
  let s := { s with cam := { o.cam with waiting := o.cam.waiting.erase who } }
  let s := (s.count .lcCntSearch 0 o.falseHits.length).count .lcCntPfrows 0 o.enabled
  let s := if o.multi then s.count .lcCntMulti 0 1 else s
  let s := if o.falseHits.isEmpty then s else (s.count .lcCntFalsehit 0 o.falseHits.length).predRows 0 o.falseHits
  let s := if o.falseMisses.isEmpty then s else (s.count .lcCntFalsemiss 0 o.falseMisses.length).predRows 1 o.falseMisses
  match o.found with
  | .hit i d => (s.count .lcCntHit 0 1, .hit i d)
  | .miss => (s, .miss)
  | .stall i => (s, .stall i)

/-- The search key of a request: record kind from its GROUP flag (Table 09-2). -/
def reqKey (h : Hdr) : Nat := camKey h.ctx (if h.flag flagGroup then kindGroup else kindConv) h.conv

/-- What stage 4 finds. -/
inductive Look where
  | record (ledger : Nat)
  | miss
  | stall
deriving DecidableEq, Repr

/-- Stage 4 of a request other than the OPEN_CONV that made the entry: an entry with PEND or CLOSING counts as a miss
(R250, R260). -/
def lookup (s : State) (n : Nat) (h : Hdr) : State × Look :=
  match s.camSearch (searchSlot n) (reqKey h) 0 0 with
  | (s, .hit _ d) => if assocPend d || assocClosing d then (s, .miss) else (s, .record (assocLedger d))
  | (s, .miss) => (s, .miss)
  | (s, .stall _) => (s, .stall)

/-- The ledger address of a stored entry, by key, without a search's counters. -/
def recordOf (s : State) (kind ctx conv : Nat) : Option Nat :=
  (s.cam.rows.find? (fun e => e.2.sValid && e.2.sValue == camKey ctx kind conv)).map (fun e => assocLedger e.2.data)

/-- The row of a stored entry, by key. -/
def rowOf (s : State) (kind ctx conv : Nat) : Option Nat :=
  (s.cam.rows.find? (fun e => e.2.sValid && e.2.sValue == camKey ctx kind conv)).map (·.1)

/-- Whether a conversation is on the lost list (R52, R469). -/
def isLost (s : State) (c conv : Nat) : Bool := s.rel.lost.any (fun e => e.ctx == c && e.conv == conv)

/-! Order (R35, R36, R39, R296, R532). -/

/-- Whether two requests name the same conversation or group. -/
def sameConv (a b : Hdr) : Bool := a.ctx == b.ctx && a.conv == b.conv && a.flag flagGroup == b.flag flagGroup

/-- Whether slot y, which has not taken effect, makes slot x wait. -/
def orderedBefore (x y : Slot) : Bool :=
  sameConv x.hdr y.hdr && !y.taken && !y.dup &&
  (decide (y.state = .held) || decide (y.state = .active) || decide (y.state = .forwarded)) &&
  (if x.hdr.origin = y.hdr.origin then (decide (y.state = .active) || decide (y.state = .forwarded)) &&
      decide (y.entry < x.entry)
   else decide (y.grantNo < x.grantNo) && (x.hdr.flag flagFence || y.hdr.flag flagFence ||
     x.hdr.kind == kCloseConv || y.hdr.kind == kCloseConv))

/-- Whether a staged APPEND of another slot has written rows to a stream the request would change (R532). -/
def streamBusy (s : State) (n : Nat) (a : Nat) (touches : Nat → Bool) : Bool :=
  s.slots.any (fun e => e.1 != n && (match e.2.prog with
    | .staged x => decide (e.2.state = .active) && x.root == a && touches x.ix
    | _ => false))

/-- Whether shadowing holds the queue of a request's conversation (R475 step 3). -/
def heldByShadow (s : State) (h : Hdr) : Bool :=
  s.rel.shadows.any (fun e => e.2.holding && (match e.2.cur.bind s.store.root with
    | some r => r.ctx == h.ctx && r.conv == h.conv && r.group == h.flag flagGroup
    | none => false))

/-- The pages a request's conversation or group holds, those of the group it has joined included. -/
def pagesOf (s : State) (a : Nat) : List Nat :=
  match s.store.root a with
  | none => []
  | some r => (List.range (Store.nstreams r)).flatMap (fun i => (s.store.allPages a i).map (fun e => e.2.page))

/-- The record whose ledger structure lies at an address: root record, stream table or page-list chunk. -/
def ledgerOwner (s : State) (pc a : Nat) : Option Nat :=
  let k := pc * 2 ^ 25 + a / 64
  (s.store.areas.find? (fun e => decide (e.1 ≤ k) && decide (k < e.1 + e.2))).bind (fun e =>
    let la := Store.ledgerAddr pc (e.1 % 2 ^ 25)
    (s.store.roots.find? (fun x => match x.2 with
      | some r => x.1 == la || r.streamTab == la ||
          (List.range (Store.nstreams r)).any (fun i => (s.store.stream x.1 i).chunks.contains la)
      | none => false)).map (·.1))

/-- The records a request works on: its conversation's or group's, and the group that it has joined or asks to join. -/
def recordsOf (s : State) (x : Slot) : List Nat :=
  match s.recordOf (if x.hdr.flag flagGroup then kindGroup else kindConv) x.hdr.ctx x.hdr.conv with
  | some a => a :: (match s.store.root a with | some r => if r.groupLedger = 0 then [] else [r.groupLedger] | none => [])
  | none =>
    if decide (x.hdr.kind = kOpenConv) && (byteAt x.body 0).testBit 0 then
      (s.recordOf kindGroup x.hdr.ctx (numAt x.body 16 8)).toList
    else []

/-- Whether work on some records needs a metadata word (R164, log entry 50): the header or page-map entry of one of their
pages; for work that takes frames (`grows`) in the pseudo-channels of the context's slice, also the allocation words and the
headers and entries of free frames and slots. -/
def needsMeta (s : State) (ctx : Nat) (grows : Bool) (as : List Nat) (x : Nat × Nat) : Bool :=
  let grows := grows && (s.ctxPcs ctx).contains x.1
  if 0x44800000 ≤ x.2 then grows
  else
    let ps := (as.flatMap s.pagesOf).filter (fun p => pagePc p == x.1)
    let hit (p : Nat) : Bool :=
      if x.2 < 0x43800000 then
        let f := (s.store.pent p).frame
        let g := (x.2 - 0x3C000000) / 0x800
        s.store.inDram p && (f == g || ((s.store.pent p).wide && f + 1 == g))
      else pageSlot p / 4 == (x.2 - 0x43800000) / 32
    let used := if x.2 < 0x43800000 then decide ((s.store.frame x.1 ((x.2 - 0x3C000000) / 0x800)).pstate ≠ .free)
      else (List.range 4).all (fun i =>
        decide ((SMap.get {} s.store.pmap (x.1 * 2 ^ 21 + (x.2 - 0x43800000) / 32 * 4 + i) : PEntry).tier ≠ .free))
    ps.any hit || (grows && !used)

/-- Whether work on some records needs a word of their metadata or of their ledger structures. -/
def needsWord (s : State) (ctx : Nat) (grows : Bool) (as : List Nat) (x : Nat × Nat) : Bool :=
  if x.2 < 0x44880000 then s.needsMeta ctx grows as x
  else match s.ledgerOwner x.1 x.2 with
    | some o => as.contains o
    | none => false

/-- Whether a request takes frames: an APPEND, and one that may promote a page from silt (R225). -/
def takesFrames (s : State) (x : Slot) : Bool :=
  decide (x.hdr.kind = kAppend) || ((decide (x.hdr.kind = kAttend) || decide (x.hdr.kind = kPromote) || decide (x.hdr.kind = kHint)) &&
    ((s.recordsOf x).flatMap s.pagesOf).any (fun p => decide ((s.store.pent p).tier = .silt)))

/-- Whether an uncorrectable word that a request needs, in metadata or in ledger structures, makes it wait (R164). -/
def metaStalls (s : State) (x : Slot) : Bool :=
  if s.store.metaUe.isEmpty && s.store.ledgerUe.isEmpty then false
  else (s.store.metaUe ++ s.store.ledgerUe).any (s.needsWord x.hdr.ctx (s.takesFrames x) (s.recordsOf x))

/-- Whether a slot is ACTIVE, still in its conversation's queue, and at its turn (R296), with no compute reset and no
shadow copy holding it. -/
def atTurn (s : State) (n : Nat) (kind : Nat) : Bool :=
  let x := s.slot n
  decide (s.rel.cr = .none) && !s.heldByShadow x.hdr && !s.metaStalls x && decide (x.state = .active) && decide (x.prog = .queued) && x.hdr.kind == kind &&
  !s.slots.any (fun e => e.1 != n && orderedBefore x e.2)

/-! Completion once the partner has confirmed (R171). -/

/-- Complete a request that has changed a conversation: one that took effect is relayed to a spare (R475). -/
def conclude (s : State) (n status : Nat) (body : Bytes) : State :=
  let x := s.slot n
  let s := s.complete n status body
  if status = stDone then
    match s.recordOf (if x.hdr.flag flagGroup then kindGroup else kindConv) x.hdr.ctx x.hdr.conv with
    | some a => s.shadowRelay a x.hdr x.body
    | none => s
  else s

/-- Complete a request now, or when the changes it made are confirmed. -/
def finish (s : State) (n status : Nat) (body : Bytes) (fin : Finish) : State :=
  if (s.slot n).waits = 0 then s.conclude n status body
  else s.updSlot n (fun x => { x with prog := .confirm status body fin })

/-- Remove the CAM entry of a record, and the record (R250 step 4, R252). -/
def undoOpen (s : State) (a : Nat) : State :=
  match s.store.root a with
  | none => s
  | some r =>
    let joins := s.cam.rows.filter (fun e => e.2.sValid && kindOf e.2.sValue == kindJoin && assocLedger e.2.data == a)
    let c := joins.foldl (fun q e => q.clear e.1) s.cam
    let c := { c with joins := c.joins.filter (fun e => assocLedger e.data != a) }
    let c := match s.rowOf (if r.group then kindGroup else kindConv) r.ctx r.conv with
      | some i => c.clear i
      | none => c
    let s := { s with cam := c }
    let s := match s.store.root r.groupLedger with
      | some _ => if r.groupLedger = 0 then s else
          s.updStore (fun st => st.updRoot r.groupLedger (fun g => { g with members := g.members - 1 }))
      | none => s
    (s.updStore (fun st => st.freeRecord a)).forgetCopied a

/-- Clear PEND of a record's entry (R250 step 5). A member of a group that has lost a page has lost it too (R52). -/
def clearPend (s : State) (a : Nat) : State :=
  match s.store.root a with
  | none => s
  | some r =>
    let s := match s.rowOf (if r.group then kindGroup else kindConv) r.ctx r.conv with
      | some i => { s with cam := s.cam.setData i (assocBit (s.cam.row i).data 44 false) }
      | none => s
    match if r.groupLedger = 0 then none else s.store.root r.groupLedger with
    | some g => if g.lostCause = 0 then s else s.addLost r.ctx r.conv g.lostCause
    | none => s

/-- Send the partner a record again, with its stream table (R171; Table 10-9 MOPEN replaces the copy). -/
def mirrorRecord (s : State) (n : Option Nat) (a : Nat) : State :=
  match s.store.root a with
  | none => s
  | some r => s.mirrorChange n r.ctx r.conv 0 0 { op := opMopen, grp := r.group } (s.store.recordBytes a r)

/-- Undo an OPEN_CONV, telling the partner of a group that loses the member again. -/
def undoJoin (s : State) (a : Nat) : State :=
  let g := match s.store.root a with | some r => r.groupLedger | none => 0
  let s := s.undoOpen a
  if g = 0 then s else s.mirrorRecord none g

/-- The 16 bytes of an APPEND's DONE response (R284). -/
def lengthBody (n : Nat) : Bytes := leBytes 16 n

/-- Every confirmation a slot waited for has returned. -/
def slotConfirmed (s : State) (n : Nat) : State :=
  let x := s.slot n
  match x.prog with
  | .staged p =>
    if s.rel.svc = .withdrawing then s.withdrawStaged n p
    else if x.failed then (s.failStaged p).complete n stBusy []
    else
      let s := (s.acceptStaged n p).updSlot n (fun y => { y with taken := true })
      s.finish n stDone (lengthBody (s.store.stream p.root p.ix).length) .plain
  | .confirm status body .plain => s.conclude n status body
  | .confirm status body (.openConv a) =>
    if x.failed then (s.undoJoin a).complete n stBusy []
    else (s.clearPend a).complete n status body
  | _ => s

/-- One confirmation of a slot returned, or failed; between the steps 3 and 6 of a compute reset its answer waits for the
replay (R457). -/
def confirmOne (s : State) (n : Nat) (ok : Bool) : State :=
  let x := s.slot n
  if x.state = .active then
    let s := s.setSlot n { x with waits := x.waits - 1, failed := x.failed || !ok }
    if x.waits ≤ 1 ∧ s.rel.cr ≠ .rebuilding then s.slotConfirmed n else s
  else s

/-- One confirmation, where a slot waits for it. -/
def confirmOpt (s : State) (n : Option Nat) (ok : Bool) : State :=
  match n with
  | some k => s.confirmOne k ok
  | none => s

/-! Pages wherever they lie. -/

/-- The stub header of a page wherever it lies. -/
def anyHeader (s : State) (p : Nat) : Frame :=
  let e := s.store.pent p
  if e.tier = .silt then (s.store.cell (Store.cellKey e.silt)).hdr else s.store.header p

/-- The stream of a page from its header: its root record and index. -/
def streamOfPage (s : State) (p : Nat) : Option (Nat × Nat × Root) :=
  let h := s.anyHeader p
  let find (kind : Nat) : Option (Nat × Nat × Root) :=
    (s.recordOf kind h.ctx h.conv).bind (fun a => (s.store.root a).bind (fun r =>
      let ix := Store.streamIx r h.layer h.kvh
      if (s.store.stream a ix).pages.any (fun e => e.page == p) then some (a, ix, r) else none))
  (find kindConv).orElse (fun _ => find kindGroup)

/-! Restoration (R164, R230). -/

/-- The restoration of a page in progress. -/
def restore? (s : State) (p : Nat) : Option Restore := s.rel.restores.find? (fun r => r.page == p)

/-- Replace a restoration. -/
def setRestore (s : State) (x : Restore) : State :=
  { s with rel := { s.rel with restores := s.rel.restores.filter (fun r => r.page != x.page) ++ [x] } }

/-- Take a restoration off the list. -/
def dropRestore (s : State) (p : Nat) : State :=
  { s with rel := { s.rel with restores := s.rel.restores.filter (fun r => r.page != p) } }

/-- Promotions of a page that have not begun their flash read are withdrawn: the page's restoration takes their place (R123,
R230). -/
def dropUnread (s : State) (p : Nat) : State :=
  s.updStore (fun st => { st with chans := st.chans.map (fun e => (e.1, { e.2 with
    queue := e.2.queue.filter (fun j => !(decide (j.kind = .promote) && j.page == p && !j.started)) })) })

/-- Start restoring a page: its other copy is asked for by GET — the mirror partner's copy of a page of this node's own,
the origin's page for a copy held for another node. -/
def startRestore (s : State) (p : Nat) : State :=
  if (s.restore? p).isSome || !s.store.valid p then s
  else
    let s := s.dropUnread p
    let h := s.anyHeader p
    let grp := (s.recordOf kindConv h.ctx h.conv).isNone && (s.recordOf kindMconv h.ctx h.conv).isNone
    let ask : Option (Nat × Bool) :=
      if h.pstate = .mirror then (s.rmaConn h.ctx h.origin rightRead).map (fun k => (k, false))
      else if h.cidx < 8 ∧ h.sealedCopy then none
      else (s.mirrorConn h.ctx).map (fun k => (k, true))
    match ask with
    | none => s.setRestore { page := p }
    | some (k, mirror) =>
      (s.setRestore { page := p, asked := true }).rmaSend k kRmaRead mirror h.conv h.layer h.kvh
        { op := opGet, form := formStream, grp := grp, firstpos := h.firstpos } [] (.restore p)

/-- Note a reader that waits for a restoration. -/
def addReader (s : State) (p : Nat) (r : Reader) : State :=
  match s.restore? p with
  | some x => s.setRestore { x with readers := x.readers ++ [r] }
  | none => s

/-! Uncorrectable words (R164). -/

/-- Ask for a ledger structure with an uncorrectable word: the partner's copy of this node's own record, the original of
a copy (R164). With no connection OPEN it waits for one. -/
def askLedger (s : State) (pc a : Nat) : State :=
  match (s.ledgerOwner pc a).bind (fun o => s.store.root o) with
  | none => s
  | some r =>
    let s := s.updStore (fun st => { st with ledgerUe := st.ledgerUe.filter (fun x => x != (pc, a)) ++ [(pc, a)] })
    match if r.mirror then s.rmaConn r.ctx r.originNode rightRead else s.mirrorConn r.ctx with
    | none => { s with unsent := s.unsent ++ [{ ctx := r.ctx, conv := r.conv, use := .ledgerUe pc a }] }
    | some k => s.rmaSend k kRmaRead (!r.mirror) r.conv 0 0 { op := opLedger, grp := r.group } [] (.ledgerUe pc a)

/-- The page whose bytes lie at a PC-local address of a frame or stub, if it is in use; a summary slot's page is that whose
summary it holds. Header bytes are metadata. -/
def pageAt (s : State) (pc a : Nat) : Option Nat :=
  let f := if a < 0x3C000000 then a / 0x4000 else (a - 0x3C000000) / 0x800
  if a < 0x43800000 then
    let h := s.store.frame pc f
    if Store.isSummaryFrame h then
      if a < 0x3C000000 then s.store.slotPage pc f ((a - frameAddr f) / slotBytes h.dim) else none
    else
    let p := if h.pstate = .ext then (s.store.frame pc (f - 1)).page else h.page
    if decide (h.pstate ≠ .free) && decide (h.pstate ≠ .retired) && s.store.inDram p then some p else none
  else none

/-- Whether an address holds a stub header, the page map or the allocation state (R164). -/
def isMeta (a : Nat) : Bool :=
  (decide (0x3C000000 ≤ a) && decide (a < 0x43800000) && decide ((a - 0x3C000000) % 0x800 < 0x40)) ||
  (decide (0x43800000 ≤ a) && decide (a < 0x44880000))

/-- An uncorrectable word at an address (R164): a page is restored, metadata is rebuilt by the Bursar, and a ledger structure
is asked for at the mirror partner. -/
def ueAt (s : State) (pc a : Nat) : State :=
  if isMeta a then
    if s.store.metaUe.contains (pc, a) then s
    else (s.pgFault pc 1 a).updStore (fun st => { st with metaUe := st.metaUe ++ [(pc, a)] })
  else if 0x44880000 ≤ a ∧ a < 0x47000000 then
    if s.store.ledgerUe.contains (pc, a) then s else s.askLedger pc a
  else
    match s.pageAt pc a with
    | some p => s.startRestore p
    | none => s

/-- Read the metadata and ledger words that work on some records needs (R163, R164): corrected words are written back, and
one that is uncorrectable is rebuilt, or asked for at the partner, while the work waits. -/
def senseNeeded (s : State) (ctx : Nat) (grows : Bool) (as : List Nat) : State :=
  let at' (w : Nat) : Nat × Nat := (w / 2 ^ 26, w % 2 ^ 26 * 32)
  let ws := (s.store.errs.map (·.1)).filter (fun w =>
    let x := at' w
    (isMeta x.2 || (decide (0x44880000 ≤ x.2) && decide (x.2 < 0x47000000))) && !s.store.metaUe.contains x &&
      !s.store.ledgerUe.contains x && s.needsWord ctx grows as x)
  ws.foldl (fun q w =>
    let r := q.readWords (at' w).1 [w]
    if r.2 then r.1.ueAt (at' w).1 (at' w).2 else r.1) s

/-- A request that has come to its turn reads the metadata and ledger words it needs; a lost conversation's is answered
without them (R469). -/
def senseFor (s : State) (n : Nat) : State :=
  let x := s.slot n
  if s.isLost x.hdr.ctx x.hdr.conv then s else s.senseNeeded x.hdr.ctx (s.takesFrames x) (s.recordsOf x)

/-! Seals toward the partner (R152 step 4, R172). -/

/-- A page's coded payload, from DRAM or from its cell (R329). -/
def pagePayload (s : State) (p : Nat) : Bytes :=
  let e := s.store.pent p
  if e.tier = .silt then
    let k := s.store.openCell (Store.cellKey e.silt)
    let k2 := s.store.openCell (Store.cellKey e.silt + 1)
    if e.wide then k.1 ++ k2.1 ++ k.2 ++ k2.2 else k.1 ++ k.2
  else s.store.payload p

/-- The seal tag of a page, from DRAM or from its cell. -/
def pageTag (s : State) (p : Nat) : Bytes :=
  let e := s.store.pent p
  if e.tier = .silt then (s.store.openCell (Store.cellKey e.silt)).2.take 32 else s.store.sealTag p

/-- Keep the seal of a page until a connection to the partner opens (R536), or, where a slot still waits for it, until the
page is restored (R164). -/
def keepSeal (s : State) (n : Option Nat) (p : Nat) : State :=
  let h := s.anyHeader p
  { s with unsent := s.unsent ++ [{ ctx := h.ctx, conv := h.conv, layer := h.layer, kvh := h.kvh,
                                    use := .lookSeal n p }] }

/-- Send the seal of a page with its tag, or first a LOOKUP where the copy's reference is not known (R332). A tag that
cannot be read is restored with its page first (R163, R164). -/
def sendSeal (s : State) (n : Option Nat) (p : Nat) : State :=
  let h := s.anyHeader p
  let grp := match s.streamOfPage p with | some (_, _, r) => r.group | none => false
  let ref := s.store.copyRef p
  match s.mirrorConn h.ctx with
  | none => (s.keepSeal none p).confirmOpt n true
  | some k =>
    if ref.live then
      let r := if s.store.inDram p then s.sense (pagePc p) [(stubAddr (s.store.frameOf p) + 0x40, 32)] else (s, false)
      let s := r.1
      if r.2 then (s.startRestore p).keepSeal n p
      else s.rmaSend k kRmaWrite true h.conv h.layer h.kvh
        { op := opMstate, form := formRef, grp := grp, page := ref.page, gen := ref.gen, insilt := ref.insilt, arg := 2 }
        (s.pageTag p) (.seal n p)
    else
      s.rmaSend k kRmaRead true h.conv h.layer h.kvh
        { op := opLookup, form := formStream, grp := grp, firstpos := h.firstpos } [] (.lookSeal n p)

/-- Send a sealed page whole to the partner by MPAGE (R172); one with an uncorrectable word is restored first. -/
def sendMpage (s : State) (n : Option Nat) (p : Nat) : State :=
  let h := s.anyHeader p
  let grp := match s.streamOfPage p with | some (_, _, r) => r.group | none => false
  match s.mirrorConn h.ctx with
  | none => (s.keepSeal none p).confirmOpt n true
  | some k =>
    let r := s.sensePage p
    let s := r.1
    if r.2 then (s.startRestore p).keepSeal n p
    else s.rmaSend k kRmaWrite true h.conv h.layer h.kvh
      { op := opMpage, form := formNew, grp := grp, firstpos := h.firstpos, page := p, arg := h.rows }
      (s.pagePayload p) (.resend n p)

/-- The reference bytes of a response as a copy reference (Table 10-8). -/
def refOf (b : Bytes) : CopyRef :=
  { live := true, page := fieldOf (numAt b 0 8) 39 0, gen := fieldOf (numAt b 8 8) 31 0, insilt := (numAt b 0 8).testBit 40 }

/-! Coding at a data node (R173 to R175). -/

/-- Keep a contribution or removal that no OPEN connection can carry until one can (log entry 40). -/
def keepCoding (s : State) (h : Frame) (p : Nat) (use : RmaUse) : State :=
  { s with unsent := s.unsent ++ [{ ctx := h.ctx, conv := h.conv, desc := { page := p }, use := use }] }

/-- Take a coded page out of its group: its payload goes to the keeper once more, and the page is freed when the
removal is confirmed (R175). One with an uncorrectable word is restored first. -/
def uncode (s : State) (p : Nat) : State :=
  let h := s.anyHeader p
  let sl := s.sliceRec (s.sliceOf h.ctx)
  match s.rmaConn h.ctx (getAt 0 sl.cnode 8) rightCode with
  | none => s.keepCoding h p (.uncode p)
  | some k =>
    let r := s.sensePage p
    let s := r.1
    if r.2 then (s.startRestore p).keepCoding h p (.uncode p)
    else s.rmaSend k kRmaWrite false h.conv h.layer h.kvh
      { op := opCode, arg := h.cidx + 16, arg2 := h.cseq + place 32 h.cset } (s.pagePayload p) (.uncode p)

/-- Whether a contribution of a page waits for its answer, or to be sent again. -/
def contributing (s : State) (p : Nat) : Bool :=
  s.conns.any (fun e => e.2.outs.any (fun o => decide (o.use = .contribute p))) ||
  s.unsent.any (fun u => decide (u.use = .contribute p))

/-- Send a page to the keeper as a member of the group its header names; one with an uncorrectable word is restored first. -/
def sendMember (s : State) (p : Nat) : State :=
  let h := s.anyHeader p
  let sl := s.sliceRec (s.sliceOf h.ctx)
  match s.rmaConn h.ctx (getAt 0 sl.cnode 8) rightCode with
  | none => s.keepCoding h p (.contribute p)
  | some k =>
    let r := s.sensePage p
    let s := r.1
    if r.2 then (s.startRestore p).keepCoding h p (.contribute p)
    else s.rmaSend k kRmaWrite false h.conv h.layer h.kvh
      { op := opCode, arg := sl.cidx + place 8 h.rows + place 16 h.kvfmt + place 20 h.dim,
        arg2 := h.cseq + place 32 h.cset, firstpos := h.firstpos, page := p, gen := h.gen }
      (s.pagePayload p) (.contribute p)

/-- Contribute a sealed page of a coded slice to the oldest group of its set and extent size in which this node's index
is neither filled nor, as far as the keeper has said, declared zero (R174). -/
def contribute (s : State) (p : Nat) : State :=
  let h := s.anyHeader p
  let sl := s.sliceRec (s.sliceOf h.ctx)
  if !sl.coded || decide (7 < sl.cidx) then s
  else
    let key := sl.cset * 2 + bnat h.wide
    let g := SMap.get 0 s.store.nextGroup key
    (s.updStore (fun st =>
      ({ st with nextGroup := SMap.set 0 st.nextGroup key (g + 1) }).updAnyHeader p
        (fun f => { f with cset := sl.cset, cseq := g }))).sendMember p

/-- Ask the partner for its copy of a coded page whose group is complete, to release it; with no connection OPEN the
release waits for one (R49, R174). -/
def askRelease (s : State) (p : Nat) : State :=
  let h := s.anyHeader p
  let grp := match s.streamOfPage p with | some (_, _, r) => r.group | none => false
  match s.mirrorConn h.ctx with
  | none => s.keepCoding h p (.release p)
  | some k =>
    s.rmaSend k kRmaRead true h.conv h.layer h.kvh
      { op := opLookup, form := formStream, grp := grp, firstpos := h.firstpos } [] (.release p)

/-- Key of a coding group at a parity node: groups of wide pages are numbered apart from the others, 2^16 above in the
set (R174, log entry 55). -/
def groupKey (cset gseq : Nat) : Nat := cset * 2 ^ 32 + gseq

/-- Whether every index of a group is filled or declared. -/
def groupComplete (g : CodeGroup) : Bool := g.members.all (fun m => m.filled || m.declared)

/-- The numbers of every page this node holds. -/
def allPageNums (s : State) : List Nat := s.store.pmap.map (fun e => pageNum (e.1 / 2 ^ 21) (e.1 % 2 ^ 21) e.2.use)

/-- Whether this node knows a group to be complete (R49, R174). No message tells it; it follows from the keeper's rule: this
node contributes to every group of a set in turn, and each landing has the keeper declare the oldest incomplete group that
lies LAG or more before it, so that all groups LAG or more before a confirmed contribution are complete, as long as no
contribution before that one is still on its way (DEDUCED, log entry 25). -/
def knowsComplete (s : State) (cset gseq : Nat) (wide : Bool) : Bool :=
  let lag := s.rfld .pgCodeCfg 0 7 0
  let mine := s.allPageNums.filter (fun q =>
    let h := s.anyHeader q
    s.store.valid q && h.pstate == .sealed && h.cset == cset && h.wide == wide)
  mine.any (fun q =>
    let h := s.anyHeader q
    decide (h.cidx < 8) && decide (gseq + lag ≤ h.cseq) &&
      mine.all (fun r => !s.contributing r || decide (h.cseq < (s.anyHeader r).cseq)))

/-- Release the mirror copies of this node's coded pages, wherever they lie, whose groups are complete (R49, R174). -/
def releaseCopies (s : State) : State :=
  let due := s.allPageNums.filter (fun p =>
    let h := s.anyHeader p
    s.store.valid p && decide (h.pstate = .sealed) && decide (h.cidx < 8) && !h.sealedCopy &&
      s.knowsComplete h.cset h.cseq h.wide)
  due.foldl (fun q p => (q.updStore (fun st => st.updAnyHeader p (fun f => { f with sealedCopy := true }))).askRelease p) s

/-! Answers (R331, R332). -/

/-- Send an RMA request of the module's own once more, as a new one. -/
def sendAgain (s : State) (o : RmaOut) : State :=
  let d := RmaDesc.ofBytes o.body
  let mirror := o.hdr.flag flagMirror
  let sl := s.sliceRec (s.sliceOf o.hdr.ctx)
  let k? := if mirror then s.mirrorConn o.hdr.ctx else s.rmaConn o.hdr.ctx (getAt 0 sl.cnode 8) rightCode
  match k? with
  | some k => s.rmaSend k o.hdr.kind mirror o.hdr.conv o.hdr.layer o.hdr.kvh d (o.body.drop 32) o.use
  | none => { s with unsent := s.unsent ++ [{ ctx := o.hdr.ctx, conv := o.hdr.conv, layer := o.hdr.layer,
                                              kvh := o.hdr.kvh, desc := d, body := o.body.drop 32, use := o.use }] }

/-- Whether the end-to-end limit of a staged APPEND still runs: E2E of the furrow its rows were first sent over (R42,
R332). -/
def withinE2e (s : State) (n : Nat) : Bool :=
  let x := s.slot n
  decide (s.hubUnits < x.began + s.e2e x.via)

/-- A staged APPEND's parts in one page, sent again (R332). -/
def resendRows (s : State) (n p : Nat) : State :=
  let x := s.slot n
  match x.prog with
  | .staged g =>
    match s.store.root g.root with
    | none => s.confirmOne n false
    | some r =>
      let s := s.updSlot n (fun y => { y with waits := y.waits - 1 })
      match s.sendParts n r g (g.parts.filter (fun q => q.1 == p)) with
      | some t => t
      | none => (s.updSlot n (fun y => { y with waits := y.waits + 1 })).confirmOne n false
  | _ => s

/-- The LOOKUP of the page that holds a staged APPEND's rows. -/
def lookRows (s : State) (n p : Nat) : State :=
  let h := s.store.header p
  match s.mirrorConn h.ctx with
  | none => s.confirmOne n false
  | some k =>
    s.rmaSend k kRmaRead true h.conv h.layer h.kvh
      { op := opLookup, form := formStream, grp := (s.slot n).hdr.flag flagGroup, firstpos := h.firstpos } [] (.look n p)

/-- An answer to mirror, seal and coding traffic: the status and payload of the response, or none when the request
failed with its connection (R331). A change that the partner refuses on an OPEN connection is not applied there yet, and
is sent again before its request may be answered (R171, log entry 64). -/
def settleMirror (s : State) (use : RmaUse) (status : Option Nat) (o : RmaOut) (body : Bytes) : State :=
  let done := decide (status = some stDone)
  let keep (q : State) : State :=
    q.keepUnsent o.hdr.ctx o.hdr.conv o.hdr.layer o.hdr.kvh (RmaDesc.ofBytes o.body) (o.body.drop 32)
  match use with
  | .slot n =>
    if done then s.confirmOne n true
    else if status.isSome then s.sendAgain o
    else (keep s).confirmOne n true
  | .none => if done then s else if status.isSome then s.sendAgain o else keep s
  | .freed n fp =>
    if done then s.confirmOpt n true
    else if status.isSome then s.sendAgain { o with
      hdr := { o.hdr with kind := kRmaRead }, use := .lookFree n fp
      body := ({ op := opLookup, form := formStream, grp := (RmaDesc.ofBytes o.body).grp, firstpos := fp } : RmaDesc).toBytes }
    else (s.sendAgain { o with
      hdr := { o.hdr with kind := kRmaRead }, use := .lookFree none fp
      body := ({ op := opLookup, form := formStream, grp := (RmaDesc.ofBytes o.body).grp, firstpos := fp } : RmaDesc).toBytes
      }).confirmOpt n true
  | .lookFree n fp =>
    if done then
      let ref := refOf body
      if fieldOf (numAt body 8 8) 55 32 = fp then
        s.sendAgain { o with
          hdr := { o.hdr with kind := kRmaWrite }, use := .freed n fp
          body := ({ op := opMstate, form := formRef, grp := (RmaDesc.ofBytes o.body).grp, page := ref.page, gen := ref.gen,
                     insilt := ref.insilt, arg := 5 } : RmaDesc).toBytes }
      else s.confirmOpt n true
    else if status = some stBadRange then s.confirmOpt n true
    else if status.isSome then s.sendAgain o
    else (s.sendAgain { o with use := .lookFree none fp }).confirmOpt n true
  | .rows n p =>
    if done then (s.updStore (fun st => if p = 0 then st else st.setCopyRef p (refOf body))).confirmOne n true
    else if status = some stBadRange && p != 0 && s.withinE2e n then s.lookRows n p
    else s.confirmOne n false
  | .look n p =>
    if done then (s.updStore (fun st => st.setCopyRef p (refOf body))).resendRows n p
    else if status.isSome && s.withinE2e n then s.lookRows n p
    else s.confirmOne n false
  | .seal n p =>
    if done && (numAt body 0 1) % 2 == 1 then
      (s.updStore (fun st => st.setCopyRef p {})).confirmOpt n true
    else if done then s.sendMpage n p
    else if status.isSome then (s.updStore (fun st => st.setCopyRef p {})).sendSeal n p
    else (s.keepSeal none p).confirmOpt n true
  | .resend n p =>
    if done then (s.updStore (fun st => st.setCopyRef p (refOf body))).sendSeal n p
    else if status.isSome then s.sendMpage n p
    else (s.keepSeal none p).confirmOpt n true
  | .lookSeal n p =>
    if done then (s.updStore (fun st => st.setCopyRef p (refOf body))).sendSeal n p
    else if status = some stBadRange then s.sendMpage n p
    else if status.isSome then s.sendAgain o
    else (s.keepSeal none p).confirmOpt n true
  | .contribute p =>
    if !s.store.valid p then s
    else
      let h := s.anyHeader p
      let gone := (s.streamOfPage p).isNone
      if done then
        let sl := s.sliceRec (s.sliceOf h.ctx)
        let s := s.updStore (fun st => st.updAnyHeader p (fun f => { f with cidx := sl.cidx }))
        let s := (s.count .pgCodeCntCoded 0 1).releaseCopies
        if gone then s.uncode p else s
      else if status = some stBadRange then
        if gone then s.updStore (fun st => st.freePage p) else s.contribute p
      else if status.isSome then s.sendMember p
      else s.keepCoding h p (.contribute p)
  | .uncode p =>
    if done ∨ status = some stBadRange then (s.updStore (fun st => st.freePage p)).releaseCopies
    else if status.isSome then s.uncode p
    else s.keepCoding (s.anyHeader p) p (.uncode p)
  | .release p =>
    let h := s.anyHeader p
    let grp := match s.streamOfPage p with | some (_, _, r) => r.group | none => false
    if done then
      match s.mirrorConn h.ctx with
      | none => s.keepCoding h p (.release p)
      | some k =>
        let ref := refOf body
        s.rmaSend k kRmaWrite true h.conv h.layer h.kvh
          { op := opMstate, form := formRef, grp := grp, page := ref.page, gen := ref.gen, insilt := ref.insilt, arg := 6,
            arg2 := h.cseq + place 32 h.cidx } [] (.released p)
    else if status.isNone then s.keepCoding h p (.release p)
    else if status = some stBadRange then s.count .pgCodeCntMirrel 0 1
    else s.askRelease p
  | .released p =>
    if done then s.count .pgCodeCntMirrel 0 1
    else if status.isSome then s.askRelease p
    else s.keepCoding (s.anyHeader p) p (.release p)
  | _ => s

end State

end Sys2Proof.Machine
end

