-- ==== Sys2Proof/Machine/Silt.lean ====
section
/-! DEFINITION. The silt tier: which pages may sink, the channels' queues, promotions and pressure (chapter 7). -/

namespace Sys2Proof.Machine

namespace State

/-! Which channel and which configuration (R216, R236). -/

/-- The channel R216 chooses first for a pseudo-channel. -/
def homeChan (s : State) (pc : Nat) : Nat := if s.chanCount = 0 then 0 else pc % s.chanCount

/-- The port die whose ST_CFG rules a pseudo-channel (R236). -/
def stDie (s : State) (pc : Nat) : Nat := s.homeChan pc / 4
def lowWm (s : State) (pc : Nat) : Nat := s.rfld .stCfg (s.stDie pc) 15 0
def highWm (s : State) (pc : Nat) : Nat := s.rfld .stCfg (s.stDie pc) 31 16
def bgEn (s : State) (pc : Nat) : Bool := s.rbit .stCfg (s.stDie pc) 51

/-- Whether a channel can take a copy: it is up, accepts programs and has a free cell, or two. -/
def chanTakes (s : State) (ch : Nat) (wide : Bool) : Bool :=
  let x := s.store.chan ch
  !x.down && !x.noprog && (s.store.freeCell ch wide).isSome

/-- The channel a sink chooses for a page (R216). -/
def sinkChan (s : State) (p : Nat) (wide : Bool) : Option Nat :=
  let n := s.chanCount
  ((List.range n).map (fun i => (s.homeChan (pagePc p) + i) % n)).find? (fun ch => s.chanTakes ch wide)

/-! Which pages may sink (R218, R221, R222). -/

/-- The header of a page of a frame's own page number. -/
def isPageOf (s : State) (h : Frame) (f : Nat) : Bool := s.store.inDram h.page && (s.store.pent h.page).frame == f

/-- Whether a page may have a silt copy written (R218). -/
def mayCopy (s : State) (p : Nat) : Bool :=
  let h := s.store.header p
  s.store.inDram p && !Store.isSummaryFrame h &&
  (match h.pstate with
   | .sealed => (numAt (s.store.summary p h.dim) 2 1) % 2 == 1
   | .mirror => h.sealedCopy
   | .parity => true
   | _ => false)

/-- Whether a hint keeps pages from sinking (Table 07-3). -/
def hintKeeps (h : Hint) : Bool := match h with | .hot => true | .resumeSoon => true | _ => false

/-- The hint that governs a SEALED page, and when its conversation was last attended; a group's page never sinks while
a member's hint is HOT or RESUME_SOON (R221). -/
def pageHint (s : State) (p : Nat) : Hint × Nat :=
  match s.streamOfPage p with
  | none => (.warm, 0)
  | some (a, _, r) =>
    if r.group && s.store.roots.any (fun e => match e.2 with
        | some m => m.groupLedger == a && !m.mirror && hintKeeps m.hint
        | none => false) then (.hot, r.attended)
    else (r.hint, r.attended)

/-- The order in which pressure takes a page, if it takes it at all (R222): class and last attendance. -/
def sinkOrder (s : State) (p : Nat) : Option (Nat × Nat) :=
  let h := s.store.header p
  if !s.mayCopy p then none
  else if h.pstate = .sealed then
    match s.pageHint p with
    | (.cold, t) => some (1, t)
    | (.warm, t) => some (2, t)
    | _ => none
  else some (0, 0)

/-- Whether a frame must not be released now (R206, R220): an ATTEND still needs the page, a grant names it, or a
promotion of it is in flight. -/
def releaseBlocked (s : State) (p : Nat) : Bool :=
  s.slots.any (fun e => match e.2.prog with
    | .attend a => decide (e.2.state = .active) &&
        (if a.stage = .scoring then a.snap.any (fun x => x.page == p) else a.chosen.contains p)
    | _ => false) ||
  s.store.pins.contains p ||
  s.store.chans.any (fun e => e.2.queue.any (fun j => decide (j.kind = .promote) && j.page == p))

/-- Whether a page's silt copy is queued or being written. -/
def copyQueued (s : State) (p : Nat) : Bool :=
  s.store.chans.any (fun e => e.2.queue.any (fun j => decide (j.kind = .copy) && j.page == p))

/-- Queue a release of a BOTH page's frame; a SEALED page's summary is to be copied first (R220). -/
def queueRelease (s : State) (p : Nat) : State :=
  if s.store.releases.contains p || decide ((s.store.pent p).tier ≠ .both) then s
  else
    let s := s.updStore (fun st => { st with releases := st.releases ++ [p] })
    if (s.store.header p).pstate = .sealed then
      s.ask { prog := .sumcopy, page := p }
    else s

/-- Queue the writing of a page's silt copy (R216, R219, R234). -/
def queueCopy (s : State) (p cls : Nat) (release : Bool) : State :=
  let wide := (s.store.header p).wide
  if s.copyQueued p then
    s.updStore (fun st => { st with chans := st.chans.map (fun e => (e.1, { e.2 with queue := e.2.queue.map (fun j =>
      if decide (j.kind = .copy) && j.page == p then { j with cls := Nat.min j.cls cls, release := j.release || release }
      else j) })) })
  else
    match s.sinkChan p wide with
    | none => s.count .stCntFull (s.homeChan (pagePc p)) 1
    | some ch => s.updStore (fun st => st.updChan ch (fun x =>
        { x with queue := x.queue ++ [{ kind := .copy, cls := cls, page := p, wide := wide, release := release }] }))

/-- What COLD asks of a page at once: its silt copy, and its frame's release once that is written (Table 07-3). -/
def sinkCold (s : State) (p : Nat) : State :=
  if (s.store.header p).pstate = .sealed ∧ s.mayCopy p ∧ (s.pageHint p).1 = .cold then
    if (s.store.pent p).tier = .both then s.queueRelease p else s.queueCopy p 5 true
  else s

/-- Whether a promotion waits for a frame of a pseudo-channel (R225 step 1). -/
def frameWanted (s : State) (pc : Nat) : Bool :=
  s.store.chans.any (fun e => e.2.queue.any (fun j => decide (j.kind = .promote) && !j.started && pagePc j.page == pc &&
    (s.store.freeFrame pc (s.store.pent j.page).wide).isNone))

/-- Whether a pseudo-channel releases frames of pages that a hint does not sink: its pressure is being relieved, or a
promotion waits for a frame (R222, R225). -/
def relieves (s : State) (pc : Nat) : Bool :=
  (s.store.relieving.contains pc && decide (s.store.freeFrames pc < s.highWm pc)) || s.frameWanted pc

/-- Whether the frame of a page in both tiers is to be released now (Table 07-3, R222). -/
def releaseWanted (s : State) (p : Nat) : Bool :=
  if (s.store.header p).pstate = .sealed then
    match (s.pageHint p).1 with
    | .cold => true
    | .warm => s.relieves (pagePc p)
    | _ => false
  else s.relieves (pagePc p)

/-- Withdraw releases that nothing asks for any longer, with the summary slots already taken for them. -/
def trimReleases (s : State) : State :=
  let drop := s.store.releases.filter (fun p => !s.releaseWanted p)
  if drop.isEmpty then s
  else
    let slots := s.store.sumcopied.filter (fun x => drop.contains x.1)
    let s := s.updStore (fun st => { st with
      releases := st.releases.filter (fun p => !drop.contains p)
      sumcopied := st.sumcopied.filter (fun x => !drop.contains x.1) })
    let s := s.dropVjobs (fun j => decide (j.prog = VProg.sumcopy) && drop.contains j.page)
    slots.foldl (fun q x => q.updStore (fun st => st.dropSummaryFrame (pagePc x.1) x.2.1)) s

/-- The pages that lie in a pseudo-channel's frames, with the frame of each. -/
def pagesIn (s : State) (pc : Nat) : List Nat :=
  ((SMap.range s.store.frames (frameKey pc 0) (frameKey pc framesPerPc)).filter (fun e =>
    s.isPageOf e.2 (e.1 - frameKey pc 0) && pagePc e.2.page == pc)).map (fun e => e.2.page)

/-- Put a page in the order of R222. -/
def insertBy (x : (Nat × Nat) × Nat) : List ((Nat × Nat) × Nat) → List ((Nat × Nat) × Nat)
  | [] => [x]
  | y :: t => if x.1.1 < y.1.1 ∨ (x.1.1 = y.1.1 ∧ x.1.2 < y.1.2) then x :: y :: t else y :: insertBy x t

/-- The pages pressure may take in a pseudo-channel, in order. -/
def sinkList (s : State) (pc : Nat) : List Nat :=
  ((s.pagesIn pc).foldl (fun l p => match s.sinkOrder p with
    | some o => insertBy (o, p) l
    | none => l) []).map (·.2)

/-- Frames of a page. -/
def framesOf (s : State) (p : Nat) : Nat := if (s.store.pent p).wide then 2 else 1

/-- Whether a page's silt copy is queued or being written with its frame to be released after it. -/
def sinking (s : State) (p : Nat) : Bool :=
  s.store.chans.any (fun e => e.2.queue.any (fun j => decide (j.kind = .copy) && j.page == p && j.release))

/-- Frames on their way to be released in a pseudo-channel, but those of pages whose release is blocked (R220). -/
def releasing (s : State) (pc : Nat) : Nat :=
  ((s.store.releases.filter (fun p => pagePc p == pc && !s.releaseBlocked p)).map s.framesOf).sum +
  (s.store.chans.map (fun e => ((e.2.queue.filter (fun j =>
    decide (j.kind = .copy) && j.release && pagePc j.page == pc && !s.releaseBlocked j.page)).map
      (fun j => if j.wide then 2 else 1)).sum)).sum

/-- Queue releases until enough frames are on their way; a page whose release is blocked is passed over for another (R220,
R222, R234). -/
def sinkSome : List Nat → Nat → State → State
  | [], _, s => s
  | p :: t, need, s =>
    if need = 0 then s
    else if s.releaseBlocked p || s.store.releases.contains p || s.sinking p then sinkSome t need s
    else if (s.store.pent p).tier = .both then sinkSome t (need - s.framesOf p) (s.queueRelease p)
    else
      let q := s.queueCopy p 4 true
      if q.copyQueued p then sinkSome t (need - s.framesOf p) q else sinkSome t need q

/-- Relieve a pseudo-channel (R222): pressure begins below LOW_WM and lasts until the free frames reach HIGH_WM or no
eligible page remains; a promotion that waits for a frame has room made for it whatever the watermarks (R225). -/
def pressure (s : State) (pc : Nat) : State :=
  let free := s.store.freeFrames pc
  let ps := s.sinkList pc
  let on := (s.store.relieving.contains pc || decide (free < s.lowWm pc)) && decide (free < s.highWm pc) &&
    ps.any (fun p => !s.releaseBlocked p)
  let rest := s.store.relieving.filter (· != pc)
  let s := s.updStore (fun st => { st with relieving := if on then rest ++ [pc] else rest })
  let goal := Nat.max (if on then s.highWm pc - free else 0) (if s.frameWanted pc then 2 else 0)
  (sinkSome ps (goal - s.releasing pc) s).trimReleases

/-- The copies hints ask for in a pseudo-channel (Table 07-3). -/
def hinted (s : State) (pc : Nat) : State :=
  (s.pagesIn pc).foldl (fun q p =>
    if (q.store.header p).pstate = .sealed ∧ q.mayCopy p then
      match (q.pageHint p).1 with
      | .cold => q.sinkCold p
      | .warm => if q.bgEn pc && decide ((q.store.pent p).tier = .near) then q.queueCopy p 5 false else q
      | _ => q
    else q) s

/-! Channel queues (R225, R227). -/

/-- The index of the first job of lowest class that satisfies a test. -/
def bestJob (ok : ChanJob → Bool) : Nat → List ChanJob → Option (Nat × Nat)
  | _, [] => none
  | i, j :: t =>
    match bestJob ok (i + 1) t with
    | none => if ok j then some (i, j.cls) else none
    | some (k, c) => if ok j && decide (j.cls ≤ c) then some (i, j.cls) else some (k, c)

/-- Note, in the ATTEND whose run-ahead a promotion is, that its flash read has been issued (Table 04-4). -/
def noteRead (s : State) (ra : Option Nat) (p : Nat) : State :=
  match ra with
  | none => s
  | some n =>
    match (s.slot n).prog with
    | .attend a => s.updSlot n (fun x => { x with prog := .attend { a with raRead := a.raRead ++ [p] } })
    | _ => s

/-- Start a read: a promotion first takes a frame of the page's home pseudo-channel (R225 step 1). The frame's header is the
one the page has as the read begins; a CIDX or CSEQ that an answer sets in the cell's header while the read runs does not
reach it (DESIGN CHOICE, log entry 174). -/
def startRead (s : State) (ch i : Nat) (j : ChanJob) : Option State :=
  if j.kind = .promote then
    let pc := pagePc j.page
    let e := s.store.pent j.page
    let h := (s.store.cell (Store.cellKey e.silt)).hdr
    (s.store.freeFrame pc e.wide).map (fun f =>
      ((({ s with store := s.store.takeFrame pc f h } : State).noteFill h.ctx).setJob ch i
        { j with started := true, frame := f, wide := e.wide, cell := e.silt / 16 }).noteRead j.ra j.page)
  else some (s.setJob ch i { j with started := true, cell := (s.store.pent j.page).silt / 16 })

/-- Start the next read of a channel; a promotion with no frame waits while the next work goes on. -/
def startReads : Nat → State → Nat → List Nat → State × Bool
  | 0, s, _, _ => (s, false)
  | n + 1, s, ch, skip =>
    let q := (s.store.chan ch).queue
    match bestJob (fun j => decide (j.kind ≠ .copy) && !j.started && !skip.contains j.page) 0 q with
    | none => (s, false)
    | some (i, _) =>
      match s.startRead ch i (getAt {} q i) with
      | some t => (t, true)
      | none =>
        let p := (getAt {} q i).page
        startReads n (s.pressure (pagePc p)) ch (p :: skip)

/-- A copy looks for a cell from the page's home channel on (R216, R219 step 1); with none anywhere it is refused
(R234). -/
def requeueCopy (s : State) (j : ChanJob) : State :=
  let j := { j with started := false, cell := 0, frame := 0 }
  match s.sinkChan j.page j.wide with
  | some k => s.updStore (fun st => st.updChan k (fun x => { x with queue := x.queue ++ [j] }))
  | none => s.count .stCntFull (s.homeChan (pagePc j.page)) 1

/-- The cells of a copy are given the page's frames as ciphertext, and the trailer (R214, R215, R219); the directory marks
them LIVE when the programs have succeeded. -/
def fillCells (s : State) (ch : Nat) (j : ChanJob) : State :=
  let pc := pagePc j.page
  let h := s.store.frame pc j.frame
  let one (st : Store) (k : Nat) : Store :=
    let f := j.frame + k
    st.setCell (ch * 2 ^ 26 + j.cell + k)
      { page := j.page, use := pageUse j.page, second := k == 1, hdr := h
        extent := dramRead st.dram (gaddr pc (frameAddr f)) 0x4000
        stub := dramRead st.dram (gaddr pc (stubAddr f + 0x40)) 0x7C0
        under := st.underAt pc (frameAddr f) }
  s.updStore (fun st => if j.wide then one (one st 0) 1 else one st 0)

/-- Start the next copy of a channel: it takes a free cell, or goes to another channel where this one has none or takes no
programs, and reads the page through the ECC check with decryption bypassed; an uncorrectable word has the page restored
first (R216, R219). -/
def startCopy (s : State) (ch : Nat) : State :=
  let q := (s.store.chan ch).queue
  match bestJob (fun j => decide (j.kind = .copy) && !j.started) 0 q with
  | none => s
  | some (i, _) =>
    let j := getAt {} q i
    match if (s.store.chan ch).noprog then none else s.store.freeCell ch j.wide with
    | none => (s.dropJob ch i).requeueCopy j
    | some c =>
      let j := { j with started := true, cell := c, frame := (s.store.pent j.page).frame }
      let r := s.senseWords (pagePc j.page) (s.payloadRegions j.page)
      if r.2 then (r.1.dropJob ch i).startRestore j.page else (r.1.setJob ch i j).fillCells ch j

/-- Let a channel start what it can: one read, and one program when no read waits. -/
def pumpChan (s : State) (ch : Nat) : State :=
  let x := s.store.chan ch
  if x.down then s
  else
    let reading := x.queue.any (fun j => decide (j.kind ≠ .copy) && j.started)
    let r := if reading then (s, true) else startReads (x.queue.length + 1) s ch []
    let s := r.1
    let x := s.store.chan ch
    if x.queue.any (fun j => decide (j.kind = .copy) && j.started) ||
        x.queue.any (fun j => decide (j.kind ≠ .copy) && !j.started && r.2) then s
    else s.startCopy ch

/-- Let every channel start what it can; a copy that another channel had to take may start there too. -/
def pumpSilt (s : State) : State :=
  let once (s : State) : State := forUpTo s.chanCount s (fun ch q => q.pumpChan ch)
  once (once s)

/-! Promotions (R122, R226, R227). -/

/-- Mark, in the ATTEND whose run-ahead a promotion is, that another request relies on it (R122). -/
def relyOn (s : State) (n p : Nat) : State :=
  match (s.slot n).prog with
  | .attend a => s.updSlot n (fun x => { x with prog := .attend { a with
      relied := if a.relied.contains p then a.relied else a.relied ++ [p] } })
  | _ => s

/-- Ask for the promotion of a SILT page in a class: one in flight is joined and may rise in class (R122, R227). `who`
is the slot of an ATTEND that asks; `ra` that it asks by run-ahead. A page whose restoration is under way is only waited for
(R123, R230). The answer says whether a new one was issued. -/
def promotePage (s : State) (p cls : Nat) (who : Option Nat) (ra : Bool) : State × Bool :=
  let e := s.store.pent p
  if !s.store.valid p || decide (e.tier ≠ .silt) || (s.restore? p).isSome then (s, false)
  else
    match s.promotionOf p with
    | some (ch, i) =>
      let j := getAt {} (s.store.chan ch).queue i
      let foreign := j.ra.isSome && j.ra != who
      let s := if foreign then s.relyOn (j.ra.getD 0) p else s
      (s.setJob ch i { j with cls := Nat.min j.cls cls, relied := j.relied || foreign, other := j.other || who.isNone,
                              ra := if j.ra == who && !ra then none else j.ra }, false)
    | none =>
      let ch := e.silt % 16
      if (s.store.chan ch).down then (s, false)
      else
        (s.updStore (fun st => st.updChan ch (fun x => { x with
          queue := x.queue ++ [{ kind := .promote, cls := cls, page := p, wide := e.wide, other := who.isNone,
                                 ra := if ra then who else none }] })), true)

/-- Queue a read of a cell that is no promotion (R224, R329). One on a channel that is down waits for the page's restoration
(R232). -/
def queueRead (s : State) (p : Nat) (r : Reader) : State :=
  let e := s.store.pent p
  let ch := e.silt % 16
  if (s.store.chan ch).down then (s.startRestore p).addReader p r
  else
  let s := s.updStore (fun st => st.updChan ch (fun x =>
    { x with queue := x.queue ++ [{ kind := .read, cls := 1, page := p, wide := e.wide, reader := r }] }))
  s.pumpChan ch

/-- The smallest STALL_LIMIT among the port dies whose channels hold the SILT pages waited on (R236). -/
def stallLimit (s : State) (ps : List Nat) : Nat :=
  let ls := (ps.filter (fun p => decide ((s.store.pent p).tier = .silt))).map (fun p =>
    s.rfld .stCfg (((s.store.pent p).silt % 16) / 4) 47 32)
  ls.foldl Nat.min (ls.headD 0)

/-- The silt pages among some. -/
def siltOf (s : State) (ps : List Nat) : List Nat :=
  ps.filter (fun p => s.store.valid p && decide ((s.store.pent p).tier = .silt))

/-- An ST fault (R236): its bit and cause. -/
def stFault (s : State) (ch cause : Nat) : State :=
  let d := ch / 4
  ((s.setBit .stFault d (ch % 4)).rsFault 1).setReg .stFaultCause d (wordOf (ch + place 4 cause))

end State

end Sys2Proof.Machine
end

