-- ==== Sys2Proof/Machine/Float.lean ====
section
/-! DEFINITION. The arithmetic of chapter 2: element decoding (R55, R61), binary32 sums, products and
comparisons (R62), rounding to 20 significant bits and to BF16 (R64, R68), and the exponent unit (R64). -/

namespace Sys2Proof.F

/-- The direction a result rounds: to nearest even (R62), toward +infinity (R69), toward -infinity. -/
inductive Mode where
  | near | up | down
deriving DecidableEq, Repr

/-- A dyadic number m * 2^e. -/
structure Dy where
  m : Int
  e : Int
deriving DecidableEq, Repr

def sgn (x : F32) : Bool := x.toNat.testBit 31
def expo (x : F32) : Nat := fieldOf x.toNat 30 23
def frac (x : F32) : Nat := x.toNat % 2 ^ 23
def isNaN (x : F32) : Bool := expo x == 255 && frac x != 0
def isInf (x : F32) : Bool := expo x == 255 && frac x == 0
def isZero (x : F32) : Bool := x.toNat % 2 ^ 31 == 0
def isSub (x : F32) : Bool := expo x == 0 && frac x != 0
def isFinite (x : F32) : Bool := expo x != 255
def posInf : F32 := 0x7F800000
def negInf : F32 := 0xFF800000
def maxFinite : F32 := 0x7F7FFFFF
def one : F32 := 0x3F800000
def zeroOf (neg : Bool) : F32 := if neg then 0x80000000 else 0
def infOf (neg : Bool) : F32 := if neg then negInf else posInf
def neg (x : F32) : F32 := x ^^^ 0x80000000
def abs (x : F32) : F32 := x &&& 0x7FFFFFFF

/-- The exact value of a finite word. -/
def toDy (x : F32) : Dy :=
  let m : Nat := if expo x = 0 then frac x else frac x + 2 ^ 23
  let e : Int := (max (expo x) 1 : Nat) - 150
  ⟨if sgn x then -(m : Int) else m, e⟩

/-- 2^n of an Int exponent that is not negative. -/
def pow2 (n : Int) : Int := (2 ^ n.toNat : Nat)

def dyAdd (a b : Dy) : Dy :=
  let e := min a.e b.e
  ⟨a.m * pow2 (a.e - e) + b.m * pow2 (b.e - e), e⟩

def dyMul (a b : Dy) : Dy := ⟨a.m * b.m, a.e + b.e⟩

/-- a is below b. -/
def dyLt (a b : Dy) : Bool :=
  let e := min a.e b.e
  decide (a.m * pow2 (a.e - e) < b.m * pow2 (b.e - e))

/-- A magnitude n * 2^e cut to `bits` significant bits with least exponent `emin`: quotient, its exponent, and
whether it rounds up in the mode. -/
def cut (mode : Mode) (neg : Bool) (bits : Nat) (emin : Int) (n : Nat) (e : Int) : Nat × Int :=
  let sh : Int := max ((n.log2 : Int) + 1 - bits) (emin - e)
  if sh ≤ 0 then (n * 2 ^ (-sh).toNat, e + sh)
  else
    let d := 2 ^ sh.toNat
    let q := n / d
    let r := n % d
    let inc : Bool := match mode with
      | .near => decide (2 * r > d) || (decide (2 * r = d) && q % 2 == 1)
      | .up => !neg && r != 0
      | .down => neg && r != 0
    (if inc then q + 1 else q, e + sh)

/-- A dyadic number rounded to binary32; `zneg` is the sign of an exact zero. -/
def round (mode : Mode) (zneg : Bool) (d : Dy) : F32 :=
  if d.m = 0 then zeroOf zneg
  else
    let neg := decide (d.m < 0)
    let (q, e) := cut mode neg 24 (-149) d.m.natAbs d.e
    let (q, e) := if q = 2 ^ 24 then (2 ^ 23, e + 1) else (q, e)
    let field : Int := if q < 2 ^ 23 then 0 else e + 150
    if field ≥ 255 then
      match mode with
      | .near => infOf neg
      | .up => if neg then maxFinite ^^^ 0x80000000 else posInf
      | .down => if neg then negInf else maxFinite
    else
      let mag : Nat := if q < 2 ^ 23 then q else field.toNat * 2 ^ 23 + (q - 2 ^ 23)
      BitVec.ofNat 32 (mag + if neg then 2 ^ 31 else 0)

/-- A subnormal result becomes zero of the same sign (R62). -/
def flush (x : F32) : F32 := if isSub x then zeroOf (sgn x) else x

/-- A NaN that arithmetic or widening gives: sign and payload are free (log entry 15). -/
def nanFrom (a b : F32) : F32 := Config.nanOf a b ||| 0x7FC00000

/-- A sum (R62). -/
def addM (mode : Mode) (a b : F32) : F32 :=
  if isNaN a || isNaN b then nanFrom a b
  else if isInf a then (if isInf b && sgn a != sgn b then nanFrom a b else a)
  else if isInf b then b
  else
    let zneg := if isZero a && isZero b && sgn a == sgn b then sgn a else decide (mode = .down)
    flush (round mode zneg (dyAdd (toDy a) (toDy b)))

/-- A product (R62). -/
def mulM (mode : Mode) (a b : F32) : F32 :=
  let s := xor (sgn a) (sgn b)
  if isNaN a || isNaN b then nanFrom a b
  else if isInf a || isInf b then (if isZero a || isZero b then nanFrom a b else infOf s)
  else flush (round mode s (dyMul (toDy a) (toDy b)))

/-- A product and sum rounded once. -/
def fmaM (mode : Mode) (a b c : F32) : F32 :=
  let s := xor (sgn a) (sgn b)
  if isNaN a || isNaN b || isNaN c then nanFrom (nanFrom a b) c
  else if isInf a || isInf b then
    if isZero a || isZero b then nanFrom a b
    else if isInf c && sgn c != s then nanFrom (infOf s) c
    else infOf s
  else if isInf c then c
  else
    let p := dyMul (toDy a) (toDy b)
    let zneg := if decide (p.m = 0) && isZero c && sgn c == s then s else decide (mode = .down)
    flush (round mode zneg (dyAdd p (toDy c)))

def add (a b : F32) : F32 := addM .near a b
def mul (a b : F32) : F32 := mulM .near a b
def fma (a b c : F32) : F32 := fmaM .near a b c
def addUp (a b : F32) : F32 := addM .up a b
def mulUp (a b : F32) : F32 := mulM .up a b
def fmaUp (a b c : F32) : F32 := fmaM .up a b c

/-- The order of words that are no NaN: an integer that rises with the value, equal for both zeros. -/
def key (x : F32) : Int :=
  let m : Int := (x.toNat % 2 ^ 31 : Nat)
  if sgn x then -m else m

/-- a < b; false where either is a NaN. -/
def lt (a b : F32) : Bool := !isNaN a && !isNaN b && decide (key a < key b)
/-- a ≤ b; false where either is a NaN. -/
def le (a b : F32) : Bool := !isNaN a && !isNaN b && decide (key a ≤ key b)

/-- Equal in value: both zeros are equal; false where either is a NaN. -/
def eqv (a b : F32) : Bool := !isNaN a && !isNaN b && decide (key a = key b)

/-- The greater or lesser of two words neither of which is below the other in value: for +0 and -0 one of the two zeros,
which IEEE 754 leaves open; with a NaN operand an open word (log entry 15). -/
def tieOf (a b : F32) : F32 :=
  if isNaN a || isNaN b then Config.maxminOpen a b
  else if isZero a && isZero b then (if sgn a == sgn b then a else zeroOf ((Config.maxminOpen a b).toNat.testBit 31))
  else a

/-- The greater of two, a subnormal result flushed (R62, R200). -/
def max (a b : F32) : F32 := flush (if lt a b then b else if lt b a then a else tieOf a b)
/-- The lesser of two, a subnormal result flushed (R62, R200). -/
def min (a b : F32) : F32 := flush (if lt a b then a else if lt b a then b else tieOf a b)

/-- A weight rounded to 20 significant bits, to nearest even (R64). -/
def round20 (x : F32) : F32 :=
  if isNaN x || isInf x || isZero x then x
  else
    let d := toDy x
    let (q, e) := cut .near (decide (d.m < 0)) 20 (-149) d.m.natAbs d.e
    flush (round .near (sgn x) ⟨if d.m < 0 then -(q : Int) else q, e⟩)

/-- The BF16 pattern nearest to a word, to nearest even (R68). -/
def toBf16 (x : F32) : BitVec 16 :=
  if isNaN x then BitVec.ofNat 16 ((nanFrom x x).toNat / 2 ^ 16)
  else
    let n := x.toNat
    let r := n % 2 ^ 16
    let q := n / 2 ^ 16
    let inc := decide (r > 0x8000) || (decide (r = 0x8000) && q % 2 == 1)
    BitVec.ofNat 16 (if inc then q + 1 else q)

/-- A BF16 pattern widened, exactly (R68). -/
def ofBf16 (x : Nat) : F32 := BitVec.ofNat 32 (x % 2 ^ 16 * 2 ^ 16)

/-! The element types of Table 02-2. -/

/-- The stored element types and BF16. -/
inductive Elem where
  | e4m3 | e5m2 | e2m3 | e3m2 | e2m1 | bf16
deriving DecidableEq, Repr

/-- Exponent bits, mantissa bits and bias (Table 02-2). -/
def Elem.shape : Elem → Nat × Nat × Nat
  | .e4m3 => (4, 3, 7)
  | .e5m2 => (5, 2, 15)
  | .e2m3 => (2, 3, 1)
  | .e3m2 => (3, 2, 3)
  | .e2m1 => (2, 1, 1)
  | .bf16 => (8, 7, 127)

/-- Bits of an element. -/
def Elem.width (t : Elem) : Nat := 1 + t.shape.1 + t.shape.2.1

/-- Whether a code is a NaN of its type. -/
def Elem.nan (t : Elem) (c : Nat) : Bool :=
  match t with
  | .e4m3 => c % 128 == 127
  | .e5m2 => c % 128 > 124
  | .bf16 => c % 2 ^ 15 > 0x7F80
  | _ => false

/-- Whether a code is an infinity of its type. -/
def Elem.inf (t : Elem) (c : Nat) : Bool :=
  match t with
  | .e5m2 => c % 128 == 124
  | .bf16 => c % 2 ^ 15 == 0x7F80
  | _ => false

/-- The exact value of a finite element (Table 02-2). -/
def Elem.value (t : Elem) (c : Nat) : Dy :=
  let (eb, mb, bias) := t.shape
  let neg := c.testBit (eb + mb)
  let ef := fieldOf c (eb + mb - 1) mb
  let mf := c % 2 ^ mb
  let m : Nat := if ef = 0 then mf else mf + 2 ^ mb
  let e : Int := (Nat.max ef 1 : Nat) - (bias + mb : Nat)
  ⟨if neg then -(m : Int) else m, e⟩

/-- An element and its scale byte widened to FP32 (R61): exact, a magnitude below 2^-126 becomes zero of the same
sign. Without a scale pass 127. NaN, infinity and scale 0xFF give words of those kinds (R75: the result is then
undefined). -/
def widen (t : Elem) (scale c : Nat) : F32 :=
  let neg := c.testBit (t.width - 1)
  if t.nan c || scale == 255 then nanFrom (BitVec.ofNat 32 c) (BitVec.ofNat 32 scale)
  else if t.inf c then infOf neg
  else
    let d := t.value c
    flush (round .near neg ⟨d.m, d.e + scale - 127⟩)

/-! The exponent unit. -/

/-- Fraction bits of the fixed-point numbers the exponential is computed in. -/
def fracBits : Nat := 160

/-- ln 2 in fixed point, by the series of 1 / (k 2^k). -/
def ln2Fixed : Nat :=
  (List.range 200).foldl (fun acc i => acc + 2 ^ fracBits / ((i + 1) * 2 ^ (i + 1))) 0

/-- exp(r) in fixed point for a fixed-point r in [0, 1), by its power series. -/
def expSeries (r : Nat) : Nat :=
  ((List.range 60).foldl (fun (p : Nat × Nat) i =>
      let t := p.1 * r / 2 ^ fracBits / (i + 1)
      (t, p.2 + t)) (2 ^ fracBits, 2 ^ fracBits)).2

/-- The greatest FP32 pattern whose value is at most exp(x), or 0 where exp(x) is below 2^-126: x lies in
[-88, 89). -/
def expFloor (x : Dy) : Nat :=
  let xf : Int := if x.e ≥ 0 then x.m * pow2 (x.e + fracBits)
    else (x.m * (2 ^ fracBits : Nat)) / pow2 (-x.e)
  let k : Int := xf / (ln2Fixed : Int)
  let r : Nat := (xf % (ln2Fixed : Int)).toNat
  let m := expSeries r
  let q := m / 2 ^ (fracBits - 23)
  let field : Int := k + 127
  if field ≤ 0 then 0 else if field ≥ 255 then 0x7F800000
  else field.toNat * 2 ^ 23 + (q - 2 ^ 23)

/-- The exponential as the exponent unit may return it: within 2 units in the last place of the exact value (R64),
which of the permitted results being free (log entry 9); a subnormal result becomes zero (R62). exp(0) is 1 within
the same freedom, exp of -infinity is 0 and of +infinity is infinite. -/
def exp (x : F32) : F32 :=
  if isNaN x then nanFrom x x
  else if isInf x then (if sgn x then 0 else posInf)
  else
    let d := toDy x
    if dyLt d ⟨-88, 0⟩ then 0
    else if dyLt ⟨89, 0⟩ d then posInf
    else
      let lo := expFloor d
      let r := lo + Config.expSlack x % 4
      if lo = 0 then 0
      else if r ≤ 2 ^ 23 then 0
      else if r - 1 ≥ 0x7F800000 then posInf else BitVec.ofNat 32 (r - 1)

/-- A bound on exp(x) from above, rounded toward +infinity (R69, R104). -/
def expUp (x : F32) : F32 :=
  if isNaN x then nanFrom x x
  else if isInf x then (if sgn x then 0 else posInf)
  else
    let d := toDy x
    if dyLt ⟨89, 0⟩ d then posInf
    else if dyLt d ⟨-88, 0⟩ then 0x00800000
    else
      let lo := expFloor d
      if lo = 0 then 0x00800000
      else if lo + 1 + Config.boundSlack x % 2 ≥ 0x7F800000 then posInf
      else BitVec.ofNat 32 (lo + 1 + Config.boundSlack x % 2)

/-! Sums in a free order and grouping (R65, log entry 8). -/

/-- The leaves of a tree, left to right. -/
def leaves : SumTree → List Nat
  | .leaf i => [i]
  | .node l r => leaves l ++ leaves r

/-- The additions on the longest path of a tree. -/
def depth : SumTree → Nat
  | .leaf _ => 0
  | .node l r => Nat.max (depth l) (depth r) + 1

/-- A balanced tree over n terms starting at lo, at most `fuel` levels deep. -/
def balanced : Nat → Nat → Nat → SumTree
  | 0, lo, _ => .leaf lo
  | f + 1, lo, n => if n ≤ 1 then .leaf lo
    else .node (balanced f lo (n - n / 2)) (balanced f (lo + (n - n / 2)) (n / 2))

/-- Whether a tree adds each of the n terms once within the depth bound of Table 02-6. -/
def treeOk (n bound : Nat) (t : SumTree) : Bool :=
  (leaves t).length == n && (List.range n).all (fun i => (leaves t).contains i) && depth t ≤ bound

/-- The tree a sum of n terms uses: any that R65 permits. -/
def treeFor (n bound fresh : Nat) : SumTree :=
  let t := Config.sumTree fresh
  if treeOk n bound t then t else balanced 64 0 n

/-- Add terms along a tree. -/
def sumAlong (op : F32 → F32 → F32) (xs : List F32) : SumTree → F32
  | .leaf i => getAt 0 xs i
  | .node l r => op (sumAlong op xs l) (sumAlong op xs r)

/-- A sum of terms in the order and grouping that the free value picks; the empty sum is 0. -/
def sum (bound fresh : Nat) (xs : List F32) : F32 :=
  if xs.isEmpty then 0 else sumAlong add xs (treeFor xs.length bound fresh)

end Sys2Proof.F
end

