-- ==== Sys2Proof/Machine/Weir.lean ====
section
/-! DEFINITION. The arithmetic of an ATTEND: visibility, the bound on a page, the recurrence of a lane, the merge of
partials and the skipped-mass bound (chapters 2 to 4). -/

namespace Sys2Proof.Machine

/-- The fields of an ATTEND body (Table 09-4). -/
structure AttReq where
  qpos : Nat := 0
  g : Nat := 1
  qfmt : Nat := 0
  obf16 : Bool := false
  sigma : F32 := 0
  window : Nat := 0
  sinks : Nat := 0
  recent : Nat := 0
  topk : Nat := 0
  q : Bytes := []
deriving DecidableEq, Repr

/-- The ATTEND body bytes spell. -/
def AttReq.ofBytes (b : Bytes) : AttReq :=
  let w0 := numAt b 0 4
  let wc := numAt b 0xC 4
  { qpos := fieldOf w0 23 0, g := fieldOf w0 27 24 + 1, qfmt := fieldOf w0 29 28, obf16 := w0.testBit 30,
    sigma := BitVec.ofNat 32 (numAt b 4 4), window := fieldOf (numAt b 8 4) 23 0, sinks := fieldOf wc 12 0,
    recent := fieldOf wc 31 16, topk := fieldOf (numAt b 0x10 4) 12 0, q := b.drop 0x20 }

namespace Weir

/-- Bytes of a query element (R278). -/
def qWidth (qfmt : Nat) : Nat := if qfmt = 0 then 2 else 1

/-- Whether a query format may be used with a stored format (Table 02-5). -/
def formatOk (qfmt kvfmt : Nat) : Bool :=
  match qfmt with
  | 0 => decide (kvfmt ≤ 6)
  | 1 => kvfmt == 0 || kvfmt == 2 || kvfmt == 4 || kvfmt == 5 || kvfmt == 6
  | 2 => kvfmt == 1 || kvfmt == 3 || kvfmt == 5 || kvfmt == 6
  | _ => false

/-- The element type of a stored format (Table 02-1). -/
def kvElem (kvfmt : Nat) : F.Elem :=
  match kvfmt with
  | 0 => .e4m3 | 1 => .e5m2 | 2 => .e4m3 | 3 => .e5m2 | 4 => .e2m3 | 5 => .e3m2 | _ => .e2m1

/-- The element type of a query format (R58). -/
def qElem (qfmt : Nat) : F.Elem := match qfmt with | 0 => .bf16 | 1 => .e4m3 | _ => .e5m2

/-- Whether the row at a position is visible (R83). -/
def visible (a : AttReq) (p : Nat) : Bool :=
  decide (p ≤ a.qpos) && (a.window == 0 || decide (a.qpos < p + a.window) || decide (p < a.sinks))

/-- The visible rows of a page. -/
def visibleRows (a : AttReq) (firstpos rows : Nat) : List Nat :=
  (List.range rows).filter (fun r => visible a (firstpos + r))

/-- Whether a candidate is pinned (R109). -/
def pinned (a : AttReq) (firstpos rows : Nat) (sumv : Bool) : Bool :=
  let ps := (visibleRows a firstpos rows).map (firstpos + ·)
  (a.window != 0 && ps.any (fun p => decide (p < a.sinks))) || ps.any (fun p => decide (a.qpos < p + a.recent)) || !sumv

/-- A row's elements widened to FP32 with their block scales (R57, R61). -/
def widenRow (t : F.Elem) (d : Nat) (row scales : Bytes) : List F32 :=
  let n := leNat row
  (List.range d).map (fun i =>
    F.widen t (if scales.isEmpty then 127 else byteAt scales (i / 32)) (fieldOf n (t.width * i + t.width - 1) (t.width * i)))

/-- Query row h. -/
def queryRow (a : AttReq) (d h : Nat) : List F32 :=
  widenRow (qElem a.qfmt) d (sub a.q (h * d * qWidth a.qfmt) (d * qWidth a.qfmt)) []

/-! The bound on a page (R104, R105). -/

/-- A signed 8-bit code as FP32. -/
def code8 (b : Nat) : F32 := F.round .near false ⟨signedOf 8 b, 0⟩

/-- A positive bound below 2^-126 becomes 2^-126, a negative one 0 of the same sign (R104). -/
def liftUp (x : F32) : F32 := if F.isSub x then (if F.sgn x then 0x80000000 else 0x00800000) else x

/-- A sum or product rounded toward +infinity, its result lifted as R104 gives. -/
def addUpRaw (a b : F32) : F32 :=
  if F.isFinite a && F.isFinite b then liftUp (F.round .up (F.isZero a && F.isZero b && F.sgn a) (F.dyAdd (F.toDy a) (F.toDy b)))
  else F.addUp a b
def mulUpRaw (a b : F32) : F32 :=
  if F.isFinite a && F.isFinite b then liftUp (F.round .up (xor (F.sgn a) (F.sgn b)) (F.dyMul (F.toDy a) (F.toDy b)))
  else F.mulUp a b

/-- The larger of two products; the first where they compare equal. -/
def larger (a b : F32) : F32 := if F.lt a b then b else a

/-- U(p, h) for a query row and a summary (R104). -/
def bound (q : List F32) (sigma : F32) (d : Nat) (s : Bytes) : F32 :=
  let w := F.round .near false ⟨1, (byteAt s 0 : Int) - 127⟩
  let sum := (List.range d).foldl (fun acc t =>
    let x := getAt 0 q t
    addUpRaw acc (larger (F.mul x (code8 (byteAt s (0x10 + t)))) (F.mul x (code8 (byteAt s (0x10 + d + t)))))) 0
  mulUpRaw (mulUpRaw sum w) sigma

/-- The bounds of a page for every query head. -/
def bounds (a : AttReq) (d : Nat) (s : Bytes) : List F32 :=
  (List.range a.g).map (fun h => bound (queryRow a d h) a.sigma d s)

/-- V(p): the largest of a page's bounds (R105). -/
def score (u : List F32) : F32 := u.tail.foldl larger (u.headD F.negInf)

/-! A lane (R78 to R80, R93, R94). -/

/-- The number of a free sum: the lane's fresh number, page, head, row and kind. -/
def sumId (fresh pg h row kind : Nat) : Nat := (((fresh * 8192 + pg) * 16 + h) * 512 + row) * 8 + kind

/-- A score (R63). -/
def scoreOf (id : Nat) (a : AttReq) (d : Nat) (q k : List F32) : F32 :=
  F.mul (F.sum (Nat.log2 d) id (List.zipWith F.mul q k)) a.sigma

/-- Whether a score scale is one the arithmetic serves: positive, normal and finite (R75). -/
def sigmaOk (x : F32) : Bool := F.isFinite x && !F.sgn x && !F.isZero x && !F.isSub x

/-- Whether every query row of a request is finite (R75, R127). -/
def queryOk (a : AttReq) (d : Nat) : Bool := (List.range a.g).all (fun h => (queryRow a d h).all F.isFinite)

/-- The running maximum over scores. -/
def maxOf (m : F32) (xs : List F32) : F32 := xs.foldl F.max m

/-- Depth of a sum over one page (Table 02-6). -/
def pageDepth (kvfmt : Nat) : Nat := if kvfmt < 4 then 6 else 7

/-- The factor of a rescale (R78, R79). -/
def factor (m mnew : F32) : F32 :=
  if m = F.negInf then 0 else if F.eqv m mnew then F.one else F.exp (F.add m (F.neg mnew))

/-- A page's rows as the pipe reads them: key and value elements of the visible rows. -/
structure PageRows where
  keys : List (List F32)
  vals : List (List F32)

/-- One page of one query head: scores, the new maximum, the rescale, the weights and their sums. -/
def pageStep (fresh pg h : Nat) (a : AttReq) (kvfmt d : Nat) (q : List F32) (p : PageRows) (x : Partial) : Partial :=
  if p.keys.isEmpty then x
  else
    let s := (List.range p.keys.length).map (fun j => scoreOf (sumId fresh pg h j 0) a d q (getAt [] p.keys j))
    let mn := maxOf x.m s
    let c := factor x.m mn
    let w := s.map (fun y => F.round20 (F.exp (F.add y (F.neg mn))))
    let resc (y : F32) : F32 := if F.eqv x.m mn then y else F.mul y c
    let fine := sigmaOk a.sigma && q.all F.isFinite && s.all F.isFinite && p.keys.all (fun r => r.all F.isFinite) &&
      p.vals.all (fun r => r.all F.isFinite)
    let t := pageDepth kvfmt
    let l := F.add (resc x.l) (F.sum t (sumId fresh pg h 0 1) w)
    let o := (List.range d).map (fun i =>
      F.add (resc (getAt 0 x.o i))
        (F.sum t (sumId fresh pg h i 2) (List.zipWith F.mul w (p.vals.map (fun v => getAt 0 v i)))))
    { m := mn, l := l, o := o, empty := false, undef := x.undef || !fine }

/-- A lane's result over its pages for every query head, in order. -/
def laneRun (fresh : Nat) (a : AttReq) (kvfmt d : Nat) (ps : List PageRows) : List Partial :=
  (List.range a.g).map (fun h =>
    let q := queryRow a d h
    ((List.range ps.length).foldl (fun (x : Partial) pg =>
      pageStep fresh pg h a kvfmt d q (getAt ⟨[], []⟩ ps pg) x) { o := List.replicate d 0 }))

/-- A: for each head the largest sum of |q k| over visible rows (R94). -/
def laneA (fresh : Nat) (a : AttReq) (d : Nat) (ps : List PageRows) : List F32 :=
  (List.range a.g).map (fun h =>
    let q := queryRow a d h
    maxOf 0 ((List.range ps.length).flatMap (fun pg =>
      let p := getAt ⟨[], []⟩ ps pg
      (List.range p.keys.length).map (fun j =>
        F.sum (Nat.log2 d) (sumId fresh pg h j 3) (List.zipWith (fun x y => F.abs (F.mul x y)) q (getAt [] p.keys j))))))

/-- V_max: for each element the largest |v| over visible rows (R94). -/
def laneV (d : Nat) (ps : List PageRows) : List F32 :=
  (List.range d).map (fun i => maxOf 0 (ps.flatMap (fun p => p.vals.map (fun v => F.abs (getAt 0 v i)))))

/-- The visible rows of a page in a frame, read under the key of a key slot and widened. A descriptor names one context, which
selects the key (R89); of a prefix group's page that another context owns the rows are read under the key of that context, which
its frame's header names, while the descriptor's CTX is the request's (DESIGN CHOICE, log entry 172). -/
def readRows (st : Store) (slot pc f kvfmt dim : Nat) (rs : List Nat) : PageRows :=
  let t := kvElem kvfmt
  let d := dimOf dim
  let rb := rowBytes kvfmt dim
  let c := scaleBytes kvfmt dim
  let rd (a n : Nat) : Bytes := st.readUnder (st.key slot) pc a n
  { keys := rs.map (fun j => widenRow t d (rd (frameAddr f + keyOff kvfmt dim j) rb)
      (rd (keyScaleAddr f dim j) c))
    vals := rs.map (fun j => widenRow t d (rd (frameAddr f + valOff kvfmt dim j) rb)
      (rd (valScaleAddr f dim j) c)) }

/-! Merging (R44, R45, R65, R68, R113, R114). -/

/-- Two partials of one query head merged. -/
def merge2 (x y : Partial) : Partial :=
  if x.empty then y
  else if y.empty then x
  else
    let m := F.max x.m y.m
    let cx := factor x.m m
    let cy := factor y.m m
    let sc (c w : F32) (v : F32) : F32 := if F.eqv w m then v else F.mul v c
    { m := m, l := F.add (sc cx x.m x.l) (sc cy y.m y.l)
      o := List.zipWith (fun u v => F.add (sc cx x.m u) (sc cy y.m v)) x.o y.o
      empty := false, undef := x.undef || y.undef }

/-- Partials merged along a tree. -/
def mergeAlong (xs : List Partial) : SumTree → Partial
  | .leaf i => getAt {} xs i
  | .node l r => merge2 (mergeAlong xs l) (mergeAlong xs r)

/-- The partial of a node over its pipes' partials of one head, in an order and grouping of depth at most 11 (R65). -/
def mergeAll (fresh d : Nat) (xs : List Partial) : Partial :=
  if xs.isEmpty then { o := List.replicate d 0 } else mergeAlong xs (F.treeFor xs.length 11 fresh)

/-- S of one head: the sum over skipped pages of n(p) exp(U(p, h) - M), every step rounded toward +infinity (R113,
R114), in an order and grouping that is free (log entry 8). -/
def skipped (id : Nat) (m : F32) (h : Nat) (ps : List AttPage) : F32 :=
  let ts := ps.map (fun p =>
    F.mulUp (F.round .up false ⟨(p.visible : Int), 0⟩) (F.expUp (F.addUp (getAt 0 p.bounds h) (F.neg m))))
  if ts.isEmpty then 0 else F.sumAlong F.addUp ts (F.treeFor ts.length ts.length id)

/-- The free words an undefined record holds for M, L, S and O (R75). -/
def openPartial (id : Nat) (x : Partial) : Partial :=
  if x.undef then
    { x with m := Config.free32 (4 * id), l := Config.free32 (4 * id + 1)
             o := (List.range x.o.length).map (fun i => Config.free32 (4 * (id + i) + 3)) }
  else x

/-- A request's records: where one head's values are undefined, those of the whole request are (R75). -/
def openAll (fresh : Nat) (xs : List Partial) : List Partial :=
  if xs.any (·.undef) then
    (List.range xs.length).map (fun h => openPartial (sumId fresh 0 h 0 7) { getAt {} xs h with undef := true })
  else xs

/-- A partial record (Table 02-7). -/
def recordBytes (h : Nat) (obf16 : Bool) (s : F32) (x : Partial) : Bytes :=
  leBytes 4 x.m.toNat ++ leBytes 4 x.l.toNat ++ leBytes 4 s.toNat ++
  leBytes 4 (h + place 4 (bnat obf16) + place 5 (bnat x.empty)) ++
  x.o.flatMap (fun v => if obf16 then leBytes 2 (F.toBf16 v).toNat else leBytes 4 v.toNat)

/-- The bytes of a trailer (Table 03-7). -/
def trailerBytes (t : Trailer) : Bytes :=
  leBytes 4 (t.slot + place 18 t.pc + place 24 t.stack + place 29 (bnat t.assayrec)) ++ leBytes 4 t.rows ++
  leBytes 4 t.pages ++ leBytes 4 t.status ++
  (if t.assayrec then t.a.flatMap (fun v => leBytes 4 v.toNat) ++ t.vmax.flatMap (fun v => leBytes 4 v.toNat) else [])

/-- The bytes of an emission: its records in FP32 with S 0, and its trailer (R93, R94). -/
def emissionBytes (e : Emission) : Bytes :=
  (List.range e.recs.length).flatMap (fun h => recordBytes h false 0 (getAt {} e.recs h)) ++ trailerBytes e.trailer

/-! Comparison of two computations (R70 to R72), in exact arithmetic. -/

/-- A rational number as numerator over a power-of-two-free denominator. -/
def dyAbs (x : F.Dy) : F.Dy := ⟨x.m.natAbs, x.e⟩

/-- a / b is at most c / d, for positive b and d, all dyadic. -/
def ratLe (a b c d : F.Dy) : Bool := !F.dyLt (F.dyMul c b) (F.dyMul a d)

/-- The bound e_s of R70. -/
def errS (d : Nat) (sigma a : F32) : F.Dy :=
  let u : F.Dy := ⟨1, -24⟩
  let sg := F.toDy sigma
  F.dyAdd (F.dyAdd (F.dyMul (F.dyMul ⟨(Nat.log2 d + 1 : Nat), 0⟩ u) (F.dyMul sg (F.toDy a))) (F.dyMul ⟨88, 0⟩ u))
    (F.dyMul ⟨1, -118⟩ sg)

/-- The bound B(i) of R70. -/
def boundB (d hacc : Nat) (obf16 : Bool) (sigma a v : F32) : F.Dy :=
  F.dyMul (F.toDy v) (F.dyAdd (F.dyAdd (F.dyMul ⟨4, 0⟩ (errS d sigma a)) ⟨1, -18⟩)
    (F.dyAdd (F.dyMul ⟨(2 * hacc + 8 : Nat), 0⟩ ⟨1, -24⟩) (if obf16 then ⟨1, -8⟩ else ⟨0, 0⟩)))

/-- h_acc for a largest number of pages per pipe (Table 02-6). -/
def hAcc (kvfmt p : Nat) : Nat := pageDepth kvfmt + 2 * p + 22

/-- |x1 / l1 - x2 / l2| is at most 2B, for positive l1 and l2. -/
def outClose (x1 l1 x2 l2 b : F.Dy) : Bool :=
  let num := dyAbs (F.dyAdd (F.dyMul x1 l2) (F.dyMul ⟨-1, 0⟩ (F.dyMul x2 l1)))
  !F.dyLt (F.dyMul (F.dyMul ⟨2, 0⟩ b) (F.dyMul l1 l2)) num

/-- The M values differ by at most what R71 allows. Of the two computations' maxima the one of larger magnitude enters the term
u |m| of the tolerance (DESIGN CHOICE, log entry 171). -/
def maxClose (d : Nat) (sigma a m1 m2 : F32) : Bool :=
  let u : F.Dy := ⟨1, -24⟩
  let diff := dyAbs (F.dyAdd (F.toDy m1) (F.dyMul ⟨-1, 0⟩ (F.toDy m2)))
  let big := if F.lt (F.abs m1) (F.abs m2) then F.abs m2 else F.abs m1
  let lim := F.dyMul ⟨2, 0⟩ (F.dyAdd (F.dyMul (F.dyMul ⟨(Nat.log2 d + 1 : Nat), 0⟩ u) (F.dyMul (F.toDy sigma) (F.toDy a)))
    (F.dyMul u (F.toDy big)))
  !F.dyLt lim diff

/-- What a comparison found: nothing, or WHAT, QH, ELEM, DIFF and BOUND of a mismatch record (Table 15-8). -/
structure Mismatch where
  what : Nat := 0
  qh : Nat := 0
  elem : Nat := 0
  diff : F32 := 0
  bound : F32 := 0
deriving DecidableEq, Repr

/-- FP32 nearest to a dyadic number. -/
def near (x : F.Dy) : F32 := F.round .near false x

/-- FP32 of a quotient of dyadic numbers, to 30 fraction bits beyond the divisor. -/
def quot (a b : F.Dy) : F32 :=
  if b.m = 0 then 0 else near ⟨a.m * (2 ^ 60 : Nat) / b.m, a.e - b.e - 60⟩

/-- QH of a record of a response payload. -/
def qhAt (d : Nat) (b : Bytes) (h : Nat) : Nat :=
  let n := 16 + (if (numAt b 0xC 4).testBit 4 then 2 * d else 4 * d)
  fieldOf (numAt b (h * n + 0xC) 4) 3 0

/-- Compare one head of two computations; A and V_max are the larger recorded ones. -/
def compareHead (d hacc : Nat) (obf16 : Bool) (sigma : F32) (h : Nat) (a : F32) (vmax : List F32) (x y : Partial) :
    Option Mismatch :=
  if x.empty != y.empty then some { what := 2, qh := h }
  else if x.empty then none
  else if !maxClose d sigma a x.m y.m then
    some { what := 1, qh := h, diff := near (dyAbs (F.dyAdd (F.toDy x.m) (F.dyMul ⟨-1, 0⟩ (F.toDy y.m))))
           bound := near (F.dyMul ⟨2, 0⟩ (F.dyAdd (F.dyMul ⟨(Nat.log2 d + 1 : Nat), -24⟩
             (F.dyMul (F.toDy sigma) (F.toDy a))) (F.dyMul ⟨1, -24⟩ (F.toDy (F.abs (larger (F.abs x.m) (F.abs y.m))))))) }
  else
    let bad (i : Nat) : Bool := !outClose (F.toDy (getAt 0 x.o i)) (F.toDy x.l) (F.toDy (getAt 0 y.o i)) (F.toDy y.l)
      (boundB d hacc obf16 sigma a (getAt 0 vmax i))
    let num (i : Nat) : F.Dy := dyAbs (F.dyAdd (F.dyMul (F.toDy (getAt 0 x.o i)) (F.toDy y.l))
      (F.dyMul ⟨-1, 0⟩ (F.dyMul (F.toDy (getAt 0 y.o i)) (F.toDy x.l))))
    let bads := (List.range d).filter bad
    match bads with
    | [] => none
    | i :: t =>
      let worst := t.foldl (fun b j => if F.dyLt (num b) (num j) then j else b) i
      some { what := 0, qh := h, elem := worst
             diff := quot (num worst) (F.dyMul (F.toDy x.l) (F.toDy y.l))
             bound := near (F.dyMul ⟨2, 0⟩ (boundB d hacc obf16 sigma a (getAt 0 vmax worst))) }

/-- The first mismatch of two computations. -/
def compare (d hacc : Nat) (obf16 : Bool) (sigma : F32) (a vmax : List F32) (xs ys : List Partial) : Option Mismatch :=
  if xs.length ≠ ys.length then some { what := 2 }
  else (List.range xs.length).findSome? (fun h =>
    compareHead d hacc obf16 sigma h (getAt 0 a h) vmax (getAt {} xs h) (getAt {} ys h))

/-- The partials a response payload carries, for d elements. -/
def partialsOf (d g : Nat) (b : Bytes) : List Partial :=
  let o16 := (numAt b 0xC 4).testBit 4
  let n := 16 + (if o16 then 2 * d else 4 * d)
  (List.range g).map (fun h =>
    let r := sub b (h * n) n
    { m := BitVec.ofNat 32 (numAt r 0 4), l := BitVec.ofNat 32 (numAt r 4 4)
      empty := (numAt r 0xC 4).testBit 5
      o := (List.range d).map (fun i =>
        if o16 then F.ofBf16 (numAt r (16 + 2 * i) 2) else BitVec.ofNat 32 (numAt r (16 + 4 * i) 4)) })

/-! Summaries (R101, R102). -/

/-- A dyadic number divided by 2^n and rounded down. -/
def floorAt (d : F.Dy) (n : Int) : Int :=
  let e := d.e - n
  if 0 ≤ e then d.m * 2 ^ e.toNat else d.m.fdiv (2 ^ (-e).toNat)

/-- Rounded up. -/
def ceilAt (d : F.Dy) (n : Int) : Int := -floorAt ⟨-d.m, d.e⟩ n

/-- The least and the greatest of some dyadic numbers. -/
def leastOf (x : F.Dy) (l : List F.Dy) : F.Dy := l.foldl (fun a b => if F.dyLt b a then b else a) x
def greatestOf (x : F.Dy) (l : List F.Dy) : F.Dy := l.foldl (fun a b => if F.dyLt a b then b else a) x

/-- SEXP: the smallest exponent whose 127 codes reach every magnitude. -/
def sexpOf (most : F.Dy) : Nat :=
  (findFrom (fun e => !F.dyLt ⟨127, (e : Int) - 127⟩ most) 255 0).getD 254

/-- The summary of a page's key rows (R102); where a key element is no finite number its exponent and codes are free
(R75, R127, log entry 15). -/
def sumOf (id dim rows : Nat) (keys : List (List F32)) : Bytes :=
  let d := dimOf dim
  if !keys.all (fun r => r.all F.isFinite) then
    leBytes 4 (Config.freeNat (1024 * id) % 255 + place 8 rows + place 16 1 + place 17 dim) ++ zeros 12 ++
      (List.range (2 * d)).map (fun i => BitVec.ofNat 8 (Config.freeNat (1024 * id + i + 1)))
  else
  let cols : List (List F.Dy) := (List.range d).map (fun t => keys.map (fun r => F.toDy (getAt 0 r t)))
  let most := greatestOf ⟨0, 0⟩ (cols.flatMap (fun c => c.map (fun x => ⟨x.m.natAbs, x.e⟩)))
  let e := sexpOf most
  let lo := cols.map (fun c => floorAt (leastOf (c.headD ⟨0, 0⟩) c) ((e : Int) - 127))
  let hi := cols.map (fun c => ceilAt (greatestOf (c.headD ⟨0, 0⟩) c) ((e : Int) - 127))
  let code (x : Int) : Byte := BitVec.ofInt 8 x
  leBytes 4 (e + place 8 rows + place 16 1 + place 17 dim) ++ zeros 12 ++ lo.map code ++ hi.map code

end Weir

end Sys2Proof.Machine
end

