-- ==== Sys2Proof/Machine/Serve.lean ====
section
/-! DEFINITION. The remote memory engine as a target (10.6): resolution, the operations of Table 10-9, and the window
of each connection. -/

namespace Sys2Proof.Machine

namespace State

/-- What an RMA operation answers: a status and payload, or nothing yet. -/
abbrev Served := State × Option (Nat × Bytes)

def servedBad (s : State) : Served := (s, some (stBadRange, []))

/-- The record an operation names: MCONV or MGROUP under MIRROR, else CONV or GROUP, with the connection's context
(R327). -/
def targetRecord (s : State) (c : Nat) (h : Hdr) (d : RmaDesc) : Option (Nat × Root) :=
  let kind := if h.flag flagMirror then (if d.grp then kindMgroup else kindMconv)
    else (if d.grp then kindGroup else kindConv)
  ((s.connCtx c).bind (fun x => s.recordOf kind x h.conv)).bind (fun a => (s.store.root a).map (fun r => (a, r)))

/-- The index of the stream a header names, if the record holds it. -/
def targetStream (r : Root) (h : Hdr) : Option Nat :=
  if decide (h.layer < r.layers) && r.headSet.testBit h.kvh then some (Store.streamIx r h.layer h.kvh) else none

/-- The entry of the page of a stream that holds a position. -/
def pageHolding (x : Stream) (t pos : Nat) : Option PageEnt :=
  x.pages.reverse.find? (fun e => decide (e.firstpos ≤ pos) && decide (pos < e.firstpos + t))

/-- The reference of a page (Table 10-8). -/
def pageRef (s : State) (p : Nat) : Bytes :=
  let e := s.store.pent p
  if e.tier = .silt then
    let k := s.store.cell (Store.cellKey e.silt)
    refBytes p k.hdr.rows 0 k.hdr.firstpos true
  else
    let h := s.store.header p
    refBytes p h.rows h.gen h.firstpos false

/-- Whether a REF-form reference holds (R329). -/
def refHolds (s : State) (d : RmaDesc) : Bool :=
  let e := s.store.pent d.page
  s.store.valid d.page &&
  (if d.insilt then decide (e.tier = .silt) || decide (e.tier = .both)
   else s.store.inDram d.page && (s.store.header d.page).gen == d.gen)

/-- The PG fault STALE (R133): a page number whose USE differs from its slot's; the address is its page-map entry's. A
compute reset with cause PG follows (Table 15-2). -/
def staleUse (s : State) (p : Nat) : State :=
  if (s.store.pent p).use = pageUse p then s
  else (s.pgFault (pagePc p) 2 (0x43800000 + 8 * pageSlot p)).wantReset 3 (pagePc p / 64) (pagePc p % 64)

/-- The first page of some page-list entries that its entry names with a stale USE (R133). -/
def listStale (s : State) (ps : List Nat) : Option Nat :=
  ps.find? (fun p => !Store.isGap p && decide ((s.store.pent p).use ≠ pageUse p))

/-- A stale reference (R133, R329). -/
def stale (s : State) (c : Nat) (p : Nat) : Served := servedBad ((s.staleUse p).count .fuRmaStale (s.connFurrow c) 1)

/-- The header of a copy page (R328). -/
def copyHeader (c : Nat) (h : Hdr) (r : Root) (page firstpos : Nat) : Frame :=
  { pstate := .mirror, wide := r.dim == 2, kvfmt := r.kvfmt, dim := r.dim, ctx := c, firstpos := firstpos, cidx := 15,
    conv := r.conv, layer := h.layer, kvh := h.kvh, origin := h.origin, originPage := page }

/-- Take a page for a copy, as R147 takes one (R328). -/
def takeCopy (s : State) (c : Nat) (h : Hdr) (r : Root) (a ix page firstpos : Nat) : Option (State × Nat) :=
  let k := (s.store.stream a ix).pages.length
  (s.store.choosePc (s.ctxPcs c) (placeStart r ix k) (r.dim == 2)).bind (fun pc =>
    (s.store.takePage pc (copyHeader c h r page firstpos) (some page)).map (fun q => (({ s with store := q.1 } : State).noteFill c, q.2)))

/-- The page held aside for a stream. -/
def asideOf (s : State) (a ix : Nat) : Option Nat :=
  (s.store.asides.find? (fun q => q.1 == a && q.2.1 == ix)).map (fun q => q.2.2)

/-- Whether a stream lists a page, or holds it aside. -/
def holdsPage (s : State) (a ix p : Nat) : Bool :=
  (s.store.stream a ix).pages.any (fun e => e.page == p) || s.asideOf a ix == some p

/-- The stream of a record that lists a page, or holds it aside. -/
def streamListing (s : State) (a : Nat) (r : Root) (p : Nat) : Option Nat :=
  (List.range (Store.nstreams r)).find? (fun i => s.holdsPage a i p)

/-- What a REF-form operation on a record meets (R327, R329): a reference that does not hold, a page the record does not hold,
or the index of the page's stream. -/
inductive RefMeets where
  | stale
  | bad
  | page (ix : Nat)
deriving DecidableEq, Repr

/-- Resolve the page a REF form names within a record. -/
def refMeets (s : State) (a : Nat) (r : Root) (d : RmaDesc) : RefMeets :=
  if !s.refHolds d then .stale
  else match s.streamListing a r d.page with
    | none => .bad
    | some ix => .page ix

/-! MOPEN (Table 10-9, R253). -/

/-- Put the stream descriptors of a body beside a record. -/
def putStreams (s : State) (a n : Nat) (b : Bytes) : State :=
  forUpTo n s (fun i q => q.updStore (fun st => st.setStream a i (Store.streamOf (sub b (256 + 32 * i) 32))))

/-- Whether a record that replaces a copy has its shape; its pages and lengths then stay (log entry 42). -/
def sameShape (q r : Root) : Bool :=
  q.kvfmt == r.kvfmt && q.dim == r.dim && q.layers == r.layers && q.headSet == r.headSet && q.group == r.group

/-- Create or replace the copy of a record and its MCONV or MGROUP entry. -/
def serveMopen (s : State) (c : Nat) (h : Hdr) (d : RmaDesc) (b : Bytes) : Served :=
  match s.connCtx c with
  | none => servedBad s
  | some x =>
    let kind := if d.grp then kindMgroup else kindMconv
    let r := { Store.rootOf b with ctx := x, mirror := true, originNode := h.origin, streamTab := 0 }
    let old := (s.recordOf kind x h.conv).bind (fun a => (s.store.root a).map (fun q => (a, q)))
    match old.filter (fun e => sameShape e.2 r) with
    | some (a, q) =>
      let s := s.updStore (fun st => st.setRoot a (some { r with streamTab := q.streamTab, attended := q.attended }))
      (forUpTo (Store.nstreams r) s (fun i t => t.updStore (fun st => st.updStream a i (fun y =>
        { y with closed := (Store.streamOf (sub b (256 + 32 * i) 32)).closed }))), some (stDone, []))
    | none =>
    let room := match old with
      | some (a, _) => s.store.freeRecord a
      | none => s.store
    match room.makeRecord (s.ctxPcs x) r with
    | none => (s.count .pgCntNoledger ((s.ctxPcs x).headD 0) 1, some (stBusy, []))
    | some (st, a) =>
      match s.rowOf kind x h.conv with
      | some i =>
        let s := { s with store := st, cam := s.cam.setData i (assoc a (s.sliceOf x) false false false) }
        (s.putStreams a (Store.nstreams r) b, some (stDone, []))
      | none =>
        match s.cam.freeRow s.ordRuns s.camTotal with
        | none => (s.count .lcCntFull 0 1, some (stBusy, []))
        | some i =>
          let e : CamEntry := ⟨camKey x kind h.conv, allCare, assoc a (s.sliceOf x) false false false⟩
          let s := ({ s with store := st, cam := s.cam.put i e }).count .lcCntInsert 0 1
          (s.putStreams a (Store.nstreams r) b, some (stDone, []))

/-! MROWS (R328). -/

/-- The page held aside for a stream whose first position is the one given. -/
def asideAt (s : State) (a ix firstpos : Nat) : Option Nat :=
  (s.store.asides.find? (fun q => q.1 == a && q.2.1 == ix && (s.store.header q.2.2).firstpos == firstpos)).map
    (fun q => q.2.2)

/-- Write rows at the next rows of a copy page; LENGTH follows unless the page is held aside. -/
def copyRows (s : State) (r : Root) (a ix p : Nat) (rows : List Store.Row) (tent aside : Bool) : State :=
  let h := s.store.header p
  let n := rows.length
  let s := s.putRows p r.kvfmt r.dim h.rows rows
  let st := s.store.updHeader p (fun f => { f with rows := f.rows + n, tent := f.tent + if tent then n else 0 })
  if aside then { s with store := st }
  else
    let st := st.updPageEnt a ix p (fun e => { e with rows := e.rows + n, tentp := e.tentp || tent })
    { s with store := st.updStream a ix (fun x =>
        { x with length := h.firstpos + h.rows + n, tent := x.tent + if tent then n else 0 }) }

/-- MROWS into a named page: rows must begin at its next row and fit it. A page that cannot take them for an uncorrectable
word is restored, and the answer is BUSY (R162, R164, log entry 66). -/
def rowsInto (s : State) (r : Root) (a ix p pos : Nat) (rows : List Store.Row) (tent aside : Bool) : Served :=
  let h := s.store.header p
  if s.store.inDram p ∧ pos = h.firstpos + h.rows ∧ h.rows + rows.length ≤ tokensPerPage r.kvfmt then
    if s.rowsFail p r.kvfmt r.dim h.rows rows.length then
      ((s.putRows p r.kvfmt r.dim h.rows rows).startRestore p, some (stBusy, []))
    else
    let s := s.copyRows r a ix p rows tent aside
    (s, some (stDone, s.pageRef p))
  else servedBad s

/-- MROWS. -/
def serveMrows (s : State) (c : Nat) (h : Hdr) (d : RmaDesc) (b : Bytes) : Served :=
  match s.targetRecord c h d with
  | none => servedBad s
  | some (a, r) =>
    match targetStream r h with
    | none => servedBad s
    | some ix =>
      let n := fieldOf (numAt b 0 4) 31 24 + 1
      let pos := fieldOf (numAt b 0 4) 23 0
      let rows := bodyRows b r.kvfmt r.dim n
      let tent := d.arg.testBit 0
      let x := s.store.stream a ix
      if b.length ≠ appendLen r.kvfmt r.dim n then servedBad s
      else if d.form = formRef then
        match s.refMeets a r d with
        | .stale => s.stale c d.page
        | .bad => servedBad s
        | .page i => if i = ix then s.rowsInto r a ix d.page pos rows tent (s.asideOf a ix == some d.page) else servedBad s
      else if d.form = formNew then
        match s.asideAt a ix d.firstpos, x.pages.find? (fun e => e.firstpos == d.firstpos && !Store.isGap e.page) with
        | some p, _ => s.rowsInto r a ix p pos rows tent true
        | none, some e => s.rowsInto r a ix e.page pos rows tent false
        | none, none =>
          if pos = d.firstpos ∧ n ≤ tokensPerPage r.kvfmt ∧ d.firstpos ≤ x.length then
            match s.takeCopy r.ctx h r a ix d.page d.firstpos with
            | none => (s, some (stBusy, []))
            | some (s, p) =>
              if d.firstpos < x.length then
                let s := s.updStore (fun st => { st with asides := st.asides ++ [(a, ix, p)] })
                let s := s.copyRows r a ix p rows tent true
                (s, some (stDone, s.pageRef p))
              else
                match s.enterPage a ix p d.firstpos 0 tent with
                | none => (s.updStore (fun st => st.freePage p), some (stBusy, []))
                | some s =>
                  let s := s.copyRows r a ix p rows tent false
                  (s, some (stDone, s.pageRef p))
          else servedBad s
      else servedBad s

/-! MSTATE. -/

/-- Take a page off the list of pages held aside. -/
def dropAside (s : State) (p : Nat) : State :=
  s.updStore (fun st => { st with asides := st.asides.filter (fun q => q.2.2 != p) })

/-- An MSTATE for the old open page has the held-aside page become the open page; the old one keeps its rows below it
(R328). One for another page of the stream leaves the held-aside page as it is. -/
def settleAside (s : State) (a ix old : Nat) : State :=
  match s.asideOf a ix with
  | none => s
  | some p =>
    let x := s.store.stream a ix
    if p = old ∨ !x.openv ∨ x.openPage ≠ old then s
    else
      let hp := s.store.header p
      let ho := s.store.header old
      let keep := hp.firstpos - ho.firstpos
      let s := (s.dropAside p)
      let s := (s.enterPage a ix p hp.firstpos hp.rows (decide (0 < hp.tent))).getD s
      s.updStore (fun st =>
        let st := st.updHeader old (fun f => { f with rows := keep, tent := 0 })
        let st := st.updPageEnt a ix old (fun e => { e with rows := keep, tentp := false })
        st.updStream a ix (fun x => { x with length := hp.firstpos + hp.rows, tent := hp.tent }))

/-- Whether the rows of a copy page can be read (R163). -/
def senseCopy (s : State) (p : Nat) : State × Bool :=
  let h := s.store.header p
  s.sense (pagePc p) (rowRegions (s.store.frameOf p) h.kvfmt h.dim h.rows)

/-- The first rows of a page as its coded payload holds them (R135, R137, R138, R173). -/
def payloadRows (b : Bytes) (kvfmt dim n : Nat) : List Store.Row :=
  let rb := rowBytes kvfmt dim
  let c := scaleBytes kvfmt dim
  let k0 := extentBytes (dim == 2) + 0x3C0
  let v0 := if dim = 2 then extentBytes true + 0x7C0 + 0x3C0 else extentBytes false + 0x5C0
  (List.range n).map (fun j =>
    { key := sub b (keyOff kvfmt dim j) rb, val := sub b (valOff kvfmt dim j) rb,
      ks := sub b (k0 + j * (dimOf dim / 32)) c, vs := sub b (v0 + j * (dimOf dim / 32)) c })

/-- The seal tag over a copy page, wherever it lies (R172). -/
def copyTag (s : State) (p : Nat) : Bytes :=
  let h := s.anyHeader p
  if s.store.inDram p then Keccak.shake256 (sealBytes s.store p h.kvfmt h.dim h.firstpos h.rows) 32
  else Keccak.shake256 (sealBytesOf (payloadRows (s.pagePayload p) h.kvfmt h.dim h.rows) h.kvfmt h.dim h.firstpos) 32

/-- Write a page's seal tag and summary; the answer says whether a write is reported as failed (R152, R162). -/
def writeSeal (s : State) (p : Nat) (tag : Bytes) : State × Bool :=
  let pc := pagePc p
  let f := s.store.frameOf p
  let x := s.store.header p
  let k := s.store.key x.ctx
  let keys := (Weir.readRows s.store x.ctx pc f x.kvfmt x.dim (List.range x.rows)).keys
  let w := s.tryWrite k pc (stubAddr f + 0x40) tag
  let v := w.1.tryWrite k pc (s.store.summaryAddr p x.dim) (Weir.sumOf s.fresh x.dim x.rows keys)
  (v.1, w.2 || v.2)

/-- An action on the whole copy of a record. In REF form it is performed only while the reference holds and names a page of
the record (R327, R329). -/
def onCopy (s : State) (c : Nat) (h : Hdr) (d : RmaDesc) (act : State → Nat → Root → Served) : Served :=
  match s.targetRecord c h d with
  | none => servedBad s
  | some (a, r) =>
    if d.form ≠ formRef then act s a r
    else match s.refMeets a r d with
      | .stale => s.stale c d.page
      | .bad => servedBad s
      | .page _ => act s a r

/-- An action on one page of a record's copy, which only the REF form names. -/
def onPage (s : State) (c : Nat) (h : Hdr) (d : RmaDesc) (act : State → Nat → Root → Nat → Served) : Served :=
  match s.targetRecord c h d with
  | none => servedBad s
  | some (a, r) =>
    if d.form ≠ formRef then servedBad s
    else match s.refMeets a r d with
      | .stale => s.stale c d.page
      | .bad => servedBad s
      | .page ix => act s a r ix

/-- Action 0x1: commit or rollback on the copy (R157). -/
def serveCommit (s : State) (c : Nat) (h : Hdr) (d : RmaDesc) : Served :=
  s.onCopy c h d (fun s a r =>
    (commitAll false s a r (d.arg2.testBit 0) (d.arg2.testBit 1) (fieldOf d.arg2 39 16), some (stDone, [])))

/-- Action 0x2: seal the copy if the tag matches (R172); the copy's seal writes tag and summary as R152 does (log entry
57). A copy that lies in silt was sealed before, and keeps what it has. A copy with an uncorrectable word, or whose tag or summary cannot be written, is answered BUSY: it is restored first
(R162, R164, log entry 66). -/
def serveSeal (s : State) (c : Nat) (h : Hdr) (d : RmaDesc) (b : Bytes) : Served :=
  s.onPage c h d (fun s a _ ix =>
    if !s.store.inDram d.page then
      if s.copyTag d.page = b.take 32 then (s, some (stDone, leBytes 16 1))
      else (s.count .pgCntTagmis (pagePc d.page) 1, some (stDone, leBytes 16 0))
    else
    let q := s.senseCopy d.page
    if q.2 then (q.1.startRestore d.page, some (stBusy, [])) else
    let s := q.1.settleAside a ix d.page
    if s.copyTag d.page = b.take 32 then
      let w := s.writeSeal d.page (b.take 32)
      if w.2 then (w.1.startRestore d.page, some (stBusy, [])) else
      let s := w.1.updStore (fun st =>
        let st := st.updHeader d.page (fun f => { f with sealedCopy := true })
        let st := st.updPageEnt a ix d.page (fun e => { e with sealed := true, sumv := true })
        st.updStream a ix (fun x => if x.openPage = d.page then { x with openv := false } else x))
      (s.tick, some (stDone, leBytes 16 1))
    else (s.count .pgCntTagmis (pagePc d.page) 1, some (stDone, leBytes 16 0)))

/-- Action 0x3: the hint (R171). -/
def serveHint (s : State) (c : Nat) (h : Hdr) (d : RmaDesc) : Served :=
  s.onCopy c h d (fun s a _ =>
    (s.updStore (fun st => st.updRoot a (fun r => { r with hint := Store.hintOf (d.arg2 % 4) })), some (stDone, [])))

/-- Action 0x4: the copy is closed: entry and record go (R171, R253). -/
def serveClose (s : State) (c : Nat) (h : Hdr) (d : RmaDesc) : Served :=
  s.onCopy c h d (fun s a r =>
    let cam := match s.rowOf (if d.grp then kindMgroup else kindMconv) r.ctx r.conv with
      | some i => s.cam.clear i
      | none => s.cam
    (({ s with cam := cam } : State).updStore (fun st => st.freeRecord a), some (stDone, [])))

/-- Action 0x5: free a copy page; naming the old page of a held-aside one swaps that in (R328). -/
def serveFree (s : State) (c : Nat) (h : Hdr) (d : RmaDesc) : Served :=
  s.onPage c h d (fun s a _ ix =>
    if s.asideOf a ix = some d.page then
      ((s.dropAside d.page).updStore (fun st => st.freePage d.page), some (stDone, []))
    else ((s.settleAside a ix d.page).dropPage a ix d.page, some (stDone, [])))

/-- Action 0x6: release a coded page's mirror copy, leaving a gap mark (R466). -/
def serveRelease (s : State) (c : Nat) (h : Hdr) (d : RmaDesc) : Served :=
  s.onPage c h d (fun s a _ ix =>
    if s.asideOf a ix = some d.page then servedBad s else
    let g := Store.gapMark (fieldOf d.arg2 34 32) (fieldOf d.arg2 31 0)
    let st := s.store.updPageEnt a ix d.page (fun e => { e with page := g })
    ({ s with store := st.freePage d.page }, some (stDone, [])))

/-! MPAGE and PUT (R328, R467). -/

/-- Bring a page whose bytes are to change into DRAM only: one in silt rises into a free frame, and a silt copy is no longer
valid (log entry 65). A silt copy that is being programmed goes on, with the bytes it took, and still ends BOTH (DESIGN
CHOICE, log entry 175). `none` when no frame is free. -/
def parityNear (s : State) (p : Nat) : Option State :=
  let e := s.store.pent p
  if e.tier = .silt then
    let h := s.anyHeader p
    let b := s.pagePayload p
    (s.store.freeFrame (pagePc p) e.wide).map (fun f =>
      (s.updStore (fun st =>
        ((((st.takeFrame (pagePc p) f h).freeCells e.silt e.wide).setPent p
          { e with tier := .near, frame := f, sidx := 0, silt := 0 }).writePayload p b).dropSummaryFrame (pagePc p) e.frame)).noteFill
          h.ctx)
  else some (s.updStore (fun st => st.dropSilt p))

/-- Write a whole page: rows and payload; its header keeps the sealed state it had. -/
def fillPage (s : State) (a ix p rows : Nat) (b : Bytes) : State :=
  let st := (s.store.dropSilt p).writePayload p b
  let st := st.updHeader p (fun f => { f with rows := rows })
  { s with store := st.updPageEnt a ix p (fun e => { e with rows := rows }) }

/-- Fill a page a stream holds already, wherever it lies; BUSY where it must rise from silt and no frame is free. -/
def fillHeld (s : State) (a ix p rows : Nat) (b : Bytes) : Served :=
  match s.parityNear p with
  | none => (s, some (stBusy, []))
  | some s =>
    let s := s.fillPage a ix p rows b
    (s, some (stDone, s.pageRef p))

/-- MPAGE. -/
def serveMpage (s : State) (c : Nat) (h : Hdr) (d : RmaDesc) (b : Bytes) : Served :=
  match s.targetRecord c h d with
  | none => servedBad s
  | some (a, r) =>
    match targetStream r h with
    | none => servedBad s
    | some ix =>
      let rows := fieldOf d.arg 7 0
      if b.length ≠ extentBytes (r.dim == 2) + (if r.dim = 2 then 2 else 1) * 0x7C0 then servedBad s
      else if d.form = formRef then
        match s.refMeets a r d with
        | .stale => s.stale c d.page
        | .bad => servedBad s
        | .page i => if i = ix then s.fillHeld a ix d.page rows b else servedBad s
      else if d.form = formNew then
        match (s.store.stream a ix).pages.find? (fun e => e.firstpos == d.firstpos && !Store.isGap e.page) with
        | some e => s.fillHeld a ix e.page rows b
        | none =>
          match s.takeCopy r.ctx h r a ix d.page d.firstpos with
          | none => (s, some (stBusy, []))
          | some (s, p) =>
            match s.enterPage a ix p d.firstpos 0 false with
            | none => (s.updStore (fun st => st.freePage p), some (stBusy, []))
            | some s =>
              let s := s.fillPage a ix p rows b
              let s := s.updStore (fun st => st.updStream a ix (fun x =>
                { x with length := Nat.max x.length (d.firstpos + rows) }))
              (s, some (stDone, s.pageRef p))
      else servedBad s

/-- PUT: a page of this node's own copy of a stream, taken and entered, or filling a gap (R467). -/
def servePut (s : State) (c : Nat) (h : Hdr) (d : RmaDesc) (b : Bytes) : Served :=
  match s.targetRecord c h d with
  | none => servedBad s
  | some (a, r) =>
    match targetStream r h with
    | none => servedBad s
    | some ix =>
      let rows := fieldOf d.arg 7 0
      if b.length ≠ extentBytes (r.dim == 2) + (if r.dim = 2 then 2 else 1) * 0x7C0 then servedBad s
      else if d.form = formRef then
        match s.refMeets a r d with
        | .stale => s.stale c d.page
        | .bad => servedBad s
        | .page i => if i = ix then s.fillHeld a ix d.page rows b else servedBad s
      else if d.form = formNew then
        match (s.store.stream a ix).pages.find? (fun e => e.firstpos == d.firstpos) with
        | some e =>
          if Store.isGap e.page then
            match s.takeFor a ix d.firstpos with
            | none => (s, some (stBusy, []))
            | some (s, p) =>
              let cidx := fieldOf e.page 34 32
              let cseq := fieldOf e.page 31 0
              let s := { s with rel := { s.rel with gaps := s.rel.gaps.filter (fun g => !(g.ctx == r.ctx &&
                g.conv == r.conv && g.layer == h.layer && g.kvh == h.kvh && g.firstpos == d.firstpos)) } }
              let s := s.updStore (fun st => st.updPageEnt a ix e.page (fun q => { q with page := p }))
              let s := s.fillPage a ix p rows b
              let s := s.updStore (fun st => st.updHeader p (fun f =>
                { f with pstate := .sealed, cidx := cidx, cseq := cseq, cset := (s.sliceRec (s.sliceOf r.ctx)).cset }))
              (s, some (stDone, s.pageRef p))
          else s.fillHeld a ix e.page rows b
        | none =>
          match s.takeFor a ix d.firstpos with
          | none => (s, some (stBusy, []))
          | some (s, p) =>
            match s.enterPage a ix p d.firstpos 0 false with
            | none => (s.updStore (fun st => st.freePage p), some (stBusy, []))
            | some s =>
              let s := s.fillPage a ix p rows b
              let s := s.updStore (fun st => st.updStream a ix (fun x =>
                { x with length := Nat.max x.length (d.firstpos + rows), openv := false }))
              let s := s.updStore (fun st =>
                (st.updHeader p (fun f => { f with pstate := .sealed })).updPageEnt a ix p (fun e =>
                  { e with sealed := true, sumv := (numAt (st.summary p r.dim) 2 1) % 2 == 1 }))
              (s, some (stDone, s.pageRef p))
      else servedBad s

/-! Reads. -/

/-- LOOKUP: a page held aside answers for its own first position, which no page list names yet (log entry 67). -/
def serveLookup (s : State) (c : Nat) (h : Hdr) (d : RmaDesc) : Served :=
  match s.targetRecord c h d with
  | none => servedBad s
  | some (a, r) =>
    match targetStream r h with
    | none => servedBad s
    | some ix =>
      if d.form ≠ formStream then servedBad s
      else
        match s.asideAt a ix d.firstpos, pageHolding (s.store.stream a ix) (tokensPerPage r.kvfmt) d.firstpos with
        | some p, _ => (s, some (stDone, s.pageRef p))
        | none, some e =>
          if Store.isGap e.page then servedBad s
          else if !s.store.valid e.page then servedBad (s.staleUse e.page)
          else (s, some (stDone, s.pageRef e.page))
        | none, none => servedBad s

/-- Answer a GET of a page in DRAM; a page in silt is first read from its cell (R329). One with an uncorrectable word is
answered BUSY (R163, log entry 66). -/
def getPage (s : State) (c : Nat) (h : Hdr) (p : Nat) : Served :=
  if (s.store.pent p).tier = .silt then (s.queueRead p (.rma c h), none)
  else
    let q := s.sensePage p
    if q.2 then (q.1, some (stBusy, [])) else (q.1, some (stDone, q.1.pageRef p ++ q.1.pagePayload p))

/-- GET. -/
def serveGet (s : State) (c : Nat) (h : Hdr) (d : RmaDesc) : Served :=
  match s.targetRecord c h d with
  | none => servedBad s
  | some (a, r) =>
    if d.form = formRef then
      match s.refMeets a r d with
      | .stale => s.stale c d.page
      | .bad => servedBad s
      | .page _ => s.getPage c h d.page
    else if d.form = formStream then
      match targetStream r h with
      | none => servedBad s
      | some ix =>
        match pageHolding (s.store.stream a ix) (tokensPerPage r.kvfmt) d.firstpos with
        | some e =>
          if Store.isGap e.page then servedBad s
          else if !s.store.valid e.page then servedBad (s.staleUse e.page)
          else s.getPage c h e.page
        | none => servedBad s
    else servedBad s

/-- LEDGER. -/
def serveLedger (s : State) (c : Nat) (h : Hdr) (d : RmaDesc) : Served :=
  match s.targetRecord c h d with
  | none => servedBad s
  | some (a, r) => if d.form ≠ formNone then servedBad s else (s, some (stDone, s.store.recordBytes a r))

/-! CODE at the keeper and at node 9 (R173 to R175). -/

/-- The members of a fresh group: eight empty indices. -/
def emptyMembers : List Member := List.replicate 8 {}

/-- Take the parity page and group record of a new group. -/
def openGroup (s : State) (c key cidx : Nat) (wide : Bool) : Option State :=
  let pcs := s.ctxPcs c
  (s.store.takeLines pcs 4).bind (fun q =>
    (q.1.choosePc pcs (key % 2 ^ 32) wide).bind (fun pc =>
      let h : Frame := { pstate := .parity, wide := wide, ctx := c, cidx := cidx, cset := key / 2 ^ 32 % 65536,
                         cseq := key % 2 ^ 32, origin := s.node }
      (q.1.takePage pc h none).map (fun t =>
        let g : CodeGroup := { live := true, index := cidx, wide := wide, members := emptyMembers, parity := t.2, record := q.2 }
        ({ s with store := t.1.setGroup key g } : State).noteFill c)))

/-- Add a payload into a group's parity page, P or Q (R173): the same addition removes it (R175). -/
def addParity (s : State) (key i : Nat) (b : Bytes) : State :=
  let g := s.store.group key
  let x := if g.index = 9 then b.map (gfPow i) else b
  let s := s.ask { prog := .code, page := g.parity }
  s.updStore (fun st => st.writePayload g.parity (xorBytes (st.payload g.parity) x))

/-- Whether an index already holds the page a contribution names: the contribution came before, and its answer was lost
(log entry 68). -/
def sameMember (m n : Member) : Bool := m.filled && m.node == n.node && m.page == n.page && m.gen == n.gen

/-- Forward a CODE operation to node 9; kept for the next OPEN connection where there is none. -/
def forwardCode (s : State) (x key c : Nat) (h : Hdr) (d : RmaDesc) (b : Bytes) (lag : Nat) : State :=
  match s.rmaConn x (getAt 0 (s.sliceRec (s.sliceOf x)).cnode 9) rightCode with
  | none => { s with unsent := s.unsent ++ [{ ctx := x, conv := h.conv, layer := h.layer, kvh := h.kvh, desc := d,
                                              body := b, use := .parity key c h.seq lag }] }
  | some k => s.rmaSend k kRmaWrite false h.conv h.layer h.kvh d b (.parity key c h.seq lag)

/-- The member record of a CODE operation (R175, log entry 26). -/
def memberOf (h : Hdr) (d : RmaDesc) : Member :=
  { filled := true, node := h.origin, page := d.page, gen := d.gen, firstpos := d.firstpos, rows := fieldOf d.arg 15 8,
    kvfmt := fieldOf d.arg 19 16, dim := fieldOf d.arg 21 20, conv := h.conv, layer := h.layer, kvh := h.kvh }

/-- Free a group every index of which is declared zero (R175); its indices stay declared (R174). -/
def closeGroup (s : State) (key : Nat) : State :=
  let g := s.store.group key
  if g.live && g.members.all (·.declared) then
    s.updStore (fun st =>
      let st := ((st.freePage g.parity).freeLines g.record).setGroup key {}
      { st with closed := st.closed ++ [key] })
  else s

/-- Whether a CODE operation on an index of a group still waits for node 9, or to be sent to it. -/
def forwarding (s : State) (key i : Nat) : Bool :=
  s.conns.any (fun e => e.2.outs.any (fun o => match o.use with
    | .parity k _ _ _ => k == key && fieldOf (RmaDesc.ofBytes o.body).arg 3 0 == i
    | _ => false)) ||
  s.unsent.any (fun u => match u.use with
    | .parity k _ _ _ => k == key && fieldOf u.desc.arg 3 0 == i
    | _ => false)

/-- Declare every empty index of the oldest incomplete group of a set zero when a contribution lands LAG groups or more
beyond it (R174). The keeper counts them; node 9, which no message tells, draws the same conclusion from the
contributions forwarded to it (log entry 69). -/
def declareOld (s : State) (index cset landed lag : Nat) : State :=
  match s.store.groups.find? (fun e => e.2.live && e.2.index == index && e.1 / 2 ^ 32 == cset && !groupComplete e.2) with
  | none => s
  | some (k, g) =>
    if k % 2 ^ 32 + lag ≤ landed then
      let m := g.members.countP (fun m => !m.filled && !m.declared)
      let g := { g with members := g.members.map (fun m => if m.filled then m else { m with declared := true }) }
      let s := s.updStore (fun st => st.setGroup k g)
      (if index = 8 then s.count .pgCodeCntZerodecl 0 m else s).closeGroup k
    else s

/-- Take a CODE operation that node 9 refuses back out of P: the payload is added once more and the index is as it was
(log entry 70). -/
def undoCode (s : State) (key : Nat) (d : RmaDesc) (b : Bytes) : State :=
  let i := fieldOf d.arg 3 0
  match s.parityNear (s.store.group key).parity with
  | none => s
  | some s =>
    let s := s.addParity key i b
    let g := s.store.group key
    let m : Member := getAt {} g.members i
    let m : Member := if d.arg.testBit 4 then { m with filled := true, declared := false } else {}
    s.updStore (fun st => st.setGroup key { g with members := setAt g.members i m })

/-- CODE: at index 8 the payload is added into P and forwarded to node 9, whose confirmation the answer waits for; at
index 9 it is added into Q (R174). With no connection to node 9 the answer waits for one (log entry 70). One that has been
added before is answered DONE; while node 9 has not confirmed it, it is forwarded again and its answer waits for that. A
group freed because every index was declared zero takes no contribution, and knows a removal as done. LAG is that in effect
when the contribution arrives (R177). -/
def serveCode (s : State) (c : Nat) (h : Hdr) (d : RmaDesc) (b : Bytes) : Served :=
  match s.connCtx c with
  | none => servedBad s
  | some x =>
    let sl := s.sliceRec (s.sliceOf x)
    let i := fieldOf d.arg 3 0
    let remove := d.arg.testBit 4
    let wide := decide (b.length = 0x8000 + 2 * 0x7C0)
    let key := groupKey (fieldOf d.arg2 47 32 + 65536 * bnat wide) (fieldOf d.arg2 31 0)
    if !sl.coded || decide (7 < i) || decide (sl.cidx < 8) || !(wide || decide (b.length = 0x4000 + 0x7C0)) then servedBad s
    else if s.store.closed.contains key then if remove then (s, some (stDone, [])) else servedBad s
    else
      let s? := if (s.store.group key).live then some s
        else if remove then none else s.openGroup x key sl.cidx wide
      match s? with
      | none => (s, some (if remove then stBadRange else stBusy, []))
      | some s =>
        let g := s.store.group key
        let m := getAt {} g.members i
        let m' : Member := if remove then { m with filled := false, declared := true } else memberOf h d
        let again := if remove then m.declared else sameMember m m'
        if again then
          if s.forwarding key i then (s.forwardCode x key c h d b (s.rfld .pgCodeCfg 0 7 0), none)
          else (s, some (stDone, []))
        else if remove && !m.filled || !remove && (m.filled || m.declared) || g.wide != wide then servedBad s
        else
          let q := if (s.store.pent g.parity).tier = .silt then (s, false) else s.sensePage g.parity
          match if q.2 then none else q.1.parityNear g.parity with
          | none => (if q.2 then q.1.startRestore g.parity else q.1, some (stBusy, []))
          | some s =>
          let s := s.addParity key i b
          let s := s.updStore (fun st => st.setGroup key { g with members := setAt g.members i m' })
          let lag := s.rfld .pgCodeCfg 0 7 0
          if g.index = 8 then (s.forwardCode x key c h d b lag, none)
          else
            let s := if remove then s else s.declareOld 9 (key / 2 ^ 32) (key % 2 ^ 32) lag
            (s.closeGroup key, some (stDone, []))

/-! The window of a connection (R330). -/

/-- Whether a connection has the right an operation needs (Table 10-9); a reserved OP needs none and is refused by itself. -/
def hasRight (s : State) (c : Nat) (h : Hdr) (d : RmaDesc) : Bool :=
  let r := s.connRights c
  if (if h.kind = kRmaRead then decide (d.op = 0 ∨ opLedger < d.op) else decide (d.op = 0 ∨ opPut < d.op)) then true else
  if h.kind = kRmaRead then
    (if h.flag flagMirror then r.testBit rightMirror else r.testBit rightRead || r.testBit rightMirror)
  else if d.op = opCode then r.testBit rightCode
  else if d.op = opPut then r.testBit rightShadow
  else r.testBit rightMirror && h.flag flagMirror

/-- Whether an operation takes a FORM (Table 10-9). -/
def formOk (h : Hdr) (d : RmaDesc) : Bool :=
  if h.kind = kRmaRead then
    if d.op = opLookup then d.form == formStream
    else if d.op = opGet then d.form == formRef || d.form == formStream
    else d.form == formNone
  else if d.op = opMopen ∨ d.op = opCode then d.form == formNone
  else if d.op = opMstate then d.form == formNone || d.form == formRef
  else d.form == formRef || d.form == formNew

/-- Perform one operation. A request bound to a context that is not OPEN here has no effect (R22). -/
def serve (s : State) (c : Nat) (h : Hdr) (body : Bytes) : Served :=
  let d := RmaDesc.ofBytes body
  let b := body.drop 32
  if (s.connCtx c).any (fun x => decide ((s.ctx x).state ≠ .opn)) then (s, some (stCtxClosed, []))
  else if !s.hasRight c h d then servedBad (s.count .fuRmaRights (s.connFurrow c) 1)
  else if !formOk h d then servedBad s
  else if h.kind = kRmaRead then
    if d.op = opLookup then s.serveLookup c h d
    else if d.op = opGet then s.serveGet c h d
    else if d.op = opLedger then s.serveLedger c h d
    else servedBad s
  else if d.op = opMopen then s.serveMopen c h d b
  else if d.op = opMrows then s.serveMrows c h d b
  else if d.op = opMpage then s.serveMpage c h d b
  else if d.op = opCode then s.serveCode c h d b
  else if d.op = opPut then s.servePut c h d b
  else if d.op = opMstate then
    let act := fieldOf d.arg 3 0
    if act = 1 then s.serveCommit c h d
    else if act = 2 then s.serveSeal c h d b
    else if act = 3 then s.serveHint c h d
    else if act = 4 then s.serveClose c h d
    else if act = 5 then s.serveFree c h d
    else if act = 6 then s.serveRelease c h d
    else servedBad s
  else servedBad s

/-- Send the response to an RMA request (R272, class 3 of 11.6). -/
def rmaAnswer (s : State) (c : Nat) (h : Hdr) (status : Nat) (body : Bytes) : State :=
  let r := s.respHdrOf h false (h.kind + 0x20) status body.length
  if (s.conn c).state = .opn then s.sendPayload c (some 3) none r (if status = stDone then body else []) else s

/-- Record a resolved sequence; the window keeps 1,024 below RNEXT (R330). -/
def rmaResolve (s : State) (c : Nat) (h : Hdr) (status : Nat) (body : Bytes) : State :=
  s.updConn c (fun k =>
    { k with
      rnext := Nat.max k.rnext (h.seq + 1)
      held := k.held.filter (fun x => x.hdr.seq != h.seq)
      waiting := k.waiting.filter (· != h.seq)
      window := (k.window.filter (fun x => decide (k.rnext ≤ x.seq + 1024))) ++
        [{ seq := h.seq, kind := h.kind, status := status, body := body }] })

/-- Whether an operation needs a vendor program: the tag check of a seal, and additions into parity. It waits across a
compute reset (R316). -/
def needsProgram (h : Hdr) (d : RmaDesc) : Bool :=
  h.kind == kRmaWrite && (d.op == opCode || (d.op == opMstate && fieldOf d.arg 3 0 == 2))

/-- The metadata and ledger words an operation needs are read (R163, R164); the answer says whether it waits for one that
is uncorrectable, or for the end of a compute reset. -/
def rmaWaits (s : State) (c : Nat) (h : Hdr) (d : RmaDesc) : State × Bool :=
  match s.connCtx c with
  | none => (s, false)
  | some x =>
    let as := match s.targetRecord c h d with | some (a, _) => [a] | none => []
    let grows := h.kind == kRmaWrite && (d.form == formNew || d.op == opCode)
    let s := s.senseNeeded x grows as
    (s, (s.store.metaUe ++ s.store.ledgerUe).any (s.needsWord x grows as) || (needsProgram h d && decide (s.rel.cr ≠ .none)))

/-- Perform the held requests at RNEXT, in order (R330). -/
def rmaRun : Nat → Nat → State → State
  | 0, _, s => s
  | n + 1, c, s =>
    let k := s.conn c
    match k.held.find? (fun x => x.hdr.seq == k.rnext) with
    | none => s
    | some x =>
      if k.waiting.contains k.rnext then s
      else
        match s.rmaWaits c x.hdr (RmaDesc.ofBytes x.body) with
        | (s, true) => s
        | (s, false) =>
        match s.serve c x.hdr x.body with
        | (s, none) => s.updConn c (fun k => { k with waiting := k.waiting ++ [x.hdr.seq] })
        | (s, some (st, b)) => rmaRun n c ((s.rmaResolve c x.hdr st b).rmaAnswer c x.hdr st b)

/-- Every connection performs what it held back (R164, R316). -/
def rmaRunAll (s : State) : State := s.conns.foldl (fun q e => rmaRun 1025 e.1 q) s

/-- A complete RMA request arrives on a connection (R330). -/
def rmaArrive (s : State) (c : Nat) (h : Hdr) (body : Bytes) : State :=
  let k := s.conn c
  let f := s.connFurrow c
  if k.state ≠ .opn then s
  else if h.seq + 1024 < k.rnext then s.count .fuRmaOld f 1
  else if k.rnext + 1024 ≤ h.seq then s.count .fuRmaAhead f 1
  else
    match k.window.find? (fun x => x.seq == h.seq) with
    | some x =>
      if x.kind = kRmaWrite then (s.rmaAnswer c h x.status x.body).count .fuRmaEcho f 1
      else
        match s.serve c h body with
        | (s, some (st, b)) => s.rmaAnswer c h st b
        | (s, none) => s
    | none =>
      if k.held.any (fun x => x.hdr.seq == h.seq) then s.count .fuRmaDup f 1
      else
        let s := s.setConn c { k with held := k.held ++ [{ hdr := h, body := body, since := s.hubUnits }] }
        rmaRun 1025 c s

end State

end Sys2Proof.Machine
end

