-- ==== Sys2Proof/Machine/Recover.lean ====
section
/-! DEFINITION. Restoration of pages, takeover, rebuilding of coded members, shadow copies, and what an answer to an RMA
request of the module's own completes (R164, R230, R465 to R468, R475 to R477, R331, R536). -/

namespace Sys2Proof.Machine

namespace State

/-! Changes the partner has not confirmed (R536). -/

/-- One more confirmation that a takeover waits for. -/
def takeWait (s : State) : State :=
  { s with rel := { s.rel with take := { s.rel.take with waits := s.rel.take.waits + 1 } } }

/-- Send a converted page to this node's own partner by MPAGE (R465 step 5). One with an uncorrectable word is restored first
(R163, R164); with no connection OPEN it is kept to be sent. -/
def takePage (s : State) (p : Nat) : State :=
  let h := s.anyHeader p
  let grp := match s.streamOfPage p with | some (_, _, r) => r.group | none => false
  let v := s.sensePage p
  let s := v.1
  match if v.2 then none else s.mirrorSend h.ctx h.conv h.layer h.kvh
      { op := opMpage, form := formNew, grp := grp, firstpos := h.firstpos, page := p, arg := h.rows } (s.pagePayload p)
      (.take h.ctx) with
  | some t => t
  | none => (if v.2 then s.startRestore p else s).keepCoding h p (.takePage p)

/-- Send the kept changes of a context again. -/
def flushUnsent (s : State) (c : Nat) : State :=
  let mine := s.unsent.filter (fun u => u.ctx == c)
  let s := { s with unsent := s.unsent.filter (fun u => u.ctx != c) }
  mine.foldl (fun q u =>
    match u.use with
    | .contribute p => if q.store.valid p then q.sendMember p else q
    | .uncode p => q.uncode p
    | .release p => if q.store.valid p then q.askRelease p else q
    | .ledgerUe pc a => if q.store.ledgerUe.contains (pc, a) then q.askLedger pc a else q
    | .lookSeal n p => if q.store.valid p then q.sendSeal n p else q.confirmOpt n true
    | .takePage p =>
      if q.store.valid p then q.takePage p
      else { q with rel := { q.rel with take := { q.rel.take with waits := q.rel.take.waits - 1 } } }
    | .released p => if q.store.valid p then q.askRelease p else q
    | .parity key k seq lag =>
      match q.rmaConn c (getAt 0 (q.sliceRec (q.sliceOf c)).cnode 9) rightCode with
      | none => { q with unsent := q.unsent ++ [u] }
      | some j => q.rmaSend j kRmaWrite false u.conv u.layer u.kvh u.desc u.body (.parity key k seq lag)
    | use =>
      let kind := match use with | .lookFree _ _ => kRmaRead | _ => kRmaWrite
      match q.mirrorConn c with
      | none => { q with unsent := q.unsent ++ [u] }
      | some k => q.rmaSend k kind true u.conv u.layer u.kvh u.desc u.body use) s

/-! Restoration (R164, R230). -/

/-- The retired frames of a page's old place. -/
def retireFrames (s : State) (pc f : Nat) (wide : Bool) : State :=
  let s := s.updStore (fun st =>
    let st := st.updFrame pc f (fun h => { gen := h.gen, pstate := .retired })
    if wide then st.updFrame pc (f + 1) (fun h => { gen := h.gen, pstate := .retired }) else st)
  let n := if wide then 2 else 1
  (s.count .pgCntRetired pc n).pred 1 (pc / 64) 2 n

/-- Put a restored payload into a fresh frame of the page's home pseudo-channel, keeping the page number; a sealed page
is checked against its seal tag, and its list entry's SUMV follows the summary (R164, Table 05-11, log entry 71). The
answer says whether the tag agrees; `none` when no frame is free. -/
def putRestored (s : State) (p : Nat) (b : Bytes) : Option (State × Bool) :=
  let e := s.store.pent p
  let pc := pagePc p
  let h := s.anyHeader p
  (s.store.freeFrame pc e.wide).map (fun f =>
    let st := s.store.takeFrame pc f h
    let wasSilt := decide (e.tier = .silt)
    let st := st.setPent p { e with tier := if e.tier = .both then .both else .near, frame := f, sidx := 0,
                                    silt := if wasSilt then 0 else e.silt }
    let st := st.writePayload p b
    let st := if wasSilt then (st.freeOwnCells p e.silt e.wide).dropSummaryFrame pc e.frame else st
    let s := ((({ s with store := st } : State).noteFill h.ctx).ask { prog := .copy, page := p }).count .pgCodeCntRebuilt 0 1
    let s := if wasSilt then s.count .stCntRestore (e.silt % 16) 1 else s.retireFrames pc e.frame e.wide
    let x := s.store.header p
    let s := match s.streamOfPage p with
      | some (a, ix, r) => if x.pstate = .sealed then
          s.updStore (fun st => st.updPageEnt a ix p (fun q => { q with sumv := (numAt (st.summary p r.dim) 2 1) % 2 == 1 })) else s
      | none => s
    if x.pstate = .sealed ∧ s.store.sealTag p ≠
        Keccak.shake256 (sealBytes s.store p x.kvfmt x.dim x.firstpos x.rows) 32 then
      (s.pgFault pc 3 (frameAddr f), false)
    else (s, true))

/-! Takeover (R465). -/

/-- Send one mirror write of a takeover, kept to be sent again where no connection is OPEN. -/
def takeSend (s : State) (c conv layer kvh : Nat) (d : RmaDesc) (b : Bytes) : State :=
  let s := s.takeWait
  match s.mirrorSend c conv layer kvh d b (.take c) with
  | some t => t
  | none => { s with unsent := s.unsent ++
      [{ ctx := c, conv := conv, layer := layer, kvh := kvh, desc := d, body := b, use := .take c }] }

/-- Room of the gap list (Table 15-10). -/
def gapMax : Nat := 4096

/-- List the gaps of a converted stream (R465 step 4). -/
def listGaps (s : State) (r : Root) (ix : Nat) (ps : List PageEnt) : State :=
  (ps.filter (fun e => Store.isGap e.page)).foldl (fun q e =>
    let g : GapEnt := { ctx := r.ctx, layer := Store.layerOfIx r ix, kvh := Store.headOfIx r ix, firstpos := e.firstpos,
                        conv := r.conv, gseq := fieldOf e.page 31 0, cidx := fieldOf e.page 34 32, rows := e.rows }
    let rel := { q.rel with take := { q.rel.take with gaps := q.rel.take.gaps + 1 } }
    if rel.gaps.length < gapMax then { q with rel := { rel with gaps := rel.gaps ++ [g] } }
    else { q with rel := { rel with gapovf := true } }) s

/-- Make the pages of a converted stream this node's own (R465 step 3). -/
def ownPages (s : State) (a ix : Nat) : State :=
  let x := s.store.stream a ix
  let me := s.node
  let st := x.pages.foldl (fun (q : Store) e =>
    if Store.isGap e.page then q
    else
      let opn := x.openv && e.page == x.openPage
      let q := q.updAnyHeader e.page (fun h =>
        { h with pstate := if opn then .opn else .sealed, origin := me, originPage := e.page, sealedCopy := false })
      if opn then q else q.updPageEnt a ix e.page (fun y => { y with sealed := true })) s.store
  { s with store := st }

/-- The record a converted member's group copy is: the group copy of the context with the member's shape (log entry
29). -/
def groupCopyFor (s : State) (c : Nat) (r : Root) : Nat :=
  if r.groupLedger = 0 then 0
  else
    ((s.store.roots.find? (fun e => match e.2 with
      | some g => g.group && g.ctx == c && g.kvfmt == r.kvfmt && g.dim == r.dim && g.layers == r.layers &&
          g.headSet == r.headSet && g.originNode == r.originNode && g.firstPage ≤ r.firstPage
      | none => false)).map (·.1)).getD 0

/-- Send this node's copy of a converted record to its own partner (R465 step 5). -/
def takeMirror (s : State) (a : Nat) (r : Root) : State :=
  let s := s.takeSend r.ctx r.conv 0 0 { op := opMopen, grp := r.group } (s.store.recordBytes a r)
  forUpTo (Store.nstreams r) s (fun ix q =>
    ((q.store.stream a ix).pages.filter (fun e => !Store.isGap e.page)).foldl (fun t e => t.takeWait.takePage e.page) q)

/-- How many members of a gap's group are known here to be lost: the gap list names one index of each (R470). -/
def lostMembers (s : State) (gseq : Nat) : Nat :=
  (((s.rel.gaps.filter (fun g => g.gseq == gseq)).map (·.cidx)).dedup).length

/-- Whether every page of a stream has a readable copy here or in a coding group: the entries follow on each other from
BASEPOS to LENGTH, each of them a page this node holds, or a gap of whose group no more than 2 members are lost (R470). -/
def streamWhole (s : State) (x : Stream) : Bool :=
  let fin := x.pages.foldl (fun (pos : Option Nat) e => pos.bind (fun q =>
    if e.firstpos = q ∧ ((if Store.isGap e.page then decide (s.lostMembers (fieldOf e.page 31 0) ≤ 2) else s.store.valid e.page)) then some (q + e.rows) else none)) (some x.basepos)
  fin == some x.length

/-- Whether every stream of a record is whole. -/
def recordWhole (s : State) (a : Nat) : Bool :=
  match s.store.root a with
  | none => true
  | some r => (List.range (Store.nstreams r)).all (fun i => s.streamWhole (s.store.stream a i))

/-- List a converted conversation lost that lacks a readable copy of a page, or whose group does (R469, R470). -/
def listIncomplete (s : State) (a : Nat) : State :=
  match s.store.root a with
  | none => s
  | some r =>
    if s.recordWhole a && (r.groupLedger == 0 || s.recordWhole r.groupLedger) then s else s.addLost r.ctx r.conv 3

/-- Convert one copy (R465 steps 1 to 5). -/
def takeOne (s : State) (c row : Nat) : State :=
  let e := s.cam.row row
  let a := assocLedger e.data
  match s.store.root a with
  | none => s
  | some r =>
    let kind := if r.group then kindGroup else kindConv
    let cam := (s.cam.clear row).put row
      { value := camKey c kind r.conv, care := allCare, data := assoc a (s.sliceOf c) false false false }
    let r' := { r with mirror := false, originNode := s.node, groupLedger := s.groupCopyFor c r, members := 0 }
    let s := { s with cam := cam }
    let s := s.updStore (fun st => st.setRoot a (some r'))
    let s := if r'.groupLedger = 0 then s
      else s.updStore (fun st => st.updRoot r'.groupLedger (fun g => { g with members := g.members + 1 }))
    let s := forUpTo (Store.nstreams r') s (fun ix q => (q.listGaps r' ix (q.store.stream a ix).pages).ownPages a ix)
    let s := { s with rel := { s.rel with take := { s.rel.take with convs := s.rel.take.convs + 1 } } }
    (s.takeMirror a r').listIncomplete a

/-- The rows of a context's copies of one kind. -/
def copyRowsOf (s : State) (c kind : Nat) : List Nat :=
  (s.cam.rows.filter (fun e => e.2.sValid && kindOf e.2.sValue == kind && e.2.sValue % 1024 == c)).map (·.1)

/-- Take over a context: groups before members. What this node already held of the context, as a spare whose copying was
cut short, survives only where it is whole (R470). -/
def takeOver (s : State) (c : Nat) : State :=
  let s := { s with rel := { s.rel with take := { busy := true, ctx := c } } }
  let had := s.store.roots.filterMap (fun e => match e.2 with
    | some r => if r.ctx = c ∧ !r.mirror ∧ !r.group then some e.1 else none
    | none => none)
  let s := (s.copyRowsOf c kindMgroup).foldl (fun q i => q.takeOne c i) s
  had.foldl listIncomplete ((s.copyRowsOf c kindMconv).foldl (fun q i => q.takeOne c i) s)

/-! Decoding a member (R173, R468). -/

/-- The bitwise sum of payloads, as long as the longest. -/
def sumPayloads (n : Nat) (bs : List Bytes) : Bytes := bs.foldl (fun a b => xorBytes a (fit n b)) (zeros n)

/-- Decode a data index from parity P or Q and the other members; `lost` is another missing data index. -/
def decodeMember (n x : Nat) (lost : Option Nat) (p q : Option Bytes) (got : List (Nat × Bytes)) : Option Bytes :=
  let ps (b : Bytes) : Bytes := xorBytes (fit n b) (sumPayloads n (got.map (·.2)))
  let qs (b : Bytes) : Bytes := xorBytes (fit n b) (sumPayloads n (got.map (fun g => g.2.map (gfPow g.1))))
  match lost, p, q with
  | none, some b, _ => some (ps b)
  | none, none, some c => some ((qs c).map (gfMul (gfInv (gfPow x 1))))
  | some y, some b, some c =>
    let d := gfInv (gfPow x 1 ^^^ gfPow y 1)
    some ((xorBytes (qs c) ((ps b).map (gfPow y))).map (gfMul d))
  | _, _, _ => none

def setRb (s : State) (x : RebuildJob) : State := { s with rel := { s.rel with rb := x } }

/-- End a rebuild: 2 done, 3 failed, with PF vector 5 (Table 15-3). -/
def endRb (s : State) (state cause : Nat) : State :=
  (s.setRb { s.rel.rb with state := state, cause := cause, decoding := false }).requestPf 5

/-- Ask a member of a group for its page, by its recorded reference (R468). -/
def askMember (s : State) (ctx i : Nat) (insilt : Bool) (m : Member) : State :=
  match s.connFor ctx m.node (fun k => s.connPeer k && ((s.connRights k).testBit rightRead || (s.connRights k).testBit rightMirror)) with
  | some k =>
    let s := s.setRb { s.rel.rb with asked := s.rel.rb.asked ++ [i] }
    s.rmaSend k kRmaRead false m.conv m.layer m.kvh
      { op := opGet, form := formRef, page := m.page, insilt := insilt, gen := if insilt then 0 else m.gen } []
      (.rebuild (i + if insilt then 8 else 0))
  | none => s.setRb { s.rel.rb with failed := s.rel.rb.failed ++ [i] }

/-- Whether every member asked for has answered. -/
def rbReady (x : RebuildJob) : Bool := x.state == 1 && !x.decoding && x.asked.isEmpty

/-- When every member has answered, ask for the decode; with fewer than 8 of the 10 payloads, both parities counted, the
rebuild fails (R468). -/
def rbGathered (s : State) : State :=
  let x := s.rel.rb
  if rbReady x then
    if x.failed.length ≤ 1 then
      (s.setRb { x with decoding := true }).ask { prog := .code, page := (s.store.group x.key).parity, arg := 1 }
    else s.endRb 3 2
  else s

/-- Whether the node of a group's other parity can be read from here: a PEER connection with the READ or MIRROR right toward it
is OPEN (R468). -/
def parityReadable (s : State) (g : CodeGroup) : Bool :=
  let ctx := (s.anyHeader g.parity).ctx
  let other := getAt 0 (s.sliceRec (s.sliceOf ctx)).cnode (if g.index = 8 then 9 else 8)
  (s.connFor ctx other (fun k => s.connPeer k && ((s.connRights k).testBit rightRead || (s.connRights k).testBit rightMirror))).isSome

/-- The CODE program has decoded the lost index: the page is PUT in NEW form on the connection named (R468). `other` is
the other parity's payload where this node could read it (log entry 30); a parity page in silt is read from its cell
(R224). A memory initialisation meanwhile leaves no such group. -/
def rbDecode (s : State) (other : Option Bytes) : State :=
  let x := s.rel.rb
  if x.state = 1 ∧ x.decoding then
    let g := s.store.group x.key
    if !g.live then s.endRb 3 1 else
    let own := s.pagePayload g.parity
    let other := if s.parityReadable g then other else none
    let p := if g.index = 8 then some own else other
    let q := if g.index = 8 then other else some own
    match decodeMember own.length x.cidx x.failed.head? p q x.got with
    | none => s.endRb 3 2
    | some b =>
      if s.sendsRequests ∧ (s.conn x.conn).state = .opn then
        let s := s.setRb { x with decoding := false, asked := [16] }
        s.rmaSend x.conn kRmaWrite false x.conv x.layer x.kvh
          { op := opPut, form := formNew, firstpos := x.firstpos, arg := x.rows } b (.rebuild 16)
      else s.endRb 3 3
  else s

/-- A member's GET returned. -/
def rbAnswer (s : State) (i : Nat) (silt : Bool) (done : Bool) (body : Bytes) : State :=
  let x := s.rel.rb
  let g := s.store.group x.key
  let x := { x with asked := x.asked.filter (· != i) }
  if x.state ≠ 1 then s
  else if done then (s.setRb { x with got := x.got ++ [(i, body.drop 16)] }).rbGathered
  else if silt then (s.setRb { x with failed := x.failed ++ [i] }).rbGathered
  else
    let ctx := (s.anyHeader g.parity).ctx
    ((s.setRb x).askMember ctx i true (getAt {} g.members i)).rbGathered

/-! Shadow copies (R475, R477). -/

/-- Shadowing of a slice fails (R477). -/
def shadowFail (s : State) (k : Nat) : State :=
  let x := s.shadowSt k
  if x.phase = 1 ∨ x.phase = 2 then
    let s := s.setShadowSt k { x with phase := 3, cur := none, holding := false }
    ({ s with own := s.own.filter (fun o => decide (o.shadow ≠ some k)) }).requestPf 5
  else s

/-- The OPEN_CONV that makes a spare's copy of a record (R475 step 1). -/
def openBody (s : State) (r : Root) : Bytes :=
  let g := if r.groupLedger = 0 then none else s.store.root r.groupLedger
  leBytes 4 (bnat g.isSome + place 2 r.kvfmt + place 6 r.dim + place 8 (r.layers - 1) + place 16 (r.kvhs - 1)) ++
  leBytes 4 r.headSet ++ leBytes 8 (r.firstPage + place 24 r.pageLimit) ++
  leBytes 8 (match g with | some x => x.conv | none => 0) ++ zeros 8

/-- The pages of a record not yet sent to the spare: sealed ones, or all. -/
def unsentPages (s : State) (a : Nat) (r : Root) (sent : List Nat) (openToo : Bool) : List (Nat × PageEnt) :=
  (List.range (Store.nstreams r)).flatMap (fun ix =>
    ((s.store.stream a ix).pages.filter (fun e => !Store.isGap e.page && !sent.contains e.page &&
      (openToo || decide ((s.anyHeader e.page).pstate = .sealed)))).map (fun e => (ix, e)))

/-- Send pages to the spare by PUT. One with an uncorrectable word is restored first, and sent then (R163, R164). -/
def putPages (s : State) (k : Nat) (r : Root) (ps : List (Nat × PageEnt)) : State :=
  ps.foldl (fun q e =>
    let v := q.sensePage e.2.page
    let q := v.1
    if v.2 then q.startRestore e.2.page else
    let x := q.shadowSt k
    match q.rmaConn r.ctx x.spare rightShadow with
    | none => q.shadowFail k
    | some c =>
      let q := q.setShadowSt k { x with sent := x.sent ++ [e.2.page], waits := x.waits + 1 }
      q.rmaSend c kRmaWrite false r.conv (Store.layerOfIx r e.1) (Store.headOfIx r e.1)
        { op := opPut, form := formNew, grp := r.group, firstpos := e.2.firstpos, arg := e.2.rows }
        (q.pagePayload e.2.page) (.shadow k)) s

/-- The records of a slice that are not yet copied, groups before conversations (R475). -/
def uncopied (s : State) (k : Nat) : List Nat :=
  let mine := s.store.roots.filter (fun e => match e.2 with
    | some r => !r.mirror && s.sliceOf r.ctx == k && !(s.shadowSt k).copied.contains e.1
    | none => false)
  let groups := mine.filter (fun e => match e.2 with | some r => r.group | none => false)
  let convs := mine.filter (fun e => match e.2 with | some r => !r.group | none => false)
  (groups ++ convs).map (·.1)

/-- Take the next step of a slice's copying, where one can be taken (R475). -/
def shadowStep : Nat → State → Nat → State
  | 0, s, _ => s
  | n + 1, s, k =>
    let x := s.shadowSt k
    if x.phase ≠ 1 ∧ x.phase ≠ 2 then s
    else
      match x.cur with
      | none =>
        match s.uncopied k with
        | [] => if x.phase = 1 then (s.setShadowSt k { x with phase := 2 }).requestPf 5 else s
        | a :: _ =>
          match s.store.root a with
          | none => s
          | some r =>
            let s := s.setShadowSt k { x with cur := some a, opened := false, sent := [], waits := 0 }
            let h : Hdr := { kind := kOpenConv, ctx := r.ctx, conv := r.conv, flags := place flagGroup (bnat r.group),
                             total := 32 }
            s.relayTo k h (s.openBody r)
      | some a =>
        match s.store.root a with
        | none => shadowStep n (s.setShadowSt k { x with cur := none, holding := false }) k
        | some r =>
          if !x.opened || x.waits != 0 then s
          else if x.holding then
            if s.slots.any (fun e => match e.2.prog with
                | .staged g => decide (e.2.state = .active) && g.root == a
                | _ => false) then s
            else if s.hasTent a r then s.setShadowSt k { x with holding := false }
            else
              match s.unsentPages a r x.sent true with
              | [] => shadowStep n (s.setShadowSt k { x with cur := none, holding := false, copied := x.copied ++ [a] }) k
              | ps => s.putPages k r ps
          else
            match s.unsentPages a r x.sent false with
            | [] => if s.hasTent a r then s else shadowStep n (s.setShadowSt k { x with holding := true }) k
            | ps => s.putPages k r ps

/-- Let every shadow copy take the steps it now can. -/
def shadowsStep (s : State) : State := s.rel.shadows.foldl (fun q e => shadowStep 65536 q e.1) s

/-! Answers to the module's own RMA requests (R331). -/

/-- What an answer completes; `none` when the request failed with its connection. -/
def settle (s : State) (o : RmaOut) (status : Option Nat) (body : Bytes) : State :=
  let done := decide (status = some stDone)
  match o.use with
  | .restore p =>
    match s.restore? p with
    | some x => s.setRestore (if done then { x with body := some (body.drop 16) } else { x with refused := true })
    | none => s.count .rsCntOrphan 0 1
  | .parity key c seq lag =>
    let d := RmaDesc.ofBytes o.body
    let remove := d.arg.testBit 4
    let last := !s.forwarding key (fieldOf d.arg 3 0)
    let answer (s : State) (st : Nat) : State :=
      match (s.conn c).held.find? (fun x => x.hdr.seq == seq) with
      | none => s
      | some x => (s.rmaResolve c x.hdr st []).rmaAnswer c x.hdr st []
    if done ∨ (remove ∧ status = some stBadRange) then
      let s := answer s stDone
      let s := if last then s.closeGroup key else s
      let s := if last ∧ !remove then s.declareOld 8 (key / 2 ^ 32) (key % 2 ^ 32) lag else s
      rmaRun 1025 c s
    else
      match status with
      | none => s.forwardCode o.hdr.ctx key c { o.hdr with seq := seq } d (o.body.drop 32) lag
      | some st => rmaRun 1025 c (answer (if last then s.undoCode key d (o.body.drop 32) else s) st)
  | .ledgerUe pc a =>
    if done then
      (s.updStore (fun st => { (st.markBad (gaddr pc a / 32) false) with
        ledgerUe := st.ledgerUe.filter (fun x => x != (pc, a)) })).rmaRunAll
    else if status.isNone then s.askLedger pc a
    else
      let lost := match (s.ledgerOwner pc a).bind (fun o => s.store.root o) with
        | some r => if r.mirror then s else s.addLost r.ctx r.conv 1
        | none => s
      (lost.updStore (fun st => { st with ledgerUe := st.ledgerUe.filter (fun x => x != (pc, a)) })).rmaRunAll
  | .take _ =>
    if status.isSome ∧ !done then s.sendAgain o
    else if done then { s with rel := { s.rel with take := { s.rel.take with waits := s.rel.take.waits - 1 } } }
    else { s with unsent := s.unsent ++
      [{ ctx := o.hdr.ctx, conv := o.hdr.conv, layer := o.hdr.layer, kvh := o.hdr.kvh,
         desc := RmaDesc.ofBytes o.body, body := o.body.drop 32, use := o.use }] }
  | .rebuild i =>
    if i = 16 then
      if done then
        let x := s.rel.rb
        let g := s.store.group x.key
        let ref := refOf body
        let m := getAt {} g.members x.cidx
        let m := { m with filled := true, declared := false, node := (s.routeTo x.conn).getD 0, page := ref.page,
                          gen := ref.gen, firstpos := x.firstpos, rows := x.rows }
        (s.updStore (fun st => st.setGroup x.key { g with members := setAt g.members x.cidx m })).endRb 2 0
      else s.endRb 3 4
    else s.rbAnswer (i % 8) (decide (8 ≤ i)) done body
  | .shadow k =>
    if done then
      let x := s.shadowSt k
      s.setShadowSt k { x with waits := x.waits - 1 }
    else s.shadowFail k
  | u => (s.settleMirror u status o body).shadowsStep

/-- A connection becomes FAILED: the event is sent, every outstanding request fails (R330, R331). -/
def connFail (s : State) (c : Nat) : State :=
  let k := s.conn c
  if k.state = .opn ∨ k.state = .closing then
    let s := s.setConn c { k with state := if k.state = .closing then .closing else .failed, outs := [] }
    let f := s.connFurrow c
    let s := (s.count .fuCntConnfail f 1).sendEvent f evConnFail (s.connTo c)
    let s := k.outs.foldl (fun q o => q.settle o none []) s
    s.rel.shadows.foldl (fun q e =>
      if q.routeTo c == some e.2.spare && (q.connRights c).testBit rightShadow &&
          (q.connCtx c).any (fun x => q.sliceOf x == e.1) then q.shadowFail e.1
      else q) s
  else s

/-- A response to an RMA request of the module's own (R331). -/
def rmaReturn (s : State) (c : Nat) (h : Hdr) (body : Bytes) : State :=
  let k := s.conn c
  match k.outs.find? (fun o => o.seq == h.seq) with
  | none => s.count .fuRmaLate (s.connFurrow c) 1
  | some o =>
    let s := s.setConn c { k with outs := k.outs.filter (fun x => x.seq != h.seq) }
    s.settle o (some h.status) body

end State

end Sys2Proof.Machine
end

