-- ==== Sys2Proof/Machine/Admit.lean ====
section
/-! DEFINITION. How carriers come in: reassembly, admission, stage 3, markers and events (chapters 9 to 11, R533). -/

namespace Sys2Proof.Machine

namespace State

/-! Stage 3 (R271, R274, R293, R300, R529). -/

/-- Whether a request carries only flags its kind allows (Table 09-2). -/
def flagsAllowed (h : Hdr) : Bool :=
  let k := h.kind
  let g := h.flag flagGroup
  (!h.flag flagTentative || (k == kAppend && !g)) &&
  (!(h.flag flagCommit || h.flag flagRollback) || (k != kOpenConv && !g)) &&
  !h.flag flagMirror && !h.flag flagReissued && (!g || k != kAttend) && fieldOf h.flags 13 8 == 0

/-- Whether the header fields Table 09-3 marks 0 are 0 (R274). -/
def zerosKept (h : Hdr) : Bool :=
  !(h.kind == kHint || h.kind == kOpenConv || h.kind == kCloseConv) || (h.layer == 0 && h.kvh == 0)

/-- Whether TOTAL is n beyond any commit prefix. -/
def totalIs (h : Hdr) (n : Nat) : Bool := h.total == n + (if h.flag flagCommit && h.flag flagRollback then 16 else 0)

/-- The fixed body lengths (R529). -/
def lengthKept (h : Hdr) : Bool :=
  if h.kind == kSeal || h.kind == kPromote || h.kind == kHint then totalIs h 16
  else if h.kind == kCloseConv then totalIs h 0 else true

/-- What an epoch is to the node's own (R300, Table 09-13). -/
inductive EpochIs where
  | current | previous | newer | stale
deriving DecidableEq, Repr

/-- Classify an epoch. -/
def epochIs (s : State) (e : Nat) : EpochIs :=
  if e = s.img.epoch then .current
  else if s.img.prevv && e == s.img.prev then .previous
  else if 1 ≤ (e + 65536 - s.img.epoch) % 65536 ∧ (e + 65536 - s.img.epoch) % 65536 ≤ 32767 then .newer
  else .stale

/-- Refuse a request in its slot at stage 3: its sequence resolves at once (R294). -/
def refuseSlot (s : State) (n status : Nat) : State :=
  let x := s.slot n
  (s.complete n status []).resolve x.hdr.origin x.hdr.seq status

/-- Stage 3 of a newly granted request. -/
def stage3 (s : State) (n : Nat) : State :=
  let x := s.slot n
  match s.epochIs x.hdr.epoch with
  | .newer => (s.count .rqCntFuture 0 1).refuseSlot n stBusy
  | .stale => s.refuseSlot n stEpochStale
  | e =>
    let s := s.updSlot n (fun y => { y with prev := decide (e = .previous) })
    if !flagsAllowed x.hdr || !zerosKept x.hdr || !lengthKept x.hdr then s.refuseSlot n stBadRange
    else
      let s := match s.origin? x.hdr.origin with
        | some e => if x.hdr.seq = e.next then s else s.count .rqCntHeld 0 1
        | none => s
      advance 4097 x.hdr.origin s

/-! Admission (Table 11-1). -/

/-- Whether an admission queue holds a REQ_ID. -/
def queuedReq (s : State) (o q : Nat) : Bool :=
  s.ctxs.any (fun e => e.2.queue.any (fun r => r.hdr.origin == o && r.hdr.seq == q))

/-- A head ends with QUOTA, its cause counted (R348). -/
def quotaHead (s : State) (c : Nat) (r : QReq) : State :=
  let short := !s.canPay c (s.charge r.hdr)
  let s := s.updCtx c (fun g => { g with queue := g.queue.drop 1 })
  let s := if short then s.count .hgCntQuotaTok c 1 else s.count .hgCntQuotaSlot c 1
  s.refuse r.src r.hdr stQuota

/-- Whether a head is eligible (R347). -/
def eligible (s : State) (c : Nat) (r : QReq) : Bool := s.canPay c (s.charge r.hdr) && s.slotAvailable c

/-- What POLICY does to a head that is not eligible: refuse it and look at the next, or let it wait (R348). -/
def headCheck : Nat → State → Nat → State
  | 0, s, _ => s
  | n + 1, s, c =>
    match (s.ctx c).queue with
    | [] => (s.updCtx c (fun g => { g with deficit := 0 })).checkDrained c
    | r :: rest =>
      if s.eligible c r then s
      else if s.rbit .hgCtxArb c 10 then
        let s := s.updCtx c (fun g => { g with deficit := 0 })
        if r.waited then s
        else ((s.updCtx c (fun g => { g with queue := { r with waited := true } :: rest })).count .hgCntWaited c 1).raiseIrq
          c 1
      else headCheck n ((s.updCtx c (fun g => { g with deficit := 0 })).quotaHead c r) c

/-- What has changed for one head may have changed for all: POLICY is applied to every head that is not eligible (R348, R354). -/
def headsCheck (s : State) : State :=
  s.ctxs.foldl (fun q e => if (q.ctx e.1).queue.isEmpty then q else headCheck ((q.ctx e.1).queue.length + 1) q e.1) s

/-- The greatest number of queued requests in the module (R352). -/
def queueTotal : Nat := 16384

/-- A copy passed by step 1: it takes a slot of the duplicate reserve, and stage 3 answers it by ECHO or drops it
(R293, R341). -/
def dupPass (s : State) (src : Src) (h : Hdr) (done : Option Nat) : State :=
  if s.rfld .hgCfg 0 17 0 ≤ s.dupUsed then s.count .hgDropDupres h.ctx 1
  else
    let s := s.count .hgCntDuppass h.ctx 1
    match done, s.freeSlotNo with
    | some st, some n =>
      let x : Slot := { state := .active, hdr := h, src := src, dup := true }
      ((s.setSlot n x).count .rqCntEcho 0 1).completeEcho n st
    | _, _ => s.count .rqCntDup 0 1

/-- Create an origin's entry, NEXT 0 (R292, R304). -/
def newOrigin (s : State) (o : Nat) : State := { s with origins := s.origins ++ [{ node := o }] }

/-- A complete request of kinds ATTEND to PROMOTE meets the headgate (R340). -/
def takeIn (s : State) (src : Src) (h : Hdr) (body : Bytes) : State :=
  let peer := match src with | .conn c => s.connPeer c | .aperture _ => false
  let h := if peer then h else (h.setFlag flagReissued false).setFlag flagFwd false
  let s? : Option State := match s.origin? h.origin with
    | some _ => some s
    | none => if h.seq = 0 ∧ s.origins.length < 2048 then some (s.newOrigin h.origin) else none
  match s? with
  | none => s.count .rqDropOrigin 0 1
  | some s =>
    match s.classify h.origin h.seq with
    | .noEntry => s
    | .old => s.count .rqDropOld 0 1
    | .ahead => s.count .rqDropAhead 0 1
    | .resolved st => s.dupPass src h (some st)
    | .inSlot => s.dupPass src h none
    | .fresh =>
      if s.queuedReq h.origin h.seq then s.count .hgDropDupq h.ctx 1
      else if s.rel.svc = .withdrawing then s.refuse src h stBusy
      else if (s.ctx h.ctx).state ≠ .opn then (s.count .hgCntClosed h.ctx 1).refuse src h stCtxClosed
      else if s.rfld .hgCtxArb h.ctx 18 11 ≤ (s.ctx h.ctx).queue.length ∨ queueTotal ≤ s.queuedTotal then
        (s.count .hgCntQuotaQfull h.ctx 1).refuse src h stQuota
      else
        let r : QReq := { hdr := h, body := body, src := src, since := s.hubUnits }
        let s := s.updCtx h.ctx (fun g => { g with queue := g.queue ++ [r] })
        headCheck ((s.ctx h.ctx).queue.length + 1) s h.ctx

/-- Grant the head of a queue: the charge and a slot (Table 11-1 step 6), then stage 3. -/
def grantHead (s : State) (c : Nat) (r : QReq) (n : Nat) : State :=
  let ch := s.charge r.hdr
  let s := s.updCtx c (fun g =>
    { g with queue := g.queue.drop 1, deficit := g.deficit - ch
             tokens := if s.unlim c then g.tokens else g.tokens - ch * 256 })
  let x : Slot := { state := .held, hdr := r.hdr, body := r.body, src := r.src, grantNo := s.nextAdmit,
                    since := s.hubUnits, limit := s.rfld .rqCfg 0 31 16 }
  let s := { s.setSlot n x with nextAdmit := s.nextAdmit + 1 }
  let s := ((s.count .rqCntAccept 0 1).count .hgCntAdmit c 1).count .hgCntCharge c ch
  s.stage3 n

/-- The context arbitration visits next: in ascending order after the last visited, wrapping, the first whose head is
eligible (R354). -/
def nextTurn (s : State) : Option Nat :=
  let ready := (s.ctxs.filter (fun e => match e.2.queue with | r :: _ => s.eligible e.1 r | [] => false)).map (·.1)
  match ready.find? (fun c => decide (s.turn ≤ c)) with
  | some c => some c
  | none => ready.head?

/-- Grant heads while the head is eligible and the deficit covers its charge (R354 step 2). -/
def grantLoop : Nat → State → Nat → State
  | 0, s, _ => s
  | k + 1, s, c =>
    match (s.ctx c).queue, s.freeSlotNo with
    | r :: _, some n =>
      if s.eligible c r && decide (s.charge r.hdr ≤ (s.ctx c).deficit) then grantLoop k (s.grantHead c r n) c else s
    | _, _ => s

/-! Markers (R303, R304, R415, R487, R530). -/

/-- Whether a received MARKER is well formed (R530). -/
def markerOk (h : Hdr) (b : Bytes) : Bool :=
  h.total == 16 && decide (1 ≤ markerType b) && decide (markerType b ≤ 5) && h.conv == 0 && h.layer == 0 && h.kvh == 0

/-- The connections whose requests a marker on a connection covers: the furrow's, on its control connection (R315). -/
def covers (s : State) (c : Nat) (k : Nat) : Bool :=
  k == c || (s.rfld .fuCtrl (s.connFurrow c) 13 0 == c && s.connFurrow k == s.connFurrow c)

/-- The requests received on the covered connections that have not formed their responses (R303). -/
def unanswered (s : State) (p : Nat → Bool) : List (Nat × Nat) :=
  let inSrc (x : Src) : Bool := match x with | .conn k => p k | .aperture _ => false
  (s.slots.filter (fun e => inSrc e.2.src && !e.2.dup && decide (e.2.state ≠ .free) && !e.2.formed)).map
    (fun e => (e.2.hdr.origin, e.2.hdr.seq)) ++
  s.ctxs.flatMap (fun e => (e.2.queue.filter (fun r => inSrc r.src)).map (fun r => (r.hdr.origin, r.hdr.seq)))

/-- The RMA requests received on the covered connections that have not been answered. -/
def rmaUnanswered (s : State) (p : Nat → Bool) : List (Nat × Nat) :=
  s.conns.flatMap (fun e => if p e.1 then e.2.held.map (fun x => (e.1, x.hdr.seq)) else [])

/-- Whether a request still has to form its response. -/
def stillOpen (s : State) (o q : Nat) : Bool :=
  s.queuedReq o q ||
  s.slots.any (fun e => decide (e.2.state ≠ .free) && !e.2.dup && !e.2.formed && e.2.hdr.origin == o && e.2.hdr.seq == q)

/-- Whether an origin has a request in a slot or a queue. -/
def originBusy (s : State) (o : Nat) : Bool :=
  s.slots.any (fun e => decide (e.2.state ≠ .free) && e.2.hdr.origin == o) ||
  s.ctxs.any (fun e => e.2.queue.any (fun r => r.hdr.origin == o))

/-- Free an origin's entry. -/
def dropOrigin (s : State) (o : Nat) : State := { s with origins := s.origins.filter (fun e => e.node != o) }

/-- Whether a held marker can be returned. -/
def markerReady (s : State) (m : HeldMarker) : Bool :=
  let t := markerType m.body
  if t = mDrainEpoch then
    let d := (markerArg m.body % 65536 + 65536 - s.img.epoch) % 65536
    (d == 0 || decide (32769 ≤ d)) && !m.waits.any (fun w => s.stillOpen w.1 w.2)
  else if t = mDrainCtx then
    !m.waits.any (fun w => s.stillOpen w.1 w.2) &&
    !m.rma.any (fun w => (s.conn w.1).held.any (fun x => x.hdr.seq == w.2))
  else if t = mActivate then !decide (s.firm.st = .activating) && decide (s.rel.cr = .none)
  else if t = mOriginClose then !s.originBusy m.hdr.origin
  else true

/-- Hold a marker. -/
def holdMarker (s : State) (src : Src) (h : Hdr) (b : Bytes) (p : Nat → Bool) (rma : Bool) : State :=
  { s with held := s.held ++ [{ src := src, hdr := h, body := b, waits := s.unanswered p,
                                rma := if rma then s.rmaUnanswered p else [] }] }

/-- ORIGIN_OPEN (R304). -/
def originOpen (s : State) (src : Src) (h : Hdr) (b : Bytes) : State :=
  if (s.origin? h.origin).isSome then s.returnMarker { src := src, hdr := h, body := b }
  else if s.origins.length < 2048 then
    (s.newOrigin h.origin).returnMarker { src := src, hdr := h, body := b }
  else s.count .rqDropOrigin 0 1

/-- ORIGIN_CLOSE (R304). -/
def originClose (s : State) (src : Src) (h : Hdr) (b : Bytes) : State :=
  if (s.origin? h.origin).isNone || !s.originBusy h.origin then
    (s.dropOrigin h.origin).returnMarker { src := src, hdr := h, body := b }
  else s.holdMarker src h b (fun _ => false) false

/-- The UP or DEGRADED furrows, as a mask. -/
def upFurrows (s : State) : Nat :=
  ((List.range 8).filter (fun f => s.furrowState f != 0)).foldl (fun a f => a + 2 ^ f) 0

/-- ACTIVATE (R487, R488): the acting marker starts the activation; every other only returns. -/
def activateMarker (s : State) (c : Nat) (h : Hdr) (b : Bytes) : State :=
  let acts := s.rfld .fuCtrl (s.connFurrow c) 13 0 == c && decide (s.firm.st = .armed) &&
    markerArg b == s.firm.armed && decide (s.rel.cr = .none) && decide (s.rel.svc = .service)
  let s := s.holdMarker (.conn c) h b (fun _ => false) false
  if acts then
    let up := s.upFurrows
    let q := s.rfld .brFwCfg 0 31 16
    { s with firm := { s.firm with
        st := .activating, holding := true, since := s.hubUnits, upMask := up, quiesce := q } }
  else s.count .brCntActMiss 0 1

/-- A received MARKER. -/
def markerArrive (s : State) (src : Src) (h : Hdr) (b : Bytes) : State :=
  if !markerOk h b then s.count .rqDropHdr 0 1
  else
    let t := markerType b
    if t = mOriginOpen then s.originOpen src h b
    else if t = mOriginClose then s.originClose src h b
    else
      match src with
      | .aperture _ => s
      | .conn c =>
        if t = mDrainEpoch then s.holdMarker src h b (s.covers c) false
        else if t = mDrainCtx then s.holdMarker src h b (fun k => s.connFurrow k == s.connFurrow c) true
        else s.activateMarker c h b

/-- Every DRAIN_EPOCH marker has returned: PREV is no longer served and its table is dropped (R302 step 4). -/
def epochDrained (s : State) : State :=
  if s.img.prevv && s.img.drain == 0 then { s with img := { s.img with prevv := false, fwdPrev := [] } } else s

def close? (s : State) (c : Nat) : Option Close := SMap.get none (s.mint.closes.map (fun e => (e.1, some e.2))) c
def setClose (s : State) (c : Nat) (x : Close) : State :=
  { s with mint := { s.mint with closes := SMap.ins s.mint.closes c x } }

/-- A returned marker (R530): one return counts for every marker of its furrow, type and argument. -/
def markerBack (s : State) (c : Nat) (b : Bytes) : State :=
  let f := s.connFurrow c
  let t := markerType b
  let a := markerArg b
  let same (m : SentMarker) : Bool := m.furrow == f && m.mtype == t && m.arg == a
  if s.sentMarkers.any same then
    let s := { s with sentMarkers := s.sentMarkers.filter (fun m => !same m) }
    if t = mDrainEpoch then
      if a % 65536 = s.img.epoch ∧ s.img.drain.testBit f then
        ({ s with img := { s.img with drain := s.img.drain - 2 ^ f } }).epochDrained
      else s
    else if t = mDrainCtx then
      match s.close? a with
      | some x => s.setClose a { x with furrows := x.furrows.filter (· != f) }
      | none => s
    else s.destMarker f t
  else s

/-! Responses to relayed requests (R301, R475). -/

/-- The module's own request a response answers. -/
def ownFor (s : State) (c : Nat) (h : Hdr) : Option OwnReq :=
  s.own.find? (fun o => o.sent && h.origin == s.node && o.hdr.seq == h.seq && s.routeTo c == some o.dest &&
    (o.hdr.kind + 0x20 == h.kind || h.kind == kEcho))

/-- A relayed request has been answered. REISSUED of the response to the requester is that of the slot here; the holder's is not
repeated (DESIGN CHOICE, log entry 179). -/
def ownAnswered (s : State) (o : OwnReq) (h : Hdr) (body : Bytes) : State :=
  let s := { s with own := s.own.filter (fun x => !(x.dest == o.dest && x.hdr.seq == o.hdr.seq && x.sent)) }
  match o.shadow with
  | none =>
    if (s.slot o.slot).state = .forwarded then
      if h.kind = kEcho then (s.count .rqCntEcho 0 1).completeEcho o.slot h.status else s.complete o.slot h.status body
    else s
  | some k =>
    if o.hdr.kind = kAttend then
      let x := s.shadowSt k
      let same (m : Sample) : Bool := m.sent && m.answer.isNone && m.body == o.body && m.hdr.conv == o.hdr.conv &&
        m.hdr.layer == o.hdr.layer && m.hdr.kvh == o.hdr.kvh
      match x.samples.findIdx? same with
      | none => s
      | some i =>
        let m : Sample := getAt {} x.samples i
        s.setShadowSt k { x with samples := setAt x.samples i { m with answer := some (h.status, body) } }
    else if h.status = stDone then
      let x := s.shadowSt k
      if o.hdr.kind = kOpenConv then shadowStep 65536 (s.setShadowSt k { x with opened := true }) k else s
    else s.shadowFail k

/-! Reassembly (R286 to R288). -/

/-- Payload-store cells in use. -/
def cellsUsed (s : State) : Nat :=
  (s.reasm.map (fun e => ceilDiv e.hdr.total 256)).sum +
  (s.ctxs.map (fun e => (e.2.queue.map (fun r => ceilDiv r.body.length 256)).sum)).sum +
  (s.slots.map (fun e => ceilDiv e.2.body.length 256 + ceilDiv e.2.resp.length 256)).sum

/-- Cells of the payload store. -/
def cellTotal : Nat := 262144

/-- A complete request or response goes where its class sends it. -/
def deliver (s : State) (src : Src) (h : Hdr) (body : Bytes) : State :=
  if h.kind = kMarker then s.markerArrive src h body
  else
    match src with
    | .aperture _ => s.takeIn src h body
    | .conn c =>
      if h.kind = kMarker + 0x20 then s.markerBack c body
      else if classOf h.kind = .rmaRequest then
        if s.rel.svc = .withdrawing then s.count .rsDropOut 0 1 else s.rmaArrive c h body
      else if classOf h.kind = .rmaResponse then s.rmaReturn c h body
      else if classOf h.kind = .response then
        match s.ownFor c h with
        | some o => s.ownAnswered o h body
        | none => s
      else s.takeIn src h body

/-- Whether a carrier of an open reassembly differs from the entry's in a header field beyond OFFSET and TOTAL, or brings other
bytes where it overlaps them (R306). -/
def segmentUndef (_s : State) (e : Reasm) (h : Hdr) (seg : Bytes) : Bool :=
  { h with offset := e.hdr.offset, total := e.hdr.total } != e.hdr ||
  (h.total == e.hdr.total && e.got.any (fun g =>
    let lo := Nat.max h.offset g.1
    let n := Nat.min (h.offset + seg.length) (g.1 + g.2) - lo
    sub e.body lo n != sub seg (lo - h.offset) n))

/-- A segment reaches reassembly (R286, R287, R288). -/
def segment (s : State) (src : Src) (h : Hdr) (seg : Bytes) : State :=
  let same (e : Reasm) : Bool :=
    e.src == src && e.cls == classOf h.kind && e.hdr.origin == h.origin && e.hdr.seq == h.seq
  match s.reasm.find? same with
  | some e =>
    let s := if s.segmentUndef e h seg then { s with undef := some 306 } else s
    if h.total ≠ e.hdr.total then s.count .rqDropReasm 0 1
    else if e.got.any (fun g => decide (h.offset < g.1 + g.2) && decide (g.1 < h.offset + seg.length)) then
      s.count .rqCntDupseg 0 1
    else
      let e' := { e with body := splice e.body h.offset seg, got := e.got ++ [(h.offset, seg.length)] }
      if (e'.got.map (·.2)).sum = e.hdr.total then
        ({ s with reasm := s.reasm.filter (fun x => !same x) }).deliver src e.hdr e'.body
      else { s with reasm := s.reasm.map (fun x => if same x then e' else x) }
  | none =>
    if 32768 ≤ s.reasm.length ∨ cellTotal < s.cellsUsed + ceilDiv h.total 256 then s.count .rqDropNobuf 0 1
    else if seg.length = h.total then s.deliver src h seg
    else
      { s with reasm := s.reasm ++
          [{ src := src, cls := classOf h.kind, hdr := h, body := splice [] h.offset seg,
             got := [(h.offset, seg.length)], since := s.hubUnits, limit := s.rfld .rqCfg 0 47 32 }] }

/-! Carriers (R321, R323, R325, R533). -/

/-- The segment rules of R273, for a greatest segment. -/
def segmentOk (h : Hdr) (len most : Nat) : Bool :=
  decide (len ≤ most) && decide (h.total ≤ 262144) && h.offset % 16 == 0 &&
  (len % 16 == 0 || h.offset + len == h.total) && decide (h.offset + len ≤ h.total)

/-- The checks of R270, R273 and R274, then reassembly; a request that sets SPARE has no defined result (R306). -/
def checked (s : State) (src : Src) (gen most : Nat) (h : Hdr) (seg : Bytes) (f : Option Nat) : State :=
  if h.gen ≠ gen ∨ !segmentOk h seg.length most ∨ !kindKnown h.kind then s.count .rqDropHdr 0 1
  else
    let s := match f with | some k => s.count .fuCntRx k 1 | none => s
    let s := if classOf h.kind = .request ∧ h.spare ≠ 0 then { s with undef := some 306 } else s
    s.segment src h seg

/-- Whether a connection that is not yet CLOSED belongs to a context whose key has been retired (R414 steps 5 and 6): until it is
CLOSED its carriers fail their tag or meet CTX_CLOSED (R417). -/
def retiring (s : State) (c : Nat) : Bool :=
  decide ((s.conn c).state = .closing) &&
  (match s.connCtx c with
    | some x => (match s.close? x with | some y => decide (6 ≤ y.step) | none => false)
    | none => false)

/-- Whether a connection accepts a carrier (R321, R337, R417). -/
def connAccepts (s : State) (f c : Nat) (enc : Bool) (h : Hdr) : Bool :=
  let k := s.conn c
  let cls := classOf h.kind
  let rma := cls == .rmaRequest || cls == .rmaResponse
  let marker := h.kind == kMarker || h.kind == kMarker + 0x20
  c != 0 &&
  (decide (k.state = .opn) || s.retiring c ||
    (decide (k.state = .closing) && cls == .rmaResponse && k.outs.any (fun o => o.seq == h.seq))) &&
  s.connFurrow c == f && enc == s.connEnc c &&
  (match s.connCtx c with
    | some x => h.ctx == x && !(rma && !enc && (match s.close? x with | some y => decide (6 ≤ y.step) | none => false))
    | none => marker) &&
  (!rma || s.connPeer c)

/-- After a carrier under the new phase has passed, the old phase's key is retired (R325 step 4). -/
def retirePhase (s : State) (c kp : Nat) : State :=
  let k := s.conn c
  if k.retire && kp == k.kp then
    (s.setConn c (if kp = 0 then { k with key1 := 0, kn1 := 0, retire := false } else { k with key0 := 0, kn0 := 0, retire := false })).count
      .mtCntKeyret 0 1
  else s

/-- A whole carrier has arrived on a furrow (R533). The sender of a connection is the node its route names, else the origin of
the carrier's header (R323, log entry 77). -/
def carrierArrive (s : State) (f : Nat) (bs : Bytes) : State :=
  let e := numAt bs 0 8
  let c := fieldOf e 15 2
  let enc := e.testBit 16
  let kp := fieldOf e 17 17
  let len := fieldOf e 30 18
  let ctr := numAt bs 8 8
  let h := Hdr.ofBytes (sub bs 16 32)
  let seg := sub bs 48 len
  if s.rel.svc = .out then s.count .rsDropOut 0 1
  else if !s.connAccepts f c enc h then s.count .fuDropConn f 1
  else if enc then
    let key := keyNum (s.conn c) kp
    let iv := carrierIv ctr (s.connTo c) ((s.routeTo c).getD h.origin)
    if key = 0 ∨ Aes.gcmTag (jobBytes key) iv (sub bs 0 48) seg ≠ sub bs (48 + len) 16 then s.count .fuDropAuth f 1
    else (s.retirePhase c kp).checked (.conn c) (s.furrow f).gen 4096 h (Aes.gcmText (jobBytes key) iv seg) (some f)
  else s.checked (.conn c) (s.furrow f).gen 4096 h seg (some f)

/-- An EVENT envelope has arrived (R334). -/
def eventArrive (s : State) (f code eseq : Nat) (arg : Word) : State :=
  let x := s.furrow f
  let s := if x.evtHeard && eseq != (x.evtSeq + 1) % 65536 then s.count .fuCntEvtGap f 1 else s
  let s := s.updFurrow f (fun x => { x with evtCode := code, evtSeq := eseq, evtArg := arg, evtHeard := true })
  (s.count .fuCntEvtRx f 1).report (.event f code arg)

/-! The stream of a link (R310). -/

/-- Take whole items off a link's stream; a PAD, or a reserved type, ends the flit. -/
def takeItems : Nat → State → Nat → Nat → Nat → Bytes → State
  | 0, s, l, _, _, b => s.updLink l (fun k => { k with rest := b })
  | n + 1, s, l, f, fseq, b =>
    match b with
    | [] => s.updLink l (fun k => { k with rest := [] })
    | x :: _ =>
      let t := x.toNat % 4
      if t = 0 ∨ t = 3 then s.updLink l (fun k => { k with rest := [] })
      else if b.length < 16 then s.updLink l (fun k => { k with rest := b })
      else if t = 2 then
        let w := numAt b 0 8
        let s := s.updLink l (fun k => { k with lastWhole := fseq })
        takeItems n (s.eventArrive f (fieldOf w 9 2) (fieldOf w 25 10) (wordOf (numAt b 8 8))) l f fseq (b.drop 16)
      else
        let w := numAt b 0 8
        let size := 48 + fieldOf w 30 18 + if w.testBit 16 then 16 else 0
        if b.length < size then s.updLink l (fun k => { k with rest := b })
        else
          let s := s.updLink l (fun k => { k with lastWhole := fseq })
          takeItems n (s.carrierArrive f (b.take size)) l f fseq (b.drop size)

end State

end Sys2Proof.Machine
end

