-- ==== Sys2Proof/Machine/Attend.lean ====
section
/-! DEFINITION. Shared operations on ATTENDs: the snapshot, scoring rounds, selection, run-ahead, stage 7, descriptors,
and assay (chapters 3 and 4, R471 to R473, R476). -/

namespace Sys2Proof.Machine

namespace State

/-- The ATTEND a slot works on. -/
def att? (s : State) (n : Nat) : Option Att :=
  match (s.slot n).prog with
  | .attend a => if (s.slot n).state = .active then some a else none
  | _ => none

/-- Replace the ATTEND of a slot. -/
def setAtt (s : State) (n : Nat) (a : Att) : State := s.updSlot n (fun x => { x with prog := .attend a })

/-- The body of a slot's ATTEND. -/
def attReq (s : State) (n : Nat) : AttReq := AttReq.ofBytes (bodyOf (s.slot n).hdr (s.slot n).body)

/-- The root record of an ATTEND. -/
def attRoot (s : State) (a : Att) : Root := (s.store.root a.root).getD {}

/-- Complete a request whose conversation is lost or whose pages cannot be had in time. -/
def stateLost (s : State) (n : Nat) : State := s.finish n stLost [] .plain

/-! The snapshot (R85, R107 to R109). -/

/-- One page of a snapshot; rows at or above a limit are left out (R457). -/
def snapPage (s : State) (r : AttReq) (limit : Option Nat) (e : PageEnt) : AttPage :=
  let rows := match limit with
    | some n => Nat.min e.rows (n - e.firstpos)
    | none => e.rows
  let vis := (Weir.visibleRows r e.firstpos rows).length
  { page := e.page, firstpos := e.firstpos, rows := rows, visible := vis, sumv := e.sumv
    silt := decide ((s.store.pent e.page).tier = .silt), pinned := Weir.pinned r e.firstpos rows e.sumv }

/-- The candidates of a snapshot (R108). -/
def candidates (a : Att) : List AttPage := a.snap.filter (fun p => decide (0 < p.visible))

/-- The unpinned candidates. -/
def unpinned (a : Att) : List AttPage := (candidates a).filter (fun p => !p.pinned)

/-! Scoring (R118, Table 04-3). -/

/-- Whether a candidate has been scored. -/
def scored (p : AttPage) : Bool := !p.bounds.isEmpty

/-- Insert by first position, silt pages first (R118). -/
def scoreInsert (x : AttPage) : List AttPage → List AttPage
  | [] => [x]
  | y :: t =>
    if (x.silt && !y.silt) || (x.silt == y.silt && decide (x.firstpos < y.firstpos)) then x :: y :: t
    else y :: scoreInsert x t

/-- The longest run of pages, from the first on, of which no two are scored by one core. -/
def coreRun (s : State) : List Nat → List AttPage → List Nat
  | _, [] => []
  | seen, p :: t =>
    let c := s.coreOf p.page
    if seen.contains c then [] else p.page :: coreRun s (c :: seen) t

/-- The next round, in the order of R118: at most ROUND pages, at most one per core; a page whose core the round already
uses ends it (log entry 59). -/
def nextRound (s : State) (a : Att) : List Nat :=
  (s.coreRun [] (((unpinned a).filter (fun p => !scored p)).foldl (fun l p => scoreInsert p l) [])).take a.round

/-- Insert by descending V(p), then ascending first position (R110). -/
def rankInsert (x : AttPage) : List AttPage → List AttPage
  | [] => [x]
  | y :: t =>
    let vx := Weir.score x.bounds
    let vy := Weir.score y.bounds
    if F.lt vy vx || (!F.lt vx vy && decide (x.firstpos < y.firstpos)) then x :: y :: t else y :: rankInsert x t

/-- The ranking of the pages scored so far. -/
def ranking (a : Att) : List AttPage := ((unpinned a).filter scored).foldl (fun l p => rankInsert p l) []

/-- Start a round: the scoring of its pages is asked of the sluice cores. -/
def startRound (s : State) (n : Nat) (a : Att) : State :=
  let turn := s.nextRound a
  let s := s.setAtt n { a with turn := turn }
  turn.foldl (fun q p => q.ask { prog := .score, page := p, slot := some n }) s

/-! Run-ahead (R120 to R122, Table 04-4). -/

/-- Run-ahead promotions of an ATTEND still outstanding. -/
def raOut (s : State) (n : Nat) : Nat :=
  (s.store.chans.map (fun e => (e.2.queue.filter (fun j => decide (j.kind = .promote) && j.ra == some n)).length)).sum

/-- Issue run-ahead promotions for the silt pages of the provisional set, in rank order. -/
def runAhead (s : State) (n : Nat) (ps : List Nat) : State :=
  ps.foldl (fun q p =>
    match q.att? n with
    | none => q
    | some a =>
      if a.raMax ≤ q.raOut n ∨ a.ra.contains p then q
      else
        match q.promotePage p 2 (some n) true with
        | (t, true) => (match t.att? n with
            | some b => (t.setAtt n { b with ra := b.ra ++ [p] }).count .hubRetCntRaIssued 0 1
            | none => t)
        | (t, false) => t) s

/-- Settle one run-ahead promotion (Table 04-4): one of a selected page becomes its ordinary promotion. -/
def settleRa (n : Nat) (a : Att) (s : State) (p : Nat) : State :=
  if a.chosen.contains p then (s.promotePage p 1 (some n) false).1.count .hubRetCntRaUsed 0 1 else s.dropRa n a p

/-- Ask for the silt pages of the provisional set, as far as RA_MAX allows; again when a run-ahead promotion has ended
(R120). -/
def raIssue (s : State) (n : Nat) : State :=
  match s.att? n with
  | some a => if a.raEn ∧ a.stage = .scoring then s.runAhead n (s.siltOf a.prov) else s
  | none => s

/-- Run-ahead after a scoring round: the first TOPK pages of the ranking are the provisional set (R120). -/
def raTurn (s : State) (n : Nat) : State :=
  match s.att? n with
  | some a => (s.setAtt n { a with prov := ((ranking a).take (s.attReq n).topk).map (·.page) }).raIssue n
  | none => s

/-! Descriptors (R89 to R91). -/

/-- The 64 bytes of a descriptor, its page entries, and the query block with FIRST (Tables 03-5, 03-6). -/
def descBytes (s : State) (n : Nat) (a : Att) (c : Chain) (part : Nat) : Bytes :=
  let r := s.attReq n
  let root := s.attRoot a
  let es := (c.entries.drop (64 * part)).take 64
  let first := part == 0
  let last := decide (c.entries.length ≤ 64 * (part + 1))
  let assay := decide (c.copy = 1) || a.assay || a.sample
  fit 64 (leBytes 4 (n + place 18 (part % 1024) + place 28 (bnat first) + place 29 (bnat last) + place 30 (bnat assay)) ++
    leBytes 4 ((s.slot n).hdr.ctx + place 10 root.kvfmt + place 14 r.qfmt + place 16 root.dim + place 18 (r.g - 1)) ++
    leBytes 4 r.sigma.toNat ++ leBytes 4 r.qpos ++ leBytes 4 r.window ++ leBytes 4 r.sinks ++ leBytes 4 es.length) ++
  es.flatMap (fun e => leBytes 8 (e.frame + place 16 e.firstpos + place 40 e.rows + place 48 e.gen8)) ++
  (if first then r.q else [])

/-- FIRST of a descriptor. -/
def descFirst (b : Bytes) : Bool := (numAt b 0 4).testBit 28
/-- Lanes open or about to be opened at a pipe. -/
def lanesUsed (x : Pipe) : Nat := x.lanes.countP (·.isSome) + x.queue.countP descFirst

/-- Whether the next descriptor of a chain can be sent: the pipe accepts descriptors or has the chain's lane to finish
(R97), its queue has room, and a lane is or will be free for a first one. -/
def mayPush (s : State) (a : Att) (c : Chain) : Bool :=
  let x := s.pipe c.pipe
  (s.rbit .wpCfg (c.pipe / 64) (c.pipe % 64) || decide (0 < c.sent)) && decide (x.queue.length < 4) && !c.done &&
  c.ue.isNone &&
  decide (64 * c.sent < c.entries.length) && (decide (0 < c.sent) || decide (lanesUsed x < 2)) &&
  !a.chains.any (fun d => decide (d.copy < c.copy) && d.pipe == c.pipe && !d.done)

/-- Send what a slot's chains can send to one pipe. -/
def pushSlot : Nat → State → Nat → Nat → State
  | 0, s, _, _ => s
  | f + 1, s, n, k =>
    match s.att? n with
    | none => s
    | some a =>
      match a.chains.findIdx? (fun c => c.pipe == k && s.mayPush a c) with
      | none => s
      | some i =>
        let c := getAt {} a.chains i
        let b := s.descBytes n a c c.sent
        let x := s.pipe k
        let s := (s.setPipe k { x with queue := x.queue ++ [b] }).setAtt n
          { a with chains := setAt a.chains i { c with sent := c.sent + 1 } }
        pushSlot f s n k

/-- Send what every ATTEND can send to a pipe. -/
def pushPipe (s : State) (k : Nat) : State :=
  s.slots.foldl (fun q e => match e.2.prog with
    | .attend _ => pushSlot 4 q e.1 k
    | _ => q) s

/-- Send what a slot can send to every pipe it uses. -/
def pushAll (s : State) (n : Nat) : State :=
  match s.att? n with
  | none => s
  | some a => a.chains.foldl (fun q c => pushSlot 4 q n c.pipe) s

/-! Assay (R471, R472). -/

/-- The pseudo-channel of a stack with the most free frames among a slice's, other than some. -/
def roomiest (s : State) (pcs : List Nat) : Option Nat :=
  pcs.foldl (fun b p => match b with
    | none => some p
    | some q => if s.store.freeFrames q < s.store.freeFrames p then some p else some q) none

/-- The pipes an assay uses: stack A by rotation over the slice's stacks and B the next; one stack gives two of its
pipes, other than those that serve the original (R472). -/
def assayPipes (s : State) (ctx : Nat) (orig : List Nat) : Option (Nat × Nat) :=
  let pcs := s.ctxPcs ctx
  let st := (pcs.map (· / 64)).dedup
  let pcs := if st.length = 1 then pcs.filter (fun p => !orig.contains p) else pcs
  if st.isEmpty then none
  else
    let a := getAt 0 st (s.rel.assayTurn % st.length)
    let b := getAt 0 st ((s.rel.assayTurn + 1) % st.length)
    match s.roomiest (pcs.filter (fun p => p / 64 == a)) with
    | none => none
    | some pa => (s.roomiest (pcs.filter (fun p => p / 64 == b && p != pa))).map (fun pb => (pa, pb))

/-- Copy a page's bytes into a free frame of another pseudo-channel, as ciphertext (R472 step 3). -/
def copyPage (s : State) (p pc : Nat) : Option (State × Nat) :=
  let h := s.store.header p
  let wide := (s.store.pent p).wide
  (s.store.freeFrame pc wide).map (fun f =>
    let st := s.store.takeFrame pc f h
    let src := pagePc p
    let g := (s.store.pent p).frame
    let st := st.copyRaw src g pc f
    let st := if wide then st.copyRaw src (g + 1) pc (f + 1) else st
    (({ s with store := st } : State).noteFill h.ctx, f))

/-- Copy every selected page: those homed in stack A go to pipe B's pseudo-channel, the others to A's. -/
def copyAll (s : State) (a : Att) (pa pb : Nat) : Option (State × List (Nat × Nat × Bool) × List (Nat × ChainEnt)) :=
  a.chosen.foldl (fun acc p => acc.bind (fun (q : State × List (Nat × Nat × Bool) × List (Nat × ChainEnt)) =>
    let pc := if pagePc p / 64 = pa / 64 ∧ pa / 64 ≠ pb / 64 then pb else if pagePc p = pa then pb else pa
    (q.1.copyPage p pc).map (fun t =>
      let x := (a.snap.find? (fun y => y.page == p)).getD {}
      (t.1, q.2.1 ++ [(pc, t.2, (s.store.pent p).wide)], q.2.2 ++ [(pc, { page := p, frame := t.2, firstpos := x.firstpos, rows := x.rows, gen8 := (t.1.store.frame pc t.2).gen % 256 })]))))
    (some (s, [], []))

/-- Chains by pipe from page entries. -/
def chainsOf (copy : Nat) (es : List (Nat × ChainEnt)) : List Chain :=
  ((es.map (·.1)).dedup).map (fun k =>
    { pipe := k, copy := copy, entries := (es.filter (fun e => e.1 == k)).map (·.2) })

/-! Stages 6 to 8. -/

/-- Share of the slice's pipes busy, as LOAD codes it (Table 15-8). -/
def loadCode (s : State) (ctx : Nat) : Nat :=
  let pcs := s.ctxPcs ctx
  let busy := pcs.countP (fun k => let x := s.pipe k; x.lanes.any (·.isSome) || !x.queue.isEmpty)
  let q := if pcs.isEmpty then 0 else busy * 4 / pcs.length
  Nat.min 3 q

/-- Stage 8: descriptors are built and sent; assay copies are made first (R472). -/
def toPipes (s : State) (n : Nat) : State :=
  match s.att? n with
  | none => s
  | some a =>
    let es := a.chosen.map (fun p =>
      let x := (a.snap.find? (fun y => y.page == p)).getD {}
      let f := (s.store.pent p).frame
      (pagePc p, ({ page := p, frame := f, firstpos := x.firstpos, rows := x.rows,
                    gen8 := (s.store.frame (pagePc p) f).gen % 256 } : ChainEnt)))
    let ctx := (s.slot n).hdr.ctx
    let a := { a with stage := .pipes, chains := chainsOf 0 es, load := s.loadCode ctx }
    let plain (t : State) : State := (t.setAtt n { a with assay := false }).pushAll n
    if !a.assay then plain s
    else
      let skip (t : State) : State :=
        plain (({ t with rel := { t.rel with assayCount := t.rfld .rsCfg 0 51 36 } }).count .rsCntAssaySkip 0 1)
      match s.assayPipes ctx (es.map (·.1)) with
      | none => skip s
      | some (pa, pb) =>
        match s.copyAll a pa pb with
        | none => skip s
        | some (t, fs, cs) =>
          let t := { t with rel := { t.rel with assayTurn := t.rel.assayTurn + 1 } }
          (t.setAtt n { a with frames := fs, pipeA := pa, pipeB := pb, chains := chainsOf 0 es ++ chainsOf 1 cs }).pushAll n

/-- Stage 7: the selected pages in silt are promoted; with none the request goes on (R228, R229). -/
def toSilt (s : State) (n : Nat) : State :=
  match s.att? n with
  | none => s
  | some a =>
    let wait := s.siltOf a.chosen
    if wait.isEmpty then s.toPipes n
    else
      let lim := s.stallLimit wait
      let ch := (s.store.pent (wait.headD 0)).silt % 16
      let s := (s.setAtt n { a with stage := .silt, waited := true }).updSlot n (fun x =>
        { x with stall := s.hubUnits, limit := lim, stalled := true, stallCh := ch, units := (0, 0, 0) })
      let s := wait.foldl (fun q p => (q.promotePage p 1 (some n) false).1) s
      (s.count .stCntStalled ch 1).pumpSilt

/-- Whether an ATTEND that reaches final selection is assayed (R471). -/
def assayTurn? (s : State) (a : Att) : State × Bool :=
  let n := s.rfld .rsCfg 0 51 36
  if n = 0 ∨ a.chosen.isEmpty then (s, false)
  else
    let c := s.rel.assayCount + 1
    if c < n then ({ s with rel := { s.rel with assayCount := c } }, false)
    else if s.rfld .rsCfg 0 59 52 < a.chosen.length then
      (({ s with rel := { s.rel with assayCount := n } }).count .rsCntAssaySkip 0 1, false)
    else ({ s with rel := { s.rel with assayCount := 0 } }, true)

/-- Whether an ATTEND is the one in SAMPLE of a copied conversation (R476). -/
def sampleTurn? (s : State) (slice root : Nat) : State × Bool :=
  let x := s.shadowSt slice
  let n := s.rfld .rsShadowCfg slice 32 17
  if (x.phase = 1 ∨ x.phase = 2) ∧ x.copied.contains root ∧ n ≠ 0 then
    let c := SMap.get 0 x.counts root + 1
    if c < n then (s.setShadowSt slice { x with counts := SMap.set 0 x.counts root c }, false)
    else (s.setShadowSt slice { x with counts := SMap.set 0 x.counts root 0 }, true)
  else (s, false)

/-- The final selection is made: run-ahead is settled and stage 7 begins. -/
def selected (s : State) (n : Nat) (a : Att) (chosen : List Nat) : State :=
  let a := { a with chosen := chosen, turn := [] }
  let (s, assay) := s.assayTurn? a
  let (s, sample) := s.sampleTurn? (s.sliceOf (s.slot n).hdr.ctx) a.root
  let s := s.setAtt n { a with assay := assay, sample := sample }
  let s := a.ra.foldl (settleRa n a) s
  s.toSilt n

/-- Final selection when every unpinned candidate has been scored (R110). -/
def selectTop (s : State) (n : Nat) (a : Att) : State :=
  let k := (s.attReq n).topk
  let r := ranking a
  let pins := (candidates a).filter (·.pinned)
  let s := (s.count .hubRetCntByscore 0 k).count .hubRetCntPinned 0 pins.length
  let s := s.count .hubRetCntSkipped 0 (r.length - k)
  let tie := match r[k - 1]?, r[k]? with
    | some x, some y => let vx := Weir.score x.bounds; let vy := Weir.score y.bounds; !F.lt vx vy && !F.lt vy vx
    | _, _ => false
  let s := if tie then s.count .hubRetCntTies 0 1 else s
  s.selected n a ((r.take k ++ pins).map (·.page))

/-- Stage 6 (R110, R111, R118, R120). -/
def toScoring (s : State) (n : Nat) (a : Att) : State :=
  let k := (s.attReq n).topk
  let cs := candidates a
  let us := unpinned a
  if k = 0 then (s.count .hubRetCntDense 0 1).selected n a (cs.map (·.page))
  else if us.length ≤ k then
    let s := ((s.count .hubRetCntAllsel 0 1).count .hubRetCntByscore 0 us.length).count .hubRetCntPinned 0
      (cs.length - us.length)
    s.selected n a (cs.map (·.page))
  else
    let s := s.setAtt n a
    let s := (s.siltOf ((cs.filter (·.pinned)).map (·.page))).foldl (fun q p => (q.promotePage p 1 (some n) false).1) s
    match s.att? n with
    | some b => (s.startRound n b).pumpSilt
    | none => s

/-- Note which channel a slot still waits on. -/
def noteChan (s : State) (n : Nat) (wait : List Nat) : State :=
  match wait with
  | [] => s
  | p :: _ => s.updSlot n (fun y => { y with stallCh := (s.store.pent p).silt % 16 })

/-- Let requests that wait on silt go on whose pages have come (R226, R230). A page that has come for a PROMOTE is not
waited for again. -/
def siltWaiters (s : State) : State :=
  s.slots.foldl (fun q e =>
    let x := q.slot e.1
    if x.state = .active then
      match x.prog with
      | .promote ps =>
        let left := q.siltOf ps
        if left.isEmpty then (q.settleStall e.1).finish e.1 stDone [] .plain
        else (q.updSlot e.1 (fun y => { y with prog := .promote left })).noteChan e.1 left
      | .attend a =>
        if a.stage = .silt then
          let left := q.siltOf a.chosen
          if left.isEmpty then (q.settleStall e.1).toPipes e.1 else q.noteChan e.1 left
        else q
      | _ => q
    else q) s

/-- Reissue the chains that waited for a page to be restored (R95). -/
def reissue (s : State) (p : Nat) : State :=
  s.slots.foldl (fun q e =>
    match q.att? e.1 with
    | none => q
    | some a =>
      let cs := a.chains.map (fun c =>
        if c.ue == some p then
          { c with ue := none, sent := 0
                   entries := c.entries.map (fun (x : ChainEnt) =>
                     if c.copy = 0 then
                       let f := (q.store.pent x.page).frame
                       { x with frame := f, gen8 := (q.store.frame (pagePc x.page) f).gen % 256 }
                     else x) }
        else c)
      if cs = a.chains then q else (q.setAtt e.1 { a with chains := cs }).pushAll e.1) s

/-- Every request that waits for a lost page, or for pages of the conversations that lost it, ends (R52, R230). -/
def lostWaiters (s : State) (p : Nat) (cs : List (Nat × Nat)) : State :=
  s.slots.foldl (fun q e =>
    let x := q.slot e.1
    let named := cs.contains (x.hdr.ctx, x.hdr.conv) && !x.hdr.flag flagGroup
    if x.state = .active ∧ x.hdr.kind ≠ kCloseConv then
      match x.prog with
      | .promote ps => if named || ps.contains p then (q.settleStall e.1).stateLost e.1 else q
      | .attend a =>
        if named || a.snap.any (fun y => y.page == p) then
          a.chains.foldl (fun (t : State) c => t.pushPipe c.pipe) (((q.settleStall e.1).dropAttend e.1 a).stateLost e.1)
        else q
      | _ => q
    else q) s

/-- The emissions of one computation that carry records (STATUS 0x00). -/
def emitted (a : Att) (copy : Nat) : List Emission := a.got.filter (fun e => e.copy == copy && e.trailer.status == 0)

/-- The merge of one computation's emissions for each query head; values that are undefined are free (R75). -/
def mergeOf (s : State) (n : Nat) (a : Att) (copy : Nat) : List Partial :=
  let r := s.attReq n
  let d := dimOf (s.attRoot a).dim
  let es := emitted a copy
  Weir.openAll s.fresh ((List.range r.g).map (fun h =>
    Weir.mergeAll (Weir.sumId s.fresh 0 h 0 (4 + copy)) d (es.map (fun e => getAt {} e.recs h))))

/-- Whether every pipe of a computation has emitted. -/
def allEmitted (a : Att) (copy : Nat) : Bool := (a.chains.filter (fun c => c.copy == copy)).all (·.done)

/-- The larger of recorded A or V_max values over some emissions. -/
def maxRecorded (es : List (List F32)) : List F32 :=
  es.foldl (fun acc x => if acc.isEmpty then x else List.zipWith (fun u v => if F.lt u v then v else u) acc x) []

/-- The largest number of pages any pipe attends (Table 02-6). -/
def mostPages (a : Att) : Nat := a.chains.foldl (fun m c => Nat.max m c.entries.length) 0

/-- Add a record to the mismatch log and report it (R473, Table 15-3). -/
def logMismatch (s : State) (rec : Bytes) (ks : List Nat) (ev : Nat) : State :=
  let m := if s.rel.mis.length < 256 then s.rel.mis ++ [rec] else setAt s.rel.mis s.rel.misNext rec
  let s := { s with rel := { s.rel with mis := m, misNext := (s.rel.misNext + 1) % 256 } }
  let s := (s.requestPf 3).report .mismatch
  ks.foldl (fun q k => q.pred 7 k ev 1) s

/-- TBAND of a temperature in degrees (Table 15-8). -/
def tband (t : Nat) : Nat := if t < 45 then 0 else if 105 ≤ t then 7 else (t - 45) / 10 + 1

/-- The hottest core-die reading of some stacks, in degrees. -/
def hottest (s : State) (ks : List Nat) : Nat :=
  s.power.temps.foldl (fun m e => if e.1 / 128 = 2 ∧ ks.contains (e.1 % 128) then Nat.max m e.2 else m) 0

/-- A mismatch record (Table 15-8). -/
def misRecord (type : Nat) (m : Weir.Mismatch) (h : Hdr) (load pa pb ostacks spare : Nat) (tb : Nat) : Bytes :=
  let same := decide (type = 0) && pa / 64 == pb / 64
  fit 64 (leBytes 4 (type + place 1 m.what + place 3 m.qh + place 7 tb + place 10 load + place 12 (bnat same) +
      place 13 h.ctx + place 23 h.layer) ++
    leBytes 4 (h.kvh + (if type = 0 then place 8 (pa / 64) + place 13 (pa % 64) + place 19 (pb / 64) + place 24 (pb % 64) else 0)) ++
    leBytes 8 (h.origin + place 16 h.seq) ++ leBytes 8 h.conv ++ leBytes 4 ostacks ++ leBytes 4 m.elem ++
    leBytes 4 m.diff.toNat ++ leBytes 4 m.bound.toNat ++ leBytes 2 spare)

end State

end Sys2Proof.Machine
end

