-- ==== Sys2Proof/Machine/Enter.lean ====
section
/-! DEFINITION. Stages 4 and 5: a request's turn, its lookup, the forwarding of a miss under PREV, the lost list and the
COMMIT or ROLLBACK of its header (R37, R88, R296, R301, R469, R532, R534). -/

namespace Sys2Proof.Machine

namespace State

/-- Whether an ATTEND's pages of a record are still to be read (R88). -/
def attending (s : State) (a : Nat) : Bool :=
  s.slots.any (fun e => match e.2.prog with
    | .attend b => decide (e.2.state = .active) && b.root == a && decide (b.stage ≠ .assay)
    | _ => false)

/-- Whether a valid grant entry pins a page of a record (R206). -/
def grantedPage (s : State) (p : Nat) : Bool := s.store.pins.contains p

/-- The holder the current forwarding table names for a context and handle; node 0xFFFF is none (R301, R432). -/
def holder (s : State) (c conv : Nat) : Option Nat :=
  (s.img.fwdCur.find? (fun e => e.ctx == c && decide (e.lo ≤ conv) && decide (conv ≤ e.hi)) >>= fun e => if e.node = 0xFFFF then none else some e.node)

/-- A lookup that misses (R25, R301): a relayed request, and one under PREV that no other node holds, is stale; one under
PREV is relayed to its holder. Stage 3 decided whether a request came under PREV. -/
def missed (s : State) (n : Nat) : State :=
  let x := s.slot n
  if x.hdr.flag flagFwd then s.complete n stEpochStale []
  else if x.prev then
    match s.holder x.hdr.ctx x.hdr.conv with
    | none => s.complete n stEpochStale []
    | some d =>
      if d = s.node ∨ (s.peerConn x.hdr.ctx d).isNone then s.complete n stEpochStale []
      else
        let s := s.updSlot n (fun y => { y with state := .forwarded, since := s.hubUnits })
        (s.count .rqCntFwd 0 1).ownRequest
          { slot := n, hdr := (x.hdr.setFlag flagFwd true).setFlag flagReissued false, body := x.body, dest := d }
  else s.complete n stNoConv []

/-- What stages 4 and 5 leave of a request: it ended or still waits, or it goes on with its record. -/
inductive Enter where
  | stop (s : State)
  | go (s : State) (a : Nat) (r : Root)

/-- Whether a request carries COMMIT or ROLLBACK. -/
def carriesCommit (h : Hdr) : Bool := h.flag flagCommit || h.flag flagRollback

/-- Bring a request of a kind to the point where its own effect is checked. `touches` are the streams its own effect
changes. -/
def enter (s : State) (n kind : Nat) (touches : Root → Nat → Bool) : Enter :=
  let x := s.slot n
  if !s.atTurn n kind then .stop s
  else
    let s := s.senseFor n
    if s.metaStalls x then .stop s else
    let busy := match s.recordOf (if x.hdr.flag flagGroup then kindGroup else kindConv) x.hdr.ctx x.hdr.conv with
      | none => false
      | some a =>
        let c := carriesCommit x.hdr
        s.streamBusy n a (fun ix => c || touches ((s.store.root a).getD {}) ix) || (c && s.attending a)
    if busy then .stop s
    else
      match s.lookup n x.hdr with
      | (s, .stall) => .stop s
      | (s, .miss) => .stop (s.missed n)
      | (s, .record a) =>
        let lost := s.isLost x.hdr.ctx x.hdr.conv
        if lost && kind != kCloseConv then .stop ((s.count .rsCntLost 0 1).complete n stLost [])
        else
          let s := if lost then s else s.applyFlags n a
          match s.store.root a with
          | none => .stop s
          | some r => .go s a r

/-- The streams a stream-set body names (R282); none when it reaches past the conversation's layers or names a head it
does not hold. A word of the body is 64 bits, so that HEADMASK lies at byte 8 (DESIGN CHOICE, log entry 177). -/
def streamSet (h : Hdr) (b : Bytes) (r : Root) : Option (List Nat) :=
  let n := numAt b 0 1
  let m := numAt b 8 8
  let hs := if m = 0 then [h.kvh] else (List.range 64).filter (fun i => m.testBit i)
  if 1 ≤ n ∧ n ≤ 160 ∧ h.layer + n ≤ r.layers ∧ hs.all (fun i => decide (i < 32) && r.headSet.testBit i) then
    some ((List.range n).flatMap (fun k => hs.map (fun i => Store.streamIx r (h.layer + k) i)))
  else none

end State

end Sys2Proof.Machine
end

