-- ==== Sys2Proof/Machine/Sluice.lean ====
section
/-! DEFINITION. The sluice cores: registers, scratch, faults, bursts and what each instruction does (chapter 6). -/

namespace Sys2Proof.Machine

/-! Words (Table 06-8). -/

/-- Class and OP of an instruction word: bits [31:24]. -/
def opKey (w : Nat) : Nat := fieldOf w 31 24
def rdOf (w : Nat) : Nat := fieldOf w 23 20
def raOf (w : Nat) : Nat := fieldOf w 19 16
def rbOf (w : Nat) : Nat := fieldOf w 15 12
def immOf (w : Nat) : Nat := fieldOf w 15 0
def braOf (w : Nat) : Nat := fieldOf w 23 20
def brbOf (w : Nat) : Nat := fieldOf w 19 16
def vdOf (w : Nat) : Nat := fieldOf w 23 21
def vaOf (w : Nat) : Nat := fieldOf w 20 18
def vbOf (w : Nat) : Nat := fieldOf w 17 15
def fmtOf (w : Nat) : Nat := fieldOf w 14 12
def vrsOf (w : Nat) : Nat := fieldOf w 11 8
def vrtOf (w : Nat) : Nat := fieldOf w 7 4
/-- A sign-extended 16-bit immediate. -/
def simm (w : Nat) : W32 := BitVec.ofInt 32 (signedOf 16 (immOf w))
/-- A zero-extended 16-bit immediate. -/
def zimm (w : Nat) : W32 := BitVec.ofNat 32 (immOf w)

/-- Whether the customer station may execute a word (R200): its class, OP and FMT are listed, reserved fields are 0 and it
is not KRND (log entry 47). -/
def legalWord (w : Nat) : Bool :=
  let c := fieldOf w 31 29
  let o := fieldOf w 28 24
  if c = 0 then (decide (o ≤ 0x0A) || (decide (0x10 ≤ o) && decide (o ≤ 0x16)) || o == 0x1F) && fieldOf w 11 0 == 0
  else if c = 1 then o == 0 || (decide (2 ≤ o) && decide (o ≤ 6)) || (decide (0x0C ≤ o) && decide (o ≤ 0x0E))
  else if c = 2 then decide (o ≤ 5)
  else if c = 3 then decide (o ≤ 1) && fieldOf w 9 0 == 0
  else if c = 4 then
    decide (o ≤ 0x11) && fieldOf w 2 0 == 0 && !(o == 2 && fmtOf w == 7) && !(o == 0x0D && decide (3 < fmtOf w)) &&
    !(o == 0x0C && vbOf w % 2 == 1)
  else if c = 5 then decide (o ≤ 3)
  else false

/-! Fault causes (Table 06-10). -/
def fcIllegal : Nat := 1
def fcRange : Nat := 2
def fcAlign : Nat := 3
def fcRights : Nat := 4
def fcView : Nat := 5
def fcUe : Nat := 6
def fcCmd : Nat := 8
def fcReset : Nat := 9

namespace Core

/-- Eight zero lanes. -/
def zeroLanes : List W32 := List.replicate 8 0

/-- A scalar register; s0 reads 0 (Table 06-1). -/
def reg (k : Core) (i : Nat) : W32 := if i = 0 then 0 else SMap.get 0 k.regs i
/-- Write a scalar register; writes to s0 are ignored. -/
def setReg (k : Core) (i : Nat) (x : W32) : Core := if i = 0 then k else { k with regs := SMap.set 0 k.regs i x }
/-- A vector register as 8 lanes. -/
def vreg (k : Core) (i : Nat) : List W32 := SMap.get zeroLanes k.vregs i
/-- Write a vector register. -/
def setVreg (k : Core) (i : Nat) (x : List W32) : Core := { k with vregs := SMap.set zeroLanes k.vregs i x }
/-- A view register. -/
def view (k : Core) (i : Nat) : SView := SMap.get .unset k.views i
/-- A grant entry. -/
def grant (k : Core) (i : Nat) : Grant := SMap.get {} k.grants i
/-- The word at a customer store index. -/
def word (k : Core) (i : Nat) : Nat := (SMap.get 0 k.code i).toNat

/-- The 32 bytes of a grant entry (Table 06-13). -/
def grantBytes (g : Grant) : Bytes :=
  leBytes 8 (g.page + place 40 g.firstpos) ++
  leBytes 8 (g.rows + place 8 g.kvfmt + place 12 g.dim + place 14 (bnat g.wide) + place 15 (bnat g.valid) +
    place 16 (bnat g.opened)) ++
  leBytes 8 (g.frame + place 32 g.gen) ++ zeros 8

/-- Whether the customer station may read n bytes of scratch (Table 06-6). -/
def mayRead (a n : Nat) : Bool := decide (a + n ≤ 0x800) || (decide (0x2000 ≤ a) && decide (a + n ≤ 0x4000))
/-- Whether it may write them. -/
def mayWrite (a n : Nat) : Bool := decide (0x2000 ≤ a) && decide (a + n ≤ 0x4000)

/-- One byte of scratch, the grant table included. -/
def scrByte (k : Core) (a : Nat) : Byte :=
  if a < 0x800 then getAt 0 (grantBytes (k.grant (a / 32))) (a % 32) else SMap.get 0 k.scratch a
/-- n bytes of scratch. -/
def scr (k : Core) (a n : Nat) : Bytes := (List.range n).map (fun i => k.scrByte (a + i))
/-- Write bytes of scratch. -/
def setScr (k : Core) (a : Nat) : Bytes → Core
  | [] => k
  | b :: t => ({ k with scratch := SMap.set 0 k.scratch a b }).setScr (a + 1) t

/-- Go to a word index, which must lie in the customer half (R193). -/
def goto (k : Core) (i : Int) : Except Nat Core :=
  if 0 ≤ i ∧ i < 1024 then .ok { k with pc := i.toNat } else .error fcRange

/-- The next instruction; behind word 1,023 there is none (log entry 46). -/
def next (k : Core) : Core := { k with pc := k.pc + 1 }

end Core

/-- What an instruction does to its station: the station after it, or the cause of its fault. -/
abbrev Effect := Nat → Core → Except Nat Core

/-! Class R. -/

/-- rd ← a function of ra and rb. -/
def onRegs (f : W32 → W32 → W32) : Effect := fun w k =>
  .ok ((k.setReg (rdOf w) (f (k.reg (raOf w)) (k.reg (rbOf w)))).next)

/-- One or zero. -/
def flagWord (b : Bool) : W32 := if b then 1 else 0

/-- An FP32 word rounded to an integer: 0 nearest even, 1 toward −∞, 2 toward +∞, 3 toward 0; a NaN or a value outside 32
signed bits is open (log entry 15). -/
def toInt32 (mode : Nat) (x : F32) : W32 :=
  if F.isNaN x || F.isInf x then Config.cvtOpen x
  else
    let d := F.toDy x
    let v : Int :=
      if 0 ≤ d.e then d.m * 2 ^ d.e.toNat
      else
        let q : Int := 2 ^ (-d.e).toNat
        let lo := d.m.fdiv q
        let r := d.m - lo * q
        if mode = 1 then lo
        else if mode = 2 then (if r = 0 then lo else lo + 1)
        else if mode = 3 then (if d.m < 0 ∧ r ≠ 0 then lo + 1 else lo)
        else if 2 * r < q then lo
        else if q < 2 * r then lo + 1
        else if lo % 2 = 0 then lo else lo + 1
    if v < -(2 ^ 31 : Int) ∨ (2 ^ 31 : Int) ≤ v then Config.cvtOpen x else BitVec.ofInt 32 v

def effAdd : Effect := onRegs (· + ·)
def effSub : Effect := onRegs (· - ·)
def effAnd : Effect := onRegs (· &&& ·)
def effOr : Effect := onRegs (· ||| ·)
def effXor : Effect := onRegs (· ^^^ ·)
def effShl : Effect := onRegs (fun a b => a <<< (b.toNat % 32))
def effShr : Effect := onRegs (fun a b => a >>> (b.toNat % 32))
def effSra : Effect := onRegs (fun a b => a.sshiftRight (b.toNat % 32))
def effMul : Effect := onRegs (· * ·)
def effSlt : Effect := onRegs (fun a b => flagWord (a.slt b))
def effSltu : Effect := onRegs (fun a b => flagWord (a.ult b))
def effFadd : Effect := onRegs F.add
def effFmul : Effect := onRegs F.mul
def effFmax : Effect := onRegs F.max
def effFmin : Effect := onRegs F.min
def effFlt : Effect := onRegs (fun a b => flagWord (F.lt a b))
def effCvtf : Effect := onRegs (fun a _ => F.round .near false ⟨a.toInt, 0⟩)
def effCvti : Effect := onRegs (fun a _ => toInt32 0 a)
def effJr : Effect := fun w k => k.goto (k.reg (raOf w)).toNat

/-! Class I. -/

/-- rd ← a function of ra and the word. -/
def onImm (f : W32 → Nat → W32) : Effect := fun w k => .ok ((k.setReg (rdOf w) (f (k.reg (raOf w)) w)).next)

def effAddi : Effect := onImm (fun a w => a + simm w)
def effAndi : Effect := onImm (fun a w => a &&& zimm w)
def effOri : Effect := onImm (fun a w => a ||| zimm w)
def effXori : Effect := onImm (fun a w => a ^^^ zimm w)
def effShli : Effect := onImm (fun a w => a <<< (immOf w % 32))
def effShri : Effect := onImm (fun a w => a >>> (immOf w % 32))
def effLui : Effect := onImm (fun _ w => BitVec.ofNat 32 (immOf w * 65536))

/-- The scratch address of LDS and STS (log entry 48: the immediate is sign-extended). -/
def memAddr (w : Nat) (k : Core) : Nat := (k.reg (raOf w) + simm w).toNat

def effLds : Effect := fun w k =>
  let a := memAddr w k
  if !Core.mayRead a 4 then .error fcRange
  else if a % 4 ≠ 0 then .error fcAlign
  else .ok ((k.setReg (rdOf w) (BitVec.ofNat 32 (leNat (k.scr a 4)))).next)

def effSts : Effect := fun w k =>
  let a := memAddr w k
  if !Core.mayWrite a 4 then .error fcRange
  else if a % 4 ≠ 0 then .error fcAlign
  else .ok ((k.setScr a (leBytes 4 (k.reg (rdOf w)).toNat)).next)

/-! Class B. -/

/-- The target of a branch: OFF words from the next instruction. -/
def branchTo (w : Nat) (k : Core) : Int := (k.pc : Int) + 1 + signedOf 16 (immOf w)

/-- Branch if ra compares with rb. -/
def onBranch (f : W32 → W32 → Bool) : Effect := fun w k =>
  if f (k.reg (braOf w)) (k.reg (brbOf w)) then k.goto (branchTo w k) else .ok k.next

def effBeq : Effect := onBranch (fun a b => a == b)
def effBne : Effect := onBranch (fun a b => a != b)
def effBlt : Effect := onBranch (fun a b => a.slt b)
def effBge : Effect := onBranch (fun a b => !a.slt b)
def effBltu : Effect := onBranch (fun a b => a.ult b)
def effJal : Effect := fun w k => (k.goto (branchTo w k)).map (fun t => t.setReg (braOf w) (BitVec.ofNat 32 (k.pc + 1)))

/-! Class V. -/

/-- A scalar register as a scratch address. -/
def vAddr (w : Nat) (k : Core) : Nat := (k.reg (vrsOf w)).toNat

/-- The 32 bytes of 8 lanes, and the lanes bytes spell. -/
def lanesBytes (l : List W32) : Bytes := l.flatMap (fun x => leBytes 4 x.toNat)
def lanesOf (b : Bytes) : List W32 := (List.range 8).map (fun i => BitVec.ofNat 32 (numAt b (4 * i) 4))

/-- vd ← lanes. -/
def putLanes (w : Nat) (k : Core) (l : List W32) : Except Nat Core := .ok ((k.setVreg (vdOf w) l).next)

/-- vd ← a function of the lanes of va and vb. -/
def onLanes (f : W32 → W32 → W32) : Effect := fun w k =>
  putLanes w k (List.zipWith f (k.vreg (vaOf w)) (k.vreg (vbOf w)))

def effVld : Effect := fun w k =>
  let a := vAddr w k
  if !Core.mayRead a 32 then .error fcRange
  else if a % 32 ≠ 0 then .error fcAlign
  else putLanes w k (lanesOf (k.scr a 32))

def effVst : Effect := fun w k =>
  let a := vAddr w k
  if !Core.mayWrite a 32 then .error fcRange
  else if a % 32 ≠ 0 then .error fcAlign
  else .ok ((k.setScr a (lanesBytes (k.vreg (vaOf w)))).next)

/-- The element types of FMT (R201); 6 is a signed 8-bit integer. -/
def fmtElem (fmt : Nat) : F.Elem :=
  if fmt = 0 then .e4m3 else if fmt = 1 then .e5m2 else if fmt = 2 then .e2m3 else if fmt = 3 then .e3m2
  else if fmt = 4 then .e2m1 else .bf16

/-- Bits of an element of FMT. -/
def fmtBits (fmt : Nat) : Nat := if fmt = 6 then 8 else (fmtElem fmt).width

/-- One element of FMT widened, times a power of two that every byte of rt names (Table 06-9). -/
def widenFmt (fmt scale c : Nat) : F32 :=
  if fmt = 6 then F.flush (F.round .near false ⟨signedOf 8 c, (scale : Int) - 127⟩)
  else
    let x := F.widen (fmtElem fmt) 127 c
    if F.isFinite x then F.flush (F.round .near (F.sgn x) ⟨(F.toDy x).m, (F.toDy x).e + scale - 127⟩) else x

def effVwid : Effect := fun w k =>
  let fmt := fmtOf w
  let n := fmtBits fmt
  let e := vAddr w k
  let lo := e * n / 8
  let hi := (e * n + 8 * n + 7) / 8
  if !Core.mayRead lo (hi - lo) then .error fcRange
  else
    let x := leNat (k.scr lo (hi - lo)) / 2 ^ (e * n % 8)
    let scale := if w.testBit 3 then (k.reg (vrtOf w)).toNat % 256 else 127
    putLanes w k ((List.range 8).map (fun i => widenFmt fmt scale (fieldOf x (n * i + n - 1) (n * i))))

def effVspl : Effect := fun w k => putLanes w k (List.replicate 8 (k.reg (vrsOf w)))
def effVadd : Effect := onLanes F.add
def effVmul : Effect := onLanes F.mul
def effVfma : Effect := fun w k =>
  putLanes w k (List.zipWith (fun d p => F.fma p.1 p.2 d) (k.vreg (vdOf w))
    (List.zip (k.vreg (vaOf w)) (k.vreg (vbOf w))))
def effVmax : Effect := onLanes F.max
def effVmin : Effect := onLanes F.min
def effVexp : Effect := fun w k => putLanes w k ((k.vreg (vaOf w)).map F.exp)

/-- VRSUM: the order of the sum is open (log entry 8). -/
def effVrsum (fresh : Nat) : Effect := fun w k =>
  .ok ((k.setReg (vrsOf w) (F.sum 7 fresh (k.vreg (vaOf w)))).next)

def effVrmax : Effect := fun w k =>
  .ok ((k.setReg (vrsOf w) ((k.vreg (vaOf w)).tail.foldl F.max (getAt 0 (k.vreg (vaOf w)) 0))).next)

def effVbnd : Effect := fun w k =>
  let a := k.vreg (vaOf w)
  let b := k.vreg (vbOf w)
  let c := k.vreg (vbOf w + 1)
  let d := k.vreg (vdOf w)
  let sum := (List.range 8).foldl (fun acc i =>
    F.addUp acc (Weir.larger (F.mul (getAt 0 a i) (getAt 0 b i)) (F.mul (getAt 0 a i) (getAt 0 c i)))) (getAt 0 d 0)
  putLanes w k (setAt d 0 sum)

def effVcvt : Effect := fun w k => putLanes w k ((k.vreg (vaOf w)).map (toInt32 (fmtOf w % 4)))

/-- A lane saturated to signed 8 bits. -/
def sat8 (x : W32) : Nat :=
  let v := x.toInt
  (BitVec.ofInt 8 (if v < -128 then -128 else if 127 < v then 127 else v)).toNat

def effVstn : Effect := fun w k =>
  let a := vAddr w k
  if !Core.mayWrite a 8 then .error fcRange
  else .ok ((k.setScr a ((k.vreg (vaOf w)).flatMap (fun x => leBytes 1 (sat8 x)))).next)

def effVxor : Effect := onLanes (· ^^^ ·)

def effVgfma : Effect := fun w k =>
  let c : Byte := BitVec.ofNat 8 (k.reg (vrsOf w)).toNat
  let a := lanesBytes (k.vreg (vaOf w))
  let d := lanesBytes (k.vreg (vdOf w))
  putLanes w k (lanesOf (xorBytes d (a.map (fun x => gfMul x c))))

def effVsth : Effect := fun w k =>
  let a := vAddr w k
  if !Core.mayWrite a 16 then .error fcRange
  else .ok ((k.setScr a ((k.vreg (vaOf w)).flatMap (fun x => leBytes 2 (F.toBf16 x).toNat))).next)

/-! Class M: the checks of a burst at issue (R187, R194; log entry 47). -/

/-- Bytes of the window of a view (Table 06-7). -/
def windowSize (k : Core) : SView → Nat
  | .unset => 0
  | .grant i => extentBytes (k.grant i).wide
  | .extent _ wide => extentBytes wide
  | .stub _ => 0x7C0
  | .sumslot _ _ dim => slotBytes dim
  | .metadata => 0x8880000
  | .ledger => 0x2780000
  | .dataV => 0x40000
  | .dataC => 0xC0000

/-- The PC-local address at which the window of a view of core c begins (Tables 05-1, 06-7): META reaches from the first
stub header through the page map and the allocation state, LEDGER over the rest of the ledger area. -/
def viewBase (c : Nat) (k : Core) : SView → Nat
  | .unset => 0
  | .grant i => frameAddr (k.grant i).frame
  | .extent f _ => frameAddr f
  | .stub f => stubAddr f + 0x40
  | .sumslot f i dim => frameAddr f + i * slotBytes dim
  | .metadata => stubAddr 0
  | .ledger => 64 * Store.firstLine
  | .dataV => dataAddr (c % 16)
  | .dataC => dataAddr (c % 16) + 0x40000

/-- Issue a burst. -/
def effBurst (load : Bool) : Effect := fun w k =>
  let v := k.view (fieldOf w 23 22)
  let n := fieldOf w 21 18 + 1
  let scr := (k.reg (fieldOf w 17 14)).toNat
  let off := (k.reg (fieldOf w 13 10)).toNat
  let dead := match v with | .unset => true | .grant i => !(k.grant i).valid | _ => false
  let ro := match v with | .grant _ => true | _ => false
  if dead then .error fcView
  else if ro && !load then .error fcRights
  else if windowSize k v < off + 64 * n ∨ 1024 < off % 1024 + 64 * n ∨
      !(if load then Core.mayWrite scr (64 * n) else Core.mayRead scr (64 * n)) then .error fcRange
  else if scr % 64 ≠ 0 ∨ off % 64 ≠ 0 then .error fcAlign
  else .ok { k with burst := some { load := load, view := v, off := off, lines := n, scr := scr } }

def effBld : Effect := effBurst true
def effBst : Effect := effBurst false

/-! Class S. -/

def effNop : Effect := fun _ k => .ok k.next
def effFence : Effect := fun _ k => .ok k.next
def effHalt : Effect := fun w k => .ok { k with st := .ready, prog := false, result := immOf w }

/-- VIEW: a descriptor of KIND 0 leaves the view unset, and the fault comes with the burst that uses it (DESIGN CHOICE, log
entry 168). -/
def effView : Effect := fun w k =>
  let a := (k.reg (fieldOf w 23 20)).toNat
  if !Core.mayRead a 16 then .error fcRange
  else
    let kind := fieldOf (leNat (k.scr a 1)) 3 0
    let i := fieldOf (leNat (k.scr (a + 1) 1)) 5 0
    let put (v : SView) : Except Nat Core := .ok ({ k with views := SMap.set .unset k.views (fieldOf w 1 0) v }).next
    if kind = 0 then put .unset
    else if kind = 1 then if (k.grant i).valid then put (.grant i) else .error fcView
    else if kind = 8 then put .dataC
    else .error fcRights

/-- KRND runs in the vendor station alone; in the customer station it is ILLEGAL (R200). -/
def effKrnd : Effect := fun _ _ => .error fcIllegal

/-- One byte of a vendor station's working space. -/
def vendorByte (v : Vendor) (a : Nat) : Byte :=
  match v.scratch.find? (fun e => e.1 == a) with
  | some e => e.2
  | none => Config.vendorByte v.rev a

/-- A scalar register of a vendor station (R180); s0 reads 0. -/
def vendorReg (v : Vendor) (i : Nat) : W32 := if i = 0 then 0 else getAt 0 v.regs (i - 1)

/-- KRND in the vendor station (R200): one round of Keccak-f[1600], of a number the specification does not give (log
entry 22), on the 200 bytes at a scratch address; the program counter advances. -/
def vendorKrnd (round a : Nat) (v : Vendor) : Vendor :=
  let x := leNat ((List.range 200).map (fun i => vendorByte v (a + i)))
  let out := leBytes 200 (Keccak.round round x)
  { v with scratch := (List.range 200).foldl (fun m i => SMap.ins m (a + i) (getAt 0 out i)) v.scratch, pc := (v.pc + 1) % 1024 }

/-- The view that a word of a vendor program's making names: its kind, and a frame or an index. -/
def vendorView (w : W32) : SView :=
  let n := w.toNat / 16
  match w.toNat % 16 with
  | 1 => .grant (n % 64)
  | 2 => .extent (n / 2 % framesPerPc) (n % 2 == 1)
  | 3 => .stub (n % framesPerPc)
  | 4 => .sumslot (n / 256 % framesPerPc) (n / 4 % 64) (n % 3)
  | 5 => .metadata
  | 6 => .ledger
  | 7 => .dataV
  | 8 => .dataC
  | _ => .unset

/-- What the n-th vendor program leaves in its station: program counter, registers, views and working space, which its
words, that are not given, decide (log entry 76). -/
def vendorLeft (n : Nat) (v : Vendor) : Vendor :=
  { v with rev := n + 1, scratch := [], pc := Config.vendorPc n % 1024
           regs := (List.range 15).map (Config.vendorReg n)
           vregs := (List.range 8).map (fun i => (List.range 8).map (fun l => Config.vendorReg n (16 + 8 * i + l)))
           views := (List.range 4).map (fun i => vendorView (Config.vendorReg n (80 + i))) }

def effIllegal : Effect := fun _ _ => .error fcIllegal

/-- The effects by class and OP. -/
def effects (fresh : Nat) : List (Nat × Effect) :=
  [(0x00, effAdd), (0x01, effSub), (0x02, effAnd), (0x03, effOr), (0x04, effXor), (0x05, effShl), (0x06, effShr),
   (0x07, effSra), (0x08, effMul), (0x09, effSlt), (0x0A, effSltu), (0x10, effFadd), (0x11, effFmul), (0x12, effFmax),
   (0x13, effFmin), (0x14, effFlt), (0x15, effCvtf), (0x16, effCvti), (0x1F, effJr)] ++
  [(0x20, effAddi), (0x22, effAndi), (0x23, effOri), (0x24, effXori), (0x25, effShli), (0x26, effShri), (0x2C, effLui),
   (0x2D, effLds), (0x2E, effSts), (0x40, effBeq), (0x41, effBne), (0x42, effBlt), (0x43, effBge), (0x44, effBltu),
   (0x45, effJal), (0x60, effBld), (0x61, effBst)] ++
  [(0x80, effVld), (0x81, effVst), (0x82, effVwid), (0x83, effVspl), (0x84, effVadd), (0x85, effVmul), (0x86, effVfma),
   (0x87, effVmax), (0x88, effVmin), (0x89, effVexp), (0x8A, effVrsum fresh), (0x8B, effVrmax), (0x8C, effVbnd),
   (0x8D, effVcvt), (0x8E, effVstn), (0x8F, effVxor), (0x90, effVgfma), (0x91, effVsth)] ++
  [(0xA0, effNop), (0xA1, effHalt), (0xA2, effFence), (0xA3, effView)]

namespace State

/-- A core that is not listed. -/
def idleCore (s : State) : Core := if s.sluice.reset then { st := .fault, fcause := fcReset } else {}
def core (s : State) (c : Nat) : Core := SMap.get s.idleCore s.sluice.cores c
def setCore (s : State) (c : Nat) (k : Core) : State :=
  { s with sluice := { s.sluice with cores := SMap.set s.idleCore s.sluice.cores c k } }
def updCore (s : State) (c : Nat) (g : Core → Core) : State := s.setCore c (g (s.core c))

/-- A vendor station's fault (R202): its bit and cause, at a word of its program; a compute reset follows except for UE
(Table 15-2). -/
def scFault (s : State) (c cause : Nat) : State :=
  let pc := c / 16
  let fpc := Config.vendorPc s.fresh % 1024
  let s := ((s.setBit .scFault (pc / 64) (pc % 64)).rsFault 0).setReg .scFaultCause (pc / 64)
    (wordOf (pc % 64 + place 6 (c % 16) + place 10 cause + place 14 fpc))
  let s := ((s.pred 7 (pc / 64) 1 1).updVendor c (fun v => { v with st := .fault, pc := fpc })).tick
  if cause = fcUe then s else s.wantReset 2 (pc / 64) (pc % 64)

/-! What the core saves of a preempted customer station (R183). -/

/-- The key slot of a view (Table 06-7): `ctx` owns the page or ledger structure, `lessee` leases the core. -/
def viewSlot (ctx lessee : Nat) : SView → Nat
  | .dataC => lessee
  | .metadata => 1024
  | .dataV => 1024
  | _ => ctx

/-- What a vendor station saved of the customer station is dropped (R183). -/
def dropSaved (s : State) (c : Nat) : State := s.updVendor c (fun v => { v with saved := none })

/-- The customer region of a core goes to its vendor data area, in 8 bursts through the DATA_V view (R183 step 3, R196);
where in that area is the core's choice, its start here (log entry 76). -/
def spillOut (s : State) (c : Nat) : State :=
  let k := s.core c
  let s := (s.count .scCntSpill c 1).count .scCntBurst c 8
  (s.writeKey (s.store.key (viewSlot 1024 1024 .dataV)) (c / 16) (viewBase c k .dataV) (k.scr 0x2000 0x2000)).updVendor c
    (fun v => { v with saved := v.saved.map (fun x => { x with spill := true }) })

/-- One burst that reads a KiB of the spilled region back (R183 step 5, R196, R197). One that meets an uncorrectable word
moves no data: the vendor station faults, and the KiB holds what the vendor program left there. -/
def spillIn (c i : Nat) (s : State) : State :=
  let key := s.store.key (viewSlot 1024 1024 .dataV)
  let a := viewBase c (s.core c) .dataV + 1024 * i
  let r := (s.count .scCntBurst c 1).senseUnder key (c / 16) [(a, 1024)]
  let put (q : State) (b : Bytes) : State := q.updCore c (fun k => k.setScr (0x2000 + 1024 * i) b)
  if r.2 then
    put ((r.1.count .scCntUe c 1).scFault c fcUe) ((List.range 1024).map (fun j => Config.vendorByte s.fresh (1024 * i + j)))
  else put r.1 (r.1.store.readUnder key (c / 16) a 1024)

/-- The core restores what it saved of the customer station: registers, views and a spilled region (R183 step 5). -/
def restoreSaved (s : State) (c : Nat) : State :=
  match (s.vendor c).saved with
  | none => s
  | some x =>
    let s := (s.updCore c (fun k => { k with regs := x.regs, vregs := x.vregs, views := x.views })).dropSaved c
    if x.spill then forUpTo 8 s (spillIn c) else s

/-! Ends of commands. -/

/-- Requests of a station for a bank are withdrawn. -/
def unwait (s : State) (c : Nat) (vendor : Bool) : State :=
  { s with sluice := { s.sluice with waiting := s.sluice.waiting.filter (fun r => !(r.core == c && r.vendor == vendor)) } }

/-- A fault of a customer station (R202). What was saved of it is restored first: the command it belonged to has ended. -/
def coreFault (s : State) (c cause fpc : Nat) : State :=
  ((((s.restoreSaved c).unwait c false).updCore c (fun k =>
    { k with st := .fault, prog := false, burst := none, fcause := cause, fpc := fpc % 1024 })).count .scCntCfault c 1)

/-- A command ends (R185): READY with a RESULT. -/
def cmdDone (s : State) (c result : Nat) : State :=
  ((s.restoreSaved c).updCore c (fun k => { k with st := .ready, prog := false, result := result % 65536 })).count .scCntCcmd c 1

/-- A command ends on a fault; its FPC is the station's last program counter (R202 gives that of an instruction only;
DESIGN CHOICE, log entry 81). -/
def cmdFault (s : State) (c cause : Nat) : State := s.coreFault c cause (s.core c).pc

/-- Whether a customer station executes its next instruction now. -/
def executing (k : Core) : Bool :=
  decide (k.st = .run) && k.prog && k.burst.isNone && !k.preempted

/-! Banks (R129, R187 to R191). -/

/-- The bank a burst takes: the core's pair, or the neighbour's for FRAME + 1 of a wide page (R195). -/
def burstBank (c : Nat) (b : Burst) : Nat :=
  let bank := b.off / 1024 % 2
  let beyond := decide (0x4000 ≤ b.off)
  let near := 2 * (c / 16 * 16 + (c % 16 + 1) % 16) + bank
  match b.view with
  | .grant _ => if beyond then near else 2 * c + bank
  | .extent _ _ => if beyond then near else 2 * c + bank
  | _ => 2 * c + bank

/-- Whether a bank is free of refresh, of pipe read units and read-modify-writes, and of other bursts. -/
def bankFree (s : State) (b : Nat) : Bool :=
  !s.sluice.refreshing.contains b && !s.sluice.forced.contains b && !s.sluice.units.contains b &&
  !s.sluice.cores.any (fun e => match e.2.burst with
    | some x => x.granted && burstBank e.1 x == b
    | none => false)

/-- The request that a bank serves next: the first in order (R190). -/
def nextReq (s : State) (b : Nat) : Option BankReq := s.sluice.waiting.find? (fun r => r.bank == b)

/-- A station asks for a bank, behind those that wait for it (R190). -/
def askBank (s : State) (r : BankReq) : State :=
  if s.sluice.waiting.contains r then s else { s with sluice := { s.sluice with waiting := s.sluice.waiting ++ [r] } }

/-- A committed PG_CFG takes effect at a refresh command of its stack, or where a scrub pass begins (R177). -/
def refreshCfg (s : State) (stack : Nat) : State := s.takeEffect [(.pgCfg, stack)]

/-- A refresh command of a bank is issued (R165): a committed PG_CFG takes effect with it (R177). -/
def refresh (s : State) (bank : Nat) : State :=
  let s := s.refreshCfg (bank / 2048)
  { s with sluice := { s.sluice with refreshing := s.sluice.refreshing ++ [bank] } }

/-- A bank is released: a forced refresh that waited begins (R190). -/
def releaseBank (s : State) (bank : Nat) : State :=
  if s.sluice.forced.contains bank then
    ({ s with sluice := { s.sluice with forced := s.sluice.forced.filter (· != bank) } } : State).refresh bank
  else s

/-- The pipe read unit or read-modify-write that holds a bank ends: a forced refresh that waited begins (R190). -/
def endUnit (s : State) (b : Nat) : State :=
  if s.sluice.units.contains b then
    ({ s with sluice := { s.sluice with units := s.sluice.units.filter (· != b) } } : State).releaseBank b
  else s

/-- The DRAM address of a burst: pseudo-channel and PC-local address. -/
def burstAddr (s : State) (c : Nat) (b : Burst) : Nat × Nat := (c / 16, viewBase c (s.core c) b.view + b.off)

/-- Grant the bank of a station's burst, or let it wait behind the requests made before (R185, R190, R191); `held` says that
a pipe read unit, a read-modify-write or another access holds the bank. -/
def issueBurst (s : State) (c : Nat) (held : Bool) : State :=
  let k := s.core c
  match k.burst with
  | none => s
  | some b =>
    let bank := burstBank c b
    if s.bankFree bank && (s.nextReq bank).isNone && !held then
      s.setCore c { k with st := .run, burst := some { b with granted := true } }
    else
      let s := if held && s.bankFree bank then { s with sluice := { s.sluice with units := s.sluice.units ++ [bank] } } else s
      (s.setCore c { k with st := .wait }).askBank { bank := bank, core := c, vendor := false }

/-- The key slot of a customer burst. -/
def burstSlot (s : State) (c : Nat) (b : Burst) : Nat :=
  let pc := (s.burstAddr c b).1
  viewSlot (s.store.slotAt pc (s.burstAddr c b).2) ((s.core c).lessee.getD 1024) b.view

/-- An uncorrectable word in a burst's load: a page is restored (R197). -/
def burstUe (s : State) (c : Nat) (b : Burst) : State :=
  let s := s.count .scCntUe c 1
  match b.view with
  | .grant i => s.startRestore ((s.core c).grant i).page
  | _ => s

/-- The end of a burst (R196, R197): its data moves under the key of its view, corrected words are written back, the bank is
released. A load that meets an uncorrectable word or an empty key slot moves no data; a store under an empty slot is refused
(R412). -/
def burstEnd (s : State) (c : Nat) : State :=
  let k := s.core c
  match k.burst with
  | none => s
  | some b =>
    if !b.granted then s
    else
      let bank := burstBank c b
      let s := ((s.setCore c { k with burst := none }).count .scCntBurst c 1).releaseBank bank
      let (pc, a) := s.burstAddr c b
      let key := s.store.key (s.burstSlot c b)
      if b.load then
        let r := s.senseUnder key pc [(a, 64 * b.lines)]
        if r.2 then (r.1.coreFault c fcUe k.pc).burstUe c b
        else r.1.updCore c (fun k => (k.setScr b.scr (r.1.store.readUnder key pc a (64 * b.lines))).next)
      else if key = 0 then (s.count .mtCntNokey 0 1).updCore c Core.next
      else
        let bs := k.scr b.scr (64 * b.lines)
        (s.updStore (fun st => st.writeUnder key pc a bs)).updCore c Core.next

/-- A station that ran past word 1,023 faults (R193, log entry 46). -/
def pastEnd (s : State) (c : Nat) : State :=
  let k := s.core c
  if k.st = .run ∧ 1024 ≤ k.pc then s.coreFault c fcRange k.pc else s

/-- After an instruction: one that issued a burst takes its bank. -/
def afterInstr (s : State) (c : Nat) (held : Bool) : State :=
  if (s.core c).burst.isSome then s.issueBurst c held else s.pastEnd c

/-- Run an effect at a station's next instruction; `held` says that another access holds the bank of a burst. -/
def runEffect (s : State) (c : Nat) (f : Effect) (held : Bool) : State :=
  let k := s.core c
  match f (k.word k.pc) k with
  | .error e => s.coreFault c e k.pc
  | .ok t =>
    let s := s.setCore c t
    let s := if k.st = .run ∧ t.st = .ready then s.count .scCntCcmd c 1 else s
    s.afterInstr c held

/-- The effect of whatever word stands next, for a single step. -/
def nextEffect (s : State) (c : Nat) : Effect :=
  let w := (s.core c).word (s.core c).pc
  if legalWord w then (((effects s.fresh).find? (fun e => e.1 == opKey w)).map (·.2)).getD effIllegal else effIllegal

/-- Whether the debug port acts on a core (R209, R212). -/
def debugged (s : State) (c : Nat) : Bool := !s.img.conf && s.rbit .scCfg (c / 1024) 1

/-- Whether a debug halt stops a station: only while the port acts on its core (R212). -/
def haltedAt (s : State) (c : Nat) : Bool := (s.core c).halted && s.debugged c

/-- One instruction of a station, if its next word is a legal one of a class and OP; a burst's bank may be held by another
access (R190). -/
def instrHeld (s : State) (c key : Nat) (f : Effect) (held : Bool) : State :=
  let k := s.core c
  let w := k.word k.pc
  if executing k && !s.haltedAt c && opKey w == key && legalWord w then (s.runEffect c f held).tick else s

/-- One instruction of a station that makes no burst. -/
def instr (s : State) (c key : Nat) (f : Effect) : State := s.instrHeld c key f false

/-! Preemption (R183). -/

/-- The bank of its pair that a vendor program's bursts take. -/
def vendorBank (c : Nat) (v : VendorIn) : Nat := 2 * c + v.bank % 2

/-- Whether the bursts of a vendor program get their bank (R189, R190): it is free but for this core's own customer burst,
which runs to its end first, and no other core's request came before. -/
def vendorGets (s : State) (c : Nat) (v : VendorIn) : Bool :=
  let b := vendorBank c v
  (s.updCore c (fun k => { k with burst := none })).bankFree b &&
    (match s.nextReq b with | some r => r.core == c | none => true)

/-- A vendor program's burst waits for its bank (R186, R190). -/
def vendorWait (s : State) (c : Nat) (v : VendorIn) : State :=
  (s.updVendor c (fun x => { x with st := .wait })).askBank { bank := vendorBank c v, core := c, vendor := true }

/-- The vendor station takes a core (R183): a granted burst runs to its end, one without a grant is abandoned, and a customer
station in RUN or WAIT is preempted and its registers and views saved; where the vendor command needs its scratch, that is
saved too. The cycles the core spent in WAIT are counted (R190). -/
def vendorOn (s : State) (c : Nat) (v : VendorIn) : State :=
  let s := (((s.burstEnd c).pastEnd c).unwait c false).unwait c true
  let k := s.core c
  let busy := decide (k.st = .run) || decide (k.st = .wait)
  let s := s.setCore c { k with vendor := true, preempted := k.preempted || busy, burst := none,
                                st := if k.st = .wait then .run else k.st }
  let s := if busy && (s.vendor c).saved.isNone then
      s.updVendor c (fun w => { w with saved := some { regs := k.regs, vregs := k.vregs, views := k.views } })
    else s
  let s := ((s.count .scWaitRefresh c v.refresh).count .scWaitPipe c v.pipe).count .scWaitOther c v.other
  if busy && v.spill && !((s.vendor c).saved.getD {}).spill then s.spillOut c else s

/-- The vendor station gives a core up (R183 step 5): what was saved is restored. -/
def vendorOff (s : State) (c : Nat) : State :=
  (s.restoreSaved c).updCore c (fun k => { k with vendor := false, preempted := false })

/-- What a vendor program does beside its work: the command ends, its bursts are counted, and its station holds what it left
(R181, R210, log entry 76). -/
def vendorEnd (s : State) (c : Nat) : State :=
  let n := s.fresh
  (((((s.vpop c).count .scCntVcmd c 1).count .scCntBurst c (Config.vendorBursts n)).updVendor c (vendorLeft n))).tick

/-- DEQ, run by the vendor station (R61, R181): the key rows, then the value rows of a granted page, widened to FP32 or BF16,
go to DATA_C under the leasing context's key. An uncorrectable word is the vendor station's fault, of which the customer
command is told (R197, R202). -/
def runDeq (s : State) (c : Nat) (j : VJob) : State :=
  let g := (s.core c).grant (j.arg % 64)
  let bf := j.arg.testBit 6
  let size := 2 * g.rows * dimOf g.dim * (if bf then 2 else 4)
  let pc := c / 16
  let key := s.store.key ((s.core c).lessee.getD 1024)
  let s := (s.unwait c true).vendorEnd c
  if !g.valid then s.cmdFault c fcView
  else
    let r := s.sense pc (rowRegions g.frame g.kvfmt g.dim g.rows)
    let s := r.1
    if r.2 then (((s.count .scCntUe c 1).scFault c fcUe).cmdFault c fcUe).startRestore g.page
    else if key = 0 then (s.count .mtCntNokey 0 1).cmdDone c (size / 64)
    else
      let rs := Weir.readRows s.store (s.store.frame pc g.frame).ctx pc g.frame g.kvfmt g.dim (List.range g.rows)
      let out (x : F32) : Bytes := if bf then leBytes 2 (F.toBf16 x).toNat else leBytes 4 x.toNat
      let bs := (rs.keys ++ rs.vals).flatMap (fun row => row.flatMap out)
      (s.updStore (fun st => st.writeUnder key pc (dataAddr (c % 16) + 0x40000 + j.ix) bs)).cmdDone c (size / 64)

/-- TEST, run by the vendor station (R181): a defect is a vendor fault. -/
def runTest (s : State) (c : Nat) (j : VJob) : State :=
  let s := (s.vendorOn c j.vin).vendorEnd c
  if j.arg = 1 then s.scFault c 7 else s

/-- The PC-local address of a step of a bank pair's scrub pass: frames, stubs, page map and ledger, sluice data (R129). -/
def scrubAddr (bp k : Nat) : Nat :=
  if k < 61440 then frameAddr (16 * (k / 16) + bp) + k % 16 * 1024
  else if k < 69120 then stubAddr (16 * ((k - 61440) / 2) + bp) + (k - 61440) % 2 * 1024
  else if k < 72704 then (0x43800 + 16 * ((k - 69120) / 4) + bp) * 0x1000 + (k - 69120) % 4 * 1024
  else dataAddr bp + (k - 72704) * 1024

/-- Steps of a pass: 72 MiB. -/
def scrubSteps : Nat := 73728

/-- One burst of a core's scrub pass (R167, R177, R181), after words of it came to hold upsets (word and bytes, 0 for the
address). Corrected words are written back; each uncorrectable one is counted and treated as R164 gives, and the station
faults with cause UE (R197). A committed PG_CFG takes effect where a pass begins. The step is the core's own and no command:
SC_CNT_VCMD does not count it (DESIGN CHOICE, log entry 173). -/
def scrubStep (s : State) (core : Nat) (d : ScrubStep) : State :=
  let pc := core / 16
  let k := SMap.get 0 s.sluice.scrub core
  let a := scrubAddr (core % 16) k
  let w := gaddr pc a / 32
  let s := if k = 0 then
      let s := s.refreshCfg (pc / 64)
      { s with sluice := { s.sluice with
          periods := SMap.set 0x400 s.sluice.periods core (s.rfld .pgCfg (pc / 64) 15 0) } }
    else s
  let ups := (d.upsets.filter (fun u => decide (u.1 < 32))).map (fun u => (a / 32 + u.1, u.2))
  let s := (s.vendorOn core d.vin).upsets pc ups
  let s := { s with sluice := { s.sluice with scrub := SMap.set 0 s.sluice.scrub core ((k + 1) % scrubSteps) } }
  let hit := (List.range 32).filter (fun i => s.store.wordBad (w + i))
  let s := (s.count .scCntBurst core 1).senseWords pc [(a, 1024)] |>.1
  let s := if hit.isEmpty then s else (s.count .scCntUe core 1).scFault core fcUe
  let s := hit.foldl (fun q i => q.ueAt pc (a + 32 * i)) s
  if k + 1 = scrubSteps then s.count .pgCntScrubPass pc 1 else s

/-- The SCRUB steps whose turn has come at a station run (R182). -/
def runDue (s : State) (c : Nat) : State :=
  let v := s.vendor c
  if v.turn then v.due.foldl (fun q d => q.scrubStep c d) (s.updVendor c (fun v => { v with due := [], turn := false })) else s

/-- The SCRUB steps whose turn has come run at every station. -/
def runAllDue (s : State) : State := s.sluice.vendors.foldl (fun q e => q.runDue e.1) s

/-- A station goes on by itself: SCRUB steps whose turn has come, then the DEQs and TESTs that stand at the front of its
queue, each once its bank is granted (R182, R190). -/
def runFront (c : Nat) : Nat → State → State
  | 0, s => s
  | n + 1, s =>
    let s := s.runDue c
    match (s.vendor c).queue with
    | j :: _ =>
      if s.sluice.vload.isNone ∨ (j.prog ≠ .deq ∧ j.prog ≠ .test) then s
      else if !s.vendorGets c j.vin then s.vendorWait c j.vin
      else runFront c n (if j.prog = .deq then s.runDeq c j else s.runTest c j)
    | [] => s

/-- The vendor station runs its command in progress. -/
def vendorRun (s : State) (j : VJob) (v : VendorIn) : State := runFront j.core 4 ((s.vendorOn j.core v).vendorEnd j.core)

/-- A vendor command that a station has come to: SCRUB steps whose turn has come run first (R182), and a command whose
bank is not granted waits (R190). -/
def vendorTurn (s : State) (find : State → Option VJob) (v : VendorIn) : State × Option VJob :=
  let s := s.runAllDue
  match find s with
  | none => (s, none)
  | some j => if s.vendorGets j.core v then (s, some j) else (s.vendorWait j.core v, none)

/-- A vendor program's read meets an uncorrectable word of a page (R197): the event and the program's bursts are counted, the
station faults with cause UE, the page is restored, and the reckoner gives the command again. -/
def vendorUe (s : State) (j : VJob) (v : VendorIn) (p : Nat) : State :=
  let n := s.fresh
  let s := ((s.vendorOn j.core v).count .scCntUe j.core 1).count .scCntBurst j.core (Config.vendorBursts n)
  runFront j.core 4 (((s.vagain j).scFault j.core fcUe).startRestore p)

/-- A vendor program's write was reported as failed (R162): the page is restored, and the reckoner gives the command again. -/
def vendorRetry (s : State) (j : VJob) (v : VendorIn) (p : Nat) : State :=
  let n := s.fresh
  let s := (s.vendorOn j.core v).count .scCntBurst j.core (Config.vendorBursts n)
  runFront j.core 4 ((s.vagain j).startRestore p)

/-! Stations as commands use them. -/

/-- Release grant entries from an index, clearing VALID (R206). -/
def releaseGrants (s : State) (c base n : Nat) : State :=
  (List.range n).foldl (fun (q : State) i =>
    let k := q.core c
    let g := k.grant (base + i)
    if g.valid then
      (q.setCore c { k with grants := SMap.set {} k.grants (base + i) { g with valid := false } }).updStore
        (fun st => st.unpin g.page)
    else q) s

/-- Clear a station: store half, scratch, grants, registers and views (Table 06-12 CLEAR). -/
def clearStation (s : State) (c : Nat) : State :=
  (((s.releaseGrants c 0 64).keepVjobs c (fun j => decide (j.prog ≠ .deq))).dropSaved c).updCore c (fun k =>
    { k with code := [], scratch := [], regs := [], vregs := [], views := [], grants := [], pc := 0 })

/-- Stop a station (R185): READY with RESULT 0xFFFF after a burst in progress ends. -/
def stopStation (s : State) (c : Nat) : State :=
  let s := (s.burstEnd c).restoreSaved c
  let k := s.core c
  if k.st = .run ∨ k.st = .wait then
    ((s.unwait c false).setCore c { k with st := .ready, prog := false, burst := none, result := 0xFFFF, preempted := false
                                           search := none }).keepVjobs c (fun j => decide (j.prog ≠ .deq))
  else s

/-- A restored page's grants (R206): rewritten where the new frame lies in the same bank pair, else cleared. -/
def regrant (s : State) (p : Nat) : State :=
  let h := s.store.header p
  let f := s.store.frameOf p
  s.sluice.cores.foldl (fun (q : State) e =>
    (List.range 64).foldl (fun (t : State) i =>
      let k := t.core e.1
      let g := k.grant i
      if g.valid && g.page == p then
        if f % 16 = e.1 % 16 then
          t.setCore e.1 { k with grants := SMap.set {} k.grants i { g with frame := f, gen := h.gen } }
        else t.releaseGrants e.1 i 1
      else t) q) s

end State

end Sys2Proof.Machine
end

