-- ==== Sys2Proof/Machine/AttnCmd.lean ====
section
/-! DEFINITION. The commands of attention: ATTEND, scoring, the weir pipes, merging and assay (chapters 3 and 4). -/

namespace Sys2Proof.Machine

open State

/-- ATTEND: stages 4 and 5 and the snapshot (R40, R107, R278, R467, R528). -/
def execAttend (slot : Nat) (s : State) : Result :=
  match s.enter slot kAttend (fun _ _ => false) with
  | .stop s => .next s
  | .go s a r =>
    let x := s.slot slot
    let q := s.attReq slot
    if x.hdr.kvh ≥ 32 ∨ !r.headSet.testBit x.hdr.kvh ∨ r.layers ≤ x.hdr.layer then
      .next (s.finish slot stBadRange [] .plain)
    else if !Weir.formatOk q.qfmt r.kvfmt then .next (s.finish slot stFormat [] .plain)
    else if ownTotal x.hdr ≠ 32 + q.g * dimOf r.dim * Weir.qWidth q.qfmt then .next (s.finish slot stBadRange [] .plain)
    else if 4096 < q.sinks ∨ 4096 < q.topk then .next (s.finish slot stBadRange [] .plain)
    else
      let ix := Store.streamIx r x.hdr.layer x.hdr.kvh
      let limit := x.snaplen
      let snap := (s.store.allPages a ix).map (fun e => s.snapPage q limit e.2)
      if snap.any (fun p => Store.isGap p.page && decide (0 < p.visible)) then
        .next ((s.count .rsCntGapbusy 0 1).finish slot stBusy [] .plain)
      else
      match snap.find? (fun p => decide (0 < p.visible) && !s.store.valid p.page) with
      | some p => .next ((s.staleUse p.page).finish slot stBusy [] .plain)
      | none =>
        let len := (s.store.stream a ix).length
        let st := { s.store with clock := s.store.clock + 1 }
        let st := st.updRoot a (fun g => { g with attended := st.clock })
        let st := if r.groupLedger = 0 then st else st.updRoot r.groupLedger (fun g => { g with attended := st.clock })
        let s := ({ s with store := st }).updSlot slot (fun y => { y with taken := true, snaplen := some (limit.getD len) })
        let at' : Att :=
          { root := a, ix := ix, raEn := s.rbit .hubRetCfg 0 0, raMax := s.rfld .hubRetCfg 0 8 1,
            round := s.rfld .hubRetCfg 0 17 9, snap := snap, snaplen := limit.getD len }
        .next (s.toScoring slot at')

/-- The SCORE command of a slot for a page, where it is a vendor station's command in progress. -/
def State.scoreJob (s : State) (slot p : Nat) : Option VJob :=
  if s.sluice.vload.isNone then none
  else s.sluice.vendors.findSome? (fun e => match e.2.queue with
    | j :: _ => if j.prog = .score ∧ j.page = p ∧ j.slot = some slot then some j else none
    | [] => none)

/-- A vendor station scores one page of a round: its bounds, unless its summary cannot be read, which is then restored
(R104, R105, R197). -/
def State.scorePage (slot : Nat) (cores : List (Nat × VendorIn)) (s : State) (j : VJob) : State :=
  let v := SMap.get {} cores j.core
  let p := j.page
  match s.att? slot with
  | none => s
  | some a =>
    if !s.vendorGets j.core v then s.vendorWait j.core v
    else
    let q := s.attReq slot
    let dim := (s.attRoot a).dim
    let r := s.sense (pagePc p) [(s.store.summaryAddr p dim, summaryBytes dim)]
    let s := r.1
    if r.2 then s.vendorUe j v p
    else
      let bounds : List F32 :=
        if Weir.queryOk q (dimOf dim) && Weir.sigmaOk q.sigma then Weir.bounds q (dimOf dim) (s.store.summary p dim)
        else (List.range q.g).map (fun h => Config.free32 (Weir.sumId s.fresh 0 h (p % 512) 6))
      let snap := a.snap.map (fun x => if x.page = p then { x with bounds := bounds } else x)
      ((s.setAtt slot { a with snap := snap }).vendorRun j v).count .hubRetCntScored 0 1

/-- SCORE: the vendor stations that have come to a page of the round form its bounds (R104, R105, R118, R119); `cores` are
what the program did to each core. -/
def execScore (slot : Nat) (cores : List (Nat × VendorIn)) (s : State) : Result :=
  let s := s.runAllDue
  match s.att? slot with
  | none => .next s
  | some a =>
    if a.stage = .scoring then
      .next ((a.turn.filterMap (fun p => if (s.restore? p).isSome then none else s.scoreJob slot p)).foldl
        (State.scorePage slot cores) s)
    else .next s

/-- SCORING_ROUND_DONE: run-ahead, then the next round or the final selection (R118, R120, R121). -/
def execScoringRoundDone (slot : Nat) (s : State) : Result :=
  match s.att? slot with
  | none => .next s
  | some a =>
    let ready := decide (a.stage = .scoring) && !a.turn.isEmpty &&
      a.turn.all (fun p => a.snap.any (fun x => x.page == p && scored x))
    if !ready then .next s
    else
      let s := s.raTurn slot
      match s.att? slot with
      | some b => if (unpinned b).all scored then .next (s.selectTop slot b) else .next ((s.startRound slot b).pumpSilt)
      | none => .next s

/-- STALL_LIMIT_EXPIRY: a request that still waits on silt at its limit ends with DEEP_UNAVAILABLE (R229). -/
def execStallLimitExpiry (slot : Nat) (s : State) : Result :=
  let x := s.slot slot
  let late := decide (x.state = .active) && x.stalled && decide (x.stall + x.limit ≤ s.hubUnits)
  let deep (ps : List Nat) : Result :=
    match s.siltOf ps with
    | [] => .next s
    | p :: rest =>
      let s := (s.noteChan slot (p :: rest)).settleStall slot
      .next ((s.count .stCntDeepunav ((s.store.pent p).silt % 16) 1).finish slot stDeep [] .plain)
  match x.prog with
  | .promote ps => if late then deep ps else .next s
  | .attend a => if late && decide (a.stage = .silt) then deep a.chosen else .next s
  | _ => .next s

/-! The pipes. -/

/-- A WP fault (R99): the pipe's bit, its cause, and a compute reset (Table 15-2). -/
def State.wpFault (s : State) (k cause slot : Nat) : State :=
  let s := ((s.setBit .wpFault (k / 64) (k % 64)).rsFault 0).setReg .wpFaultCause (k / 64)
    (wordOf (k % 64 + place 6 cause + place 10 slot))
  (s.pred 7 (k / 64) 2 1).wantReset 1 (k / 64) (k % 64)

/-- The fields of a descriptor that must not change within a lane (R91): bytes 0x04 to 0x17 and ASSAY. -/
def descShape (b : Bytes) : Bytes × Bool := (sub b 4 20, (numAt b 0 4).testBit 30)

/-- The page entries of a descriptor: FRAME, FIRSTPOS, ROWS and GEN8. -/
def descEntries (b : Bytes) : List (Nat × Nat × Nat × Nat) :=
  (List.range (fieldOf (numAt b 0x18 4) 6 0)).map (fun i =>
    let w := numAt b (64 + 8 * i) 8
    (fieldOf w 15 0, fieldOf w 39 16, fieldOf w 47 40, fieldOf w 55 48))

/-- KVFMT, QFMT, DIM and G of a descriptor. -/
def descKv (b : Bytes) : Nat := fieldOf (numAt b 4 4) 13 10
def descQ (b : Bytes) : Nat := fieldOf (numAt b 4 4) 15 14
def descDim (b : Bytes) : Nat := fieldOf (numAt b 4 4) 17 16
def descG (b : Bytes) : Nat := fieldOf (numAt b 4 4) 21 18 + 1

/-- The reserved bits and codes of a descriptor and its entries are as Tables 03-5 and 03-6 give. -/
def descFieldsOk (b : Bytes) : Bool :=
  let w0 := numAt b 0 4
  let w18 := numAt b 0x18 4
  let n := fieldOf w18 6 0
  !w0.testBit 31 && fieldOf (numAt b 4 4) 31 22 == 0 && descDim b != 3 && descQ b != 3 && decide (descKv b ≤ 6) &&
  numAt b 0xF 1 == 0 && numAt b 0x13 1 == 0 && fieldOf (numAt b 0x14 4) 31 13 == 0 && fieldOf w18 31 7 == 0 &&
  allZero (sub b 0x1C 0x24) && decide (1 ≤ n) && decide (n ≤ 64) &&
  (List.range n).all (fun i => fieldOf (numAt b (64 + 8 * i) 8) 63 56 == 0) &&
  (descEntries b).all (fun e => decide (1 ≤ e.2.2.1) && decide (e.2.2.1 ≤ tokensPerPage (descKv b)) && decide (e.1 ≤ 61439))

/-- The open lane of a pipe that holds a slot and has not had its LAST descriptor; R91 does not say what a further
descriptor of a lane that has had LAST does, and the model rejects it (log entry 61). -/
def laneOf (x : Pipe) (slot : Nat) : Option (Nat × Lane) :=
  (List.range x.lanes.length).findSome? (fun i =>
    match getAt none x.lanes i with
    | some l => if l.slot = slot ∧ !l.last then some (i, l) else none
    | none => none)

/-- PIPE_DESCRIPTOR: INTAKE takes the oldest descriptor, checks it and opens or continues a lane (R91). -/
def execPipeDescriptor (pipe : Nat) (s : State) : Result :=
  let x := s.pipe pipe
  match x.queue with
  | [] => .next s
  | b :: rest =>
    let slot := descSlot b
    let part := fieldOf (numAt b 0 4) 27 18
    let last := (numAt b 0 4).testBit 29
    let accept (lanes : List (Option Lane)) : Result :=
      .next (((s.setPipe pipe { queue := rest, lanes := lanes }).count .wpCntDesc pipe 1).pushPipe pipe)
    let reject : Result := .next ((s.setPipe pipe { x with queue := rest }).wpFault pipe 1 slot)
    if !descFieldsOk b then reject
    else if descFirst b then
      match x.lanes.findIdx? (·.isNone) with
      | none => reject
      | some i => accept (setAt x.lanes i (some { slot := slot, part := part, descs := [b], last := last }))
    else
      match laneOf x slot with
      | none => reject
      | some (i, l) =>
        if part ≠ (l.part + 1) % 1024 ∨ descShape b ≠ descShape (l.descs.headD []) then reject
        else accept (setAt x.lanes i (some { l with part := part, descs := l.descs ++ [b], last := last }))

/-- Close a lane. -/
def State.closeLane (s : State) (pipe lane : Nat) : State :=
  s.setPipe pipe { s.pipe pipe with lanes := setAt (s.pipe pipe).lanes lane none }

/-- The chain of a slot that a pipe is serving. -/
def activeChain (a : Att) (pipe : Nat) : Option Nat :=
  a.chains.findIdx? (fun c => c.pipe == pipe && !c.done && decide (0 < c.sent))

/-- The whole request a lane serves, from its first descriptor. -/
def laneReq (l : Lane) : AttReq :=
  let b := l.descs.headD []
  let n := fieldOf (numAt b 0x18 4) 6 0
  { qpos := fieldOf (numAt b 0xC 4) 23 0, g := descG b, qfmt := descQ b, sigma := BitVec.ofNat 32 (numAt b 8 4),
    window := fieldOf (numAt b 0x10 4) 23 0, sinks := fieldOf (numAt b 0x14 4) 12 0, q := b.drop (64 + 8 * n) }

/-- Count the page entries a lane has read, their visible rows and the rows masked (R85, Table 03-11). -/
def State.countRead (s : State) (pipe : Nat) (q : AttReq) (es : List (Nat × Nat × Nat × Nat)) : State :=
  let rows := (es.map (fun e => (Weir.visibleRows q e.2.1 e.2.2.1).length)).sum
  ((s.count .wpCntPages pipe es.length).count .wpCntRows pipe rows).count .wpCntMasked pipe
    ((es.map (fun e => e.2.2.1)).sum - rows)

/-- A lane stops on an uncorrectable read of the page in a frame: only a trailer with STATUS 0x01 is emitted, the page is
restored and the whole chain is reissued afterwards (R95); descriptors of the chain still queued at the pipe go with the
lane (log entry 61). -/
def State.laneUe (s : State) (pipe lane frame : Nat) : State :=
  match getAt none (s.pipe pipe).lanes lane with
  | none => s
  | some l =>
    let es := l.descs.flatMap descEntries
    let read := es.takeWhile (fun e => e.1 != frame)
    let rows := (read.map (fun e => (Weir.visibleRows (laneReq l) e.2.1 e.2.2.1).length)).sum
    let tr : Trailer := { slot := l.slot, pc := pipe % 64, stack := pipe / 64, rows := rows, pages := read.length, status := 1 }
    let s := (s.setPipe pipe (pipeWithout (s.pipe pipe) l.slot)).countRead pipe (laneReq l) read
    let s := s.count .wpCntUe pipe 1
    match s.att? l.slot with
    | none => s
    | some a =>
      match activeChain a pipe with
      | none => s
      | some i =>
        let c := getAt {} a.chains i
        let a := { a with got := a.got ++ [({ pipe := pipe, copy := c.copy, trailer := tr } : Emission)] }
        match c.entries.find? (fun e => e.frame == frame) with
        | none => s
        | some e =>
          if c.copy = 0 then
            let s := s.setAtt l.slot { a with chains := setAt a.chains i { c with ue := some e.page, sent := 0 } }
            (s.startRestore e.page).pushPipe pipe
          else
            let src := pagePc e.page
            let g := (s.store.pent e.page).frame
            let s := s.updStore (fun st =>
              let st := st.copyRaw src g pipe frame
              if (st.pent e.page).wide then st.copyRaw src (g + 1) pipe (frame + 1) else st)
            (s.setAtt l.slot { a with chains := setAt a.chains i { c with sent := 0 } }).pushPipe pipe

/-- The key slot under which a lane reads a frame: the context that owns it, or, where it is no longer in use, the descriptor's
(R89, log entry 172). -/
def State.laneSlot (s : State) (pipe : Nat) (b : Bytes) (f : Nat) : Nat :=
  let h := s.store.frame pipe f
  if h.pstate = .free ∨ h.pstate = .retired then fieldOf (numAt b 4 4) 9 0 else h.ctx

/-- LANE_EMIT: a lane whose last descriptor has come reads its pages and emits its partial records (R78 to R80, R92 to
R94). -/
def execLaneEmit (pipe lane : Nat) (stalls : PipeStalls) (s : State) : Result :=
  match getAt none (s.pipe pipe).lanes lane with
  | none => .next s
  | some l =>
    if !l.last then .next s
    else
      let b := l.descs.headD []
      let es := l.descs.flatMap descEntries
      let kv := descKv b
      let dim := descDim b
      let s := (((s.count .wpStallData pipe stalls.data).count .wpStallRefresh pipe stalls.refresh).count
        .wpStallBank pipe stalls.bank).count .wpStallEmit pipe stalls.emit
      let look (q : State) (e : Nat × Nat × Nat × Nat) : State × Bool := q.sense pipe (rowRegions e.1 kv dim e.2.2.1)
      match es.find? (fun e => (s.store.frame pipe e.1).gen % 256 != e.2.2.2 || (look s e).2) with
      | some e =>
        let s := (es.takeWhile (fun x => x.1 != e.1)).foldl (fun q x => (look q x).1) s
        if (s.store.frame pipe e.1).gen % 256 ≠ e.2.2.2 then
          .next ((((s.closeLane pipe lane).countRead pipe (laneReq l) (es.takeWhile (fun x => x.1 != e.1))).wpFault
            pipe 2 l.slot).pushPipe pipe)
        else .next ((look s e).1.laneUe pipe lane e.1)
      | none =>
        let s := es.foldl (fun q x => (look q x).1) s
        let q := laneReq l
        let d := dimOf dim
        let vis (e : Nat × Nat × Nat × Nat) : List Nat := Weir.visibleRows q e.2.1 e.2.2.1
        let ps := es.map (fun e => Weir.readRows s.store (s.laneSlot pipe b e.1) pipe e.1 kv dim (vis e))
        let rows := (es.map (fun e => (vis e).length)).sum
        let recs := Weir.laneRun s.fresh q kv d ps
        let assay := (numAt b 0 4).testBit 30
        let av := if assay then Weir.laneA s.fresh q d ps else []
        let vv := if assay then Weir.laneV d ps else []
        let tr : Trailer := { slot := l.slot, pc := pipe % 64, stack := pipe / 64, assayrec := assay, rows := rows
                              pages := es.length, a := av, vmax := vv }
        let s := ((s.countRead pipe q es).count .wpCntEmpty pipe (recs.countP (·.empty))).tick
        let s := s.closeLane pipe lane
        let s := match s.att? l.slot with
          | none => s
          | some a =>
            match activeChain a pipe with
            | none => s
            | some i =>
              let c : Chain := getAt {} a.chains i
              s.setAtt l.slot { a with
                chains := setAt a.chains i { c with done := true }
                got := a.got ++ [({ pipe := pipe, copy := c.copy, recs := recs, trailer := tr } : Emission)] }
        .next (s.pushPipe pipe)

/-- PIPE_READ_UE: a pipe's read of an address meets an uncorrectable word (R95). -/
def execPipeReadUe (pipe lane : Nat) (addr : Nat) (s : State) : Result :=
  match getAt none (s.pipe pipe).lanes lane with
  | none => .next s
  | some l =>
    let wide := descDim (l.descs.headD []) == 2
    let inFrame (f : Nat) : Bool :=
      (decide (frameAddr f ≤ addr) && decide (addr < frameAddr f + 0x4000)) ||
      (decide (stubAddr f ≤ addr) && decide (addr < stubAddr f + 0x800))
    match (l.descs.flatMap descEntries).find? (fun e => inFrame e.1 || (wide && inFrame (e.1 + 1))) with
    | none => .next s
    | some e =>
      .next (((s.updStore (fun st => st.markBad (gaddr pipe addr / 32) true)).countUe pipe 1).laneUe pipe lane e.1)

/-! Merging. -/

/-- The response payload of a merged ATTEND: each head's record with its S (R66 to R69, R113 to R115). -/
def State.attBody (s : State) (n : Nat) (a : Att) (ms : List Partial) : State × Bytes :=
  let q := s.attReq n
  let skip := if q.topk = 0 then [] else (candidates a).filter (fun p => !a.chosen.contains p.page)
  let ss := (List.range ms.length).map (fun h =>
    let m := getAt {} ms h
    if m.undef then Config.free32 (4 * Weir.sumId s.fresh 0 h 0 7 + 2)
    else if m.empty then (0 : F32)
    else Weir.skipped (Weir.sumId s.fresh 0 h 0 6) m.m h skip)
  let inf := ss.countP (fun x => decide (x = F.posInf))
  (s.count .hubRetCntSinf 0 inf,
   (List.range ms.length).flatMap (fun h => Weir.recordBytes h q.obf16 (getAt 0 ss h) (getAt {} ms h)))

/-- Keep what the comparison with a spare needs (R476). -/
def State.keepSample (s : State) (n : Nat) (a : Att) (ms : List Partial) (body : Bytes) : State :=
  if !a.sample then s
  else
    let x := s.slot n
    let k := s.sliceOf x.hdr.ctx
    let sh := s.shadowSt k
    let es := emitted a 0
    let r := s.attRoot a
    let used := ((a.chains.filter (fun c => c.copy == 0)).map (fun c => c.pipe / 64)).dedup
    s.setShadowSt k { sh with samples := sh.samples ++
      [{ kvfmt := r.kvfmt, dim := r.dim, load := a.load, served := used, hdr := x.hdr, body := x.body, status := stDone
         resp := body, vmax := maxRecorded (es.map (·.trailer.vmax))
         areas := [maxRecorded (es.map (·.trailer.a)), ms.map (·.m)], pages := a.chosen.length }] }

/-- MERGE_PARTIALS: every pipe has emitted; the partials are merged and the response formed, or kept for the assay's
comparison (R45, R113, R472). -/
def execMergePartials (slot : Nat) (s : State) : Result :=
  match s.att? slot with
  | none => .next s
  | some a =>
    if a.stage ≠ .pipes ∨ !allEmitted a 0 then .next s
    else
      let ms := s.mergeOf slot a 0
      let r := s.attBody slot a ms
      let s := (r.1.tick).keepSample slot a ms r.2
      if a.assay then .next (s.setAtt slot { a with stage := .assay, merged := ms, body := r.2 })
      else .next (s.finish slot stDone r.2 .plain)

/-- ASSAY_COMPARE: the assay copies' merge is compared, their frames are freed and the response leaves (R472, R473). -/
def execAssayCompare (slot : Nat) (s : State) : Result :=
  match s.att? slot with
  | none => .next s
  | some a =>
    if a.stage ≠ .assay ∨ !allEmitted a 1 then .next s
    else
      let x := s.slot slot
      let q := s.attReq slot
      let root := s.attRoot a
      let ms := s.mergeOf slot a 1
      let es := emitted a 0 ++ emitted a 1
      let av := maxRecorded (es.map (·.trailer.a))
      let vv := maxRecorded (es.map (·.trailer.vmax))
      let hacc := Weir.hAcc root.kvfmt (mostPages a)
      let orig := (a.chains.filter (fun c => c.copy == 0)).map (fun c => c.pipe / 64)
      let ks := (orig ++ [a.pipeA / 64, a.pipeB / 64]).dedup
      let s := s.tick
      let s := match Weir.compare (dimOf root.dim) hacc q.obf16 q.sigma av vv a.merged ms with
        | none => s
        | some m =>
          let os := orig.dedup.foldl (fun acc k => acc + 2 ^ k) 0
          ((s.rsFault 7).logMismatch (misRecord 0 m x.hdr a.load a.pipeA a.pipeB os 0 (tband (s.hottest ks))) ks 0).count
            .rsCntMismatch 0 1
      let s := (s.count .rsCntAssay 0 1).dropCopies a.frames
      .next (s.finish slot stDone a.body .plain)

end Sys2Proof.Machine
end

