-- ==== Sys2Proof/Machine/HostRings.lean ====
section
/-! DEFINITION. The completion and response rings of a VF (12.3). -/

namespace Sys2Proof.Machine

namespace State

/-- Records of a VF's completion ring, bytes of its response ring (R374). -/
def cqSize (s : State) (v : Nat) : Nat := 2 ^ s.rfld .hpVfRingCfg v 4 0
def rspSize (s : State) (v : Nat) : Nat := 2 ^ s.rfld .hpVfRingCfg v 9 5
/-- Whether a VF's aperture and rings are in use (R374). -/
def ringOn (s : State) (v : Nat) : Bool := s.rbit .hpVfRingCfg v 10

/-- Whether the host ports serve their hosts: until step 5 of start-up has ended they answer configuration requests with a retry
status, so that nothing reaches a BAR (R512); a module whose converters are off serves none. -/
def hostOpen (s : State) : Bool := decide (s.power.rails = .on) && decide (6 ≤ s.power.step)

/-- Whether a port has a trained link and serves it. -/
def portUp (s : State) (p : Nat) : Bool := (s.hport p).width != 0 && s.hostOpen

/-- Bytes of a response's block, and those it takes with what it passes over at the ring's end (R375). -/
def blockBytes (r : HostRsp) : Nat := roundUp (32 + r.body.length) 64
def blockTakes (s : State) (r : HostRsp) : Nat :=
  let x := s.vf r.vf
  let b := blockBytes r
  if x.rspTail + b ≤ s.rspSize r.vf then b else s.rspSize r.vf - x.rspTail + b

/-- Whether the rings have room for a response (R376). -/
def ringRoom (s : State) (r : HostRsp) : Bool :=
  let x := s.vf r.vf
  s.ringOn r.vf && decide (x.rspUsed + s.blockTakes r ≤ s.rspSize r.vf) && decide (x.cqUsed < s.cqSize r.vf)

/-- The response of a VF that is next to be written. -/
def nextRsp (s : State) (v : Nat) : Option HostRsp := s.host.rspq.find? (fun r => r.vf == v)

/-- Whether a response of a VF waits for ring space (HP_VF_RING_STATUS.HOLD). -/
def ringHold (s : State) (v : Nat) : Bool :=
  match s.nextRsp v with
  | some r => !(s.vf v).flr && !s.ringRoom r
  | none => false

/-- Charge one unit of 4,096 hub cycles to every response that waits for ring space (R376). -/
def chargeRings (s : State) : State :=
  s.host.rspq.foldl (fun q r => if q.ringHold r.vf then q.count .hpStallRing r.vf 1 else q) s

/-- The completion record of a response (Table 12-2). -/
def cqRecord (pass roff : Nat) (h : Hdr) (rlen : Nat) : Bytes :=
  leBytes 4 ((1 - pass % 2) + place 8 h.status + place 16 h.kind + place 22 (bnat (h.flag flagReissued))) ++
  leBytes 4 (h.seq % 2 ^ 32) ++ leBytes 4 roff ++ leBytes 4 rlen

/-- A message for the completion ring (R377). -/
def ringIrq (s : State) (v : Nat) : State :=
  (s.updVf v (fun x => { x with armed := false })).requestMsix v (s.rfld .hpVfCqIrq v 2 0)

/-- Write a response's block and record, advance the tails and request the armed message (R375, R377). -/
def writeRsp (s : State) (r : HostRsp) : State :=
  let x := s.vf r.vf
  let p := r.vf / 1024
  let b := blockBytes r
  let size := s.rspSize r.vf
  let at0 := if x.rspTail + b ≤ size then x.rspTail else 0
  let tee := x.tdi == .run
  let rlen := 32 + r.body.length
  let s := s.emit (.hostWrite p (r.vf % 1024) (s.rfld .hpVfRspBase r.vf 63 12 * 4096 + at0) tee (r.hdr.toBytes ++ r.body))
  let s := s.emit (.hostWrite p (r.vf % 1024) (s.rfld .hpVfCqBase r.vf 63 6 * 64 + 16 * x.cqTail) tee
    (cqRecord x.cqPass (at0 / 64) r.hdr rlen))
  let last := x.cqTail + 1 = s.cqSize r.vf
  let s := s.setVf r.vf { x with
    rspTail := (at0 + b) % size
    rspUsed := x.rspUsed + s.blockTakes r
    cqTail := if last then 0 else x.cqTail + 1
    cqPass := if last then x.cqPass + 1 else x.cqPass
    cqUsed := x.cqUsed + 1 }
  let s := s.count .hpCntRsp r.vf 1
  let s := if r.slot.isSome then s.count .rqCntResp 0 1 else s
  if x.armed then s.ringIrq r.vf else s

/-- Take a response off the list. -/
def dropRsp (s : State) (r : HostRsp) : State := { s with host := { s.host with rspq := s.host.rspq.erase r } }

/-- A response that an FLR keeps from host memory (R390): it is counted, and its slot is freed. -/
def dropFormed (s : State) (r : HostRsp) : State :=
  let s := (s.dropRsp r).count .hpDropRspflr r.vf 1
  match r.slot with
  | some n => s.freeSlot n
  | none => s

end State

end Sys2Proof.Machine
end

