-- ==== Sys2Proof/Machine/Requests.lean ====
section
/-! DEFINITION. The commands of requests other than ATTEND, of admission and of the request table (chapters 1, 5, 7,
8, 9 and 11). -/

namespace Sys2Proof.Machine

namespace State

/-! APPEND (R33, R43, R147 to R154, R279). -/

/-- The streams a request names by LAYER and KVH. -/
def ownStream (h : Hdr) (r : Root) (ix : Nat) : Bool := ix == Store.streamIx r h.layer h.kvh

/-- Free rows of a stream's open page, as far as rows are accepted. -/
def openRoom (s : State) (r : Root) (d : Stream) : Nat :=
  if d.openv then tokensPerPage r.kvfmt - (s.store.header d.openPage).rows else 0

/-- Whether tentative rows need a page held aside (R153). -/
def needsAside (s : State) (r : Root) (d : Stream) (tent : Bool) (n : Nat) : Bool :=
  tent && d.openv && decide (s.openRoom r d < n)

/-- Pages an APPEND would take. -/
def pagesTaken (s : State) (r : Root) (d : Stream) (tent : Bool) (n : Nat) : Nat :=
  if s.needsAside r d tent n then 1 else ceilDiv (n - s.openRoom r d) (tokensPerPage r.kvfmt)

/-- Whether an APPEND is out of range (R26, R29, R32, R33, R43, R154, R279). -/
def appendBad (s : State) (h : Hdr) (r : Root) (d : Stream) (pos n : Nat) : Bool :=
  let tent := h.flag flagTentative
  decide (32 ≤ h.kvh) || !r.headSet.testBit h.kvh || decide (r.layers ≤ h.layer) ||
  ownTotal h != appendLen r.kvfmt r.dim n || d.closed || pos != d.length || decide (2 ^ 24 < pos + n) ||
  (tent && (r.group || decide (16 < d.tent + n))) || (!tent && decide (0 < d.tent)) ||
  (r.pageLimit != 0 && decide (r.pageLimit < d.pages.length + s.pagesTaken r d tent n))

/-- Write the rows of an APPEND and send them to the partner (R147, R153). Where tentative rows cannot be read, or the
controller reports a write into the open page as failed, the page is first restored (R162, R164) and the APPEND runs again. The specification names no pseudo-channel for the counters of a refusal: PG_CNT_NOFRAME is counted in R134's
first choice and PG_CNT_NOLEDGER in the first pseudo-channel of the slice (log entry 39). -/
def appendRows (s : State) (n a ix : Nat) (r : Root) (pos rows : Nat) : State :=
  let x := s.slot n
  let d := s.store.stream a ix
  let tent := x.hdr.flag flagTentative
  let rs := bodyRows (bodyOf x.hdr x.body) r.kvfmt r.dim rows
  let g : Staged := { root := a, ix := ix, pos := pos, n := rows, tent := tent }
  let out := if s.needsAside r d tent rows then s.stageAside r g rs else stageRows (2 * rows + 2) s r g rs
  match out with
  | .error .frame =>
    (s.count .pgCntNoframe (getAt 0 (s.ctxPcs r.ctx) (placeStart r ix d.pages.length % (s.ctxPcs r.ctx).length))
      1).finish n stBusy [] .plain
  | .error .ledger => (s.count .pgCntNoledger ((s.ctxPcs r.ctx).headD 0) 1).finish n stBusy [] .plain
  | .error .unread =>
    if (s.restore? d.openPage).isSome then s
    else
      let f := s.store.frameOf d.openPage
      let had := (s.store.header d.openPage).rows
      let s := if s.needsAside r d tent rows then (s.sense (pagePc d.openPage) (rowRegions f r.kvfmt r.dim had)).1
        else s.putRows d.openPage r.kvfmt r.dim had (rs.take (tokensPerPage r.kvfmt - had))
      s.startRestore d.openPage
  | .ok (t, g) =>
    match (t.beginWait n r.ctx).sendParts n r g g.parts with
    | some t => t.updSlot n (fun y => { y with prog := .staged g })
    | none => (t.failStaged g).finish n stBusy [] .plain

/-! OPEN_CONV (R25, R30, R250, R254 to R257, R281). -/

/-- The fields of an OPEN_CONV body (Table 09-6). -/
structure OpenReq where
  join : Nat := 0
  kvfmt : Nat := 0
  dim : Nat := 0
  layers : Nat := 0
  kvhs : Nat := 0
  npat : Nat := 0
  headSet : Nat := 0
  firstPage : Nat := 0
  pageLimit : Nat := 0
  ghandle : Nat := 0
  pats : List (Nat × Nat × Nat × Nat) := []
deriving DecidableEq, Repr

/-- Read an OPEN_CONV body; a pattern is VCTX, VCONV, CCTX and CCONV (Table 09-7). -/
def openReq (b : Bytes) : OpenReq :=
  let w := numAt b 0 4
  let w8 := numAt b 8 8
  let np := fieldOf w 23 21
  { join := fieldOf w 1 0, kvfmt := fieldOf w 5 2, dim := fieldOf w 7 6, layers := fieldOf w 15 8 + 1,
    kvhs := fieldOf w 20 16 + 1, npat := np, headSet := numAt b 4 4, firstPage := fieldOf w8 23 0,
    pageLimit := fieldOf w8 47 24, ghandle := numAt b 0x10 8
    pats := (List.range np).map (fun i =>
      let o := 32 + 32 * i
      (fieldOf (numAt b (o + 8) 8) 9 0, numAt b o 8, fieldOf (numAt b (o + 0x18) 8) 9 0, numAt b (o + 0x10) 8)) }

/-- Whether a pattern's CTX bits match a context. -/
def patCtx (p : Nat × Nat × Nat × Nat) (c : Nat) : Bool := ((c ^^^ p.1) &&& p.2.2.1) == 0

/-- Whether R256 forbids a pattern of a group of context c: every context it matches must be one that may share the group,
which takes one slice as well as one share class (R31, R429). -/
def patForbidden (s : State) (c : Nat) (p : Nat × Nat × Nat × Nat) : Bool :=
  p.2.2.1 != 1023 && (List.range 1024).any (fun k => patCtx p k && !(s.mayShare c k && s.sliceOf c == s.sliceOf k))

/-- Checks 1 to 4 of R281. -/
def openCheck (s : State) (h : Hdr) (q : OpenReq) : Option Nat :=
  let g := h.flag flagGroup
  if h.layer ≠ 0 ∨ h.kvh ≠ 0 ∨ q.join = 3 ∨ 4 < q.npat ∨ (q.npat ≠ 0 ∧ !g) ∨ (q.join ≠ 0 ∧ g) ∨
      h.total ≠ 32 + 32 * q.npat then some stBadRange
  else if 6 < q.kvfmt ∨ q.dim = 3 ∨ 160 < q.layers ∨ 32 < q.kvhs then some stFormat
  else if q.headSet = 0 ∨ 2 ^ q.kvhs ≤ q.headSet then some stBadRange
  else if q.pats.any (s.patForbidden h.ctx) then some stBadRange
  else none

/-- The group a joining OPEN_CONV finds (R254); a search that stalls finds nothing yet (R249, R265). -/
def findGroup (s : State) (n : Nat) (h : Hdr) (q : OpenReq) : State × Look :=
  let key := if q.join = 1 then camKey h.ctx kindGroup q.ghandle else camKey h.ctx kindJoin h.conv
  let r : State × Cam.Found :=
    if s.cam.waiting.contains (searchSlot n) then (s, (s.cam.searchAt key 0 0 0).found)
    else s.camSearch (searchJoin n) key 0 0
  match r with
  | (s, .hit _ d) =>
    if assocPend d || assocClosing d then (s, .miss)
    else
      match s.store.root (assocLedger d) with
      | some g => if g.closepend ∨ (g.ctx ≠ h.ctx ∧ !assocXctx d) then (s, .miss) else (s, .record (assocLedger d))
      | none => (s, .miss)
  | (s, .miss) => (s, .miss)
  | (s, .stall _) => (s, .stall)

/-- Checks 5 to 7 of R281 for a found group. -/
def joinCheck (s : State) (a : Nat) (q : OpenReq) : Option Nat :=
  match s.store.root a with
  | none => some stNoConv
  | some g =>
    if (List.range (Store.nstreams g)).any (fun i => !(s.store.stream a i).closed) then some stBusy
    else if g.kvfmt ≠ q.kvfmt ∨ g.dim ≠ q.dim ∨ g.layers ≠ q.layers then some stFormat
    else if g.headSet ≠ q.headSet then some stBadRange
    else none

/-- The JOIN entry of a pattern (R243, R254, R256). It carries no PEND while its OPEN_CONV has not answered: the group's own
entry carries it, and a search that reaches the group meets that (DESIGN CHOICE, log entry 178). -/
def joinEntry (s : State) (c a : Nat) (p : Nat × Nat × Nat × Nat) : CamEntry :=
  ⟨camKey (p.1 &&& p.2.2.1) kindJoin (p.2.1 &&& p.2.2.2), fixedCare + p.2.2.1 + place 16 p.2.2.2,
    assoc a (s.sliceOf c) false false (p.2.2.1 != 1023)⟩

/-- The last part of an OPEN_CONV: the record is mirrored, and PEND is cleared when the partner has it (R250 steps 4
and 5). -/
def openMirror (s : State) (n a : Nat) : State :=
  match s.store.root a with
  | none => s
  | some r =>
    match s.mirrorSend r.ctx r.conv 0 0 { op := opMopen, grp := r.group } (s.store.recordBytes a r) (.rows n 0) with
    | none => (s.undoJoin a).complete n stBusy []
    | some s =>
      let s := s.updSlot n (fun x => { x with waits := x.waits + 1, prog := .confirm stDone [] (.openConv a) })
      if r.groupLedger = 0 then s else s.mirrorRecord (some n) r.groupLedger

/-- Insert the join patterns of a group; one that finds its run full waits for the rebalancer, and is counted once (R257). -/
def insertJoins (s : State) (n a : Nat) : List CamEntry → State
  | [] => s.openMirror n a
  | e :: rest =>
    if 15 * s.ordRuns ≤ s.cam.joinCount then ((s.count .lcCntFull 0 1).undoJoin a).complete n stBusy []
    else
      match if s.cam.rebuild then none else s.cam.insertJoin s.ordRuns e with
      | none =>
        let again := decide ((s.slot n).prog = .inserting (e :: rest) a)
        (if again then s else s.count .lcCntInswait 0 1).updSlot n (fun x => { x with prog := .inserting (e :: rest) a })
      | some (c, m) =>
        let s := { s with cam := { c with joins := c.joins ++ [e] } }
        ((s.count .lcCntInsert 0 1).count .lcCntMoves 0 m).insertJoins n a rest

/-- Insertions that wait for a free row of their run go on (R257, R258). -/
def resumeInserts (s : State) : State :=
  s.slots.foldl (fun q e => match (q.slot e.1).prog with
    | .inserting left a => if (q.slot e.1).state = .active then q.insertJoins e.1 a left else q
    | _ => q) s

/-- Insert the entry and make the record of a checked OPEN_CONV (R250, R281 step 8). A group's handle whose entry is CLOSING
is answered NO_CONV (R31, R260). -/
def openInsert (s : State) (n : Nat) (q : OpenReq) (g : Option Nat) : State :=
  let x := s.slot n
  let grp := x.hdr.flag flagGroup
  match s.camSearch (searchSlot n) (reqKey x.hdr) 0 0 with
  | (s, .stall _) => s
  | (s, .hit _ d) =>
    if assocClosing d then s.complete n stNoConv []
    else if assocPend d && x.reissued then s.openMirror n (assocLedger d) else s.complete n stBusy []
  | (s, .miss) =>
    match s.cam.freeRow s.ordRuns s.camTotal with
    | none => (s.count .lcCntFull 0 1).complete n stBusy []
    | some i =>
      let c := x.hdr.ctx
      let r : Root :=
        { conv := x.hdr.conv, ctx := c, group := grp, kvfmt := q.kvfmt, dim := q.dim, layers := q.layers, kvhs := q.kvhs,
          headSet := q.headSet, firstPage := q.firstPage, pageLimit := q.pageLimit, groupLedger := g.getD 0
          originNode := s.node }
      match s.store.makeRecord (s.ctxPcs c) r with
      | none => (s.count .pgCntNoledger ((s.ctxPcs c).headD 0) 1).complete n stBusy []
      | some (st, a) =>
        let st := (List.range (Store.nstreams r)).foldl (fun (t : Store) k =>
          let base := match g with
            | some ga => (t.stream ga k).length
            | none => q.firstPage * tokensPerPage q.kvfmt
          t.setStream a k { length := base, basepos := base }) st
        let st := match g with
          | some ga => st.updRoot ga (fun y => { y with members := y.members + 1 })
          | none => st
        let e : CamEntry := ⟨reqKey x.hdr, allCare, assoc a (s.sliceOf c) true false false⟩
        let s := ({ s with store := st, cam := s.cam.put i e }).count .lcCntInsert 0 1
        s.insertJoins n a (q.pats.map (s.joinEntry c a))

/-- OPEN_CONV at its turn. -/
def openConv (s : State) (n : Nat) : State :=
  let x := s.slot n
  let q := openReq x.body
  if s.isLost x.hdr.ctx x.hdr.conv then (s.count .rsCntLost 0 1).complete n stLost []
  else
    match s.openCheck x.hdr q with
    | some st => s.complete n st []
    | none =>
      if q.join = 0 then s.openInsert n q none
      else
        match s.findGroup n x.hdr q with
        | (s, .stall) => s
        | (s, .miss) => s.complete n stNoConv []
        | (s, .record a) =>
          match s.joinCheck a q with
          | some st => s.complete n st []
          | none => s.openInsert n q (some a)

/-! CLOSE_CONV (R31, R39, R175, R223, R224, R252, R260). -/

/-- Free a page of a closed record: a coded page leaves its group first (R175, R224). -/
def retirePage (s : State) (p : Nat) : State :=
  if Store.isGap p then s
  else
    let h := s.anyHeader p
    if h.pstate = .sealed ∧ h.cidx < 8 then if (s.store.pent p).tier = .silt then s.queueRead p .remove else s.uncode p
    else if s.contributing p then s
    else s.updStore (fun st => st.freePage p)

/-- Free a record with its pages, and drop restorations nobody needs. -/
def retireRecord (s : State) (a : Nat) : State :=
  match s.store.root a with
  | none => s
  | some r =>
    let ps := (List.range (Store.nstreams r)).flatMap (fun i => (s.store.stream a i).pages.map (·.page))
    let s := s.updStore (fun st => (List.range (Store.nstreams r)).foldl (fun (t : Store) i =>
      t.updStream a i (fun x => { x with pages := [] })) st)
    let s := ps.foldl (fun q p => q.retirePage p) s
    let s := { s with
      rel := { s.rel with gaps := s.rel.gaps.filter (fun g => !(g.ctx == r.ctx && g.conv == r.conv)) } }
    (s.updStore (fun st => st.freeRecord a)).forgetCopied a

/-- Clear the row of a record's entry, then free it, telling the partner (R171, R252). -/
def removeRecord (s : State) (n : Option Nat) (a : Nat) : State :=
  match s.store.root a with
  | none => s
  | some r =>
    let s := match s.rowOf (if r.group then kindGroup else kindConv) r.ctx r.conv with
      | some i => { s with cam := s.cam.clear i }
      | none => s
    let s := s.mirrorChange n r.ctx r.conv 0 0 { op := opMstate, grp := r.group, arg := 4 } []
    s.retireRecord a

/-- Remove a group's JOIN entries (R260). -/
def removeJoins (s : State) (a : Nat) : State :=
  let rows := s.cam.rows.filter (fun e => e.2.sValid && kindOf e.2.sValue == kindJoin && assocLedger e.2.data == a)
  let c := rows.foldl (fun q e => q.clear e.1) s.cam
  { s with cam := { c with joins := c.joins.filter (fun e => assocLedger e.data != a) } }

/-- A member leaves its group; the last one of a closed group frees it (R31). -/
def leaveGroup (s : State) (n : Option Nat) (g : Nat) : State :=
  if g = 0 then s
  else
    let s := s.updStore (fun st => st.updRoot g (fun y => { y with members := y.members - 1 }))
    match s.store.root g with
    | some y => if y.closepend ∧ y.members = 0 then s.removeRecord n g else s.mirrorRecord n g
    | none => s

/-- The effect of a CLOSE_CONV on a conversation or group. -/
def closeConv (s : State) (n : Option Nat) (a : Nat) (r : Root) : State :=
  if r.group then
    let s := s.removeJoins a
    if r.members = 0 then s.removeRecord n a
    else
      let s := match s.rowOf kindGroup r.ctx r.conv with
        | some i => { s with cam := s.cam.setData i (assocBit (s.cam.row i).data 45 true) }
        | none => s
      let s := s.updStore (fun st => st.updRoot a (fun y => { y with closepend := true }))
      s.mirrorRecord n a
  else (s.removeRecord n a).leaveGroup n r.groupLedger

/-! HINT (R221, R223, R226, R283). -/

/-- Withdraw the sinking of pages whose hint now keeps them in DRAM (R223). -/
def keepNear (s : State) (ps : List Nat) : State :=
  s.updStore (fun st => { st with
    chans := st.chans.map (fun e => (e.1, { e.2 with
      queue := (e.2.queue.filter (fun j => !(decide (j.kind = .copy) && !j.started && ps.contains j.page))).map (fun j =>
        if decide (j.kind = .copy) && ps.contains j.page then { j with release := false } else j) })) })

/-- The pages a conversation's hint promotes or keeps, in the order of R226. -/
def hintPages (s : State) (a : Nat) (r : Root) : List Nat :=
  (List.range (Store.nstreams r)).flatMap (fun i => (s.store.allPages a i).reverse.map (fun e => e.2.page))

/-- Set a hint and start what it asks for at once (Table 07-3, R223, log entry 56); releases the new hint does not ask for are
withdrawn. -/
def setHint (s : State) (a : Nat) (r : Root) (hint : Hint) : State :=
  let s := s.updStore (fun st => st.updRoot a (fun y => { y with hint := hint }))
  let ps := s.hintPages a r
  let s := if hintKeeps hint then s.keepNear ps else ps.foldl sinkCold s
  let s := s.trimReleases
  (if hint = .resumeSoon then ps.foldl (fun q p => (q.promotePage p 3 none false).1) s else s).pumpSilt

/-! Relays, skips and stalls. -/

/-- Answer a queued request that a skip passes: it leaves the queue with an ECHO of BUSY (R353). -/
def skipQueued (s : State) (o q : Nat) : State :=
  match s.ctxs.findSome? (fun e => (e.2.queue.find? (fun r => r.hdr.origin == o && r.hdr.seq == q)).map (fun r => (e.1, r))) with
  | none => s
  | some (c, r) =>
    let s := s.updCtx c (fun g => { g with queue := g.queue.filter (fun x => x != r) })
    let s := s.sendResponse r.src (s.respHdrOf r.hdr false kEcho stBusy 0) [] none
    let s := ((s.count .hgCntSkipq c 1).count .rqCntEcho 0 1).count .rqCntResp 0 1
    headCheck ((s.ctx c).queue.length + 1) s c

/-- Skip every missing sequence of an origin below its lowest HELD request (R295). -/
def skipTo : Nat → State → Nat → Nat → State
  | 0, s, _, _ => s
  | k + 1, s, o, q =>
    match s.origin? o with
    | none => s
    | some e =>
      if e.next < q ∧ (s.heldSlot o e.next).isNone then
        skipTo k (((s.skipQueued o e.next).count .rqCntSkip 0 1).resolve o e.next stBusy) o q
      else s

/-- The lowest HELD sequence of an origin, with its slot. -/
def lowestHeld (s : State) (o : Nat) : Option (Nat × Slot) :=
  (s.slots.filter (fun e => decide (e.2.state = .held) && e.2.hdr.origin == o)).foldl (fun b e =>
    match b with
    | none => some (e.2.hdr.seq, e.2)
    | some (q, _) => if e.2.hdr.seq < q then some (e.2.hdr.seq, e.2) else b) none

/-- The silt pages a slot waits for in stage 7. -/
def siltWait (s : State) (x : Slot) : List Nat :=
  match x.prog with
  | .promote ps => s.siltOf ps
  | .attend a => if a.stage = .silt then s.siltOf a.chosen else []
  | _ => []

/-- One unit of stage 7 by what a slot waits for: a restoration, else a frame, else flash (Table 07-8, log entry 41). -/
def chargeSilt (s : State) (n : Nat) : State :=
  let x := s.slot n
  if x.state = .active then
    match s.siltWait x with
    | [] => s
    | ps =>
      let noFrame := ps.any (fun p => match s.promotionOf p with
        | some (c, i) => !(getAt {} (s.store.chan c).queue i : ChanJob).started &&
            (s.store.freeFrame (pagePc p) (s.store.pent p).wide).isNone
        | none => false)
      let u := x.units
      let u := if ps.any (fun p => (s.restore? p).isSome) then (u.1, u.2.1, u.2.2 + 1)
        else if noFrame then (u.1, u.2.1 + 1, u.2.2) else (u.1 + 1, u.2.1, u.2.2)
      s.setSlot n { x with units := u }
  else s

/-- One accrual unit of a context's bucket and waiting head (R345, R348): the unit that ends is charged to what the head was
short of in it. -/
def accrue (s : State) (c : Nat) : State :=
  let g := s.ctx c
  let s := match g.queue with
    | [] => s
    | r :: _ =>
      if r.waited then
        let q := if s.canPay c (s.charge r.hdr) then s else s.count .hgStallTokens c 1
        if s.slotAvailable c then q else q.count .hgStallSlots c 1
      else s
  s.setCtx c { g with tokens := Nat.min (s.burst c) (g.tokens + s.rfld .hgBktRate c 31 0) }

/-- The registers of group HG_CTX of a context. -/
def hgCtxGroup (c : Nat) : List (Reg × Nat) := [(.hgBktRate, c), (.hgBktBurst, c), (.hgCtxSlots, c), (.hgCtxArb, c)]

/-- Let a waiting commit of a context's group take effect, clipping TOKENS, which is BURST while the context is not shaped
(R346, R351). -/
def applyHgCtx (s : State) (c : Nat) : State :=
  if (s.captured .hgBktRate c).isSome then
    let t := s.tokens c
    let s := s.takeEffect (hgCtxGroup c)
    s.updCtx c (fun g => { g with tokens := Nat.min (s.burst c) t })
  else s

end State

open State

/-- APPEND (R33): checks, rows written and sent to the partner. -/
def execAppend (slot : Nat) (s : State) : Result :=
  match s.enter slot kAppend (ownStream (s.slot slot).hdr) with
  | .stop s => .next s
  | .go s a r =>
    let x := s.slot slot
    let b := bodyOf x.hdr x.body
    let pos := numAt b 0 3
    let n := byteAt b 3 + 1
    let ix := Store.streamIx r x.hdr.layer x.hdr.kvh
    let d := s.store.stream a ix
    if s.appendBad x.hdr r d pos n then .next (s.finish slot stBadRange [] .plain)
    else
      match s.listStale (if d.openv then [d.openPage] else []) with
      | some p => .next ((s.staleUse p).finish slot stBusy [] .plain)
      | none => .next (s.appendRows slot a ix r pos n)

/-- SEAL (R29, R151, R282): the open page of each stream named is sealed; with GROUP the streams are closed. -/
def execSeal (slot : Nat) (s : State) : Result :=
  let h := (s.slot slot).hdr
  let b := bodyOf h (s.slot slot).body
  match s.enter slot kSeal (fun r ix => ((streamSet h b r).getD []).contains ix) with
  | .stop s => .next s
  | .go s a r =>
    match streamSet h b r with
    | none => .next (s.finish slot stBadRange [] .plain)
    | some set =>
      if set.any (fun ix => (s.store.stream a ix).openv && decide (0 < (s.store.stream a ix).tent)) then
        .next (s.finish slot stBadRange [] .plain)
      else
        match s.listStale ((set.filter (fun ix => (s.store.stream a ix).openv)).map (fun ix => (s.store.stream a ix).openPage)) with
        | some p => .next ((s.staleUse p).finish slot stBusy [] .plain)
        | none =>
        let s := set.foldl (fun q ix =>
          let d := q.store.stream a ix
          if d.openv then
            if (q.store.header d.openPage).rows = 0 then q.dropPage a ix d.openPage
            else q.sealStart a ix d.openPage (some slot)
          else q) s
        let s := if r.group then
            (s.updStore (fun st => set.foldl (fun (t : Store) ix =>
              t.updStream a ix (fun d => { d with closed := true })) st)).mirrorRecord (some slot) a
          else s
        .next (s.finish slot stDone [] .plain)

/-- HINT (R221, R226, R283): the hint is recorded and mirrored; RESUME_SOON starts promotions. -/
def execHint (slot : Nat) (s : State) : Result :=
  let x := s.slot slot
  match s.enter slot kHint (fun _ _ => false) with
  | .stop s => .next s
  | .go s a r =>
    let code := fieldOf (byteAt (bodyOf x.hdr x.body) 0) 1 0
    match s.listStale (s.hintPages a r) with
    | some p => .next ((s.staleUse p).finish slot stBusy [] .plain)
    | none =>
    let s := s.mirrorChange (some slot) r.ctx r.conv 0 0
      { op := opMstate, grp := r.group, arg := 3, arg2 := code } []
    .next ((s.setHint a r (Store.hintOf code)).finish slot stDone [] .plain)

/-- OPEN_CONV (R281). -/
def execOpenConv (slot : Nat) (s : State) : Result :=
  if s.atTurn slot kOpenConv then
    let s := s.senseFor slot
    .next (if s.metaStalls (s.slot slot) then s else (s.openConv slot).resumeInserts)
  else .next s

/-- CLOSE_CONV (R39): it waits for staged rows and for ATTENDs that still read the pages. -/
def execCloseConv (slot : Nat) (s : State) : Result :=
  match s.enter slot kCloseConv (fun _ _ => true) with
  | .stop s => .next s
  | .go s a r =>
    if s.attending a then .next s
    else
      let x := s.slot slot
      let s := s.shadowRelay a x.hdr x.body
      let s := (s.closeConv (some slot) a r).dropLost x.hdr.ctx x.hdr.conv
      .next (s.finish slot stDone [] .plain).resumeInserts

/-- PROMOTE (R226, R229): the SILT pages of the streams named are promoted under the stall limit. -/
def execPromote (slot : Nat) (s : State) : Result :=
  let h := (s.slot slot).hdr
  let b := bodyOf h (s.slot slot).body
  match s.enter slot kPromote (fun _ _ => false) with
  | .stop s => .next s
  | .go s a r =>
    match streamSet h b r with
    | none => .next (s.finish slot stBadRange [] .plain)
    | some set =>
      let ps := set.flatMap (fun ix => (s.store.allPages a ix).map (fun e => e.2.page))
      if ps.any Store.isGap then .next ((s.count .rsCntGapbusy 0 1).finish slot stBusy [] .plain)
      else
        match s.listStale ps with
        | some p => .next ((s.staleUse p).finish slot stBusy [] .plain)
        | none =>
        let deep := s.siltOf ps
        if deep.isEmpty then .next (s.finish slot stDone [] .plain)
        else
          let s := s.updSlot slot (fun x => { x with
            prog := .promote deep, stall := s.hubUnits, limit := s.stallLimit deep, stalled := true, units := (0, 0, 0)
            stallCh := (s.store.pent (deep.headD 0)).silt % 16 })
          let s := s.count .stCntStalled ((s.store.pent (deep.headD 0)).silt % 16) 1
          .next ((deep.foldl (fun q p => (q.promotePage p 3 none false).1) s).pumpSilt.siltWaiters)

/-- REBALANCE (R258): the rebalancer restores a free row of a full run, and insertions that wait for one go on. -/
def execRebalance (s : State) : Result :=
  match if s.cam.rebuild then none else s.cam.fullRun s.ordRuns with
  | none => .next (if s.cam.rebuild then s else s.resumeInserts)
  | some run =>
    let c := s.cam.rebalance s.ordRuns run
    .next (({ s with cam := c.1 } : State).count .lcCntMoves 0 c.2).resumeInserts

/-- HG_GRANT (R351, R354): arbitration's turn at a context. A visit grants; it comes only in the ascending order of the
contexts with an eligible head. At one whose head is not eligible a waiting commit takes effect and nothing is granted. -/
def execHgGrant (ctx : Nat) (s : State) : Result :=
  let ready (q : State) : Bool := match (q.ctx ctx).queue with | r :: _ => q.eligible ctx r | [] => false
  if ready s && s.nextTurn != some ctx then .next s
  else
    let s := s.applyHgCtx ctx
    let s := if ready s && s.nextTurn == some ctx then
        let s : State := { s.updCtx ctx (fun g => { g with deficit := g.deficit + 64 * s.rfld .hgCtxArb ctx 7 0 }) with
          turn := ctx + 1 }
        grantLoop ((s.ctx ctx).queue.length + 1) s ctx
      else s
    .next (headCheck ((s.ctx ctx).queue.length + 1) s ctx).headsCheck

/-- ACCRUAL_ADVANCE (R345): 4,096 hub cycles pass, and bring what `t` says: upsets of DRAM (R160), the CAM cycles searches
waited for row writes and, where the CAM is throttled, for the throttle (R259, R264), the cycles a thermal step withheld (Table
17-5), and correctable errors of the PCIe ports (Table 15-9). -/
def execAccrualAdvance (t : Tick) (s : State) : Result :=
  let s := t.upsets.foldl (fun q u => q.upsets u.1 [u.2]) s
  let s := s.count .lcStallWrite 0 t.write
  let s := if s.cam.throttle = 0 then s else s.count .lcStallTherm 0 t.therm
  let s := if s.power.bsteps.all (fun e => e.2 == 0) then s else s.count .pwStallPipe 0 t.pipes
  let s := if s.power.hstep = 0 then s else s.count .pwStallReckon 0 t.reckoners
  let s := (t.pcie.filter (fun e => decide (e.1 < 2))).foldl (fun q e => q.pred 5 e.1 0 e.2) s
  let s := { s with hubUnits := s.hubUnits + 1 }
  let s := (List.range 1024).foldl (fun q c => q.accrue c) s
  let held := s.slots.countP (fun e => decide (e.2.state = .held))
  let s := s.count .rqStallGap 0 held
  let s := s.chargeRings
  .next (s.slots.foldl (fun q e => q.chargeSilt e.1) s)

/-- WAIT_LIMIT_EXPIRY (R348): a head has waited WAIT_LIMIT since it entered its queue. -/
def execWaitLimitExpiry (ctx : Nat) (s : State) : Result :=
  match (s.ctx ctx).queue with
  | [] => .next s
  | r :: _ =>
    if s.rbit .hgCtxArb ctx 10 ∧ !s.eligible ctx r ∧ r.since + s.rfld .hgCtxArb ctx 34 19 ≤ s.hubUnits then
      let s := s.quotaHead ctx r
      .next (headCheck ((s.ctx ctx).queue.length + 1) s ctx)
    else .next s

/-- GAP_LIMIT_EXPIRY (R295): the lowest HELD request of an origin has waited GAP_LIMIT. -/
def execGapLimitExpiry (origin : Nat) (s : State) : Result :=
  match s.lowestHeld origin with
  | none => .next s
  | some (q, x) => .next (if x.since + x.limit ≤ s.hubUnits then skipTo 2049 s origin q else s)

/-- REASM_LIMIT_EXPIRY (R288): an entry not complete within its limit is discarded. -/
def execReasmLimitExpiry (src : Src) (cls : CarrierClass) (origin seq : Nat) (s : State) : Result :=
  let same (e : Reasm) : Bool := e.src == src && e.cls == cls && e.hdr.origin == origin && e.hdr.seq == seq
  match s.reasm.find? same with
  | some e =>
    if e.since + e.limit ≤ s.hubUnits then
      .next (({ s with reasm := s.reasm.filter (fun x => !same x) }).count .rqDropReasm 0 1)
    else .next s
  | none => .next s

/-- RELAYED_RESPONSE (R301, R475): a whole response to a request of the module's own has come in. -/
def execRelayedResponse (conn : Nat) (hdr : Hdr) (body : Bytes) (s : State) : Result :=
  match s.ownFor conn hdr with
  | some o => .next (s.unlessOut (s.ownAnswered o hdr body))
  | none => .next s

/-- OWN_REQUEST_RESEND (R299): E2E of the furrow that last carried a request of the module's own has passed. The requests are
counted first, then the markers. -/
def execOwnRequestResend (index : Nat) (s : State) : Result :=
  let o : OwnReq := getAt {} s.own index
  if index < s.own.length ∧ s.sendsRequests ∧ o.sent ∧ o.since + s.e2e o.furrow ≤ s.hubUnits then
    let r := s.sendOwn o
    .next { r.1 with own := setAt r.1.own index r.2 }
  else if s.own.length ≤ index then .next (s.resendMarker (index - s.own.length))
  else .next s

/-- RESPONSE_SEND (R289, R291, R476): the response of a slot is sent, and the slot is freed when its last carrier or its
record has left; a sampled ATTEND is then relayed to the spare. -/
def execResponseSend (slot : Nat) (s : State) : Result :=
  let x := s.slot slot
  if x.state = .respond ∧ x.formed ∧ x.sent = 0 then
    match x.src with
    | .aperture _ =>
      .next ((s.updSlot slot (fun y => { y with sent := 1 })).sendResponse x.src x.respHdr x.resp (some slot))
    | .conn _ =>
      let s := (s.updSlot slot (fun y => { y with sent := carriersOf x.resp.length })).count .rqCntResp 0 1
      .next ((s.sendResponse x.src x.respHdr x.resp (some slot)).relaySample x.hdr)
  else .next s

end Sys2Proof.Machine
end

