-- ==== Sys2Proof/Machine/SluiceCmd.lean ====
section
/-! DEFINITION. The commands of sluice stations, banks and the debug port (6.2 to 6.6, 6.9, 5.11). -/

namespace Sys2Proof.Machine

namespace State

/-- The core a context's SC_VF_SEL selects (Table 06-11). -/
def selectedCore (s : State) (ctx : Nat) : Nat :=
  let v := vfOfCtx ctx
  (s.rfld .scVfSel v 4 0 * 64 + s.rfld .scVfSel v 10 5) * 16 + s.rfld .scVfSel v 14 11

/-- Argument registers of a context. -/
def scArg0 (s : State) (ctx : Nat) : Word := s.reg .scVfArg0 (vfOfCtx ctx)
def scArg1 (s : State) (ctx : Nat) : Word := s.reg .scVfArg1 (vfOfCtx ctx)
def scArg2 (s : State) (ctx : Nat) : Word := s.reg .scVfArg2 (vfOfCtx ctx)

/-- The core a command of a context reaches: leased to it and in READY or FAULT (R186, R204). A command for any other is
discarded and counted. Bits of ARG0 to ARG2 that Table 06-12 does not list are no arguments: the commands below ignore them
(DESIGN CHOICE, log entry 169). -/
def stationCmd (s : State) (ctx : Nat) (f : State → Nat → State) : State :=
  let c := s.selectedCore ctx
  let k := s.core c
  if k.lessee = some ctx ∧ (k.st = .ready ∨ k.st = .fault) then f s c else s.count .scCntCmddrop c 1

/-- The pages GRANT walks: group pages first, from FIRSTIDX, COUNT of them (R145, R205). -/
def grantWalk (s : State) (a ix first count : Nat) : List Nat :=
  (((s.store.allPages a ix).drop first).take count).map (fun e => e.2.page)

/-- Enter one page in the grant table of a core if it lies there; the next free index and the silt pages passed over. -/
def grantOne (c : Nat) (x : State × Nat × Nat) (p : Nat) : State × Nat × Nat :=
  let (s, i, silt) := x
  if 64 ≤ i then x
  else if !s.store.valid p then (s.staleUse p, i, silt)
  else if (s.store.pent p).tier = .silt then (s, i, silt + 1)
  else if s.store.inDram p ∧ pagePc p = c / 16 ∧ s.store.frameOf p % 16 = c % 16 then
    let h := s.store.header p
    let g : Grant :=
      { page := p, firstpos := h.firstpos, rows := h.rows - h.tent, kvfmt := h.kvfmt, dim := h.dim, wide := h.wide,
        valid := true, opened := decide (h.pstate = .opn), frame := s.store.frameOf p, gen := h.gen }
    let s := s.releaseGrants c i 1
    let s := s.updCore c (fun k => { k with grants := SMap.set {} k.grants i g })
    (s.updStore (fun st => { st with pins := p :: st.pins }), i + 1, silt)
  else x

/-- GRANT with the arguments it took (R205). BASE + COUNT does not fault: the walk stops when index 63 is filled (log entry
45). A walk that would read a gap ends with cause CMD (R467). A LAYER past the record's, and a conversation that is not yet
or no longer open, end it with cause CMD as a reserved argument does (DESIGN CHOICE, log entry 170). A lookup that stalls,
and a metadata or ledger word that is uncorrectable (R164), keep the station in RUN. -/
def doGrant (s : State) (g : GrantArgs) (c : Nat) : State :=
  match s.camSearch (searchGrant c) (camKey g.ctx kindConv g.arg0.toNat) 0 0 with
  | (s, .hit _ d) =>
    let a := assocLedger d
    match s.store.root a with
    | none => s.cmdFault c fcCmd
    | some r =>
      let layer := g.arg1.fld 7 0
      let kvh := g.arg1.fld 15 8
      let count := g.arg1.fld 47 40
      if assocPend d ∨ assocClosing d ∨ 32 ≤ kvh ∨ !r.headSet.testBit kvh ∨ r.layers ≤ layer ∨ count = 0 then
        s.cmdFault c fcCmd
      else
        let as := if r.groupLedger = 0 then [a] else [a, r.groupLedger]
        let s := s.senseNeeded g.ctx false as
        if (s.store.metaUe ++ s.store.ledgerUe).any (s.needsWord g.ctx false as) then
          s.updCore c (fun k => { k with st := .run, prog := false, search := some g })
        else
        let base := g.arg1.fld 53 48
        let ps := s.grantWalk a (Store.streamIx r layer kvh) (g.arg1.fld 39 16) count
        if ps.any Store.isGap then (s.count .rsCntGapbusy 0 1).cmdFault c fcCmd
        else
          let (s, i, silt) := ps.foldl (grantOne c) (s, base, 0)
          s.cmdDone c ((i - base) % 256 + 256 * (silt % 256))
  | (s, .miss) => s.cmdFault c fcCmd
  | (s, .stall _) => s.updCore c (fun k => { k with st := .run, prog := false, search := some g })

/-- A GRANT whose lookup stalled at a core goes on, with the arguments it took (R204, R205, R249). -/
def resumeGrant (s : State) (c : Nat) : State :=
  match (s.core c).search with
  | some g => (s.updCore c (fun k => { k with search := none })).doGrant g c
  | none => s

/-- GRANTs that waited for a metadata or ledger word go on as far as they can (R164). -/
def resumeGrants (s : State) : State :=
  s.sluice.cores.foldl (fun q e =>
    if (q.core e.1).search.isSome && !q.cam.waiting.contains (searchGrant e.1) then q.resumeGrant e.1 else q) s

/-- RELEASE (Table 06-12). -/
def doRelease (s : State) (ctx c : Nat) : State :=
  let a := s.scArg0 ctx
  let base := a.fld 5 0
  let n := a.fld 12 6
  if n = 0 ∨ 64 < base + n then s.cmdFault c fcCmd else (s.releaseGrants c base n).cmdDone c 0

/-- DEQ (R61, R181): the command goes to the vendor station, which runs it after those it has taken before. -/
def doDeq (s : State) (ctx c : Nat) : State :=
  let a := s.scArg0 ctx
  let off := (s.scArg1 ctx).toNat
  let g := (s.core c).grant (a.fld 5 0)
  let size := 2 * g.rows * dimOf g.dim * (if a.bit 16 then 2 else 4)
  if !g.valid then s.cmdFault c fcView
  else if off % 1024 ≠ 0 ∨ 0xC0000 < off + size then s.cmdFault c fcCmd
  else
    let s := s.updCore c (fun k => { k with st := .run, prog := false })
    runFront c 4 (s.askCore c { prog := .deq, page := g.page, arg := a.fld 5 0 + place 6 (bnat (a.bit 16)), ix := off })

end State

open State

/-- LOAD (R193, Table 06-12): the mailbox goes to a block of the customer store. -/
def execLoad (ctx : Nat) (s : State) : Result :=
  .next (s.stationCmd ctx (fun s c =>
    let blk := (s.scArg0 ctx).fld 3 0
    let k := s.core c
    let code := (List.range 64).foldl (fun m i =>
      SMap.set 0 m (64 * blk + i) (BitVec.ofNat 32 (leNat (k.scr (0x3F00 + 4 * i) 4)))) k.code
    (s.setCore c { k with code := code }).cmdDone c 0))

/-- RUN (R185, Table 06-12): registers and views are cleared, s1 to s4 are set, and the program runs. It clears FCAUSE; every
other command that ends READY leaves FCAUSE and FPC as they were (DESIGN CHOICE, log entry 80). -/
def execRun (ctx : Nat) (s : State) : Result :=
  .next (s.stationCmd ctx (fun s c =>
    let a1 := s.scArg1 ctx
    let a2 := s.scArg2 ctx
    let k : Core := { s.core c with regs := [], vregs := [], views := [], st := .run, prog := true, burst := none,
                                    fcause := 0, pc := (s.scArg0 ctx).fld 9 0, preempted := (s.core c).vendor }
    let k := k.setReg 1 (BitVec.ofNat 32 (a1.fld 31 0))
    let k := k.setReg 2 (BitVec.ofNat 32 (a1.fld 63 32))
    let k := k.setReg 3 (BitVec.ofNat 32 (a2.fld 31 0))
    s.setCore c (k.setReg 4 (BitVec.ofNat 32 (a2.fld 63 32)))))

/-- STOP (R185): accepted in any state; it ends a program with RESULT 0xFFFF. -/
def execStop (ctx : Nat) (s : State) : Result :=
  let c := s.selectedCore ctx
  .next (if (s.core c).lessee = some ctx then (s.stopStation c).count .scCntCcmd c 1 else s.count .scCntCmddrop c 1)

/-- GRANT (R205). -/
def execGrant (ctx : Nat) (s : State) : Result := 
  .next (s.stationCmd ctx (fun s c => s.doGrant { ctx := ctx, arg0 := s.scArg0 ctx, arg1 := s.scArg1 ctx } c))

/-- RELEASE (R204). -/
def execRelease (ctx : Nat) (s : State) : Result := .next (s.stationCmd ctx (fun s c => s.doRelease ctx c))

/-- DEQ (R204). -/
def execDeq (ctx : Nat) (s : State) : Result := .next (s.stationCmd ctx (fun s c => s.doDeq ctx c))

/-- CLEAR (R204). -/
def execClear (ctx : Nat) (s : State) : Result :=
  .next (s.stationCmd ctx (fun s c => (s.clearStation c).cmdDone c 0))

/-- RESERVED_COMMAND (R204): an OP that Table 06-12 does not list faults with cause CMD. -/
def execReservedCommand (ctx op : Nat) (s : State) : Result :=
  .next (if 1 ≤ op ∧ op ≤ 7 then s else s.stationCmd ctx (fun s c => s.cmdFault c fcCmd))

/-- VENDOR_QUEUE_EMPTY (R183): no vendor work and no SCRUB step is left, and the customer station resumes; `cycles` are
those it spent preempted. -/
def execVendorQueueEmpty (core cycles : Nat) (s : State) : Result :=
  let s := s.runAllDue
  let k := s.core core
  if k.vendor ∧ (s.vendor core).queue.isEmpty then
    .next (if k.preempted then (s.vendorOff core).count .scCntPreempt core cycles else s.vendorOff core)
  else .next s

/-- BANK_GRANT (R185, R190): a pipe read unit or read-modify-write that held the bank has ended, and the first request for
the bank gets it: a waiting burst of a customer station runs on, with the cycles it spent in WAIT by cause, or the vendor
station's command in progress. A refresh that was forced meanwhile goes first. -/
def execBankGrant (core refresh pipe other : Nat) (s : State) : Result :=
  let k := s.core core
  match s.sluice.waiting.find? (fun r => r.core == core) with
  | none => .next s
  | some r =>
    if s.nextReq r.bank ≠ some r then .next s
    else
      let s := s.endUnit r.bank
      if !s.bankFree r.bank then .next s
      else if r.vendor then .next (runFront core 4 (s.updVendor core (fun v => { v with st := .run })))
      else
        match k.burst with
        | none => .next (s.unwait core false)
        | some b =>
          let s := (s.unwait core false).setCore core { k with st := .run, burst := some { b with granted := true } }
          .next (((s.count .scWaitRefresh core refresh).count .scWaitPipe core pipe).count .scWaitOther core other)

/-- BURST_END (R187, R191, R197): the last column access of a burst. -/
def execBurstEnd (core : Nat) (s : State) : Result := .next ((s.burstEnd core).pastEnd core)

/-- Whether a bank exists. -/
def State.bankExists (s : State) (bank : Nat) : Bool := decide (bank < s.stackCount * 64 * 32)

/-- REFRESH_DUE (R165, R166): a refresh of a bank falls due. The controller issues it, or postpones it (`postpone`, its
choice, or because an access holds the bank); a ninth is forced and waits only for that access. -/
def execRefreshDue (bank : Nat) (postpone : Bool) (s : State) : Result :=
  if !s.bankExists bank ∨ s.sluice.refreshing.contains bank ∨ s.sluice.forced.contains bank then .next s
  else
    let n := SMap.get 0 s.sluice.postponed bank
    let free := s.bankFree bank
    if n < 8 ∧ (postpone ∨ !free) then
      .next { s with sluice := { s.sluice with postponed := SMap.set 0 s.sluice.postponed bank (n + 1) } }
    else
      let s := if 8 ≤ n then
          (s.count .pgCntRefForced (bank / 32) 1).pred 1 (bank / 2048) 3 1 else s
      if free then .next (s.refresh bank)
      else .next { s with sluice := { s.sluice with forced := s.sluice.forced ++ [bank] } }

/-- REFRESH_END (R191): the bank is released; `again` makes up one postponed refresh at once. -/
def execRefreshEnd (bank : Nat) (again : Bool) (s : State) : Result :=
  if s.sluice.refreshing.contains bank then
    let n := SMap.get 0 s.sluice.postponed bank
    let s : State := { s with sluice := { s.sluice with refreshing := s.sluice.refreshing.filter (· != bank) } }
    if again ∧ 0 < n then
      .next (({ s with sluice := { s.sluice with postponed := SMap.set 0 s.sluice.postponed bank (n - 1) } } : State).refresh bank)
    else .next s
  else .next s

/-- The core the debug port selects (Table 06-18). -/
def State.debugCore (s : State) : Nat :=
  (s.rfld .scDbgSel 0 4 0 * 64 + s.rfld .scDbgSel 0 10 5) * 16 + s.rfld .scDbgSel 0 14 11

/-- DEBUG_HALT (R212): SC_DBG_CTL.HALT is written; the customer station stops before its next instruction, or goes on. -/
def execDebugHalt (on : Bool) (s : State) : Result :=
  if s.img.conf then .next s
  else
    let s := s.setFld .scDbgCtl 0 0 0 (bnat on)
    .next (if s.debugged s.debugCore then s.updCore s.debugCore (fun k => { k with halted := on }) else s)

/-- DEBUG_STEP (R212): one instruction of a halted customer station. -/
def execDebugStep (s : State) : Result :=
  let c := s.debugCore
  let k := s.core c
  .next (if s.haltedAt c && executing k then (s.runEffect c (s.nextEffect c) false).tick else s)

end Sys2Proof.Machine
end

