-- ==== Sys2Proof/Machine/CamCmd.lean ====
section
/-! DEFINITION. The commands of the CAM: scrubbing, errors, rebuilding and the privileged search port (8.3, 8.6 to
8.9). -/

namespace Sys2Proof.Machine

namespace State

/-- Put upsets into the array: the valid bit, VALUE and CARE that rows of the array have come to hold. -/
def upsetRows (c : Cam) (us : List (Nat × Bool × Nat × Nat)) : Cam :=
  (us.filter (fun u => decide (u.1 < 262144))).foldl (fun q u => q.setRow u.1 { q.row u.1 with aValid := u.2.1, aValue := u.2.2.1, aCare := u.2.2.2 }) c

/-- The rows of lost CAM slices, in index order. -/
def lostRows (c : Cam) : List (Nat × CamRow) := c.rows.filter (fun e => !c.up e.1 && e.2.sValid)

/-- Place an entry of a lost slice again: exact entries in a free row, JOIN entries in order (R265). -/
def placeLost (s : State) (e : CamEntry) : Option State :=
  if kindOf e.value = kindJoin then
    let tries := fun (c : Cam) (m : Nat) => (c.insertJoin s.ordRuns e).map (fun x =>
      (({ s with cam := x.1 } : State).count .lcCntInsert 0 1).count .lcCntMoves 0 (m + x.2))
    match tries s.cam 0 with
    | some t => some t
    | none =>
      let b := s.cam.rebalance s.ordRuns (s.cam.targetRun s.ordRuns (s.cam.target e))
      tries b.1 b.2
  else (s.cam.freeRow s.ordRuns s.camTotal).map (fun i =>
    ({ s with cam := s.cam.put i e } : State).count .lcCntInsert 0 1)

/-- Place every entry of the lost slices; none when they do not all fit. -/
def placeAll (s : State) : List CamEntry → Option State
  | [] => some s
  | e :: rest => (s.placeLost e).bind (fun t => t.placeAll rest)

/-- The rebuild of lost CAM slices (R265): their exact entries from the root records, their JOIN entries from the
Bursar's copy in its order. -/
def rebuildLost (s : State) : Option State :=
  let lost := lostRows s.cam
  let exact := (lost.filter (fun e => kindOf e.2.sValue != kindJoin)).map
    (fun e => ({ value := e.2.sValue, care := e.2.sCare, data := e.2.data } : CamEntry))
  let gone := (lost.filter (fun e => kindOf e.2.sValue == kindJoin)).map (fun e => (e.2.sValue, e.2.sCare, e.2.data))
  let joins := s.cam.joins.filter (fun e => gone.contains (e.value, e.care, e.data))
  let c := lost.foldl (fun (q : Cam) e => q.clear e.1) s.cam
  ({ s with cam := c }).placeAll (exact ++ joins)

/-! The privileged search port (R262). -/

/-- A privileged search: its result stands in the port's registers, or the search stalls and ends with the rebuild it
waits for (R249). `mid` says after how many moves of the rebalance that a full run waits for the search is made, between the
two writes of the next move (R258, R259); it reports SHIFT when it finds that move's row. -/
def privSearch (s : State) (mid : Option Nat) : State :=
  let key := (s.reg .lcPsKey0 0).toNat + place 64 (s.rfld .lcPsKey1 0 47 0)
  let gmask := (s.reg .lcPsGmask0 0).toNat + place 64 (s.rfld .lcPsGmask1 0 47 0)
  let cut := mid.bind (fun k => (s.cam.fullRun s.ordRuns).bind (fun run => s.cam.midRebalance s.ordRuns run k))
  let view := match cut with | some x => x.1 | none => s.cam
  let lo := s.rfld .lcPsStart 0 17 0
  let out := ({ s with cam := view } : State).camSearch searchPort key gmask lo
  let back (q : State) : State :=
    if cut.isSome then { q with cam := { s.cam with stuck := q.cam.stuck, waiting := q.cam.waiting } } else q
  match out with
  | (s, .hit i d) =>
    let more := !(s.cam.arrayMatches key gmask (i + 1)).isEmpty
    let shift := match cut with | some (_, m) => i == m.1 || i == m.2 | none => false
    let r := s.cam.row i
    let s := (back s).setReg .lcPsRes 0 (wordOf (1 + place 1 1 + place 2 (bnat more) + place 3 (bnat shift) + place 4 i))
    let s := s.setReg .lcPsData 0 (wordOf d)
    let s := (s.setReg .lcPsVal0 0 (wordOf (fieldOf r.sValue 63 0))).setReg .lcPsVal1 0 (wordOf (fieldOf r.sValue 111 64))
    (s.setReg .lcPsCare0 0 (wordOf (fieldOf r.sCare 63 0))).setReg .lcPsCare1 0 (wordOf (fieldOf r.sCare 111 64))
  | (s, .miss) => (back s).setReg .lcPsRes 0 1
  | (s, .stall _) => let s := back s
                     { s.setReg .lcPsRes 0 0 with cam := { s.cam with psGo := true } }

/-- A stalled privileged search runs again. -/
def resumePs (s : State) : State :=
  if s.cam.psGo then ({ s with cam := { s.cam with psGo := false } }).privSearch none else s

/-- A slot's stalled search runs again, and the request goes on with what it finds. -/
def resumeSlot (s : State) (n : Nat) : State :=
  let k := (s.slot n).hdr.kind
  let r := if k = kAttend then execAttend n s else if k = kAppend then execAppend n s else if k = kSeal then execSeal n s
    else if k = kHint then execHint n s else if k = kOpenConv then execOpenConv n s
    else if k = kCloseConv then execCloseConv n s else if k = kPromote then execPromote n s else .next s
  match r with
  | .next t => t
  | _ => s

/-- Stalled searches run again in the order in which they were issued, as long as none stalls (R245). -/
def resumeSearches (s : State) : State :=
  s.cam.waiting.foldl (fun q who =>
    if q.cam.stuck || !q.cam.waiting.contains who then q
    else
      let q := if who = searchPort then q.resumePs
        else if searchGrant 0 ≤ who then q.resumeGrant (who - searchGrant 0)
        else q.resumeSlot (who % 2 ^ 18)
      if q.cam.stuck then q else { q with cam := { q.cam with waiting := q.cam.waiting.erase who } }) s

end State

/-- LC_SCRUB (R261): one pass of the scrubber over every row, after rows of the array came to hold `upsets`; `stalled`
are the cycles requests' searches waited behind its own. A committed SCRUB_PERIOD takes effect with the pass (R266). -/
def execLcScrub (upsets : List (Nat × Bool × Nat × Nat)) (stalled : Nat) (s : State) : Result :=
  if s.cam.rebuild then .next s
  else
    let s := match s.cam.period with
      | some p => ({ s with cam := { s.cam with period := none } } : State).setFld .lcCfg 0 36 21 p
      | none => s
    let o := (State.upsetRows s.cam upsets).scrub (s.rfld .lcCfg 0 20 14)
    let s := (({ s with cam := o.cam } : State).count .lcCntScrubfix 0 o.fixes.length).predRows 2 o.fixes
    let s := ((s.count .lcCntSearch 0 o.searches).count .lcCntHit 0 o.searches).count .lcCntMulti 0 o.multi
    .next ((s.count .lcCntPfrows 0 o.enabled).count .lcStallScrub 0 stalled)

/-- SHADOW_UE (R249): a shadow row, or the directory bucket of the keys named, is uncorrectable; searches that need it
stall until the Bursar has rebuilt it. -/
def execShadowUe (index : Nat) (keys : List Nat) (s : State) : Result :=
  if s.camTotal ≤ index then .next s
  else
    let c := s.cam
    let c := if keys.isEmpty then c.setRow index { c.row index with ue := true } else { c with dirUe := keys ++ c.dirUe }
    .next ((({ s with cam := c }).lcFault (index / 65536) 1 index).pred 4 (index / 65536) 3 1)

/-- CAM_REBUILD_DONE (R249, R265): the Bursar has rebuilt the rows and buckets in error, and the entries of lost CAM
slices where they fit; `stalled` are the cycles searches stalled. Entries that do not fit take the module out of
service. -/
def execCamRebuildDone (stalled : Nat) (s : State) : Result :=
  let s := s.count .lcStallRebuild 0 stalled
  let c := s.cam.rows.foldl (fun (q : Cam) e =>
    if e.2.ue then (q.setRow e.1 { e.2 with ue := false }).rewrite e.1 else q) s.cam
  let s := { s with cam := { c with dir := c.rebuiltDir, dirUe := [], stuck := false } }
  if s.cam.rebuild then
    match s.rebuildLost with
    | some t => .next ({ t with cam := { t.cam with rebuild := false } } : State).resumeSearches.resumeInserts
    | none =>
      let s := s.lcFault (s.cam.down.headD 0) 3 0
      .next (({ s with cam := { s.cam with rebuild := false } }).startWithdraw 3).resumeSearches
  else .next s.resumeSearches

/-- PRIVILEGED_SEARCH (R262): LC_PS_CMD.GO; `mid` places the search within a rebalance. In confidential mode the write is
discarded; while a search that stalls has not ended it has no defined result (R268). -/
def execPrivilegedSearch (mid : Option Nat) (s : State) : Result :=
  if s.img.conf then .next s
  else if s.cam.psGo then .fault (.undefinedResult 268)
  else .next (s.privSearch mid)

end Sys2Proof.Machine
end

