-- ==== Sys2Proof/Machine/Leases.lean ====
section
/-! DEFINITION. Leases of sluice cores and the host-range table (6.7, 12.4 to 12.6). -/

namespace Sys2Proof.Machine

namespace State

/-! Host-range entries (Tables 12-7, 12-8). -/

def range (s : State) (e : Nat) : HRange := SMap.get {} s.host.ranges e
def setRange (s : State) (e : Nat) (x : HRange) : State :=
  { s with host := { s.host with ranges := SMap.set {} s.host.ranges e x } }
def updRange (s : State) (e : Nat) (g : HRange → HRange) : State := s.setRange e (g (s.range e))

/-- Host-range entries. -/
def rangeTotal : Nat := 4096

/-- An entry as its three configuration registers give it. -/
structure RangeCfg where
  valid : Bool := false
  vf : Nat := 0
  rid : Nat := 0
  ridMask : Nat := 0
  r : Bool := false
  w : Bool := false
  published : Bool := false
  wbase : Nat := 0
  size : Nat := 0
  core : Nat := 0
  toff : Nat := 0
deriving DecidableEq, Repr

/-- The entry three register values spell: its VF as port * 1024 + number, its target core as 16 * pseudo-channel +
bank pair. -/
def rangeCfgOf (c0 c1 c2 : Word) : RangeCfg :=
  { valid := c0.bit 0, vf := c0.fld 1 1 * 1024 + c0.fld 11 2, rid := c0.fld 27 12, ridMask := c0.fld 43 28,
    r := c0.bit 44, w := c0.bit 45, published := c0.bit 46, wbase := c1.fld 21 0, size := c1.fld 29 22,
    core := (c2.fld 4 0 * 64 + c2.fld 10 5) * 16 + c2.fld 14 11, toff := c2.fld 22 15 }

/-- An entry in effect. -/
def rangeCfg (s : State) (e : Nat) : RangeCfg :=
  rangeCfgOf (s.reg .hpRngCfg0 e) (s.reg .hpRngCfg1 e) (s.reg .hpRngCfg2 e)

/-- The entries that are ACTIVE or REVOKING. -/
def liveRanges (s : State) : List Nat := (s.host.ranges.filter (fun x => decide (x.2.state ≠ .free))).map (·.1)

/-- Whether two entries share a target byte. -/
def shareTarget (a b : RangeCfg) : Bool :=
  a.core == b.core && decide (a.toff < b.toff + b.size) && decide (b.toff < a.toff + a.size)

/-- Whether two entries name exactly one target. -/
def sameTarget (a b : RangeCfg) : Bool := a.core == b.core && a.toff == b.toff && a.size == b.size

/-- PC-local address of the DATA_C of a bank pair, and its bytes (Table 06-7). -/
def dataCAddr (bp : Nat) : Nat := dataAddr bp + 0x40000
def dataCBytes : Nat := 0xC0000

/-- Where an offset of an entry's target lies: pseudo-channel and PC-local address. -/
def targetAddr (x : RangeCfg) (off : Nat) : Nat × Nat := (x.core / 16, dataCAddr (x.core % 16) + x.toff * 4096 + off)

/-- A TDI that is locked or running moves to ERROR (R396). -/
def tdiFail (s : State) (v : Nat) : State :=
  s.updVf v (fun x => if x.tdi = .locked ∨ x.tdi = .run then { x with tdi := .error } else x)

/-- An entry whose last request in hand has ended (R387): a REVOKING entry becomes FREE and DONE. -/
def settleRange (s : State) (e : Nat) : State :=
  let x := s.range e
  if x.state = .revoking ∧ x.inflight = 0 then s.setRange e { x with state := .free, done := true } else s

/-- Begin the revocation of an ACTIVE entry (R387); its VALID in effect is cleared. -/
def revoke (s : State) (e : Nat) : State :=
  if (s.range e).state = .active then
    ((s.setFld .hpRngCfg0 e 0 0 0).updRange e (fun x => { x with state := .revoking })).settleRange e
  else s

/-- Revoke every ACTIVE entry that passes a test, moving the TDIs of `hit` to ERROR where `fail` says so. -/
def revokeWhere (s : State) (p : RangeCfg → Bool) (fail : Bool) : State :=
  s.liveRanges.foldl (fun q e =>
    if p (q.rangeCfg e) ∧ (q.range e).state = .active then
      let q := if fail then q.tdiFail (q.rangeCfg e).vf else q
      q.revoke e
    else q) s

/-- What a request to a VF's memory space meets first: a port that serves it (R366), no FLR (R389), a TDI that accepts it
and, in RUN, the TEE bit (R396, R397). -/
def vfServes (s : State) (v : Nat) (tee : Bool) : Bool :=
  let x := s.vf v
  s.portUp (v / 1024) && !(s.hport (v / 1024)).degraded && !x.flr && x.tdi != .error && (x.tdi != .run || tee)

/-- Whether a number names one of the VFs. -/
def isVf (v : Nat) : Bool := decide (v < 2048) && decide (1 ≤ v % 1024) && decide (v % 1024 ≤ 512)

/-- A request to a VF's memory space that the port does not serve completes with Unsupported Request; no request comes through a
port without a link (R366, R389, R396, R397). -/
def vfAccess (s : State) (v : Nat) (tee : Bool) (f : State → Result) : Result :=
  if !isVf v ∨ !s.portUp (v / 1024) then .next s
  else if !s.vfServes v tee then .next (s.emit (.hostError (v / 1024) 0 "UR"))
  else f s

/-! Leases (R203, R207). -/

/-- Cores a context leases (SC_LEASE_QUOTA.HELD). -/
def leasesOf (s : State) (c : Nat) : List Nat :=
  (s.sluice.cores.filter (fun e => e.2.lessee == some c)).map (·.1)

/-- Whether a locked TDI forbids a context's ACQUIREs and RELEASEs (R396). -/
def tdiLocked (s : State) (v : Nat) : Bool := (s.vf v).tdi == .locked || (s.vf v).tdi == .run

/-- The end of a lease (R207): the station is stopped and cleared, so that it stands READY with RESULT 0 and nothing of the
context is left in it (R199), the entries that target its DATA_C are revoked (R388,
R396), and firmware has the DATA_C to zero. -/
def endLease (s : State) (c : Nat) : State :=
  match (s.core c).lessee with
  | none => s
  | some x =>
    let s := (s.stopStation c).clearStation c
    let hit := s.liveRanges.any (fun e => (s.rangeCfg e).core == c && (s.range e).state == .active)
    let s := if hit then s.tdiFail (vfOfCtx x) else s
    let s := s.revokeWhere (fun r => r.core == c) true
    s.updCore c (fun k => { k with lessee := none, zeroing := some x, st := .ready, fcause := 0, fpc := 0, result := 0
                                   halted := false })

/-- Whether an entry that is not FREE targets the DATA_C of a core. -/
def coreMapped (s : State) (c : Nat) : Bool := s.liveRanges.any (fun e => (s.rangeCfg e).core == c)

/-- Leases open to a context: it is OPEN, the core lies in its slice, customer programs are enabled in the core's stack,
the station is free and zeroed, and the quota has room (R203; that the context is OPEN follows from R207). -/
def mayAcquire (s : State) (x c : Nat) : Bool :=
  let k := s.core c
  decide ((s.ctx x).state = .opn) && (s.ctxPcs x).contains (c / 16) && s.rbit .scCfg (c / 1024) 0 &&
  k.lessee.isNone && k.zeroing.isNone && decide ((s.leasesOf x).length < s.rfld .scLeaseQuota x 14 0) &&
  !s.tdiLocked (vfOfCtx x)

end State

/-- ACQUIRE (R203, R396), a write of the context's page through its VF: the selected core is leased to the context, whose key then covers the zeroed DATA_C (R199, log entry
78), or the ACQUIRE is refused and counted. -/
def execAcquire (ctx : Nat) (tee : Bool) (s : State) : Result :=
  s.vfAccess (State.vfOfCtx ctx) tee (fun s =>
  let c := s.selectedCore ctx
  .next (if s.mayAcquire ctx c then
      (s.updStore (fun st => st.setUnder (Store.unitOf (c / 16) (State.dataCAddr (c % 16))) (st.key ctx))).updCore c
        (fun k => { k with lessee := some ctx })
    else s.count .scCntLeaseref c 1))

/-- LEASE_RELEASE (R207, R396): the lease of the selected core ends, if the context holds it. -/
def execLeaseRelease (ctx : Nat) (tee : Bool) (s : State) : Result :=
  s.vfAccess (State.vfOfCtx ctx) tee (fun s =>
    let c := s.selectedCore ctx
    .next (if (s.core c).lessee = some ctx ∧ !s.tdiLocked (State.vfOfCtx ctx) then s.endLease c else s))

/-- LEASE_ZEROED (R207, R388): firmware has zeroed the DATA_C of an ended lease, once no host range targets it, and the
core is free. -/
def execLeaseZeroed (core : Nat) (s : State) : Result :=
  .next (if (s.core core).zeroing.isSome ∧ !s.coreMapped core then
    (s.updStore (fun st => (st.zero (core / 16) (State.dataCAddr (core % 16)) State.dataCBytes).setUnder
      (Store.unitOf (core / 16) (State.dataCAddr (core % 16))) 0)).updCore core (fun k => { k with zeroing := none })
    else s)

end Sys2Proof.Machine
end

