-- ==== Sys2Proof/Machine/Close.lean ====
section
/-! DEFINITION. Closing and opening a context (13.5, 13.7, 13.8). -/

namespace Sys2Proof.Machine

namespace State

def setCloses (s : State) (l : List (Nat × Close)) : State := { s with mint := { s.mint with closes := l } }

/-- Start the close of a context (R414 step 1, R359, R396); a close in progress is joined (R420), and a CLOSED context
has nothing to close (log entry 51). -/
def startClose (s : State) (c : Nat) : State :=
  if (s.ctx c).state = .opn then
    let s := s.updCtx c (fun g => { g with state := .closing, drained := false })
    let s := s.tdiFail (vfOfCtx c)
    let n := (s.ctx c).queue.length
    let s := (s.flushQueue c stCtxClosed).count .hgCntClosed c n
    (s.setClose c { step := 2 }).checkDrained c
  else s

/-- Change the close of a context. -/
def updClose (s : State) (c : Nat) (g : Close → Close) : State :=
  match s.close? c with
  | some x => s.setClose c (g x)
  | none => s

/-- The step of a context's close; 0 where none runs. -/
def closeStep (s : State) (c : Nat) : Nat := match s.close? c with | some x => x.step | none => 0

/-- Whether an entry's target lies in a DATA_C of a context: leased to it, or still to be zeroed after its lease. -/
def dataOf (s : State) (c core : Nat) : Bool := (s.core core).lessee == some c || (s.core core).zeroing == some c

/-- Whether any entry is not FREE whose target lies in a DATA_C of a context. -/
def dataMapped (s : State) (c : Nat) : Bool := s.liveRanges.any (fun e => s.dataOf c (s.rangeCfg e).core)

/-- Every connection bound to a context. -/
def boundConns (s : State) (c : Nat) : List Nat := (s.conns.map (·.1)).filter (fun k => s.connCtx k == some c)

/-- Pages of the work a base die or silt controller has for a context. -/
def pageCtx (s : State) (p : Nat) : Nat := (s.anyHeader p).ctx

/-- The port die of a furrow: that of its lowest link (log entry 52). -/
def furrowDie (s : State) (f : Nat) : Nat := ((List.range 64).find? (fun l => s.inFurrow f l)).getD 0 / 16

/-- The operations the internal paths of Table 13-8 hold for a context. -/
def pathOps (s : State) (c : Nat) : List PathOp :=
  let dies := (s.allVjobs.filter (fun j => s.pageCtx j.page == c ||
      (decide (j.prog = VProg.deq) && (s.core j.core).lessee == some c))).map
      (fun j => ({ path := j.core / 1024, key := [0, j.core, j.prog.ctorIdx, j.page, j.root, j.ix] } : PathOp)) ++
    s.attn.pipes.flatMap (fun e => (e.2.lanes.filterMap id).filterMap (fun x =>
      if (s.slot x.slot).hdr.ctx = c then some ({ path := e.1 / 64, key := [1, e.1, x.slot, (s.slot x.slot).entry] } : PathOp) else none))
  let silt := s.store.chans.flatMap (fun e => (e.2.queue.filter (fun j => s.pageCtx j.page == c)).map
    (fun j => ({ path := 32 + e.1 / 4, key := [e.1, j.kind.ctorIdx, j.page] } : PathOp)))
  let rma := (s.boundConns c).flatMap (fun k =>
    let p := 64 + s.furrowDie (s.connFurrow k)
    (s.conn k).outs.map (fun o => ({ path := p, key := [0, k, o.seq] } : PathOp)) ++
    (s.conn k).held.map (fun o => ({ path := p, key := [1, k, o.hdr.seq] } : PathOp)) ++
    (s.conn k).waiting.map (fun q => ({ path := p, key := [2, k, q] } : PathOp)))
  let host := (s.host.window.filter (fun w =>
      (s.rangeCfg w.entry).vf == vfOfCtx c || s.dataOf c (s.rangeCfg w.entry).core)).map
      (fun w => ({ path := 96 + w.port, key := [0, w.entry, bnat w.write, w.off, w.len, w.tag] } : PathOp)) ++
    (s.host.rspq.filter (fun r => r.vf == vfOfCtx c)).map
      (fun r => ({ path := 96 + r.vf / 1024, key := [1, r.hdr.origin, r.hdr.seq] } : PathOp))
  dies ++ silt ++ rma ++ host

/-- The internal paths whose DRAIN_CTX marker has not returned (R414 step 4): an operation taken before the marker has not
ended. -/
def pathsHeld (s : State) (c : Nat) : List Nat :=
  match s.close? c with
  | some x => ((x.ops.filter (fun o => (s.pathOps c).contains o)).map (·.path)).dedup
  | none => []

/-- Zero a phase of a connection, counting a retired key. -/
def zeroPhases (s : State) (k : Nat) : State :=
  let x := s.conn k
  let n := bnat (x.key0 != 0) + bnat (x.key1 != 0)
  (s.setConn k { x with key0 := 0, key1 := 0, kn0 := 0, kn1 := 0, retire := false }).count .mtCntKeyret 0 n

/-- A connection is taken to CLOSING (R337): its OPEN field in effect is cleared. -/
def connClose (s : State) (k : Nat) : State :=
  let s := s.setFld .fuConnCfg k 0 0 0
  if (s.conn k).state = .closed then s else s.updConn k (fun x => { x with state := .closing })

/-- Retire a context's key: zeroed in the key store and in every base die (R411, R414 step 5). -/
def retireKey (s : State) (c : Nat) : State :=
  if s.mint.ctxKeys.any (fun e => e.1 == c) then
    ({ s with mint := { s.mint with ctxKeys := s.mint.ctxKeys.filter (fun e => e.1 != c) }
              store := { s.store with keys := SMap.set 0 s.store.keys c 0 } }).count .mtCntKeyret 0 1
  else s

/-- Steps 5 and 6 of a close: the context's key and the phases of its connections are zeroed, then the connections are
closed. -/
def closeKeys (s : State) (c : Nat) : State :=
  let ks := s.boundConns c
  let s := ks.foldl zeroPhases (s.retireKey c)
  let s := ks.foldl connClose s
  s.updClose c (fun x => { x with step := 6, furrows := [], ops := [] })

/-! The scrub of step 7 (R418, R419). -/

/-- The frames whose CTX is a context. -/
def ctxFrames (s : State) (c : Nat) : List (Nat × Frame) :=
  s.store.frames.filter (fun e => decide (e.2.pstate ≠ .free) && e.2.ctx == c)

/-- Zero a frame and its stub, under no key (R412, R418). -/
def zeroFrame (st : Store) (k : Nat) : Store :=
  ((st.zero (k / 65536) (frameAddr (k % 65536)) 0x4000).zero (k / 65536) (stubAddr (k % 65536)) 0x800).setUnder k 0

/-- Members in other contexts of the groups a context holds are lost with cause 5 (R418). -/
def loseMembers (s : State) (c : Nat) : State :=
  s.store.roots.foldl (fun q e =>
    match e.2 with
    | some r =>
      if r.ctx != c && !r.mirror && r.groupLedger != 0 &&
          (match q.store.root r.groupLedger with | some g => g.ctx == c | none => false) then
        q.addLost r.ctx r.conv 5
      else q
    | none => q) s

/-- Take a record out with its pages, its ledger structures zeroed (R418). -/
def scrubRecord (s : State) (a : Nat) : State :=
  match s.store.root a with
  | none => s
  | some r =>
    let s := { s with rel := { s.rel with
        gaps := s.rel.gaps.filter (fun g => !(g.ctx == r.ctx && g.conv == r.conv)) } }
    let s := (s.forgetCopied a).updStore (fun st => (st.zeroLedger a r).freeRecord a)
    match s.store.root r.groupLedger with
    | some g => if !r.group && !r.mirror && g.ctx != r.ctx && r.groupLedger != 0 then s.leaveGroup none r.groupLedger else s
    | none => s

/-- Whether a CAM entry's CTX is a context, every CARE bit of CTX being set. -/
def entryOf (c value care : Nat) : Bool := fieldOf value 9 0 == c && fieldOf care 9 0 == 1023

/-- Every entry of the CAM, and of the Bursar's copy of the JOIN entries, whose CTX is a context goes (R418), and with
each group of the context its JOIN entries, whatever contexts their patterns name. DEDUCED: log entry 58. -/
def scrubCam (s : State) (c : Nat) : State :=
  let s := s.store.roots.foldl (fun q e =>
    match e.2 with
    | some r => if r.group && r.ctx == c then q.removeJoins e.1 else q
    | none => q) s
  let rows := s.cam.rows.filter (fun e => e.2.sValid && entryOf c e.2.sValue e.2.sCare)
  let cam := rows.foldl (fun q e => q.clear e.1) s.cam
  { s with cam := { cam with joins := cam.joins.filter (fun e => !entryOf c e.value e.care) } }

/-- The scrub of a context: its records, pages, parity pages, frames, cells and CAM entries (R418). -/
def scrubCtx (s : State) (c : Nat) : State :=
  let frames := s.ctxFrames c
  let s := (s.loseMembers c).scrubCam c
  let s := s.store.roots.foldl (fun q e =>
    match e.2 with
    | some r => if r.ctx = c then q.scrubRecord e.1 else q
    | none => q) s
  let s := s.store.groups.foldl (fun q e =>
    if e.2.live ∧ q.pageCtx e.2.parity = c then
      q.updStore (fun st => (((st.freePage e.2.parity).zeroLines e.2.record).freeLines e.2.record).setGroup e.1 {})
    else q) s
  let s := (s.ctxFrames c).foldl (fun q e => q.updStore (fun st => st.freePage e.2.page)) s
  let s := (s.store.cells.filter (fun e => decide (e.2.state = .live) && e.2.hdr.ctx == c)).foldl (fun q e =>
    q.updStore (fun st => st.freePage e.2.page)) s
  let s := s.updStore (fun st => { st with
    cells := st.cells.map (fun e =>
      if e.2.state = .live ∧ e.2.hdr.ctx = c then (e.1, { e.2 with state := .free }) else e) })
  let s := s.updStore (fun st => frames.foldl (fun t e => zeroFrame t e.1) st)
  let s := { s with unsent := s.unsent.filter (fun u => u.ctx != c) }
  s.count .mtCntScrub 0 frames.length

/-- Step 8: the context becomes CLOSED. -/
def endClose (s : State) (c : Nat) : State :=
  let s := s.setCloses (s.mint.closes.filter (fun e => e.1 != c))
  (s.updCtx c (fun g => { g with state := .closed, queue := [], deficit := 0 })).count .mtCntClose 0 1

/-- Whether a CLOSING context has drained, its next step being 3. -/
def closeReady (s : State) (c : Nat) : Bool := s.closeStep c == 2 && (s.ctx c).drained

end State

/-- CLOSE_DRAINED (R360, R414 step 3): the closing context holds no slot and no queued request; its leases end and the
entries that target its DATA_C are revoked. -/
def execCloseDrained (ctx : Nat) (s : State) : Result :=
  if s.closeReady ctx then
    let s := (s.leasesOf ctx).foldl State.endLease s
    .next (s.updClose ctx (fun x => { x with step := 3 }))
  else .next s

/-- CLOSE_REVOKED (R414 step 4, R531): every such entry is FREE; a DRAIN_CTX marker goes out on every trained furrow, and
one on every internal path behind what it has taken. -/
def execCloseRevoked (ctx : Nat) (s : State) : Result :=
  if s.closeStep ctx = 3 ∧ !s.dataMapped ctx then
    let fs := (List.range 8).filter s.trained
    let s := s.updClose ctx (fun x => { x with
      step := 4, since := s.hubUnits, limit := s.rfld .mtCfg 0 15 0, furrows := fs, ops := s.pathOps ctx })
    .next (fs.foldl (fun q f => q.sendMarker f mDrainCtx ctx) s)
  else .next s

/-- CLOSE_MARKERS_RETURNED (R414 steps 4 to 6): every drain marker has returned, from every furrow and internal path. -/
def execCloseMarkersReturned (ctx : Nat) (s : State) : Result :=
  match s.close? ctx with
  | some x =>
    if x.step = 4 ∧ x.furrows.isEmpty ∧ (s.pathsHeld ctx).isEmpty then .next (s.closeKeys ctx) else .next s
  | none => .next s

/-- DRAIN_LIMIT_EXPIRY (R416): step 4 ends although markers have not returned. -/
def execDrainLimitExpiry (ctx : Nat) (s : State) : Result :=
  match s.close? ctx with
  | some x =>
    let n := x.furrows.length + (s.pathsHeld ctx).length
    if x.step = 4 ∧ x.since + x.limit ≤ s.hubUnits ∧ n ≠ 0 then
      let s := { s with mint := { s.mint with drainto := ctx :: s.mint.drainto } }
      .next ((s.count .mtCntDrainTo 0 n).closeKeys ctx)
    else .next s
  | none => .next s

/-- CLOSE_CONNS_CLOSED (R414 steps 6 and 7): every connection of the context is CLOSED and the scrub starts. -/
def execCloseConnsClosed (ctx : Nat) (s : State) : Result :=
  if s.closeStep ctx = 6 ∧ (s.boundConns ctx).all (fun k => (s.conn k).state == .closed) then
    .next (s.updClose ctx (fun x => { x with step := 7 }))
  else .next s

/-- CLOSE_SCRUB_DONE (R418, R414 steps 7 and 8): the scrub has ended, the DATA_C areas of the context among it, and the
context is CLOSED. -/
def execCloseScrubDone (ctx : Nat) (s : State) : Result :=
  if s.closeStep ctx = 7 ∧ !s.sluice.cores.any (fun e => e.2.zeroing == some ctx) then
    .next ((s.scrubCtx ctx).endClose ctx)
  else .next s

/-- MT_CTX_CMD_CLOSE (R420): PF software, or the Bursar for the management network, closes the context MT_CTX_SEL
selects. -/
def execMtCtxCmdClose (s : State) : Result := .next (s.startClose (s.rfld .mtCtxSel 0 9 0))

/-- CONN_CLOSED (R337): a CLOSING connection with no RMA request outstanding becomes CLOSED; its windows and RNEXT are
cleared, and its phases unbound (R409). -/
def execConnClosed (conn : Nat) (s : State) : Result :=
  let x := s.conn conn
  if x.state = .closing ∧ x.outs.isEmpty then
    let s := (s.zeroPhases conn).updConn conn (fun k => { k with
      state := .closed, rnext := 0, window := [], held := [], waiting := [] })
    .next (if s.img.added.contains conn then
      { s with img := { s.img with routes := SMap.del s.img.routes conn, added := s.img.added.filter (· != conn) } }
    else s)
  else .next s

end Sys2Proof.Machine
end

