-- ==== Sys2Proof/Machine/HostPort.lean ====
section
/-! DEFINITION. The commands of the host ports: apertures, ring heads, MSI-X, windows, FLR and TDISP (chapter 12). -/

namespace Sys2Proof.Machine

namespace State

/-! Apertures (12.2). -/

/-- The bytes of a lane written so far from offset 0 on, where they are whole to `n`. -/
def laneBytes (ps : List (Nat × Bytes)) (n : Nat) : Bytes := ps.foldl (fun b p => splice b p.1 (p.2.take (n - p.1))) (zeros n)

/-- Bytes of pieces below an offset. -/
def piecesBelow (ps : List (Nat × Bytes)) (n : Nat) : Nat :=
  (ps.map (fun p => Nat.min (p.1 + p.2.length) n - Nat.min p.1 n)).sum

/-- Whether two pieces share a byte below an offset. -/
def piecesMeet (a b : Nat × Bytes) (n : Nat) : Bool :=
  decide (Nat.max a.1 b.1 < Nat.min (Nat.min (a.1 + a.2.length) (b.1 + b.2.length)) n)

/-- The padded length of the carrier in a lane, once its header is whole (R370, R371). -/
def laneLength (ps : List (Nat × Bytes)) : Option Nat :=
  if piecesBelow ps 32 = 32 then
    let h := Hdr.ofBytes (laneBytes ps 32)
    some (roundUp (32 + Nat.min (h.total - h.offset) 4064) 64)
  else none

/-- Whether a complete aperture carrier is discarded (R372); a reserved KIND meets R274 instead. -/
def apertureBad (s : State) (v : Nat) (h : Hdr) (seg : Bytes) : Bool :=
  h.ctx != ctxOfVf v || h.origin != s.rfld .hpVfCfg (v / 1024 * 513 + v % 1024) 15 0 || (decide (0x20 ≤ h.kind) && kindKnown h.kind) ||
  h.kind == kRmaRead || h.kind == kRmaWrite ||
  (h.kind == kMarker && markerType seg != mOriginOpen && markerType seg != mOriginClose)

/-- A complete aperture carrier (R371, R372). -/
def apertureCarrier (s : State) (v : Nat) (b : Bytes) : State :=
  let h := Hdr.ofBytes (sub b 0 32)
  let seg := sub b 32 (Nat.min (h.total - h.offset) 4064)
  let s := s.count .hpCntCarrier v 1
  if s.rel.svc = .out then s.count .rsDropOut 0 1
  else if s.apertureBad v h seg then s.count .hpDropAphdr v 1
  else s.checked (.aperture v) 0 4064 h seg none

/-- Bytes land in a lane; none where they meet bytes already there, which R399 leaves undefined. -/
def laneWrite (s : State) (v lane off : Nat) (data : Bytes) : Option State :=
  let old := SMap.get [] (s.vf v).lanes lane
  let ps := old ++ [(off, data)]
  let n := (laneLength ps).getD 4096
  if old.any (fun p => piecesMeet p (off, data) n) then none
  else if (laneLength ps).isSome ∧ piecesBelow ps n = n then
    some ((s.updVf v (fun x => { x with lanes := SMap.set [] x.lanes lane [] })).apertureCarrier v (laneBytes ps n))
  else some (s.updVf v (fun x => { x with lanes := SMap.set [] x.lanes lane ps }))

/-! MSI-X (R378, Table 12-3). -/

/-- The MSI-X state of a function: of the PF for VF number 0. -/
def msixFn (s : State) (v : Nat) : MsixFn := if v % 1024 = 0 then (s.hport (v / 1024)).pf else (s.vf v).msix
def setMsixFn (s : State) (v : Nat) (f : MsixFn) : State :=
  if v % 1024 = 0 then s.setHport (v / 1024) { s.hport (v / 1024) with pf := f } else s.updVf v (fun x => { x with msix := f })

/-- Send every pending message nothing blocks any more. -/
def releaseMsix (s : State) (v : Nat) : State :=
  (s.msixFn v).vecs.foldl (fun q e =>
    let f := q.msixFn v
    let m := msixVec f e.1
    if m.pending && f.enable && !msixBlocked f e.1 then
      (q.setMsixFn v { f with vecs := SMap.set {} f.vecs e.1 { m with pending := false } }).sendMsix v f e.1
    else q) s

/-- Clear every pending bit of a function. -/
def clearMsix (f : MsixFn) : MsixFn :=
  { f with vecs := f.vecs.foldl (fun l e => SMap.set {} l e.1 { e.2 with pending := false }) f.vecs }

/-! Windows (R381 to R387). -/

/-- The entry of a port and VF whose window extent holds an offset. -/
def windowEntry (s : State) (v addr : Nat) : Option Nat :=
  s.liveRanges.find? (fun e =>
    let x := s.rangeCfg e
    x.vf == v && decide (x.wbase * 4096 ≤ addr) && decide (addr < (x.wbase + x.size) * 4096))

/-- Whether a requester ID matches an entry (R381). -/
def ridOk (x : RangeCfg) (rid : Nat) : Bool := (rid ^^^ x.rid) &&& x.ridMask == 0

/-- A window request that is turned away (Table 12-5). -/
def windowRefuse (s : State) (v tag : Nat) (why : String) : State :=
  (s.emit (.hostError (v / 1024) tag why)).count (if why = "CA" then .hpCntCa else .hpCntUr) v 1

/-- Table 12-5 up to the poisoned row: the entry that accepts a request, or the refusal. -/
def windowMatch (s : State) (v rid addr len : Nat) (write : Bool) : Except String Nat :=
  match s.windowEntry v addr with
  | none => .error "UR"
  | some e =>
    let x := s.rangeCfg e
    if !ridOk x rid ∨ (x.wbase + x.size) * 4096 < addr + len then .error "UR"
    else if (s.range e).state = .revoking then .error "CA"
    else if (write && !x.w) || (!write && !x.r) then .error "UR"
    else .ok e

/-- The context whose key covers the target of an entry. -/
def lesseeOf (s : State) (e : Nat) : Nat := (s.core (s.rangeCfg e).core).lessee.getD 1024

/-- The most bytes of a memory write, and of a memory read, that a port takes (R368: its Max Payload Size). -/
def maxPayload : Nat := 4096

/-- A window request is accepted (Table 12-5). -/
def windowAccept (s : State) (w : WinReq) : State :=
  let s := s.updRange w.entry (fun x => { x with inflight := x.inflight + 1 })
  { s with host := { s.host with window := s.host.window ++ [w] } }

/-- Whether an accepted request may take effect before the requests accepted ahead of it: writes of one port in order and
reads behind them (R382), and every request of one published range in order (R384). -/
def windowMayRun (s : State) (w : WinReq) (ahead : List WinReq) : Bool :=
  let x := s.rangeCfg w.entry
  !ahead.any (fun a => (a.port == w.port && a.write) ||
    (x.published && (s.rangeCfg a.entry).published && sameTarget x (s.rangeCfg a.entry)))

/-- The bytes of a write with the disabled bytes as they stand. -/
def enabledBytes (old new : Bytes) (en : List Bool) : Bytes :=
  if en.isEmpty then new
  else (List.range new.length).map (fun i => if getAt true en i then getAt 0 new i else getAt 0 old i)

/-- The key of the DATA_C an entry targets: that of the core's lessee (Table 06-7). -/
def targetKey (s : State) (x : RangeCfg) : Nat := s.store.key ((s.core x.core).lessee.getD 1024)

/-- The key of an accepted request: that of the lessee when it was accepted (R382). -/
def winKey (s : State) (w : WinReq) : Nat := s.store.key w.lessee

/-- Bytes read from an entry's target under a key. -/
def targetRead (s : State) (key : Nat) (x : RangeCfg) (off n : Nat) : Bytes :=
  let (pc, a) := targetAddr x off
  s.store.readUnder key pc a n

/-- Bytes written to an entry's target under a key (R162, R412). -/
def targetWrite (s : State) (key : Nat) (x : RangeCfg) (off : Nat) (bs : Bytes) : State :=
  let (pc, a) := targetAddr x off
  s.writeKey key pc a bs

/-- Bytes written to an entry's target as far as their byte enables go: a word none of whose bytes is enabled is not touched, and
one with a disabled byte is written in part (R162). -/
def targetMasked (s : State) (key : Nat) (x : RangeCfg) (off : Nat) (bs : Bytes) (en : List Bool) : State :=
  if en.isEmpty then s.targetWrite key x off bs
  else
    let (pc, a) := targetAddr x off
    let g := gaddr pc a
    let bytesOf (w : Nat) : List Nat := (List.range bs.length).filter (fun i => (g + i) / 32 == w)
    let ws := (Store.words g bs.length).filter (fun w => !(Store.partWords pc a bs.length).contains w)
    let skip := (Store.words g bs.length).filter (fun w => (bytesOf w).all (fun i => !getAt true en i))
    let part := ws.filter (fun w => !skip.contains w && (bytesOf w).any (fun i => !getAt true en i))
    let errs := skip.map (fun w => (w, s.store.wordErr w))
    let s := s.updStore (fun st => errs.foldl (fun t e => t.setErr e.1 .clean) st)
    let s := if key = 0 then s else (s.readWords pc part).1
    let bad := if key = 0 then [] else part.filter s.store.wordBad
    let s := (s.targetWrite key x off (enabledBytes (s.targetRead key x off bs.length) bs en)).count .pgCntPoison pc bad.length
    s.updStore (fun st => errs.foldl (fun t e => t.setErr e.1 e.2) (bad.foldl (fun t w => t.setErr w .poison) st))

/-- A write into a published range (R385): one that touches the version word adds 1 to it, and bytes 8 to 63 keep. -/
def writePublished (s : State) (w : WinReq) : State :=
  let x := s.rangeCfg w.entry
  let s :=
    if w.off < 8 then
      let v := (leNat (s.targetRead (s.winKey w) x 0 8) + 1) % 2 ^ 64
      (s.targetWrite (s.winKey w) x 0 (leBytes 8 v)).count .hpCntPub x.vf 1
    else s
  let skip := 64 - w.off
  let n := w.data.length - skip
  if n = 0 then s
  else
    let lo := w.off + skip
    let new := w.data.drop skip
    s.targetMasked (s.winKey w) x lo (new.take n) (w.enables.drop skip)

/-- The effect of an accepted write (R162, R382). -/
def writeWindow (s : State) (w : WinReq) : State :=
  let x := s.rangeCfg w.entry
  if x.published then s.writePublished w
  else s.targetMasked (s.winKey w) x w.off w.data w.enables

/-- The effect of an accepted read (R382): its completions are sent, those of uncorrectable words poisoned. Bytes 8 to 63
of a published range read 0 (R385). -/
def readWindow (s : State) (w : WinReq) : State :=
  let x := s.rangeCfg w.entry
  let (pc, a) := targetAddr x w.off
  let g := gaddr pc a
  let ws := Store.words g w.len
  let bad := if s.winKey w = 0 then ws else ws.filter s.store.wordBad
  let s := (s.senseUnder (s.winKey w) pc [(a, w.len)]).1
  let raw := s.targetRead (s.winKey w) x w.off w.len
  let bs := if x.published then
      (List.range w.len).map (fun i => if 8 ≤ w.off + i ∧ w.off + i < 64 then 0 else getAt 0 raw i)
    else raw
  let s := if bad.isEmpty then s else s.count .hpCntPoison x.vf 1
  s.emit (.completion w.port w.tag bs (bad.map (fun k => k - g / 32)))

/-! Host-range commits (R380). -/

/-- The registers of group HP_RNG of an entry. -/
def rngGroup (e : Nat) : List (Reg × Nat) := [(.hpRngCfg0, e), (.hpRngCfg1, e), (.hpRngCfg2, e)]

/-- The first check of Table 12-4 that refuses the activation of an entry; 0 where none does. -/
def rangeCause (s : State) (e : Nat) (x : RangeCfg) : Nat :=
  let others := (s.liveRanges.filter (· != e)).map s.rangeCfg
  match (s.core x.core).lessee with
  | none => 1
  | some y =>
    if 192 < x.toff + x.size ∨ x.size = 0 then 1
    else if x.w ∧ others.any (fun o => o.w && shareTarget x o) then 2
    else if others.any (fun o => o.vf == x.vf && decide (x.wbase < o.wbase + o.size) && decide (o.wbase < x.wbase + x.size))
      then 3
    else if !isVf x.vf ∨ (ctxOfVf x.vf ≠ y ∧ !s.mayShare (ctxOfVf x.vf) y) then 4
    else if others.any (fun o => shareTarget x o &&
        ((x.published && o.published && !sameTarget x o) || (x.published != o.published))) then 5
    else if s.tdiLocked x.vf ∨ s.tdiLocked (vfOfCtx y) then 7
    else 0

/-- A commit of an entry is refused. -/
def rangeRefuse (s : State) (e cause : Nat) : State := s.updRange e (fun x => { x with refused := true, cause := cause })

/-- Whether a commit of an entry is refused because its VF, or the lessee of its target, has a locked TDI (R396). -/
def rangeLocked (s : State) (x : RangeCfg) : Bool :=
  s.tdiLocked x.vf || (match (s.core x.core).lessee with | some y => s.tdiLocked (vfOfCtx y) | none => false)

/-- An entry becomes ACTIVE; the first entry with PUB of a target has its version line written (R385). -/
def activateRange (s : State) (e : Nat) (x : RangeCfg) : State :=
  let first := !(s.liveRanges.filter (· != e)).any (fun o => (s.rangeCfg o).published && sameTarget x (s.rangeCfg o))
  let s := (s.commitNow (rngGroup e)).updRange e (fun r => { r with state := .active, inflight := 0 })
  if x.published ∧ first then s.targetWrite (s.targetKey x) x 0 (zeros 64) else s

/-! FLR (R389 to R393). -/

/-- An FLR of a VF begins (R389): its TDI fails, its messages and lanes go, its entries and those into its DATA_C are
revoked, and its context's close starts. -/
def beginFlr (s : State) (v : Nat) : State :=
  if (s.vf v).flr then s
  else
    let c := ctxOfVf v
    let s := (s.tdiFail v).updVf v (fun x => { x with flr := true, lanes := [], msix := clearMsix x.msix })
    let s := s.revokeWhere (fun r => r.vf == v) false
    let s := s.revokeWhere (fun r => (s.core r.core).lessee == some c) false
    s.startClose c

/-- Whether the FLR of a VF has done its work (R391). -/
def flrDone (s : State) (v : Nat) : Bool :=
  (s.vf v).flr && (s.ctx (ctxOfVf v)).state == .closed && !s.liveRanges.any (fun e =>
    (s.range e).state == .revoking && ((s.rangeCfg e).vf == v || s.dataOf (ctxOfVf v) (s.rangeCfg e).core)) &&
  !s.sluice.cores.any (fun e => e.2.zeroing == some (ctxOfVf v))

/-- Return a register instance to its reset value, with its shadow. -/
def resetReg (s : State) (r : Reg) (i : Nat) : State :=
  { s with regs := { eff := SMap.del s.regs.eff (r.key i), shadow := SMap.del s.regs.shadow (r.key i),
                     cap := SMap.del s.regs.cap (r.key i) } }

/-- An FLR completes (R391, R363): what was formed for the VF and not written is dropped (R390), and rings, interrupt registers and configuration space hold their reset values. -/
def endFlr (s : State) (v : Nat) : State :=
  let s := (s.host.rspq.filter (fun r => r.vf == v)).foldl dropFormed s
  let s := [Reg.hpVfCqBase, .hpVfRspBase, .hpVfRingCfg, .hpVfCqIrq, .hgVfIrq, .hgVfIrqCause].foldl
    (fun q r => q.resetReg r v) s
  s.setVf v {}

/-- An FLR of a PF (R393): of every VF of the port, and the PF's own MSI-X state and configuration space, which holds the
control of the IDE streams (log entry 167). -/
def beginPfFlr (s : State) (p : Nat) : State :=
  let s := forUpTo 512 s (fun i q => q.beginFlr (p * 1024 + i + 1))
  s.setHport p { s.hport p with pf := {}, streams := [] }

/-- A host port's link goes down: it serves nothing until it trains again. -/
def hostDown (s : State) (p : Nat) : State :=
  s.setHport p { s.hport p with width := 0, rate := 0, flit := false, degraded := false }

end State

/-- APERTURE_WRITE (R371 to R373): a posted write of a VF's aperture, `off` bytes from its start. A degraded port and a TDI in
RUN without the TEE bit complete it with UR (R366, R397), as FLR does (R389). A write that crosses into the next lane is taken
as one to each (log entry 53). -/
def execApertureWrite (vf off : Nat) (data : Bytes) (tee : Bool) (s : State) : Result :=
  if !State.isVf vf ∨ !s.portUp (vf / 1024) then .next s
  else if (s.hport (vf / 1024)).degraded ∨ ((s.vf vf).tdi = .run ∧ !tee) then .next (s.emit (.hostError (vf / 1024) 0 "UR"))
  else if (s.vf vf).flr ∨ (s.vf vf).tdi = .error ∨ (s.vf vf).tdi = .locked ∨ !s.ringOn vf then
    let s := if (s.vf vf).flr then s.emit (.hostError (vf / 1024) 0 "UR") else s
    .next ((s.updVf vf (fun x => { x with lanes := [] })).count .hpDropApoff vf 1)
  else
    let lane := off / 4096 % 256
    let o := off % 4096
    match s.laneWrite vf lane o (data.take (4096 - o)) with
    | none => .fault (.undefinedResult 399)
    | some t =>
      if data.length ≤ 4096 - o then t.outcome
      else
        match t.laneWrite vf ((lane + 1) % 256) 0 (data.drop (4096 - o)) with
        | none => .fault (.undefinedResult 399)
        | some u => u.outcome

/-- CQ_HEAD (R376, R377): software has read records up to `head`, and may arm the ring. A head past the tail has no
defined result (R399). -/
def execCqHead (vf head : Nat) (arm tee : Bool) (s : State) : Result :=
  s.vfAccess vf tee (fun s =>
    let x := s.vf vf
    let n := s.cqSize vf
    let old := s.rfld .hpVfCqHead vf 19 0
    let freed := (head % n + n - old % n) % n
    if x.cqUsed < freed then .fault (.undefinedResult 399)
    else
      let s := (s.setFld .hpVfCqHead vf 19 0 head).setVf vf { x with cqUsed := x.cqUsed - freed, armed := x.armed || arm }
      .next (if arm ∧ freed < x.cqUsed then s.ringIrq vf else s))

/-- RSP_HEAD (R376): software has freed the response ring up to `head`. A head past the tail has no defined result
(R399). -/
def execRspHead (vf head : Nat) (tee : Bool) (s : State) : Result :=
  s.vfAccess vf tee (fun s =>
    let x := s.vf vf
    let n := s.rspSize vf
    let old := s.rfld .hpVfRspHead vf 25 0
    let freed := (head % n + n - old % n) % n
    if x.rspUsed < freed then .fault (.undefinedResult 399)
    else .next ((s.setFld .hpVfRspHead vf 25 0 head).setVf vf { x with rspUsed := x.rspUsed - freed }))

/-- MSIX_UNMASK (R378, Table 12-3): MSI-X Enable, Function Mask and Bus Master Enable of a function, and the Mask bit of
one vector, take the values given, and pending messages that nothing blocks any more are sent. -/
def execMsixUnmask (fn : Nat) (enable fmask bme : Bool) (vec : Option (Nat × Bool)) (s : State) : Result :=
  let f := s.msixFn fn
  let vecs := match vec with
    | some (i, m) => SMap.set {} f.vecs i { State.msixVec f i with masked := m }
    | none => f.vecs
  .next ((s.setMsixFn fn { f with enable := enable, fmask := fmask, bme := bme, vecs := vecs }).releaseMsix fn)

/-- WINDOW_READ (R381): a memory read, or an AtomicOp (R368), to a VF's BAR4; no request is longer than the port's 4,096 bytes. -/
def execWindowRead (vf rid addr len tag : Nat) (atomic tee : Bool) (s : State) : Result :=
  if !State.isVf vf ∨ !s.portUp (vf / 1024) ∨ State.maxPayload < len then .next s
  else if !s.vfServes vf tee ∨ atomic then .next (s.windowRefuse vf tag "UR")
  else
    match s.windowMatch vf rid addr len false with
    | .error why => .next (s.windowRefuse vf tag why)
    | .ok e =>
      let w : WinReq := { entry := e, port := vf / 1024, off := addr - (s.rangeCfg e).wbase * 4096, len := len, tag := tag
                          lessee := s.lesseeOf e }
      .next ((s.windowAccept w).count .hpCntWrd vf 1)

/-- WINDOW_WRITE (R381): a posted memory write to a VF's BAR4, with its byte enables and poisoned bit. -/
def execWindowWrite (vf rid addr : Nat) (data : Bytes) (enables : List Bool) (poisoned tee : Bool) (s : State) : Result :=
  if !State.isVf vf ∨ !s.portUp (vf / 1024) ∨ State.maxPayload < data.length then .next s
  else if !s.vfServes vf tee then .next (s.windowRefuse vf 0 "UR")
  else
    match s.windowMatch vf rid addr data.length true with
    | .error why => .next (s.windowRefuse vf 0 why)
    | .ok e =>
      if poisoned then
        .next ((s.emit (.hostError (vf / 1024) 0 "Poisoned TLP Received")).count .hpCntPoison vf 1)
      else
        let w : WinReq :=
          { entry := e, port := vf / 1024, write := true, off := addr - (s.rangeCfg e).wbase * 4096, len := data.length,
            data := data, enables := enables, lessee := s.lesseeOf e }
        .next ((s.windowAccept w).count .hpCntWwr vf 1)

/-- WINDOW_EFFECT (R382, R384, R387): an accepted window request takes effect, `bad` naming words of the target, by
number from its start, that have become uncorrectable; INFLIGHT falls, and a revocation may complete. -/
def execWindowEffect (index : Nat) (bad : List Nat) (s : State) : Result :=
  match s.host.window[index]? with
  | none => .next s
  | some w =>
    if !s.windowMayRun w (s.host.window.take index) then .next s
    else
      let (pc, a) := State.targetAddr (s.rangeCfg w.entry) 0
      let s := s.updStore (fun st => bad.foldl (fun t k => t.markBad (gaddr pc a / 32 + k) true) st)
      let s := { s with host := { s.host with window := s.host.window.eraseIdx index } }
      let s := if w.write then s.writeWindow w else s.readWindow w
      .next ((s.updRange w.entry (fun x => { x with inflight := x.inflight - 1 })).settleRange w.entry)

/-- HP_RNG_COMMIT (R380, R387, R396): a commit of the entry HP_RNG_SEL selects. -/
def execHpRngCommit (s : State) : Result :=
  let e := s.rfld .hpRngSel 0 11 0
  let x := State.rangeCfgOf (s.shadow .hpRngCfg0 e) (s.shadow .hpRngCfg1 e) (s.shadow .hpRngCfg2 e)
  let old := s.rangeCfg e
  if (s.range e).state = .free then
    if x.valid then
      let cause := s.rangeCause e x
      .next (if cause = 0 then s.activateRange e x else s.rangeRefuse e cause)
    else if s.rangeLocked x then .next (s.rangeRefuse e 7)
    else .next (s.commitNow (State.rngGroup e))
  else if { x with valid := old.valid } ≠ old then .next (s.rangeRefuse e 6)
  else if s.rangeLocked old then .next (s.rangeRefuse e 7)
  else if !x.valid then .next (s.revoke e)
  else .next s

/-- HP_VF_RING_COMMIT (R374, R396). -/
def execHpVfRingCommit (vf : Nat) (tee : Bool) (s : State) : Result :=
  s.vfAccess vf tee (fun s =>
    let x := s.vf vf
    let w := s.shadow .hpVfRingCfg vf
    let c := State.ctxOfVf vf
    let held := s.slots.any (fun e => e.2.state == .respond && e.2.hdr.ctx == c)
    let range := decide (6 ≤ w.fld 4 0) && decide (w.fld 4 0 ≤ 20) && decide (19 ≤ w.fld 9 5) && decide (w.fld 9 5 ≤ 26)
    if held || decide (0 < x.cqUsed) || decide (0 < x.rspUsed) || !range || s.tdiLocked vf then
      .next (s.setVf vf { x with refused := true })
    else
      let s := s.commitNow [(.hpVfCqBase, vf), (.hpVfRspBase, vf), (.hpVfRingCfg, vf)]
      let s := (s.setFld .hpVfCqHead vf 19 0 0).setFld .hpVfRspHead vf 25 0 0
      .next (s.setVf vf { x with cqTail := 0, cqPass := 0, rspTail := 0 }))

/-- RESPONSE_RING_WRITE (R375, R376, R390, R476): the next response of a VF is written when its rings have room, its slot is
freed, and a sampled ATTEND is then relayed to the spare; under FLR it is dropped. -/
def execResponseRingWrite (vf : Nat) (s : State) : Result :=
  match s.nextRsp vf with
  | none => .next s
  | some r =>
    if (s.vf vf).flr then .next (s.dropFormed r)
    else if s.portUp (vf / 1024) ∧ s.ringRoom r then
      let t := (s.dropRsp r).writeRsp r
      match r.slot with
      | some n => .next ((t.freeSlot n).relaySample (s.slot n).hdr)
      | none => .next t
    else .next s

/-- FLR (R389). -/
def execFlr (vf : Nat) (s : State) : Result := if State.isVf vf then .next (s.beginFlr vf) else .next s

/-- FLR_COMPLETE (R391, R363, R396). -/
def execFlrComplete (vf : Nat) (s : State) : Result := if s.flrDone vf then .next (s.endFlr vf) else .next s

/-- PF_FLR (R393). -/
def execPfFlr (port : Nat) (s : State) : Result := if port < 2 then .next (s.beginPfFlr port) else .next s

/-- PERST (R499): a fundamental reset of a host port, with the effects of an FLR of its PF; its link must train again. -/
def execPerst (port : Nat) (s : State) : Result :=
  if port < 2 then .next ((s.beginPfFlr port).hostDown port) else .next s

/-- PORT_TRAINED (R366): its host's reference is present (R500). -/
def execPortTrained (port width rate : Nat) (flit : Bool) (s : State) : Result :=
  if port < 2 ∧ 0 < width ∧ s.power.rails = .on then
    let s : State := { s with power := { s.power with refclk := s.power.refclk ||| 2 ^ port } }
    .next (s.setHport port { s.hport port with
      width := width, rate := rate, flit := flit, degraded := !(decide (8 ≤ width) && decide (6 ≤ rate) && flit) })
  else .next s

/-- HOST_LINK_DOWN (R500, Table 17-4): the port stops serving until it trains again; `refclk` says that its host's reference is
lost, which PW_CLK and PW_FAULT show (Table 17-8). -/
def execHostLinkDown (port : Nat) (refclk : Bool) (s : State) : Result :=
  if 2 ≤ port then .next s
  else
    let s := s.hostDown port
    .next (if refclk then
      ({ s with power := { s.power with refclk := s.power.refclk &&& (3 - 2 ^ port) } } : State).pwFault 4 else s)

/-- IDE_FAILURE (R394, R396): a TLP fails IDE integrity on a stream and is discarded; the stream stops, and a selective stream's failure moves
every TDI bound to it to ERROR. `none` is the link stream. -/
def execIdeFailure (port : Nat) (stream : Option Nat) (s : State) : Result :=
  if 2 ≤ port then .next s
  else
    let s := (s.emit (.hostError port 0 "IDE")).setIde port stream none
    match stream with
    | none => .next s
    | some _ => .next (forUpTo 512 s (fun i q =>
        if (q.vf (port * 1024 + i + 1)).stream = stream then q.tdiFail (port * 1024 + i + 1) else q))

/-- LOCK_INTERFACE (R395): the TDI of a VF is locked where every condition holds; `stream` is the selective stream the
VF's traffic is bound to. The report lists BAR0, BAR2 and the window extents in BAR4, as BAR, first and length in 4 KiB. -/
def execLockInterface (vf : Nat) (stream : Option Nat) (s : State) : Result :=
  if !State.isVf vf then .next s
  else
    let x := s.vf vf
    let c := State.ctxOfVf vf
    let foreign := s.liveRanges.any (fun e => (s.range e).state == .active && (s.rangeCfg e).vf != vf &&
      (s.core (s.rangeCfg e).core).lessee == some c)
    let ok := x.tdi == .unlocked && s.img.conf && (match stream with | some n => decide (n < 16) | none => false) &&
      s.ringOn vf && !foreign && !x.flr
    if ok then
      let mine := (s.liveRanges.filter (fun e => (s.range e).state == .active && (s.rangeCfg e).vf == vf)).map
        (fun e => ((s.rangeCfg e).wbase, (s.rangeCfg e).size))
      .next ((s.setVf vf { x with tdi := .locked, stream := stream }).emit (.tdiReport (vf / 1024) (vf % 1024) true
        ([(0, 0, 1), (2, 0, 256)] ++ mine.map (fun e => (4, e.1, e.2)))))
    else .next (s.emit (.tdiReport (vf / 1024) (vf % 1024) false []))

/-- START_INTERFACE (R397): a locked TDI runs. -/
def execStartInterface (vf : Nat) (s : State) : Result :=
  if (s.vf vf).tdi = .locked then .next (s.updVf vf (fun x => { x with tdi := .run })) else .next s

end Sys2Proof.Machine
end

