-- ==== Sys2Proof/Machine/Links.lean ====
section
/-! DEFINITION. The commands of links and furrows (10.1 to 10.4, 10.7). -/

namespace Sys2Proof.Machine

namespace State

/-! Faults, control flits, training. -/

/-- An LK fault: its bit and cause (Table 10-13). -/
def lkFault (s : State) (l cause : Nat) : State :=
  ((s.setBit .lkFault 0 l).rsFault 2).setReg .lkFaultCause 0 (wordOf (l + place 6 cause))

/-- What a link's HELLO advertises (Table 10-5, R312). -/
def helloFields (s : State) (l : Nat) : List Nat :=
  let k := s.link l
  let f := (s.furrowOf l).getD 0
  [s.node, f, l, 1, 2, s.rfld .lkCfg 0 3 0, s.rfld .lkCfg 0 9 4, s.rfld .fuCfg f 37 22, bnat k.heard,
   if k.heard then k.peer else 0, if k.heard then k.peerLink else 0]

/-- Send a HELLO. -/
def sendHello (s : State) (l : Nat) : State := s.sendCtrl l 1 (s.helloFields l)

/-- Send a NAK with the expected FSEQ (R317). -/
def sendNak (s : State) (l : Nat) : State :=
  ((s.updLink l (fun k => { k with nak := true })).sendCtrl l 2 [(s.link l).peerLink, (s.link l).rxNext]).count
    .lkCntNak l 1

/-- Send the LDREPs a furrow's failed links wait to send, on its first ACTIVE link (R319). -/
def sendLdreps (s : State) (f : Nat) : State :=
  match (s.activeLinks f).head? with
  | none => s
  | some a => s.links.foldl (fun q e =>
      match e.2.ldrep with
      | some (pl, d) => if q.inFurrow f e.1 then q.sendCtrl a 4 [pl, d] else q
      | none => q) s

/-- Note what a furrow's state has become: a change to DEGRADED is told, a fall to DOWN is remembered and its items
start their hold (R314, R319, R333). -/
def noteFurrow (s : State) (f : Nat) : State :=
  let st := s.furrowState f
  let x := s.furrow f
  let s := s.updFurrow f (fun y => { y with wasState := st })
  if st = x.wasState then s
  else if st = 2 then s.sendEvent f evDegraded (s.activeLinks f).length
  else if st = 0 then
    let stamp (i : TxItem) : TxItem := { i with since := s.hubUnits }
    let s := s.updFurrow f (fun y => { y with wasDown := true, out := y.out.map stamp, gates := y.gates.map (·.map stamp) })
    s.links.foldl (fun q e =>
      if q.inFurrow f e.1 then
        q.updLink e.1 (fun k => { k with lostRest := k.lostRest.map stamp,
                                         lost := k.lost.map (fun r => { r with ends := r.ends.map stamp }) })
      else q) s
  else s

/-- A furrow that was DOWN is UP: every outstanding RMA request is resent under its SEQ (R331). -/
def furrowUp (s : State) (f : Nat) : State :=
  if s.furrowState f = 1 ∧ (s.furrow f).wasDown then
    let s := s.updFurrow f (fun y => { y with wasDown := false })
    s.conns.foldl (fun q e =>
      if (decide (e.2.state = .opn) || decide (e.2.state = .closing)) && q.connFurrow e.1 == f then
        e.2.outs.foldl (fun t o => t.sendPayload e.1 (some 3) none o.hdr o.body) q
      else q) s
  else s

/-- A link leaves ACTIVE: what it held waits for the failover, both sides' parts of R319 begin, and the furrow is told
(R333). -/
def leaveActive (s : State) (l : Nat) (next : LinkState) : State :=
  let k := s.link l
  let rest := (match k.cur with | some (i, _) => [i] | none => []) ++ k.queue
  let s := s.setLink l { k with
    state := next, lost := k.lost ++ k.replay, lostRest := k.lostRest ++ rest, replay := [], cur := none, queue := []
    credit := 0, nak := false, episode := false, epReplays := 0, rest := [], heard := false, heardSeen := false
    ldrep := some (k.peerLink, k.lastWhole) }
  let s := if next = .phyTrain then (s.count .lkCntTrain l 1).pred 2 l 3 1 else s
  match s.furrowOf l with
  | none => s
  | some f =>
    let s := if s.furrowState f = 0 then s else s.sendEvent f evLinkDown l
    (s.noteFurrow f).sendLdreps f

/-- A link enters ACTIVE (R311, R313, R319, R333). -/
def enterActive (s : State) (l : Nat) (f : Nat) : State :=
  let s := if s.furrowState f = 0 then s.updFurrow f (fun y => { y with gen := 0 }) else s
  let s := s.updLink l (fun k => { k with
    state := .active, gen := 0, txNext := 0, txAcked := 0, rxNext := 0, lastWhole := 4095, rest := [] })
  let s := s.sendHello l
  let s := s.sendEvent f evLinkUp l
  (((s.noteFurrow f).sendLdreps f).pump f).furrowUp f

/-- A link fails (R318): fault RETRY, and PHY_TRAIN. -/
def linkFail (s : State) (l : Nat) : State :=
  ((s.lkFault l 1).count .lkCntRetryFail l 1).leaveActive l .phyTrain

/-- Replay a link from an FSEQ (R318). -/
def replayFrom (s : State) (l fseq : Nat) : State :=
  let k := s.link l
  let flits := k.replay.dropWhile (fun r => r.fseq != fseq)
  if flits.isEmpty then s
  else if k.episode && decide (k.epMax ≤ k.epReplays) then s.linkFail l
  else
    let s := if k.episode then s.updLink l (fun k => { k with epReplays := k.epReplays + 1 })
      else ((s.updLink l (fun k => { k with
          episode := true, epReplays := 1, epFseq := fseq, epMax := s.rfld .lkCfg 0 3 0 })).count
            .lkCntEpisode l 1).pred 2 l 2 1
    let s := s.count .lkCntReplay l 1
    flits.foldl (fun q r => ((q.sendFlit l ftData r.fseq r.data).count .lkCntFlitTx l 1).count .lkCntReflit l 1) s

/-- Act on FACK (R317, R318): flits below it leave the replay buffer, and an episode it passes ends. -/
def takeAck (s : State) (l fack : Nat) : State :=
  let k := s.link l
  let n := (fack + 4096 - k.txAcked) % 4096
  if k.state ≠ .active ∨ k.replay.length < n then s
  else
    let ep := k.episode && !decide (1 ≤ (fack + 4096 - k.epFseq) % 4096 ∧ (fack + 4096 - k.epFseq) % 4096 ≤ 2048)
    let s := s.setLink l { k with txAcked := fack, replay := k.replay.drop n, episode := ep }
    match s.furrowOf l with
    | some f => s.pump f
    | none => s

/-- What every received block meets first (R308, R309, R317): codeword counts, discard of a bad flit, then FACK. The flag
says whether the flit is good. -/
def rxFlit (s : State) (l : Nat) (block : Bytes) : State × Bool :=
  let rx := rxBlock block
  let s := (s.count .lkCntFecCorr l rx.corrected).pred 2 l 0 rx.corrected
  if rx.uncorrectable then ((s.count .lkCntFecUncorr l 1).pred 2 l 1 1, false)
  else if !rx.crcOk then (s.count .lkCntCrc l 1, false)
  else (if rx.flit.av then s.takeAck l rx.flit.fack else s, true)

/-- The block of a DATA flit (R317). Acceptance is acknowledged on the next flit the link sends, which the model takes to be
an IDLE flit at once (log entry 82). -/
def dataFlit (s : State) (l : Nat) (block : Bytes) : State :=
  if (s.link l).state ≠ .active then s
  else
    let x := (rxBlock block).flit
    let r := s.rxFlit l block
    let s := r.1
    if (s.link l).state ≠ .active then s
    else if !r.2 || x.fseq != (s.link l).rxNext then if (s.link l).nak then s else s.sendNak l
    else
      let s := s.updLink l (fun k => { k with rxNext := (k.rxNext + 1) % 4096, nak := false })
      let s := (s.count .lkCntFlitRx l 1).sendFlit l ftIdle 0 []
      match s.furrowOf l with
      | some f => takeItems 20 s l f x.fseq ((s.link l).rest ++ x.data)
      | none => s

/-- The block of a CTRL message of a code: what the flit meets first, then `f` on its fields where it is good. A block that
decodes to another flit is not this row's event (log entry 2). -/
def ctrlFlit (s : State) (l code : Nat) (block : Bytes) (f : List Nat → State → State) : State :=
  let rx := rxBlock block
  match ctrlFields code rx.flit with
  | none => if rx.uncorrectable || !rx.crcOk then (s.rxFlit l block).1 else s
  | some x =>
    let r := s.rxFlit l block
    if r.2 then f x r.1 else r.1

/-- A HELLO in state HELLO (R312, R313). -/
def helloArrive (s : State) (l : Nat) (h : HelloMsg) : State :=
  let s := s.updLink l (fun k => { k with
    heard := true, peer := h.node, peerLink := h.linkid, peerGens := h.gens, peerLanes := h.lanes
    heardSeen := h.seen && h.peerNode == s.node && h.peerLinkid == l })
  match s.furrowOf l with
  | none => s
  | some f =>
    if h.node ≠ s.rfld .fuCfg f 15 0 then s.lkFault l 4
    else if h.gens % 2 = 0 then s.lkFault l 3
    else if h.lanes ≠ 2 then s
    else
      let s := s.updFurrow f (fun x => { x with peerFloor := h.floor, peerRetry := h.retryTime })
      if (s.link l).heardSeen then s.enterActive l f else s

/-- What waited when a link failed and was not wholly delivered goes to the ACTIVE links (R319). -/
def moveLost (s : State) (f l dfseq : Nat) : State :=
  let k := s.link l
  let after := match k.lost.dropWhile (fun r => r.fseq != dfseq) with
    | [] => k.lost
    | _ :: t => t
  let items := after.flatMap (·.ends) ++ k.lostRest
  let s := s.setLink l { k with lost := [], lostRest := [] }
  let s := s.count .fuCntMoved f (items.countP (·.carrier))
  let s := s.updFurrow f (fun x => { x with out := items ++ x.out })
  s.pump f

/-- LDREP: every carrier not wholly delivered moves to the other ACTIVE links (R319). A link that is still ACTIVE here has failed
at the other end: it leaves ACTIVE, so that no further carrier is placed on it (DESIGN CHOICE, log entry 180). -/
def moveItems (s : State) (f l dfseq : Nat) : State :=
  (if (s.link l).state = .active then s.leaveActive l .phyTrain else s).moveLost f l dfseq

/-- Whether a carrier has been held longer than E2E (R319); an event stays. -/
def heldLong (s : State) (f : Nat) (i : TxItem) : Bool := i.carrier && decide (i.since + s.e2e f ≤ s.hubUnits)

end State

open State

/-- DATA_FLIT (R317): a block sent as a DATA flit arrives. -/
def execDataFlit (link : Nat) (block : Bytes) (s : State) : Result :=
  let rx := rxBlock block
  if rx.uncorrectable || !rx.crcOk || rx.flit.ft == ftData then (s.dataFlit link block).outcome else .next s

/-- IDLE_FLIT (R502): its FACK is acted on and the flit is discarded. -/
def execIdleFlit (link : Nat) (block : Bytes) (s : State) : Result :=
  .next (if (s.link link).state = .disabled ∨ (s.link link).state = .phyTrain then s else (s.rxFlit link block).1)

/-- HELLO (R312). -/
def execHello (link : Nat) (block : Bytes) (s : State) : Result :=
  if (s.link link).state = .hello ∨ (s.link link).state = .active then
    .next (s.ctrlFlit link 1 block (fun x q =>
      if (q.link link).state = .hello then q.helloArrive link (HelloMsg.ofFields x) else q))
  else .next s

/-- NAK (R318). -/
def execNak (link : Nat) (block : Bytes) (s : State) : Result :=
  if (s.link link).state = .active then
    .next (s.ctrlFlit link 2 block (fun x q =>
      if getAt 0 x 0 = link ∧ (q.link link).state = .active then q.replayFrom link (getAt 0 x 1) else q))
  else .next s

/-- CREDIT (R317). -/
def execCredit (link : Nat) (block : Bytes) (s : State) : Result :=
  if (s.link link).state = .active then
    .next (s.ctrlFlit link 3 block (fun x q =>
      if getAt 0 x 0 = link then
        let t := q.updLink link (fun k => { k with credit := getAt 0 x 1 })
        match t.furrowOf link with
        | some f => t.pump f
        | none => t
      else q))
  else .next s

/-- LDREP (R319). -/
def execLdrep (link : Nat) (block : Bytes) (s : State) : Result :=
  if (s.link link).state = .active then
    .next (s.ctrlFlit link 4 block (fun x q =>
      let failed := getAt 0 x 0
      match q.furrowOf link with
      | some f =>
        if !q.inFurrow f failed then q
        else (if failed = link then q.moveLost f failed (getAt 0 x 1) else q.moveItems f failed (getAt 0 x 1)).sendCtrl link 5
          [failed]
      | none => q))
  else .next s

/-- LDACK (R319): the repetition of the LDREP stops. -/
def execLdack (link : Nat) (block : Bytes) (s : State) : Result :=
  if (s.link link).state = .active then
    .next (s.ctrlFlit link 5 block (fun x q =>
      q.links.foldl (fun t e =>
        match e.2.ldrep with
        | some (pl, _) => if pl = getAt 0 x 0 ∧ t.furrowOf e.1 = t.furrowOf link then
            t.updLink e.1 (fun k => { k with ldrep := none }) else t
        | none => t) q))
  else .next s

/-- ACK_LIMIT_EXPIRY (R317, R318): ACK_LIMIT flit ticks have passed since the last NAK of the link's receiving side, which
repeats it (`nak`), or without an advance of FACK at its sending side, which replays from the oldest flit. -/
def execAckLimitExpiry (link : Nat) (nak : Bool) (s : State) : Result :=
  if (s.link link).state = .active then
    if nak then .next (if (s.link link).nak then s.sendNak link else s)
    else
      match (s.link link).replay with
      | r :: _ => .next (s.replayFrom link r.fseq)
      | [] => .next s
  else .next s

/-- RETRY_TIME_EXPIRY (R318): an open episode has lasted RETRY_TIME × 64 flit ticks. -/
def execRetryTimeExpiry (link : Nat) (s : State) : Result :=
  .next (if (s.link link).state = .active ∧ (s.link link).episode then s.linkFail link else s)

/-- TRAINING_COMPLETE (R307, R311). -/
def execTrainingComplete (link : Nat) (swap : Bool) (inv : Nat) (s : State) : Result :=
  .next (if (s.link link).state = .phyTrain then
    s.updLink link (fun k => { k with state := .lock, swap := swap, inv := inv % 4 }) else s)

/-- TRAIN_LIMIT_EXPIRY (R311). -/
def execTrainLimitExpiry (link : Nat) (s : State) : Result :=
  .next (if (s.link link).state = .phyTrain then (s.lkFault link 2).count .lkCntTrainFail link 1 else s)

/-- BLOCK_LOCK (R308, R311): in LOCK, the bytes of the two lanes, in the order and polarity training found, hold 64 consecutive
good blocks at some block boundary and lane skew. -/
def execBlockLock (link : Nat) (lane0 lane1 : Bytes) (s : State) : Result :=
  .next (if (s.link link).state = .lock ∧ (lockAt lane0 lane1).isSome then
    (s.updLink link (fun k => { k with state := .hello, heard := false, heardSeen := false })).sendHello link else s)

/-- BAD_BLOCK_RUN (R311). -/
def execBadBlockRun (link : Nat) (s : State) : Result :=
  .next (if (s.link link).state = .active then s.leaveActive link .phyTrain else s)

/-- LANE_LOSS (R311). -/
def execLaneLoss (link : Nat) (s : State) : Result :=
  .next (if (s.link link).state = .active then
    ((s.lkFault link 5).pred 5 (link / 16) 1 1).leaveActive link .phyTrain else s)

/-- HELLO_TIMER (R312). -/
def execHelloTimer (link : Nat) (s : State) : Result :=
  .next (if (s.link link).state = .hello then s.sendHello link else s)

/-- CREDIT_TIMER (R317): a CREDIT is sent; `stalled` are the flit ticks since the last with DATA queued and no credit.
The receive buffer is free, since the model hands every flit over as it is accepted. -/
def execCreditTimer (link : Nat) (stalled : Nat) (s : State) : Result :=
  .next (if (s.link link).state = .active then
    (s.sendCtrl link 3 [(s.link link).peerLink, 1024]).count .lkStallCredit link stalled else s)

/-- LDREP_TIMER (R319): an LDREP that no LDACK has answered is repeated. -/
def execLdrepTimer (link : Nat) (s : State) : Result :=
  match (s.link link).ldrep, s.furrowOf link with
  | some (pl, d), some f =>
    match (s.activeLinks f).head? with
    | some a => .next (s.sendCtrl a 4 [pl, d])
    | none => .next s
  | _, _ => .next s

/-- DOWN_FURROW_DISCARD (R319): carriers held for a DOWN furrow longer than E2E are discarded; a slot whose response they
were is freed as if they had left (DEDUCED, log entry 83). -/
def execDownFurrowDiscard (furrow : Nat) (s : State) : Result :=
  if s.furrowState furrow = 0 then
    let long := s.heldLong furrow
    let x := s.furrow furrow
    let n := x.out.countP long + (x.gates.map (·.countP long)).sum +
      ((s.links.filter (fun e => s.inFurrow furrow e.1)).map (fun e =>
        e.2.lostRest.countP long + (e.2.lost.map (fun r => r.ends.countP long)).sum)).sum
    let keep (l : List TxItem) : List TxItem := l.filter (fun i => !long i)
    let t := s.setFurrow furrow { x with out := keep x.out, gates := x.gates.map keep }
    let t := t.links.foldl (fun q e =>
      if q.inFurrow furrow e.1 then
        q.updLink e.1 (fun k => { k with lostRest := keep k.lostRest, lost := k.lost.map (fun r => { r with ends := keep r.ends }) })
      else q) t
    let gone := (x.out ++ x.gates.flatten ++ ((s.links.filter (fun e => s.inFurrow furrow e.1)).flatMap (fun e => e.2.lostRest))).filter long
    let t := gone.foldl (fun q it => match it.slot with | some m => q.carrierLeft m | none => q) t
    .next (t.count .fuDropDown furrow n)
  else .next s

/-- EVENT_RECEIVE (R334). -/
def execEventReceive (furrow code eseq : Nat) (arg : Word) (s : State) : Result :=
  .next (s.eventArrive furrow code eseq arg)

/-- GATE_ENTRY (R355, R356): the current entry's DURATION ends; `closed`, `guarded` and `unfit` are the gate units in
which a class held a carrier for each reason (log entry 14). -/
def execGateEntry (furrow : Nat) (closed guarded unfit : Nat) (s : State) : Result :=
  if s.rbit .hgGateCfg furrow 0 then
    let s := s.count .hgGateStallClosed furrow closed
    let s := if s.fitOrWait then s.count .hgGateStallFit furrow unfit else s.count .hgGateStallGuard furrow guarded
    let e := s.gateAfter furrow (s.furrow furrow).entry
    let group := (Reg.hgGateCfg, furrow) :: (List.range 16).map (fun i => (Reg.hgGateEnt, furrow * 16 + i))
    let s := if e = 0 then s.takeEffect group else s
    let s := s.updFurrow furrow (fun x => { x with entry := e })
    .next ((List.range 4).foldl (fun q c => pumpGate ((getAt [] (q.furrow furrow).gates c).length + 1) true furrow c q) s)
  else .next s

end Sys2Proof.Machine
end

