-- ==== Sys2Proof/Machine/SiltCmd.lean ====
section
/-! DEFINITION. The commands of the silt tier, of vendor programs, scrub and restoration (chapters 5 to 7). -/

namespace Sys2Proof.Machine

namespace State

/-! Cells. -/

/-- The started job of a channel that satisfies a test. -/
def startedJob (s : State) (ch : Nat) (copy : Bool) : Option (Nat × ChanJob) :=
  let q := (s.store.chan ch).queue
  (q.findIdx? (fun j => j.started && (decide (j.kind = .copy) == copy))).map (fun i => (i, getAt {} q i))

/-- Change the directory's entries of a job's cells. -/
def updCells (s : State) (ch : Nat) (j : ChanJob) (g : SiltCell → SiltCell) : State :=
  let k := ch * 2 ^ 26 + j.cell
  let one (st : Store) (k : Nat) : Store := st.setCell k (g (st.cell k))
  s.updStore (fun st => if j.wide then one (one st k) (k + 1) else one st k)

/-- Free the frame a job held for a page that was freed while the job ran (R223). -/
def dropJobFrame (s : State) (j : ChanJob) : State :=
  if s.store.keptBy j.page then s.updStore (fun st => st.dropKept j.page)
  else s.updStore (fun st => st.freeFrameAt (pagePc j.page) j.frame j.wide)

/-- A program ended well: the page lies in both tiers and its cells are LIVE (R219 step 4); the cells of a page freed
meanwhile are FREE again (R223). -/
def programOk (s : State) (ch i : Nat) (j : ChanJob) : State :=
  let n := if j.wide then 2 else 1
  let s := (s.dropJob ch i).count .stCntProg ch n
  if j.freed then (s.updCells ch j (fun _ => {})).dropJobFrame j
  else
    let h := s.store.header j.page
    let s := s.updCells ch j (fun c => { c with state := .live, hdr := h })
    let s := s.updStore (fun st => st.setPent j.page { st.pent j.page with tier := .both, silt := Store.siltAddr ch j.cell })
    if j.release && s.releaseWanted j.page then s.queueRelease j.page else s

/-- A program failed: the cell is retired and the copy begins again with another, on whichever channel R216 gives (R219). -/
def programFail (s : State) (ch i : Nat) (j : ChanJob) (second : Bool) : State :=
  let k := ch * 2 ^ 26 + j.cell + (if second && j.wide then 1 else 0)
  let s := ((s.dropJob ch i).updCells ch j (fun _ => {})).updStore (fun st => st.setCell k { state := .retired })
  let s := ((s.count .stCntProgfail ch 1).pred 3 ch 2 1).pred 3 ch 3 1
  if j.freed then s.dropJobFrame j else s.requeueCopy j

/-- The wear a channel reports; at 1,000 it takes no more programs (R235). -/
def noteWear (s : State) (ch used spare : Nat) : State :=
  let x := s.store.chan ch
  let worn := decide (1000 ≤ used) && !x.noprog
  let s := s.updStore (fun st => st.setChan ch { x with used := used, spare := spare, noprog := x.noprog || worn })
  if worn then s.stFault ch 3 else s

/-! Summary slots (R140, R220). -/

/-- Copy a page's summary to a summary slot; none when no slot can be had. -/
def copySummary (s : State) (p : Nat) : Option State :=
  let h := s.store.header p
  let pc := pagePc p
  (s.store.takeSummarySlot s.node pc h.ctx h.kvfmt h.dim).map (fun q =>
    let st := { q.1 with sumcopied := q.1.sumcopied ++ [(p, q.2.1, q.2.2)] }
    let s : State := if (s.store.freeSummarySlot pc h.ctx h.kvfmt h.dim).isNone then s.noteFill h.ctx else s
    ({ s with store := st } : State).writeAt pc (frameAddr q.2.1 + q.2.2 * slotBytes h.dim) (st.summary p h.dim))

/-- Release the frame of a page in both tiers (R220). One whose summary cannot be read is restored first (R164). -/
def releaseFrame (s : State) (p : Nat) : State :=
  let e := s.store.pent p
  let h := s.store.header p
  let sealed := decide (h.pstate = .sealed)
  let copy := sealed && !s.store.sumcopied.any (fun x => x.1 == p)
  let r := if copy then s.sense (pagePc p) [(s.store.summaryAddr p h.dim, summaryBytes h.dim)] else (s, false)
  let s := r.1
  if r.2 then s.startRestore p else
  match if copy then s.copySummary p else some s with
  | none => s
  | some s =>
    let (f, i) := match s.store.sumcopied.find? (fun x => x.1 == p) with
      | some x => (x.2.1, x.2.2)
      | none => (0, 0)
    let s := s.updStore (fun st =>
      let st := { st with releases := st.releases.filter (· != p), sumcopied := st.sumcopied.filter (fun x => x.1 != p) }
      let st := (st.setPent p { e with tier := .silt, frame := f, sidx := i }).updAnyHeader p (fun _ => h)
      st.freeFrameAt (pagePc p) e.frame e.wide)
    s.count .stCntRelease (e.silt % 16) (s.framesOf p)

/-! Reads of cells. -/

/-- Answer an RMA GET that waited for a cell (R329, R330). -/
def answerGet (s : State) (c : Nat) (h : Hdr) (status : Nat) (b : Bytes) : State :=
  if (s.conn c).waiting.contains h.seq then rmaRun 1025 c ((s.rmaResolve c h status b).rmaAnswer c h status b)
  else s.rmaAnswer c h status b

/-- What a finished read gives its reader. -/
def serveReader (s : State) (p : Nat) (r : Reader) : State :=
  match r with
  | .none => s
  | .rma c h => s.answerGet c h stDone (s.pageRef p ++ s.pagePayload p)
  | .remove => s.uncode p

/-- Write a cell into a frame as the ciphertext it is (R225 step 3). -/
def raiseCell (st : Store) (k pc f : Nat) : Store :=
  let c := st.cell k
  (st.writeUnder c.under pc (frameAddr f) c.extent).writeUnder c.under pc (stubAddr f + 0x40) c.stub

/-- Whether the trailers of a page's cells name the page and the USE of its page-map entry (R225 step 2). -/
def trailerOk (s : State) (p : Nat) : Bool :=
  let e := s.store.pent p
  let ok (k : Nat) : Bool := let c := s.store.cell k
                             c.page == p && c.use == e.use && decide (c.state = .live)
  ok (Store.cellKey e.silt) && (!e.wide || ok (Store.cellKey e.silt + 1))

/-- A promotion's cell has been read: the page lies in both tiers (R225 steps 3 to 5). -/
def promoted (s : State) (ch i : Nat) (j : ChanJob) : State :=
  let s := s.dropJob ch i
  let p := j.page
  let e := s.store.pent p
  if j.freed || !s.store.valid p || decide (e.tier ≠ .silt) || (s.restore? p).isSome then
    s.updStore (fun st => st.freeFrameAt (pagePc p) j.frame j.wide)
  else
    let s := s.updStore (fun st =>
      let st := st.setPent p { e with tier := .both, frame := j.frame, sidx := 0 }
      let st := raiseCell st (Store.cellKey e.silt) (pagePc p) j.frame
      let st := if e.wide then raiseCell st (Store.cellKey e.silt + 1) (pagePc p) (j.frame + 1) else st
      st.dropSummaryFrame (pagePc p) e.frame)
    (s.count .stCntPromote ch 1).siltWaiters

/-- A cell read failed (R230): the cell, the second of two where `second` says so, is retired, the page is restored, and
whoever waited for the read waits for that. A page that was freed or restored while the read ran needs no more of it. -/
def readFailed (s : State) (ch i : Nat) (j : ChanJob) (second : Bool) : State :=
  let k := ch * 2 ^ 26 + j.cell + (if second && j.wide then 1 else 0)
  let mine := decide ((s.store.cell k).state = .free) || (s.store.cell k).page == j.page
  let s := if mine then s.updStore (fun st => st.setCell k { st.cell k with state := .retired }) else s
  let s := (((s.dropJob ch i).count .stCntReadfail ch 1).pred 3 ch 1 1).pred 3 ch 3 1
  let s := if j.kind = .promote then s.updStore (fun st => st.freeFrameAt (pagePc j.page) j.frame j.wide) else s
  if (j.freed && decide (j.reader ≠ .remove)) || !s.store.valid j.page then s
  else if (s.store.pent j.page).tier = .silt then (s.startRestore j.page).addReader j.page j.reader
  else s.serveReader j.page j.reader

/-- A channel leaves service (R232). -/
def chanDown (s : State) (ch : Nat) : State :=
  let x := s.store.chan ch
  let s := s.updStore (fun st => st.setChan ch { x with down := true, queue := [] })
  let s := (s.stFault ch 1).broadcast evSiltDown (2 ^ ch)
  let mine := (s.store.pmap.filter (fun e => decide (e.2.tier = .both ∨ e.2.tier = .silt) && e.2.silt % 16 == ch)).map
    (fun e => pageNum (e.1 / 2 ^ 21) (e.1 % 2 ^ 21) e.2.use)
  let s := mine.foldl (fun (q : State) p =>
    let e := q.store.pent p
    if e.tier = .both then
      let st := { q.store with releases := q.store.releases.filter (· != p) }
      let slots := st.sumcopied.filter (fun y => y.1 == p)
      let st := { st with sumcopied := st.sumcopied.filter (fun y => y.1 != p) }
      let st := st.setPent p { e with tier := .near, silt := 0 }
      { q with store := slots.foldl (fun t y => t.dropSummaryFrame (pagePc p) y.2.1) st }
    else q.startRestore p) s
  x.queue.foldl (fun (q : State) j =>
    if j.kind = .copy then
      let q := if j.started then q.updCells ch j (fun _ => {}) else q
      if j.freed then q.dropJobFrame j else q.queueCopy j.page j.cls j.release
    else
      let q := if j.kind = .promote ∧ j.started then
        q.updStore (fun st => st.freeFrameAt (pagePc j.page) j.frame j.wide) else q
      q.addReader j.page j.reader) s

/-! Seals. -/

/-- Steps 3 to 5 of a seal whose tag and summary are written (R152). -/
def sealDone (s : State) (j : VJob) : State :=
  let p := j.page
  let h := s.store.header p
  let pc := pagePc p
  let st := s.store.updHeader p (fun x => { x with pstate := .sealed })
  let st := match s.streamOfPage p with
    | some (a, ix, _) => st.updPageEnt a ix p (fun e => { e with sumv := true })
    | none => st
  let s := (({ s with store := st }).count .pgCntSeal pc 1).tick
  let s := if h.rows < tokensPerPage h.kvfmt then s.count .pgCntEarlyseal pc 1 else s
  (((s.sendSeal j.slot p).contribute p).sinkCold p).pumpSilt

/-! Restorations. -/

/-- The conversations that lose a page (R52): that of its own stream, or every member of the prefix group whose page it
is, whose streams begin with the group's. -/
def lostConvs (s : State) (p : Nat) : List (Nat × Nat) :=
  match s.streamOfPage p with
  | some (a, _, r) =>
    if r.group then
      s.store.roots.filterMap (fun e => match e.2 with
        | some m => if !m.group && !m.mirror && m.groupLedger == a then some (m.ctx, m.conv) else none
        | none => none)
    else [(r.ctx, r.conv)]
  | none => let h := s.anyHeader p
            [(h.ctx, h.conv)]

/-- What was kept to be sent of a page is dropped: it is lost. -/
def dropKeptSends (s : State) (p : Nat) : State :=
  let mine (u : RmaUse) : Bool := match u with
    | .lookSeal _ q => q == p
    | .contribute q => q == p
    | .takePage q => q == p
    | _ => false
  let n := s.unsent.countP (fun u => decide (u.use = .takePage p))
  { s with
    unsent := s.unsent.filter (fun u => !mine u.use)
    rel := { s.rel with take := { s.rel.take with waits := s.rel.take.waits - n } } }

/-- No copy of a page can be had (R52, R164, R230): its conversations are listed lost with a cause, every request that
waits for it ends with STATE_LOST, and so does a request whose seal of it has not come. A page this node keeps for another
is no conversation's loss here. -/
def losePage (s : State) (p cause : Nat) : State :=
  let h := s.anyHeader p
  if h.pstate = .mirror ∨ h.pstate = .parity then s
  else
    let cs := s.lostConvs p
    let seals := s.allVjobs.filterMap (fun j => if j.prog = .seal ∧ j.page = p then j.slot else none)
    let kept := s.unsent.filterMap (fun u => match u.use with
      | .lookSeal (some n) q => if q = p then some n else none
      | _ => none)
    let s := s.dropKeptSends p
    let s := match s.streamOfPage p with
      | some (a, _, r) => if r.group then s.updStore (fun st => st.updRoot a (fun g => { g with lostCause := cause })) else s
      | none => s
    let s := cs.foldl (fun q c => q.addLost c.1 c.2 cause) s
    let s := s.dropVjobs (fun j => decide (j.prog = VProg.seal) && j.page == p)
    let s := (seals ++ kept).foldl (fun q n => q.complete n stLost []) s
    s.lostWaiters p cs

/-- The readers of a restoration that found nothing are answered BUSY (log entry 66). -/
def refuseReaders (s : State) (x : Restore) : State :=
  x.readers.foldl (fun q r => match r with | .rma c g => q.answerGet c g stBusy [] | _ => q) s

/-- A restoration has ended with a payload (R164, R230); a sealed page that its tag does not fit is lost. -/
def restoreOk (s : State) (x : Restore) (b : Bytes) : State :=
  match s.putRestored x.page b with
  | none => s
  | some (s, good) =>
    let s := s.dropRestore x.page
    if good then
      let s := ((s.regrant x.page).siltWaiters.reissue x.page).pumpSilt
      let s := x.readers.foldl (fun q r => q.serveReader x.page r) s
      (s.flushUnsent (s.anyHeader x.page).ctx).shadowsStep
    else (s.losePage x.page 2).refuseReaders x

/-- A restoration has found no copy (R52). -/
def restoreLost (s : State) (x : Restore) : State :=
  let e := s.store.pent x.page
  let s := if e.tier = .silt then s.count .stCntRestoreFail (e.silt % 16) 1 else s
  ((s.dropRestore x.page).losePage x.page 1).refuseReaders x

end State

open State

/-- SINK_START (R222, Table 07-3): pressure or a hint queues silt copies and releases. -/
def execSinkStart (pc : Nat) (s : State) : Result := .next ((s.hinted pc).pressure pc).pumpSilt

/-- CELL_PROGRAM_DONE (R219): the program of a channel ends well or not; `second` says which cell of two failed, `used` and
`spare` are the channel's wear. -/
def execCellProgramDone (chan : Nat) (ok second : Bool) (used spare : Nat) (s : State) : Result :=
  match s.startedJob chan true with
  | none => .next s
  | some (i, j) =>
    let s := s.noteWear chan used spare
    let s := if ok then s.programOk chan i j else s.programFail chan i j second
    .next (if spare = 0 then s.chanDown chan else s).pumpSilt

/-- FRAME_RELEASE (R220). -/
def execFrameRelease (page : Nat) (s : State) : Result :=
  if s.store.releases.contains page && s.store.valid page && decide ((s.store.pent page).tier = .both) &&
      !s.releaseBlocked page && s.releaseWanted page then .next (s.releaseFrame page).pumpSilt
  else .next s

/-- The sectors of a cell, of nine, whose codewords a read could not correct. -/
def sectorsOf (bad : List Nat) : List Nat := (bad.filter (· < 9)).dedup

/-- One bad sector of a cell is rebuilt from the other eight and the sector parity (R215), and counted; with more the read
of that cell fails. The answer gives the state, and which cell of two failed. -/
def State.fixSectors (s : State) (chan : Nat) (bad bad2 : List Nat) : State × Option Bool :=
  let n := (sectorsOf bad).length
  let m := (sectorsOf bad2).length
  if 1 < n then (s, some false)
  else if 1 < m then (s, some true)
  else ((s.count .stCntSecfix chan (n + m)).pred 3 chan 0 (n + m), none)

/-- A run-ahead promotion that has ended makes room for the next of its ATTEND (R120). -/
def State.raNext (s : State) (ra : Option Nat) : State :=
  match ra with
  | some n => s.raIssue n
  | none => s

/-- PROMOTION_DONE (R225): a promotion's cells have been read, with the sectors of each that could not be corrected. A cell
with more than one, or a trailer that names another page, is a read failure (R215, R230, log entry 73); a run-ahead
promotion that has ended makes room for the next (R120). -/
def execPromotionDone (chan : Nat) (bad bad2 : List Nat) (s : State) : Result :=
  match s.startedJob chan false with
  | none => .next s
  | some (i, j) =>
    if j.kind = .promote then
      match s.fixSectors chan bad (if j.wide then bad2 else []) with
      | (s, some second) => .next ((s.readFailed chan i j second).raNext j.ra).pumpSilt
      | (s, none) =>
        let s := if j.freed then s.promoted chan i j else if s.trailerOk j.page then s.promoted chan i j
          else (s.stFault chan 2).readFailed chan i j false
        .next (s.raNext j.ra).pumpSilt
    else .next s

/-- CELL_READ_FAIL (R230): the cell is retired and its page restored; `second` names the cell of two. -/
def execCellReadFail (chan : Nat) (second : Bool) (s : State) : Result :=
  match s.startedJob chan false with
  | none => .next s
  | some (i, j) => .next ((s.readFailed chan i j second).raNext j.ra).pumpSilt

/-- CELL_READ_DONE (R224, R329, R468), with the sectors that could not be corrected. -/
def execCellReadDone (chan : Nat) (bad bad2 : List Nat) (s : State) : Result :=
  match s.startedJob chan false with
  | none => .next s
  | some (i, j) =>
    if j.kind = .read then
      match s.fixSectors chan bad (if j.wide then bad2 else []) with
      | (s, some second) => .next (s.readFailed chan i j second).pumpSilt
      | (s, none) =>
        let s := s.dropJob chan i
        .next ((if j.freed && decide (j.reader ≠ .remove) then s else s.serveReader j.page j.reader).pumpSilt)
    else .next s

/-- CHANNEL_DOWN (R232). -/
def execChannelDown (chan : Nat) (s : State) : Result :=
  .next (if chan < s.chanCount ∧ !(s.store.chan chan).down then (s.chanDown chan).pumpSilt else s)

/-- SUMCOPY (R140, R220 step 1): the vendor station copies the summary of a page to be released into a summary slot. -/
def execSumcopy (page : Nat) (v : VendorIn) (s : State) : Result :=
  match s.vendorTurn (fun q => q.vjobFor .sumcopy page) v with
  | (s, none) => .next s
  | (s, some j) =>
    if s.store.valid page && decide ((s.store.pent page).tier = .both) && !s.store.sumcopied.any (fun x => x.1 == page) &&
        s.store.releases.contains page then
      let dim := (s.store.header page).dim
      let r := s.sense (pagePc page) [(s.store.summaryAddr page dim, summaryBytes dim)]
      if r.2 then .next (r.1.vendorUe j v page)
      else
        match r.1.copySummary page with
        | some t => .next (t.vendorRun j v)
        | none => .next r.1
    else .next (s.vendorRun j v)

/-- SEAL_PROGRAM (R152): tag and summary are written and the seal goes to the partner; an uncorrectable row is first
restored (R197), and so is a page into which the controller reports a write as failed (R162). -/
def execSealProgram (page : Nat) (v : VendorIn) (s : State) : Result :=
  match s.vendorTurn (fun q => q.vjobFor .seal page) v with
  | (s, none) => .next s
  | (s, some j) =>
    let h := s.store.header page
    if !s.store.inDram page || decide (h.pstate ≠ .sealing) then .next (s.vendorRun j v)
    else if (s.restore? page).isSome then .next s
    else
      let r := s.sense (pagePc page) (rowRegions (s.store.frameOf page) h.kvfmt h.dim h.rows)
      if r.2 then .next (r.1.vendorUe j v page)
      else
        let w := r.1.writeSeal page (Keccak.shake256 (sealBytes s.store page h.kvfmt h.dim h.firstpos h.rows) 32)
        .next (if w.2 then w.1.vendorRetry j v page else (w.1.vendorRun j v).sealDone j)

/-- COPY_PROGRAM (R153, R164, R181): the vendor station runs a copy whose rows have been placed. -/
def execCopyProgram (page : Nat) (v : VendorIn) (s : State) : Result :=
  match s.vendorTurn (fun q => q.vjobFor .copy page) v with
  | (s, none) => .next s
  | (s, some j) =>
    let r := s.sensePage page
    .next (if r.2 && s.store.valid page then r.1.vendorUe j v page else r.1.vendorRun j v)

/-- CODE_PROGRAM (R173, R181): the vendor station runs an addition into parity, a removal or a decode; `other` is the other
parity's payload where a decode has it (log entry 30). -/
def execCodeProgram (page : Nat) (v : VendorIn) (other : Option Bytes) (s : State) : Result :=
  match s.vendorTurn (fun q => q.vjobFor .code page) v with
  | (s, none) => .next s
  | (s, some j) =>
    let r := s.sensePage page
    .next (if r.2 && s.store.valid page then r.1.vendorUe j v page
      else if j.arg = 1 then (r.1.vendorRun j v).rbDecode other else r.1.vendorRun j v)

/-- TEST (R181, R182): the Bursar's self-test goes to the vendor station, which runs it after the commands it has taken
before; a defect is a vendor fault. None is taken before the vendor halves are loaded. -/
def execTest (core : Nat) (defect : Bool) (v : VendorIn) (s : State) : Result :=
  if core < s.stackCount * 1024 ∧ s.sluice.vload.isSome then
    .next (runFront core 4 (s.askCore core { prog := .test, arg := bnat defect, vin := v }))
  else .next s

/-- SCRUB_DUE (R167, R181, R182): a step of a core's scrub pass falls due. It runs at once where the vendor station has no
command, and else after the command in progress. -/
def execScrubDue (core : Nat) (upsets : List (Nat × Nat)) (v : VendorIn) (s : State) : Result :=
  if s.stackCount * 1024 ≤ core ∨ s.sluice.vload.isNone then .next s
  else
    let s := s.runAllDue
    let d : ScrubStep := { upsets := upsets, vin := v }
    if (s.vendor core).queue.isEmpty then .next (s.scrubStep core d)
    else .next (s.updVendor core (fun x => { x with due := x.due ++ [d] }))

/-- UE_RESTORE (R164): the restoration of a page starts. -/
def execUeRestore (page : Nat) (s : State) : Result := .next (s.startRestore page)

/-- RESTORE_DONE (R164, R230): the payload the other copy gave, or the decoding of the page's group (`decoded`), is written
to a fresh frame; with neither, the page is lost. -/
def execRestoreDone (page : Nat) (decoded : Option Bytes) (s : State) : Result :=
  match s.restore? page with
  | none => .next s
  | some x =>
    if !s.store.valid page then .next (s.dropRestore page)
    else
      match x.body with
      | some b => .next (s.restoreOk x b)
      | none =>
        if x.asked && !x.refused then .next s
        else
          match decoded with
          | some b => .next (s.restoreOk x b)
          | none => .next (s.restoreLost x)

/-- META_REBUILD_DONE (R164): the Bursar has rebuilt a metadata word; requests, RMA operations and GRANTs that waited for it
go on. -/
def execMetaRebuildDone (pc addr : Nat) (s : State) : Result :=
  .next (if s.store.metaUe.contains (pc, addr) then
    ((s.updStore (fun st => { (st.markBad (gaddr pc addr / 32) false) with
      metaUe := st.metaUe.filter (fun x => x != (pc, addr)) })).rmaRunAll).resumeGrants
  else s)

end Sys2Proof.Machine
end

