-- ==== Sys2Proof/Machine/Resets.lean ====
section
/-! DEFINITION. Compute resets and the resets of the other domains (15.2, 15.4). -/

namespace Sys2Proof

namespace Machine

/-- The block of a register: 0 HUB to 15 PW (Table 18-1); a register of the per-context page lies in HG, HP or SC. -/
def blockOf (r : Reg) : Nat :=
  match r.place? with
  | some p => p.base / 0x100000
  | none =>
    match r.page? with
    | some p => if p.base < 0x40 then 0 else if p.base < 0x80 then 10 else if p.base < 0x200 then 1 else 3
    | none => 0

/-- The block of a counter. -/
def ctrBlock (c : Ctr) : Nat := c.place.base / 0x100000

namespace State

/-- Return every register, shadow, capture and counter of some blocks to its reset value (R440). -/
def resetBlocks (s : State) (bs : List Nat) : State :=
  let keep (k : Nat) : Bool := !bs.contains (blockOf (Reg.ofNat (k % 256)))
  { s with
    regs := { eff := s.regs.eff.filter (fun e => keep e.1), shadow := s.regs.shadow.filter (fun e => keep e.1)
              cap := s.regs.cap.filter (fun e => keep e.1) }
    ctrs := s.ctrs.filter (fun e => !bs.contains (ctrBlock (Ctr.ofNat (e.1 % 256)))) }

/-! Compute reset (Table 15-6). -/

/-- Compute resets within ESC_WINDOW seconds (RS_STATE.WINCOUNT). -/
def winCount (s : State) : Nat :=
  (s.rel.resets.filter (fun t => decide (s.power.seconds ≤ t + s.rfld .rsCfg 0 19 4))).length

/-- Step 1: cause, RESET_BEGIN, the record of R460, and whether this reset escalates. -/
def beginReset (s : State) (w : CrWant) : State :=
  let s := s.setReg .rsCrCause 0 (wordOf (w.cause + place 4 w.stack + place 9 w.pc))
  let s := (((s.count .rsCntCreset 0 1).pred 6 0 0 1).broadcast evResetBegin 0).report (.computeReset w.cause)
  let hist := s.rel.resets ++ [s.power.seconds]
  let s := { s with firm := { s.firm with steady := false } }
  let s := { s with rel := { s.rel with cr := .draining, wanted := [], resets := hist.drop (hist.length - 15) } }
  { s with rel := { s.rel with escalate := decide (s.rfld .rsCfg 0 3 0 ≤ s.winCount) } }

/-- Whether a burst still holds its bank. -/
def burstsRun (s : State) : Bool :=
  s.sluice.cores.any (fun e => match e.2.burst with | some b => b.granted | none => false)

/-- Step 2's limit: what is still in progress is cut off, and the banks it held are released. -/
def cutBursts (s : State) : State :=
  s.sluice.cores.foldl (fun (q : State) e =>
    match (q.core e.1).burst with
    | some b => if b.granted then (q.updCore e.1 (fun k => { k with burst := none })).releaseBank (burstBank e.1 b) else q
    | none => q) s

/-- R208: every customer station goes to FAULT with cause RESET and is cleared; leases and DATA_C survive. -/
def resetStations (s : State) : State :=
  let s := s.sluice.cores.foldl (fun (q : State) e =>
    let k := q.core e.1
    let q := if k.st = .run ∨ k.st = .wait then q.count .scCntCfault e.1 1 else q
    (q.clearStation e.1).updCore e.1 (fun x =>
      { lessee := x.lessee, zeroing := x.zeroing, halted := x.halted, st := .fault, fcause := fcReset, fpc := k.pc % 1024 })) s
  let cores := s.sluice.cores
  let s := { s with sluice := { s.sluice with reset := true, cores := [] } }
  cores.foldl (fun (q : State) e => q.setCore e.1 e.2) s

/-- R124: queued promotions that only ATTENDs wait for are withdrawn. The run-ahead among them has been settled with its
ATTEND. -/
def dropPromotions (s : State) : State :=
  forUpTo s.chanCount s (fun ch q => q.updStore (fun st => st.updChan ch (fun x =>
    { x with queue := x.queue.filter (fun j => !(decide (j.kind = .promote) && !j.started && !j.other)) })))

/-- How a compute reset leaves an ACTIVE slot: an ATTEND or a PROMOTE starts again from stage 4, has not taken effect (R298,
R457) and holds its place before later requests of its conversation (R35, R46); a change whose rows or confirmations are
under way keeps its progress record (R456, R457). Each is to be replayed. -/
def resetSlot (s : State) (n : Nat) : State :=
  let x := s.slot n
  let again (s : State) : State := (s.settleStall n).updSlot n (fun y =>
    { y with prog := .queued, reissued := true, taken := false, stalled := false })
  if x.state = .active then
    match x.prog with
    | .attend a => again (s.dropAttend n a)
    | .promote _ => again s
    | _ => s.updSlot n (fun y => { y with reissued := true })
  else s

/-- Every vendor command is discarded and the vendor halves wait to be loaded again (R181, R208). The reckoners give again
the work that a page still needs (R152, R164, R173). -/
def resetVendors (s : State) : State :=
  let again := s.allVjobs.filter (fun j => decide (j.prog ≠ .score) && decide (j.prog ≠ .test) && decide (j.prog ≠ .deq))
  let s := { s with sluice := { s.sluice with vjobs := [], vendors := [], vload := none } }
  again.foldl (fun q j => q.ask j) s

/-- Steps 3 to 5: pipes, sluice cores and reckoners are reset. -/
def resetCompute (s : State) : State :=
  let s := s.slots.foldl (fun (q : State) e => q.resetSlot e.1) s
  let s := { s with attn := {}, cam := { s.cam with waiting := [] } }
  let s := s.resetStations.resetVendors.dropPromotions
  { s with rel := { s.rel with cr := .rebuilding } }

/-- The Bursar loads the vendor halves from the running firmware image (R181), named by the digest of its programs. -/
def loadVendors (s : State) : State := { s with sluice := { s.sluice with vload := some s.running.m3 } }

/-- Let HELD requests that their origins' NEXT has reached enter stage 4 again. -/
def advanceAll (s : State) : State := s.origins.foldl (fun q o => advance 262145 o.node q) s

/-- Replay the ACTIVE slots (R298): those whose confirmations have all returned complete, the others run again. -/
def replayAll (s : State) : State :=
  s.slots.foldl (fun q e =>
    let x := q.slot e.1
    if x.state = .active then
      let q := q.count .rqCntReplay 0 1
      match x.prog with
      | .staged _ => if x.waits = 0 then q.slotConfirmed e.1 else q
      | .confirm _ _ _ => if x.waits = 0 then q.slotConfirmed e.1 else q
      | _ => q
    else q) s

/-- A fall-back asked for while a compute reset ran follows it (R490). -/
def fallBackWant (s : State) : List CrWant := s.rel.wanted.filter (fun w => w.cause == 7)

/-- Step 6: RESET_END, replay, and stage 4 opens. -/
def endReset (s : State) : State :=
  let s := { s with rel := { s.rel with cr := .none, wanted := s.fallBackWant, escalate := false } }
  ((s.broadcast evResetEnd 0).requestPf 1).replayAll.advanceAll.rmaRunAll

/-! The fabric domain (Table 15-4). -/

/-- Take every link to DISABLED. -/
def linksOff (s : State) : State :=
  s.links.foldl (fun q e =>
    if e.2.state = .active then q.leaveActive e.1 .disabled else q.setLink e.1 { e.2 with state := .disabled }) s

/-- Take every link to DISABLED with nothing sent: no event, no LDREP (R501). -/
def linksDark (s : State) : State :=
  s.links.foldl (fun (q : State) e => q.setLink e.1 { e.2 with
    state := .disabled, lost := e.2.lost ++ e.2.replay, replay := [], cur := none, queue := [], credit := 0, nak := false
    episode := false, epReplays := 0, rest := [], heard := false, heardSeen := false
    lostRest := e.2.lostRest ++ (match e.2.cur with | some (i, _) => [i] | none => []) ++ e.2.queue }) s

/-- What a fabric reset takes from the domains it leaves alone: transfers to other nodes end without an answer. The registers of
a takeover, of a rebuild and of shadowing keep their values (R449, R479); a takeover waits for no more confirmations, and a copy
under way to a spare stops (log entry 186). -/
def dropTransfers (s : State) : State :=
  let rb := if s.rel.rb.state = 1 then
      { s.rel.rb with asked := [], failed := s.rel.rb.failed ++ s.rel.rb.asked.filter (fun i => decide (i < 8)), decoding := false }
    else s.rel.rb
  { s with rel := { s.rel with
      rb := rb
      shadows := s.rel.shadows.map (fun e =>
        (e.1, { e.2 with cur := none, opened := false, sent := [], waits := 0, holding := false }))
      restores := s.rel.restores.map (fun r => if r.asked ∧ r.body.isNone then { r with refused := true } else r)
      take := { s.rel.take with waits := 0 } } }

/-- A rebuild that a reset has cut short goes on to its end: the CODE program finds what has come (R468, log entry 186). -/
def rbAgain (s : State) : State :=
  if s.rel.rb.state = 1 ∧ !s.allVjobs.any (fun j => decide (j.prog = .code) && j.arg == 1) then
    (s.setRb { s.rel.rb with asked := [], decoding := true }).ask
      { prog := .code, page := (s.store.group s.rel.rb.key).parity, arg := 1 }
  else s

/-- The fabric domain as a reset leaves it. The state of a context, which the MT registers keep (R422), stays: one whose close is in
progress is CLOSING and drained. -/
def fabricDomain (s : State) : State :=
  let s := s.dropTransfers.resetBlocks [1, 6, 7, 8, 9, 10]
  { s with
    cam := { down := s.cam.down, throttle := s.cam.throttle }, links := [], furrows := [], conns := [], reasm := [], slots := []
    ctxs := (s.ctxs.filter (fun e => decide (e.2.state ≠ .closed))).map
      (fun e => (e.1, ({ state := e.2.state, drained := decide (e.2.state = .closing) } : CtxGate)))
    turn := 0, origins := [], nextEntry := 0, nextAdmit := 0, held := [], sentMarkers := [], dests := [], own := []
    unsent := [], host := {}
    img := { s.img with routes := [], added := [], fwdCur := [], fwdPrev := [], fwdShadow := [], epoch := 0, prev := 0
                        prevv := false, drain := 0 } }

/-- The compute domain as a reset of a domain below it leaves it. A compute reset in progress has its steps up to 5 done with
it, and runs step 6; one that is asked for still comes (R449). -/
def computeDomain (s : State) : State :=
  let cr : CrStep := if s.rel.cr = .none then .none else .rebuilding
  let s := s.resetCompute.loadVendors
  { s with rel := { s.rel with cr := cr } }

/-- The memory domain as memory initialisation leaves it (R159, R232, Table 13-10): DRAM zeroed, every key slot and job
slot zeroed, the silt directory empty. No context keeps a key, so none stays OPEN. The wear of a silt channel stays. -/
def memoryDomain (s : State) : State :=
  let chans := s.store.chans.map (fun e => (e.1, ({ noprog := e.2.noprog, used := e.2.used, spare := e.2.spare } : Chan)))
  let cores := (s.sluice.cores.filter (fun e => e.2.halted)).map
    (fun e => (e.1, ({ st := .fault, fcause := fcReset, halted := true } : Core)))
  let s := s.resetBlocks [4, 5]
  { s with
    store := { chans := chans.filter (fun e => decide (e.2 ≠ {})) }
    ctxs := s.ctxs.filter (fun e => decide (e.2.state ≠ .opn))
    sluice := { reset := true, cores := cores, vload := s.sluice.vload }
    conns := s.conns.map (fun e => (e.1, { e.2 with key0 := if e.2.key0 = 0 then 0 else 4097
                                                    key1 := if e.2.key1 = 0 then 0 else 4097 }))
    mint := { s.mint with ctxKeys := [], jobs := [], metaKey := none }
    rel := { s.rel with restores := [] } }

/-- The metadata key, a fresh draw at each memory initialisation (Table 13-1), is installed in slot 1,024. -/
def drawMeta (s : State) : State :=
  ({ s with store := { s.store with keys := SMap.set 0 s.store.keys 1024 (s.fresh + 1) }
            mint := { s.mint with metaKey := some s.fresh } } : State).tick

end State

end Machine

end Sys2Proof
end

