-- ==== Sys2Proof/Machine/SlhDsa.lean ====
section
/-! DEFINITION. SLH-DSA-SHAKE-256s (FIPS 205), with which the Mint signs and verifies (R9, R402, R403, R481): trees of
32-byte values hashed with SHAKE256, a hypertree of 8 layers of height 8, 22 FORS trees of height 14, and chains of 16
values. The pure form with an empty context string is used (PRESUMED, log entry 166). -/

namespace Sys2Proof.SlhDsa

/-- What a hash is made for, by the type codes of an address. -/
inductive Use where
  | chain | chainEnds | tree | fors | forsRoots | chainSeed | forsSeed
deriving DecidableEq, Repr

/-- The type code of an address. -/
def Use.code : Use → Nat
  | .chain => 0
  | .chainEnds => 1
  | .tree => 2
  | .fors => 3
  | .forsRoots => 4
  | .chainSeed => 5
  | .forsSeed => 6

/-- Where in the hypertree one is: the public seed, the layer, and the tree's number in its layer. -/
structure Site where
  seed : Bytes
  layer : Nat := 0
  tree : Nat := 0
deriving DecidableEq, Repr

/-- The tweakable hash of a message at a site: the public seed, the 32-byte address with its three last words, the
message. -/
def hash (p : Site) (u : Use) (x y z : Nat) (m : Bytes) : Bytes :=
  let addr := Aes.beBytes 4 p.layer ++ Aes.beBytes 12 p.tree ++ Aes.beBytes 4 u.code ++ Aes.beBytes 4 x ++ Aes.beBytes 4 y ++ Aes.beBytes 4 z
  Keccak.shake256 (p.seed ++ addr ++ m) 32

/-- Digits of w bits of a byte string, the most significant first: n of them. -/
def digits (w n : Nat) (b : Bytes) : List Nat :=
  let v := Aes.beNat b
  (upTo n).map (fun i => (v >>> (8 * b.length - w * (i + 1))) % 2 ^ w)

/-- A 32-byte piece of a byte string. -/
def piece (b : Bytes) (i : Nat) : Bytes := sub b (32 * i) 32

/-! Trees by their leaves. -/

/-- One level of a tree from the level under it, whose nodes are at height h. -/
def level (join : Nat → Nat → Bytes → Bytes) (h : Nat) : Nat → List Bytes → List Bytes
  | i, a :: b :: t => join (h + 1) i (a ++ b) :: level join h (i + 1) t
  | _, _ => []

/-- The root of a tree and the siblings on the way up from a leaf: n levels above the given one at height h, whose first
node is at index i; at is the leaf's place in it. -/
def climb (join : Nat → Nat → Bytes → Bytes) : Nat → Nat → Nat → Nat → List Bytes → Bytes × List Bytes
  | 0, _, _, _, l => (getAt [] l 0, [])
  | n + 1, h, i, spot, l =>
    let r := climb join n (h + 1) (i / 2) (spot / 2) (level join h (i / 2) l)
    (r.1, getAt [] l (if spot % 2 = 0 then spot + 1 else spot - 1) :: r.2)

/-- The root a leaf and its siblings give; i is the leaf's index. -/
def ascend (join : Nat → Nat → Bytes → Bytes) : Nat → Nat → Bytes → List Bytes → Bytes
  | _, _, x, [] => x
  | h, i, x, y :: t =>
    ascend join (h + 1) (i / 2) (join (h + 1) (i / 2) (if i % 2 = 0 then x ++ y else y ++ x)) t

/-! Chains (WOTS+). -/

/-- The 67 digits of a 32-byte message: its 64 nibbles, then the sum of what each lacks of 15. -/
def chainDigits (m : Bytes) : List Nat :=
  let d := digits 4 64 m
  d ++ digits 4 3 (Aes.beBytes 2 ((d.map (fun x => 15 - x)).sum * 16))

/-- A chain's value n steps on from step i. -/
def walk (p : Site) (pair c : Nat) : Nat → Nat → Bytes → Bytes
  | 0, _, x => x
  | n + 1, i, x => walk p pair c n (i + 1) (hash p .chain pair c i x)

/-- The start of a chain. -/
def chainStart (p : Site) (secret : Bytes) (pair c : Nat) : Bytes := hash p .chainSeed pair c 0 secret

/-- The hash of the ends of a pair's 67 chains, from a value of each and the steps it has to go. -/
def chainKey (p : Site) (pair : Nat) (xs : List (Nat × Bytes)) : Bytes :=
  hash p .chainEnds pair 0 0 ((xs.zipIdx.map (fun e => walk p pair e.2 e.1.1 (15 - e.1.1) e.1.2)).flatten)

/-- A leaf of a tree of the hypertree: the key of its pair. -/
def leaf (p : Site) (secret : Bytes) (pair : Nat) : Bytes :=
  chainKey p pair ((upTo 67).map (fun c => (15, chainStart p secret pair c)))

/-- The inner hash of a tree of the hypertree. -/
def joinTree (p : Site) (h i : Nat) (m : Bytes) : Bytes := hash p .tree 0 h i m

/-- A tree's root and the siblings of a leaf. -/
def treeAt (p : Site) (secret : Bytes) (pair : Nat) : Bytes × List Bytes :=
  climb (joinTree p) 8 0 0 pair ((upTo 256).map (leaf p secret))

/-- Sign a root or FORS key with a pair of a tree: the chain values, the siblings; and the tree's own root. -/
def treeSign (p : Site) (secret : Bytes) (pair : Nat) (m : Bytes) : Bytes × Bytes :=
  let t := treeAt p secret pair
  let cs := (chainDigits m).zipIdx.map (fun e => walk p pair e.2 e.1 0 (chainStart p secret pair e.2))
  (cs.flatten ++ t.2.flatten, t.1)

/-- The root that a tree's part of a signature gives. -/
def treeRoot (p : Site) (pair : Nat) (m sig : Bytes) : Bytes :=
  let xs := (chainDigits m).zipIdx.map (fun e => (15 - e.1, piece sig e.2))
  ascend (joinTree p) 0 pair (chainKey p pair xs) ((upTo 8).map (fun j => piece sig (67 + j)))

/-! The hypertree. -/

/-- Sign through the layers, n of them from the site's up: the tree's number gives the next layer's pair in its low byte. -/
def layersSign (secret : Bytes) : Nat → Site → Nat → Bytes → Bytes
  | 0, _, _, _ => []
  | n + 1, p, pair, m =>
    let r := treeSign p secret pair m
    r.1 ++ layersSign secret n { p with layer := p.layer + 1, tree := p.tree / 256 } (p.tree % 256) r.2

/-- The top root that the layers of a signature give. -/
def layersRoot : Nat → Site → Nat → Bytes → Bytes → Bytes
  | 0, _, _, m, _ => m
  | n + 1, p, pair, m, sig =>
    layersRoot n { p with layer := p.layer + 1, tree := p.tree / 256 } (p.tree % 256) (treeRoot p pair m sig)
      (sig.drop (32 * 75))

/-! FORS. -/

/-- A secret value of the FORS trees. -/
def forsStart (p : Site) (secret : Bytes) (pair i : Nat) : Bytes := hash p .forsSeed pair 0 i secret

/-- The inner hash of a FORS tree, its leaves at height 0. -/
def joinFors (p : Site) (pair h i : Nat) (m : Bytes) : Bytes := hash p .fors pair h i m

/-- Sign 22 indices of 14 bits: of each tree its secret value and the siblings of that leaf. -/
def forsSign (p : Site) (secret : Bytes) (pair : Nat) (ix : List Nat) : Bytes :=
  (ix.zipIdx.map (fun e =>
    let base := e.2 * 2 ^ 14
    let ls := (upTo (2 ^ 14)).map (fun j => joinFors p pair 0 (base + j) (forsStart p secret pair (base + j)))
    forsStart p secret pair (base + e.1) ++ (climb (joinFors p pair) 14 0 base e.1 ls).2.flatten)).flatten

/-- The FORS key that a signature gives. -/
def forsKey (p : Site) (pair : Nat) (ix : List Nat) (sig : Bytes) : Bytes :=
  hash p .forsRoots pair 0 0 ((ix.zipIdx.map (fun e =>
    let i := e.2 * 2 ^ 14 + e.1
    ascend (joinFors p pair) 0 i (joinFors p pair 0 i (piece sig (15 * e.2)))
      ((upTo 14).map (fun j => piece sig (15 * e.2 + 1 + j))))).flatten)

/-! Keys, signatures and their check. -/

/-- A key pair's 96 bytes: SK.seed, SK.prf, PK.seed (R402). -/
structure Secret where
  seed : Bytes
  prf : Bytes
  pub : Bytes
deriving DecidableEq, Repr

/-- A key pair from the 96 bytes of R402. -/
def Secret.ofBytes (b : Bytes) : Secret := { seed := piece b 0, prf := piece b 1, pub := piece b 2 }

/-- The site of the top tree. -/
def Secret.top (k : Secret) : Site := { seed := k.pub, layer := 7 }

/-- PK.root: the root of the top tree. -/
def Secret.root (k : Secret) : Bytes := (treeAt k.top k.seed 0).1

/-- The 64-byte public key: PK.seed, PK.root. -/
def Secret.publicKey (k : Secret) : Bytes := k.pub ++ k.root

/-- What the message digest of 47 bytes picks: the 22 indices, the site of the lowest tree, and its pair. -/
def pick (seed d : Bytes) : List Nat × Site × Nat :=
  (digits 14 22 (sub d 0 39), { seed := seed, tree := Aes.beNat (sub d 39 7) }, Aes.beNat (sub d 46 1))

/-- The digest of a message under a randomizer and a public key. -/
def digest (r key m : Bytes) : Bytes := Keccak.shake256 (r ++ key ++ m) 47

/-- What is signed: the pure form's prefix for an empty context, then the message. -/
def framed (m : Bytes) : Bytes := [0, 0] ++ m

/-- A signature of 29,792 bytes, by the randomness given to it. -/
def sign (k : Secret) (random m : Bytes) : Bytes :=
  let m := framed m
  let r := Keccak.shake256 (k.prf ++ random ++ m) 32
  let x := pick k.pub (digest r k.publicKey m)
  let f := forsSign x.2.1 k.seed x.2.2 x.1
  r ++ f ++ layersSign k.seed 8 x.2.1 x.2.2 (forsKey x.2.1 x.2.2 x.1 f)

/-- Whether a signature over a message verifies under a public key. -/
def verify (key m sig : Bytes) : Bool :=
  let x := pick (piece key 0) (digest (piece sig 0) key (framed m))
  let f := forsKey x.2.1 x.2.2 x.1 (sig.drop 32)
  decide (sig.length = 29792) && layersRoot 8 x.2.1 x.2.2 f (sig.drop (32 * 331)) == piece key 1

end Sys2Proof.SlhDsa
end

