-- ==== Sys2Proof/Machine/Firm.lean ====
section
/-! DEFINITION. Firmware update: staging, arming, activation, probation and fall-back (chapter 16). -/

namespace Sys2Proof.Machine

namespace State

def setFirm (s : State) (f : FirmSt) : State := { s with firm := f }

/-- Replace a slot. -/
def setFwSlot (s : State) (n : Nat) (x : FwSlot) : State :=
  s.setFirm (if n = 0 then { s.firm with slot0 := x } else { s.firm with slot1 := x })
/-- The slot that does not run. -/
def otherSlot (s : State) : Nat := 1 - s.firm.run

/-- A command of BR_FW_CMD is refused (R486). -/
def fwRefuse (s : State) : State := s.setBit .brFwStatus 0 10

/-- The slot that holds the staged image: it runs once an activation has changed slots (R487 step 4). -/
def stagedSlot (s : State) : Nat := if s.firm.st = .activating ∧ s.firm.flipped then s.firm.run else s.otherSlot

/-- Whether an image is staged: measurement 6 then holds its digest (R485). -/
def fwStaged (s : State) : Bool :=
  decide (s.firm.st = .staged) || decide (s.firm.st = .armed) || decide (s.firm.st = .activating)

/-- Bytes of the signature at the end of an image. -/
def fwSigBytes : Nat := 29792

/-- Checks 1 to 5 of R481: 0, or the error of Table 16-4. -/
def fwVerify (s : State) (b : Bytes) : Nat :=
  let len := numAt b 8 4
  if numAt b 0 4 ≠ 0x57464855 ∨ byteAt b 4 ≠ 1 ∨ len ≠ b.length ∨ 2 ^ 25 < len ∨ len < 128 + fwSigBytes ∨
      fieldOf (numAt b 4 4) 31 11 ≠ 0 ∨ numAt b 0x0E 2 ≠ 0 ∨ !allZero (sub b 0x18 0x28) then 1
  else if !(fieldOf (numAt b 4 4) 10 8).testBit s.variantCode then 2
  else if Keccak.shake256 (sub b 0x80 (len - fwSigBytes - 0x80)) 64 ≠ sub b 0x40 64 then 3
  else if !SlhDsa.verify Config.romKey (sub b 0 0x80) (sub b (len - fwSigBytes) fwSigBytes) then 4
  else if numAt b 0x0C 2 < s.firm.fuse then 5
  else 0

/-- The slot an image fills. -/
def fwSlotOf (b : Bytes) : FwSlot :=
  { used := true, svn := numAt b 0x0C 2, version := numAt b 0x10 8, digest := sub b 0x40 64
    m2 := Keccak.shake256 (Config.fwBursar b) 64, m3 := Keccak.shake256 (Config.fwPrograms b) 64 }

/-- Leave the staged image: its slot reads EMPTY and the state is IDLE. -/
def fwDiscard (s : State) : State :=
  (s.setFwSlot s.otherSlot {}).setFirm
    { (s.setFwSlot s.otherSlot {}).firm with st := .idle, pendCert := false, boot := false, flipped := false, buffer := [] }

/-- A staging ends in failure (R483). -/
def fwFail (s : State) (err : Nat) : State :=
  let s := s.fwDiscard
  (s.setFirm { s.firm with err := err }).count .brCntStageFail 0 1

/-- The last byte of an image has arrived: it is verified and staged (R483, R484). -/
def fwStage (s : State) : State :=
  let b := s.firm.buffer
  let e := s.fwVerify b
  if e ≠ 0 then s.fwFail e
  else
    let s := s.setFwSlot s.otherSlot (fwSlotOf b)
    (s.setFirm { s.firm with st := .staged, pendCert := false, err := 0, buffer := [] }).count .brCntStage 0 1

/-- The window opens and a compute reset begins (R487 step 3). -/
def openWindow (s : State) (cause : Nat) : State :=
  (s.setFirm { s.firm with window := true, holding := true }).beginReset ⟨cause, 0, 0⟩

/-- Start a fall-back (R490): at once, after the compute reset in progress, or, during a withdrawal, when the module
next leaves OUT. -/
def fallBack (s : State) : State :=
  if s.firm.st ≠ .probation then s
  else
    let s := s.setFirm { s.firm with st := .reverting }
    if s.rel.svc = .withdrawing ∨ s.rel.svc = .out then s
    else if s.rel.cr = .none then s.openWindow 7
    else { s with rel := { s.rel with wanted := [⟨7, 0, 0⟩] } }

/-- The running slot changes between the steps 3 and 4 of the reset of an activation or fall-back (R487 step 4), once: another
reset within the window changes nothing. -/
def switchSlot (s : State) : State :=
  if s.firm.window ∧ !s.firm.flipped then
    { s.setFirm { s.firm with run := s.otherSlot, flipped := true, pendCert := false } with mint := { s.mint with aliasCert := true } }
  else s

/-- The new image runs on probation. -/
def startProbation (s : State) : State :=
  s.setFirm { s.firm with
    st := .probation, boot := false, flipped := false, began := s.power.seconds, health := s.rfld .brFwCfg 0 15 0
    settle := s.rfld .brFwCfg 0 47 32, steady := true, healthy := none }

/-- A fall-back has ended: the other slot, which ran the new image, reads EMPTY (R490). -/
def endFallBack (s : State) : State :=
  let s := s.fwDiscard
  (s.setFirm { s.firm with err := 7, window := false, holding := false, healthy := none }).count .brCntFallback 0 1

/-- The pseudo-channels' stacks that some valid slice names, as a mask. -/
def slicedStacks (s : State) : Nat :=
  s.img.slices.foldl (fun a e => if e.2.valid then a ||| e.2.stackMask else a) 0

/-- The conditions of R489. -/
def fwHealthy (s : State) : Bool :=
  decide (s.rel.svc = .service) && s.slicedStacks &&& s.power.tested == s.slicedStacks && s.firm.steady &&
  s.firm.upMask &&& s.upFurrows == s.firm.upMask

/-- Note whether R489 holds now. -/
def noteHealth (s : State) : State :=
  if s.firm.st ≠ .probation then s
  else if s.fwHealthy then s.setFirm { s.firm with healthy := some (s.firm.healthy.getD s.power.seconds) }
  else s.setFirm { s.firm with healthy := none }

end State

/-- ACTIVATION_QUIESCED (R487 steps 2 and 3). -/
def execActivationQuiesced (s : State) : Result :=
  let quiet := !s.slots.any (fun e => decide (e.2.state = .active)) ||
    decide (s.firm.since + s.firm.quiesce ≤ s.hubUnits)
  if s.firm.st = .activating ∧ !s.firm.window ∧ quiet ∧ s.firm.pendCert ∧ s.img.state ≠ 1 ∧ s.rel.cr = .none then
    .next ((s.openWindow 6).count .brCntActivate 0 1)
  else .next s

/-- ACTIVATION_END (R487 step 5): the reset has ended and the window closes. -/
def execActivationEnd (s : State) : Result :=
  if s.firm.st = .activating ∧ s.firm.window ∧ s.rel.cr = .none then
    let s := s.startProbation
    .next (s.setFirm { s.firm with window := false, holding := false }).advanceAll
  else .next s

/-- CONFIRM (R489): R489 has held for SETTLE seconds. -/
def execConfirm (s : State) : Result :=
  let s := s.noteHealth
  match s.firm.st, s.firm.healthy with
  | .probation, some t =>
    if t + s.firm.settle ≤ s.power.seconds then
      let s := s.setFwSlot s.otherSlot {}
      .next ((s.setFirm { s.firm with st := .idle, fuse := Nat.max s.firm.fuse s.running.svn, healthy := none }).count
        .brCntConfirm 0 1)
    else .next s
  | _, _ => .next s

/-- HEALTH_LIMIT_EXPIRY (R490). -/
def execHealthLimitExpiry (s : State) : Result :=
  if s.firm.st = .probation ∧ s.firm.began + s.firm.health ≤ s.power.seconds then .next s.fallBack else .next s

/-- FALLBACK_END (R490). -/
def execFallbackEnd (s : State) : Result :=
  if s.firm.st = .reverting ∧ s.firm.window ∧ s.rel.cr = .none then .next s.endFallBack.advanceAll else .next s

/-- FIRMWARE_TRANSFER (R483): a segment of an image arrives. `first` begins a staging, `last` ends the transfer, and
`flash` says that the flash store failed to take the segment. -/
def execFirmwareTransfer (data : Bytes) (first last flash : Bool) (s : State) : Result :=
  if first ∧ s.firm.st ≠ .idle ∧ s.firm.st ≠ .staged then .next (s.count .brCntStageFail 0 1)
  else if !first ∧ s.firm.st ≠ .receiving then .next s
  else
    let s := if first then s.fwDiscard else s
    let s := s.setFirm { s.firm with st := .receiving, buffer := s.firm.buffer ++ data }
    if flash then .next (s.fwFail 6)
    else .next (if last then s.fwStage else s)

/-- ALIAS_CERT_SIGNED (R403, R484): the signer finishes the pending alias certificate, or the running one. -/
def execAliasCertSigned (pending : Bool) (s : State) : Result :=
  if pending then
    if s.fwStaged ∧ !s.firm.pendCert then
      .next ((s.setFirm { s.firm with pendCert := true }).count .mtCntSign 0 1)
    else .next s
  else if s.mint.ready ∧ !s.mint.aliasCert then
    .next ({ s with mint := { s.mint with aliasCert := true } }.count .mtCntSign 0 1)
  else .next s

/-- ARM (R486). -/
def execArm (s : State) : Result :=
  if s.firm.st = .staged ∧ s.rel.svc = .service ∧ s.winCount + 2 < s.rfld .rsCfg 0 3 0 then
    .next (s.setFirm { s.firm with st := .armed, armed := (s.reg .brFwArmStep 0).toNat })
  else .next s.fwRefuse

/-- DISARM (R486). -/
def execDisarm (s : State) : Result :=
  .next (if s.firm.st = .armed then s.setFirm { s.firm with st := .staged } else s.fwRefuse)

/-- REVERT (R490). -/
def execRevert (s : State) : Result := .next (if s.firm.st = .probation then s.fallBack else s.fwRefuse)

/-- DISCARD (Table 16-4). -/
def execDiscard (s : State) : Result :=
  .next (if s.firm.st = .staged ∨ s.firm.st = .armed then s.fwDiscard else s.fwRefuse)

/-- BOOT (R488). -/
def execBoot (s : State) : Result :=
  .next (if s.firm.st = .staged ∨ s.firm.st = .armed then s.setFirm { s.firm with boot := true } else s.fwRefuse)

end Sys2Proof.Machine
end

