-- ==== Sys2Proof/Machine/Reliab.lean ====
section
/-! DEFINITION. Faults, resets and recovery (chapter 15). -/

namespace Sys2Proof.Machine

namespace State

/-! The stagnation detector (R452, R453). -/

/-- A watched queue as one number. -/
def queueKey (cls index : Nat) : Nat := cls * 2 ^ 20 + index % 2 ^ 20

/-- The queue a queue waits on, where it records an edge; each records at most one. -/
def waitsOn (es : List WaitEdge) (q : Nat) : Option Nat :=
  (es.find? (fun e => queueKey e.cls e.index == q)).map (fun e => queueKey e.onCls e.onIndex)

/-- The queues met from a queue on until it is met again, if it is. -/
def cycleFrom (es : List WaitEdge) (start : Nat) : Nat → Nat → List Nat → Option (List Nat)
  | 0, _, _ => none
  | n + 1, q, seen =>
    match waitsOn es q with
    | none => none
    | some t => if t = start then some (q :: seen) else cycleFrom es start n t (q :: seen)

/-- Put a number into a rising list. -/
def insertNat (x : Nat) : List Nat → List Nat
  | [] => [x]
  | y :: t => if x < y then x :: y :: t else if x = y then y :: t else y :: insertNat x t

/-- Every cycle of the sampled edges, each named by its set of queues in rising order. -/
def cyclesOf (es : List WaitEdge) : List (List Nat) :=
  (es.filterMap (fun e =>
    let q := queueKey e.cls e.index
    (cycleFrom es q es.length q []).map (fun c => c.foldl (fun a x => insertNat x a) []))).dedup

/-- The queue a number stands for. -/
def queueOf (k : Nat) : WaitQ := { cls := k / 2 ^ 20, index := k % 2 ^ 20 }

/-- The reckoner that serves a slot: one of the run of its context's slice (R428). -/
def reckonerOf (s : State) (n : Nat) : Nat :=
  let r := s.sliceRec (s.sliceOf (s.slot n).hdr.ctx)
  r.rkFirst + Config.reckonerOf n % Nat.max 1 r.rkCount

/-- The edge a slot's conversation queue records while its request waits (R452, log entry 54): on the CAM's insertion engine, on
the silt channel it stalls on, on the reckoner whose command waits for a vendor station, on that station, or on the pipe whose
emission it waits for. -/
def slotEdge (s : State) (n : Nat) : Option WaitEdge :=
  let x := s.slot n
  let onto (c i : Nat) : Option WaitEdge := some { cls := 1, index := n, onCls := c, onIndex := i }
  if x.state ≠ .active then none
  else
    match x.prog with
    | .inserting _ _ => onto 6 0
    | p =>
      if x.stalled then onto 7 x.stallCh
      else if s.sluice.vjobs.any (fun j => j.slot == some n) then onto 2 (s.reckonerOf n)
      else
        match s.sluice.vendors.find? (fun e => e.2.queue.any (fun j => j.slot == some n)), p with
        | some e, _ => onto 4 e.1
        | none, .attend a =>
          (match a.chains.find? (fun c => !c.done) with
           | some c => if a.stage = .pipes then onto 3 c.pipe else none
           | none => none)
        | none, _ => none

/-- The edges this model's queues record (R452): those of the conversation queues, and of the reckoners whose commands wait for
room in a vendor station's queue. -/
def queueEdges (s : State) : List WaitEdge :=
  s.slots.filterMap (fun e => s.slotEdge e.1) ++
  s.sluice.vjobs.filterMap (fun j => j.slot.map (fun n =>
    ({ cls := 2, index := s.reckonerOf n, onCls := 4, onIndex := j.core } : WaitEdge)))

/-- Declare a hang (R453): the log, the fault, and a compute reset or a withdrawal. In PROBATION it is also a cause of fall-back
(R490): that compute reset is then the fall-back's own (log entry 187), and a withdrawal lets it wait. -/
def declareHang (s : State) (c : List WaitQ) : State :=
  let s := forUpTo 8 s (fun i q =>
    match (c.drop i).head? with
    | some x => q.setReg .rsStagLog i (wordOf (x.cls + place 4 x.index + place 24 1))
    | none => q.setReg .rsStagLog i 0)
  let s := ((s.rsFault 4).count .rsCntStag 0 1).pred 6 0 1 1
  let compute := c.any (fun x => (decide (2 ≤ x.cls) && decide (x.cls ≤ 4)) || x.cls == 9)
  if !compute then (s.startWithdraw 4).fallBack
  else if s.firm.st = .probation then s.fallBack
  else s.wantReset 4 0 0

/-! Withdrawal (R462). -/

/-- The hub units a slot may still wait in a withdrawal: E2E of the furrow that last carried its relayed request, or the
largest E2E among the furrows that carry its MROWS. -/
def withdrawWait (s : State) (n : Nat) : Nat :=
  let x := s.slot n
  if x.state = .forwarded then
    match s.own.find? (fun o => o.slot == n && o.shadow.isNone && o.sent) with
    | some o => s.e2e o.furrow
    | none => 0
  else
    s.conns.foldl (fun m e =>
      if e.2.outs.any (fun o => match o.use with
        | .rows k _ => k == n
        | .look k _ => k == n
        | _ => false) then Nat.max m (s.e2e (s.connFurrow e.1)) else m) 0

/-! Coding groups at a parity node. -/

/-- The group RS_RB_ARG0.GSEQ names: one whose index CIDX lies at FIRSTPOS before any other (log entry 55). -/
def rbGroup (s : State) (gseq cidx firstpos : Nat) : Option Nat :=
  let gs := s.store.groups.filter (fun e => e.2.live && e.1 % 2 ^ 32 == gseq)
  ((gs.find? (fun e =>
    let m : Member := getAt {} e.2.members cidx
    m.filled && m.firstpos == firstpos)).orElse (fun _ => gs.head?)).map (·.1)

/-- The arguments of a rebuild, from RS_RB_ARG0 to ARG2, for a group. -/
def rbArgs (s : State) (key : Nat) : RebuildJob :=
  let cidx := s.rfld .rsRbArg0 0 34 32
  let m : Member := getAt {} (s.store.group key).members cidx
  { state := 1, key := key, cidx := cidx, conn := s.rfld .rsRbArg0 0 49 36, conv := (s.reg .rsRbArg1 0).toNat
    layer := s.rfld .rsRbArg2 0 7 0, kvh := s.rfld .rsRbArg2 0 15 8, firstpos := s.rfld .rsRbArg2 0 39 16
    rows := m.rows }

/-- The conversations of a context that are live here under a handle a copy of the same context also has (R480). -/
def takeClash (s : State) (c : Nat) : Bool :=
  let clash (copy live : Nat) : Bool := (s.copyRowsOf c copy).any (fun i =>
    (s.rowOf live c (fieldOf (s.cam.row i).sValue 79 16)).isSome)
  clash kindMconv kindConv || clash kindMgroup kindGroup

/-! Shadow comparison (R476). -/

/-- Compare a sample with the spare's answer: the mismatch found, if any. -/
def sampleDiff (m : Sample) (status : Nat) (resp : Bytes) : Option Weir.Mismatch :=
  let q := AttReq.ofBytes (bodyOf m.hdr m.body)
  let d := dimOf m.dim
  if status ≠ m.status ∨ resp.length ≠ m.resp.length then some { what := 2 }
  else
    match (List.range q.g).find? (fun h => Weir.qhAt d m.resp h != Weir.qhAt d resp h) with
    | some h => some { what := 2, qh := h }
    | none => Weir.compare d (Weir.hAcc m.kvfmt m.pages) q.obf16 q.sigma (m.areas.headD []) m.vmax
      (Weir.partialsOf d q.g m.resp) (Weir.partialsOf d q.g resp)

end State

open State

/-- CRESET (R458). -/
def execCreset (s : State) : Result := .next (s.wantReset 5 0 0)

/-- WITHDRAW (R461). -/
def execWithdraw (s : State) : Result := .next (s.startWithdraw 6)

/-- COMPUTE_RESET (R454 step 1): a reset that is asked for begins, in START and SERVICE (Table 15-4). -/
def execComputeReset (s : State) : Result :=
  match s.rel.cr, s.rel.wanted with
  | .none, w :: _ =>
    if s.rel.svc = .withdrawing ∨ s.rel.svc = .out then .next { s with rel := { s.rel with wanted := [] } }
    else if s.firm.st = .reverting ∧ !s.firm.window then .next (s.openWindow 7)
    else .next (s.beginReset w)
  | _, _ => .next s

/-- RESET_CUTOFF (R454 step 2). -/
def execResetCutoff (s : State) : Result := .next (if s.rel.cr = .draining then s.cutBursts else s)

/-- COMPUTE_RESET_QUIESCED (R454 steps 3 to 5): with step 2 at its end; in an activation window the running slot changes
(R487 step 4). -/
def execComputeResetQuiesced (s : State) : Result :=
  .next (if s.rel.cr = .draining ∧ !s.burstsRun then s.resetCompute.switchSlot.loadVendors else s)

/-- COMPUTE_RESET_END (R454 step 6), which a reset that escalates (R460) or that PWR_FAIL_N met (R496) does not run. -/
def execComputeResetEnd (s : State) : Result :=
  if s.rel.cr ≠ .rebuilding then .next s
  else
    let done := { s with rel := { s.rel with cr := .none, wanted := s.fallBackWant, escalate := false } }
    if s.power.pwrFail then .next done
    else if s.rel.escalate then .next (done.startWithdraw 1)
    else .next s.endReset

/-- STAGNATION_SAMPLE (R453): one sample of every wait-for edge: those the model's queues record, and `edges` for the queues
inside the machine that the model does not hold. -/
def execStagnationSample (edges : List WaitEdge) (s : State) : Result :=
  let found := (cyclesOf (s.queueEdges ++ edges)).map (fun c => c.map queueOf)
  let counted := found.map (fun c =>
    (c, 1 + ((s.rel.cycles.find? (fun o => o.1 == c)).map (·.2)).getD 0))
  let limit := s.rfld .rsCfg 0 35 20
  let hung := counted.filter (fun c => decide (limit ≤ c.2))
  let s := { s with rel := { s.rel with cycles := counted.filter (fun c => decide (c.2 < limit)) } }
  .next (hung.foldl (fun q c => q.declareHang c.1) s)

/-- WITHDRAW_TIMEOUT (R462 steps 3 and 4): a slot has waited as long as a withdrawal lets it. -/
def execWithdrawTimeout (slot : Nat) (s : State) : Result :=
  let x := s.slot slot
  if s.rel.svc ≠ .withdrawing ∨ s.hubUnits < s.rel.wstart + s.withdrawWait slot then .next s
  else
    match x.state, x.prog with
    | .forwarded, _ =>
      .next ({ s with own := s.own.filter (fun o => !(o.slot == slot && o.shadow.isNone)) }.complete slot stBusy [])
    | .active, .staged _ => .next ((s.complete slot stLost []).addLost x.hdr.ctx x.hdr.conv 3)
    | _, _ => .next s

/-- WITHDRAW_OUT (R462 step 6). -/
def execWithdrawOut (s : State) : Result :=
  .next (if s.rel.svc = .withdrawing ∧ s.slots.isEmpty then { s with rel := { s.rel with svc := .out } } else s)

/-- PORTDIE_DOWN (R464, Table 17-4): a port die stops responding, or its transmit PLL loses lock. -/
def execPortdieDown (die : Nat) (pll : Bool) (s : State) : Result :=
  if s.portDies ≤ die ∨ s.cam.down.contains die then .next s
  else
    let s := if pll then
      ({ s with power := { s.power with pllPort := s.power.pllPort &&& (15 - 2 ^ die) } }).pwFault 4 else s
    let s := s.rsFault 6
    let s := forUpTo 16 s (fun i q =>
      let l := 16 * die + i
      if (q.link l).state = .active then q.leaveActive l .disabled
      else q.setLink l { q.link l with state := .disabled })
    let s := s.lcFault die 2 0
    let s := { s with cam := { s.cam with down := s.cam.down ++ [die], rebuild := true } }
    let s := forUpTo 4 s (fun i q =>
      if (q.store.chan (4 * die + i)).down then q else q.chanDown (4 * die + i))
    .next ((if die < 2 then s.hostDown die else s).pumpSilt)

/-- STACK_DOWN (Table 15-2, Table 17-4): a base die stops responding, or a PLL of its stack loses lock. -/
def execStackDown (stack : Nat) (pll : Bool) (s : State) : Result :=
  if s.stackCount ≤ stack then .next s
  else
    let s := if pll then
      ({ s with power := { s.power with pllStack := s.power.pllStack &&& (2 ^ 20 - 1 - 2 ^ stack) } }).pwFault 4 else s
    .next ((s.rsFault 5).startWithdraw 2)

/-- RS_TAKE (R465): a context that is not OPEN is refused; a copy whose handle is live here has no defined result
(R480). -/
def execRsTake (ctx : Nat) (s : State) : Result :=
  if s.rel.take.busy then .next s
  else if (s.ctx ctx).state ≠ .opn then
    .next (({ s with rel := { s.rel with take := { refused := true, ctx := ctx } } }).requestPf 5)
  else if s.takeClash ctx then .fault (.undefinedResult 480)
  else .next (s.takeOver ctx)

/-- TAKEOVER_DONE (R465): every copy the takeover sent is confirmed. -/
def execTakeoverDone (s : State) : Result :=
  if s.rel.take.busy ∧ s.rel.take.waits = 0 then
    .next (({ s with rel := { s.rel with take := { s.rel.take with busy := false, done := true } } }).requestPf 5)
  else .next s

/-- REBUILD_DECODE (R468, MODE 1): the members are read; the CODE program decodes when they have come. -/
def execRebuildDecode (s : State) : Result :=
  if s.rel.rb.state = 1 ∨ !s.rbit .rsRbArg0 0 35 then .next s
  else
    match s.rbGroup (s.rfld .rsRbArg0 0 31 0) (s.rfld .rsRbArg0 0 34 32) (s.rfld .rsRbArg2 0 39 16) with
    | none => .next (s.endRb 3 1)
    | some key =>
      let s := s.setRb (s.rbArgs key)
      let g := s.store.group key
      let ctx := (s.anyHeader g.parity).ctx
      .next ((forUpTo 8 s (fun i q =>
        let m : Member := getAt {} g.members i
        if m.filled ∧ i ≠ q.rel.rb.cidx then q.askMember ctx i false m else q)).rbGathered)

/-- REBUILD_RECORD (R468, MODE 0): the group record takes the new holder of an index. -/
def execRebuildRecord (s : State) : Result :=
  if s.rel.rb.state = 1 ∨ s.rbit .rsRbArg0 0 35 then .next s
  else
    let cidx := s.rfld .rsRbArg0 0 34 32
    match s.rbGroup (s.rfld .rsRbArg0 0 31 0) cidx (s.rfld .rsRbArg2 0 39 16) with
    | none => .next (s.endRb 3 1)
    | some key =>
      let g := s.store.group key
      let m : Member := getAt {} g.members cidx
      let m := { m with filled := true, declared := false, node := s.rfld .rsRbArg2 0 55 40
                        page := s.rfld .rsRbArg3 0 39 0 }
      .next ((s.updStore (fun st => st.setGroup key { g with members := setAt g.members cidx m })).endRb 2 0)

/-- LOST_ADD (R469): the conversation RS_LOST_CONV of a context enters the lost list. -/
def execLostAdd (ctx : Nat) (s : State) : Result := .next (s.addLost ctx (s.reg .rsLostConv 0).toNat 4)

/-- LOST_REMOVE (R469). -/
def execLostRemove (ctx : Nat) (s : State) : Result := .next (s.dropLost ctx (s.reg .rsLostConv 0).toNat)

/-- SHADOW_COMPARE (R476): the spare's answer to a sampled ATTEND is compared with this node's own. -/
def execShadowCompare (slice : Nat) (s : State) : Result :=
  let x := s.shadowSt slice
  match x.samples.findIdx? (fun m => m.answer.isSome) with
  | none => .next s
  | some i =>
    let m : Sample := getAt {} x.samples i
    let s := (s.setShadowSt slice { x with samples := x.samples.eraseIdx i }).count .rsCntShadowCmp 0 1
    match m.answer with
    | none => .next s
    | some (status, resp) =>
      match sampleDiff m status resp with
      | none => .next s
      | some d =>
        let os := m.served.foldl (fun acc k => acc + 2 ^ k) 0
        .next ((s.logMismatch (misRecord 1 d m.hdr m.load 0 0 os x.spare (tband (s.hottest m.served))) m.served 3).count
          .rsCntShadowMis 0 1)

/-- PREDICTIVE_SAVE (R478): 3,600 s have passed since the counters were last written to flash. -/
def execPredictiveSave (s : State) : Result :=
  .next (if s.rel.predSaved + 3600 ≤ s.power.seconds then
    { s with rel := { s.rel with predFlash := s.rel.pred, predSaved := s.power.seconds } } else s)

end Sys2Proof.Machine
end

