-- ==== Sys2Proof/Machine/Commits.lean ====
section
/-! DEFINITION. Commit groups (R438 to R440, R523, R524): what each group holds, when a commit is refused or has no
defined result, and the moment it takes effect. -/

namespace Sys2Proof.Machine

/-- The commit groups with their instances (Table 18-4), but for HP_RNG, HP_VF_RING and FU_CONN, whose commits have
effects of their own. -/
inductive Group where
  | hubRet | hgCfg | hgCtx (c : Nat) | hgGate (f : Nat) | wp (k : Nat) | sc (k : Nat) | pg (k : Nat) | pgCode
  | st (p : Nat) | lc | rq | rqEpoch | lk | fu (f : Nat) | mt | rs | rsShadow (k : Nat) | brFw | pw
deriving DecidableEq, Repr

/-- The registers of a group (Table 18-4). -/
def Group.regs : Group → List (Reg × Nat)
  | .hubRet => [(.hubRetCfg, 0)]
  | .hgCfg => [(.hgCfg, 0), (.hgOvh, 0)]
  | .hgCtx c => State.hgCtxGroup c
  | .hgGate f => (Reg.hgGateCfg, f) :: (List.range 16).map (fun i => (Reg.hgGateEnt, f * 16 + i))
  | .wp k => [(.wpCfg, k)]
  | .sc k => [(.scCfg, k)]
  | .pg k => [(.pgCfg, k)]
  | .pgCode => [(.pgCodeCfg, 0)]
  | .st p => [(.stCfg, p)]
  | .lc => [(.lcCfg, 0)]
  | .rq => [(.rqCfg, 0)]
  | .rqEpoch => [(.rqEpochCfg, 0)]
  | .lk => [(.lkCfg, 0), (.lkEn, 0), (.lkIftype, 0)]
  | .fu f => [(.fuCfg, f), (.fuLinks, f), (.fuCtrl, f)]
  | .mt => [(.mtCfg, 0)]
  | .rs => [(.rsCfg, 0)]
  | .rsShadow k => [(.rsShadowCfg, k)]
  | .brFw => [(.brFwCfg, 0)]
  | .pw => [(.pwCfg, 0)]

/-- The group of a shadowed register. -/
def groupOf (r : Reg) (i : Nat) : Option Group :=
  match r with
  | .hubRetCfg => some .hubRet
  | .hgCfg => some .hgCfg
  | .hgOvh => some .hgCfg
  | .hgBktRate => some (.hgCtx i)
  | .hgBktBurst => some (.hgCtx i)
  | .hgCtxSlots => some (.hgCtx i)
  | .hgCtxArb => some (.hgCtx i)
  | .hgGateCfg => some (.hgGate i)
  | .hgGateEnt => some (.hgGate (i / 16))
  | .wpCfg => some (.wp i)
  | .scCfg => some (.sc i)
  | .pgCfg => some (.pg i)
  | .pgCodeCfg => some .pgCode
  | .stCfg => some (.st i)
  | .lcCfg => some .lc
  | .rqCfg => some .rq
  | .rqEpochCfg => some .rqEpoch
  | .lkCfg => some .lk
  | .lkEn => some .lk
  | .lkIftype => some .lk
  | .fuCfg => some (.fu i)
  | .fuLinks => some (.fu i)
  | .fuCtrl => some (.fu i)
  | .mtCfg => some .mt
  | .rsCfg => some .rs
  | .rsShadowCfg => some (.rsShadow i)
  | .brFwCfg => some .brFw
  | .pwCfg => some .pw
  | _ => none

namespace State

/-- A field of a shadow. -/
def sfld (s : State) (r : Reg) (i hi lo : Nat) : Nat := (s.shadow r i).fld hi lo

/-- Whether the variant has an instance (R520). -/
def hasGroup (s : State) : Group → Bool
  | .wp k => decide (k < s.stackCount)
  | .sc k => decide (k < s.stackCount)
  | .pg k => decide (k < s.stackCount)
  | .st p => decide (p < s.portDies)
  | .hgCtx c => decide (c < 1024)
  | .hgGate f => decide (f < 8)
  | .fu f => decide (f < 8)
  | .rsShadow k => decide (k < 8)
  | _ => true

/-- Whether a pseudo-channel holds a frame of a context that is not CLOSED. -/
def framesHeld (s : State) (pc : Nat) : Bool :=
  (SMap.range s.store.frames (frameKey pc 0) (frameKey pc 0 + framesPerPc)).any (fun e =>
    decide (e.2.pstate ≠ .free) && decide (e.2.pstate ≠ .retired) && decide ((s.ctx e.2.ctx).state ≠ .closed))

/-- The pseudo-channels of a stack whose pipes a commit of WP_CFG turns off. -/
def pipesCleared (s : State) (k : Nat) : List Nat :=
  (List.range 64).filter (fun n => s.rbit .wpCfg k n && !(s.shadow .wpCfg k).bit n)

/-- Whether a furrow has an OPEN connection. -/
def furrowBusy (s : State) (f : Nat) : Bool :=
  s.conns.any (fun e => decide (e.2.state = .opn) && s.connFurrow e.1 == f)

/-- A commit whose result the named rule leaves undefined. -/
def commitUndef (s : State) : Group → Option Nat
  | .hubRet =>
    let round := s.sfld .hubRetCfg 0 17 9
    if s.sfld .hubRetCfg 0 8 1 = 0 ∨ round < 16 ∨ 256 < round then some 127 else none
  | .hgCtx c =>
    if s.sfld .hgBktBurst c 31 0 = 0 ∨ s.sfld .hgCtxArb c 7 0 = 0 ∨ s.sfld .hgCtxArb c 9 8 = 3 ∨
        s.sfld .hgCtxArb c 18 11 = 0 ∨ s.sfld .hgCtxArb c 34 19 = 0 then some 365 else none
  | .wp k => if (s.pipesCleared k).any (fun n => s.framesHeld (64 * k + n)) then some 100 else none
  | .pg k => if s.sfld .pgCfg k 15 0 = 0 then some 178 else none
  | .pgCode => if s.sfld .pgCodeCfg 0 7 0 = 0 then some 178 else none
  | .st p =>
    if s.sfld .stCfg p 31 16 ≤ s.sfld .stCfg p 15 0 ∨ s.sfld .stCfg p 47 32 = 0 then some 238 else none
  | .lc =>
    let n := s.sfld .lcCfg 0 13 0
    let t1 := s.sfld .lcCfg 0 44 37
    let t2 := s.sfld .lcCfg 0 52 45
    if n = 0 ∨ 8192 < n ∨ 0x68 < s.sfld .lcCfg 0 20 14 ∨ s.sfld .lcCfg 0 36 21 = 0 ∨ t2 ≤ t1 ∨
        s.sfld .lcCfg 0 60 53 ≤ t2 then some 268 else none
  | .rq =>
    if s.sfld .rqCfg 0 31 16 = 0 ∨ s.sfld .rqCfg 0 47 32 = 0 ∨ (s.sfld .rqCfg 0 15 0 ≠ s.node ∧ (!s.own.isEmpty ∨ !s.sentMarkers.isEmpty ∨ s.conns.any (fun e => !e.2.outs.isEmpty)))
    then some 306 else none
  | .lk =>
    let m := s.sfld .lkCfg 0 3 0
    let t := s.sfld .lkCfg 0 9 4
    if m = 0 ∨ 8 < m ∨ t = 0 ∨ 61 < t ∨ s.sfld .lkCfg 0 21 10 < 64 ∨ s.sfld .lkCfg 0 37 22 = 0 then some 339 else none
  | .fu f =>
    let m := s.sfld .fuCfg f 21 16
    let links := (s.shadow .fuLinks f).toNat
    let other := (List.range 8).any (fun g => g != f && (s.reg .fuLinks g).toNat &&& links != 0)
    let moved := decide (links ≠ (s.reg .fuLinks f).toNat) || decide (s.sfld .fuCfg f 15 0 ≠ s.rfld .fuCfg f 15 0) ||
      decide (s.sfld .fuCtrl f 13 0 ≠ s.rfld .fuCtrl f 13 0)
    if m = 0 ∨ 32 < m ∨ other ∨ (moved ∧ s.furrowBusy f) then some 339 else none
  | .mt => if s.sfld .mtCfg 0 15 0 = 0 then some 423 else none
  | .rs =>
    if s.sfld .rsCfg 0 3 0 = 0 ∨ s.sfld .rsCfg 0 35 20 = 0 ∨ s.sfld .rsCfg 0 59 52 = 0 then some 480 else none
  | .rsShadow k => if s.sfld .rsShadowCfg k 32 17 = 0 then some 480 else none
  | .brFw =>
    let h := s.sfld .brFwCfg 0 15 0
    if h = 0 ∨ h ≤ s.sfld .brFwCfg 0 47 32 then some 492 else none
  | .pw =>
    let v (i : Nat) : Nat := s.sfld .pwCfg 0 (8 * i + 7) (8 * i)
    if v 1 ≤ v 0 ∨ v 2 ≤ v 1 ∨ v 4 ≤ v 3 ∨ v 5 ≤ v 4 ∨ 114 < v 2 ∨ 114 < v 5 then some 516 else none
  | _ => none

/-- MIN of a context as its waiting capture, else the value in effect, gives it. -/
def minSoon (s : State) (c : Nat) : Nat := ((s.captured .hgCtxSlots c).getD (s.reg .hgCtxSlots c)).fld 18 0

/-- Whether DUP_RESERVE and the reserves would exceed the request table (R350). -/
def overReserved (dup : Nat) (minOf : Nat → Nat) : Bool :=
  decide (slotTotal < dup + ((List.range 1024).map minOf).sum)

/-- The gate list of a furrow's shadow: duration and open classes of each entry in use. -/
def gateList (s : State) (f : Nat) : List (Nat × Nat) :=
  (List.range (s.sfld .hgGateCfg f 4 1 + 1)).map (fun e =>
    (s.sfld .hgGateEnt (f * 16 + e) 15 0, s.sfld .hgGateEnt (f * 16 + e) 19 16))

/-- The longest run of consecutive gate units a class is open over a list: the longest seen and the one at hand. -/
def longestRun (cls : Nat) (l : List (Nat × Nat)) : Nat :=
  (l.foldl (fun (a : Nat × Nat) e =>
    if e.2.testBit cls then (Nat.max a.1 (a.2 + e.1), a.2 + e.1) else (a.1, 0)) (0, 0)).1

/-- Whether a gate list is refused (R358); a class open in every entry is always open. -/
def gateBad (l : List (Nat × Nat)) : Bool :=
  l.any (fun e => e.1 == 0) ||
  (List.range 4).any (fun k => !l.all (fun e => e.2.testBit k) && decide (longestRun k (l ++ l) < 4))

/-- E2E at which a commit of FU_CFG begins to be accepted (R335). -/
def e2eLeast (floor retry : Nat) : Nat := floor + ceilDiv (4 * retry) 25

/-- Whether a commit is refused, and the bit that says so. -/
def commitRefused (s : State) : Group → Option (Reg × Nat × Nat)
  | .hgCfg => if overReserved (s.sfld .hgCfg 0 17 0) s.minSoon then some (.hgStatus, 0, 19) else none
  | .hgCtx c =>
    let mins (x : Nat) : Nat := if x = c then s.sfld .hgCtxSlots c 18 0 else s.minSoon x
    if overReserved (s.rfld .hgCfg 0 17 0) mins ∨ s.sfld .hgCtxSlots c 37 19 < s.sfld .hgCtxSlots c 18 0 then
      some (.hgStatus, 0, 19) else none
  | .hgGate f => if gateBad (s.gateList f) then some (.hgGateStatus, f, 4) else none
  | .rqEpoch => if s.img.prevv then some (.rqEpochStatus, 0, 41) else none
  | .fu f =>
    if s.sfld .fuCfg f 53 38 < e2eLeast (s.sfld .fuCfg f 37 22) (s.rfld .lkCfg 0 9 4) then some (.fuStatus, f, 33)
    else none
  | _ => none

/-- Whether ORD_RUNS may change (R266): no JOIN entry, and no exact entry in a row of the new ordered region. -/
def ordMay (s : State) (runs : Nat) : Bool :=
  !s.cam.rows.any (fun e => e.2.sValid && (kindOf e.2.sValue == kindJoin || decide (e.1 < 16 * runs)))

/-- Links enabled and disabled by LK_EN (R338, Table 10-4); a link of a port die that is down stays DISABLED. -/
def applyLinks (s : State) : State :=
  forUpTo 64 s (fun l q =>
    let on := q.rbit .lkEn 0 l && decide (l < q.linkCount) && !q.cam.down.contains (l / 16) && decide (q.power.rails = .on)
    let k := q.link l
    if on then (if k.state = .disabled then
      ((q.setLink l { k with state := .phyTrain }).count .lkCntTrain l 1).pred 2 l 3 1 else q)
    else if k.state = .disabled then q
    else if k.state = .active then q.leaveActive l .disabled
    else q.setLink l { k with state := .disabled })

/-- A change of the epoch (R302). -/
def changeEpoch (s : State) : State :=
  let s := s.commitNow [(.rqEpochCfg, 0)]
  let s := { s with img := { s.img with
    prev := s.img.epoch, epoch := s.rfld .rqEpochCfg 0 15 0, prevv := true, fwdPrev := s.img.fwdCur
    fwdCur := s.img.fwdShadow, drain := 0 } }
  let s := forUpTo 8 s (fun f q =>
    if q.trained f then
      let q := { q with img := { q.img with drain := q.img.drain + 2 ^ f } }
      q.sendMarker f mDrainEpoch q.img.epoch
    else q)
  s.epochDrained

/-- A commit of RS_SHADOW: EN starts the copying, or stops relaying at once (R474, R477). -/
def applyShadow (s : State) (k : Nat) : State :=
  let was := s.rbit .rsShadowCfg k 0
  let s := s.commitNow [(.rsShadowCfg, k)]
  if !was ∧ s.rbit .rsShadowCfg k 0 then
    shadowStep 65536 (s.setShadowSt k { phase := 1, spare := s.rfld .rsShadowCfg k 16 1 }) k
  else if was ∧ !s.rbit .rsShadowCfg k 0 then
    { s.setShadowSt k {} with own := s.own.filter (fun o => decide (o.shadow ≠ some k)) }
  else s

/-- Start of a gate list at entry 0. -/
def startGate (s : State) (f : Nat) : State :=
  let s := s.updFurrow f (fun y => { y with entry := 0 })
  forUpTo 4 s (fun c q => pumpGate 65536 true f c q)

/-- An accepted commit: the capture, and its effect where the group's chapter names no later moment. -/
def commitGroup (s : State) (g : Group) : State :=
  match g with
  | .hgCtx c =>
    let s := s.capture g.regs
    if (s.ctx c).queue.isEmpty then (s.applyHgCtx c).headsCheck else s
  | .hgCfg => (s.commitNow g.regs).headsCheck
  | .hgGate f => if s.rbit .hgGateCfg f 0 then s.capture g.regs else (s.commitNow g.regs).startGate f
  | .wp k =>
    let s := s.commitNow g.regs
    forUpTo 64 s (fun n q => q.pushPipe (64 * k + n))
  | .pg _ => s.capture g.regs
  | .pw => s.capture g.regs
  | .lc =>
    let runs := s.sfld .lcCfg 0 13 0
    let old := s.rfld .lcCfg 0 13 0
    let may := s.ordMay runs
    let was := s.rfld .lcCfg 0 36 21
    let s := s.commitNow g.regs
    let s := if may then s else s.setFld .lcCfg 0 13 0 old
    { s.setFld .lcCfg 0 36 21 was with cam := { s.cam with period := some (s.rfld .lcCfg 0 36 21) } }
  | .lk => (s.commitNow g.regs).applyLinks
  | .fu f => (s.commitNow g.regs).noteFurrow f
  | .rqEpoch => s.changeEpoch
  | .rsShadow k => s.applyShadow k
  | g => s.commitNow g.regs

/-- A commit of a group: of an instance the variant lacks nothing, an undefined result, a refusal with its bit, or the
commit. -/
def commit (s : State) (g : Group) : Result :=
  if !s.hasGroup g then .next s
  else
    match s.commitUndef g with
    | some r => .fault (.undefinedResult r)
    | none =>
      match s.commitRefused g with
      | some (r, i, b) => .next (s.setBit r i b)
      | none => .next (s.commitGroup g)

/-! Connections (R337). -/

/-- A connection starts afresh; what waited for one goes out. `far` is the node management names for it (R431). -/
def openConn (s : State) (c : Nat) (far : Option Nat) : State :=
  let s := s.commitNow [(.fuConnCfg, c)]
  let s := match far with
    | some n => { s with img := { s.img with
        routes := SMap.set 0 s.img.routes c (n + 1), added := c :: s.img.added.filter (· != c) } }
    | none => s
  let s := s.updConn c (fun k => { k with
    state := .opn, rnext := 0, window := [], held := [], waiting := [], txseq := 0, outs := [] })
  let s := match s.connCtx c with | some x => s.flushUnsent x | none => s
  s.own.foldl (fun q o => (q.openDest o.dest).pumpOwn o.dest) s

/-- A commit of FU_CONN of a connection; number 0 means none (R320). -/
def commitConn (s : State) (c : Nat) (far : Option Nat) : Result :=
  let w := s.shadow .fuConnCfg c
  let k := s.conn c
  let bound := w.bit 5
  let same := s.conns.any (fun e => e.1 != c && decide (e.2.state = .opn) && s.connFurrow e.1 == w.fld 3 1 &&
    s.connTo e.1 == w.fld 34 21)
  if c = 0 then .next s
  else if w.bit 0 then
    if k.state = .opn ∨ k.state = .closing then .next s
    else if bound ∧ !(s.sliceRec (s.sliceOf (w.fld 15 6))).furmask.testBit (w.fld 3 1) then
      .next (s.count .cbCntRefused 0 1)
    else if bound ∧ !w.bit 16 ∧ s.img.conf then .next (s.count .mtCntConfref 0 1)
    else if same then .fault (.undefinedResult 339)
    else .next (s.openConn c far)
  else if k.state = .opn then .next (s.connClose c)
  else if k.state = .closing then .next s
  else
    let s := s.commitNow [(.fuConnCfg, c)]
    .next (if k.state = .failed then s.updConn c (fun x => { x with state := .closing }) else s)

end State

open State

/-- HUB_RET_CFG_COMMIT (R126). -/
def execHubRetCfgCommit (s : State) : Result := s.commit .hubRet

/-- HG_CFG_COMMIT (R350). -/
def execHgCfgCommit (s : State) : Result := s.commit .hgCfg

/-- HG_CTX_COMMIT (R350, R351). -/
def execHgCtxCommit (ctx : Nat) (s : State) : Result := s.commit (.hgCtx ctx)

/-- HG_GATE_COMMIT (R358). -/
def execHgGateCommit (furrow : Nat) (s : State) : Result := s.commit (.hgGate furrow)

/-- WP_CFG_COMMIT (R97, R100). -/
def execWpCfgCommit (stack : Nat) (s : State) : Result := s.commit (.wp stack)

/-- SC_CFG_COMMIT (R210). -/
def execScCfgCommit (stack : Nat) (s : State) : Result := s.commit (.sc stack)

/-- PG_CFG_COMMIT (R177): captured until the next scrub pass and refresh command. -/
def execPgCfgCommit (stack : Nat) (s : State) : Result := s.commit (.pg stack)

/-- PG_CODE_COMMIT (R177). -/
def execPgCodeCommit (s : State) : Result := s.commit .pgCode

/-- ST_CFG_COMMIT (R236). -/
def execStCfgCommit (die : Nat) (s : State) : Result := s.commit (.st die)

/-- LC_CFG_COMMIT (R266). -/
def execLcCfgCommit (s : State) : Result := s.commit .lc

/-- RQ_CFG_COMMIT (R305). -/
def execRqCfgCommit (s : State) : Result := s.commit .rq

/-- RQ_EPOCH_COMMIT (R302). -/
def execRqEpochCommit (s : State) : Result := s.commit .rqEpoch

/-- LK_CFG_COMMIT (R338). -/
def execLkCfgCommit (s : State) : Result := s.commit .lk

/-- FU_COMMIT (R335). -/
def execFuCommit (furrow : Nat) (s : State) : Result := s.commit (.fu furrow)

/-- FU_CONN_COMMIT (R337, R413, R428, R431): of the connection FU_CONN_SEL selects; `far` is the node management names. -/
def execFuConnCommit (far : Option Nat) (s : State) : Result := s.commitConn (s.rfld .fuConnSel 0 13 0) far

/-- MT_CFG_COMMIT (R422). -/
def execMtCfgCommit (s : State) : Result := s.commit .mt

/-- RS_CFG_COMMIT (R479). -/
def execRsCfgCommit (s : State) : Result := s.commit .rs

/-- RS_SHADOW_COMMIT (R474, R477). -/
def execRsShadowCommit (slice : Nat) (s : State) : Result := s.commit (.rsShadow slice)

/-- BR_FW_COMMIT (R491). -/
def execBrFwCommit (s : State) : Result := s.commit .brFw

/-- PW_CFG_COMMIT (Table 17-8): captured until the next sensor reading. -/
def execPwCfgCommit (s : State) : Result := s.commit .pw

/-- CAPTURE_EFFECT (R438): the moment of a captured commit: HG_CTX at an arbitration turn. The moment of PG_CFG is a refresh
command or the start of a scrub pass (R177), which take the commit themselves; at any other it stays captured. -/
def execCaptureEffect (group : CapGroup) (s : State) : Result :=
  match group with
  | .pgCfg _ => .next s
  | .hgCtx c => .next (s.applyHgCtx c).headsCheck

end Sys2Proof.Machine
end

