-- ==== Sys2Proof/Machine/Image.lean ====
section
/-! DEFINITION. Creko images: layout, records, and the checks of Table 14-8 that read the image alone (14.1 to 14.4). -/

namespace Sys2Proof.Machine

/-- A section: its index in the image, its type and its records. -/
structure Sect where
  ix : Nat := 0
  type : Nat := 0
  recs : List Bytes := []
deriving DecidableEq, Repr

/-- An image that has passed the checks HEADER to SECTION. -/
structure Image where
  bytes : Bytes := []
  amend : Bool := false
  sects : List Sect := []
deriving DecidableEq, Repr

/-- A validation error: ERR, SECT and RECORD of CB_STATUS (Table 14-8). -/
structure LoadErr where
  err : Nat := 0
  sect : Nat := 0
  record : Nat := 0
deriving DecidableEq, Repr

/-- Bytes of a record of a section type; none for a reserved type (Table 14-2). -/
def recordSize (t : Nat) : Option Nat :=
  match t with
  | 1 => some 80
  | 2 => some 64
  | 3 => some 16
  | 4 => some 32
  | 5 => some 8
  | 6 => some 24
  | 7 => some 16
  | _ => none

/-- The most records of a section type (Table 14-2). -/
def recordMost (t : Nat) : Nat := getAt 0 [0, 1, 16, 1024, 8, 16384, 32768, 65536] t

/-- The reserved bits of a record: offset, width in bytes and mask (Tables 14-3 to 14-7, 14.4). -/
def reservedOf (t : Nat) : List (Nat × Nat × Nat) :=
  match t with
  | 1 => [(0, 8, 0xFFFFFFFFFFFFFFFE), (8, 8, 0xFFFFFFFFFFFFFFFF)]
  | 2 => [(0, 4, 0xFFFFC000), (4, 4, 0xFFF00000), (8, 4, 0xFE000000), (0xC, 4, 0xFFFF0000),
          (0x10, 8, 0xFFFFFFFFFFF00000), (0x34, 4, 0xFFFFFFFF), (0x38, 8, 0xFFFFFFFFFFFFFFFF)]
  | 3 => [(0, 4, 0xFF008000), (4, 4, 0x80000000), (8, 8, 0xFFFFFFFFFFFFFFFF)]
  | 4 => [(0, 4, 0xFC00), (8, 4, 0xFFFFC000), (0xC, 4, 0xFFFFFFFF)]
  | 5 => [(0, 4, 0xC000), (4, 4, 0xFFFFFFFF)]
  | 6 => [(0, 4, 0xFC00), (4, 4, 0xFFFFFFFF)]
  | _ => [(0, 8, 0xFFFFFFFFFF000000)]

/-- Whether a reserved field of a record is nonzero (R435). -/
def recordReserved (t : Nat) (r : Bytes) : Bool := (reservedOf t).any (fun x => numAt r x.1 x.2.1 &&& x.2.2 != 0)

namespace Image

/-- A field of the header (Table 14-1). -/
def num (i : Image) (off n : Nat) : Nat := numAt i.bytes off n
def serial (i : Image) : Nat := i.num 0x10 8
def baseSerial (i : Image) : Nat := i.num 0x18 8
def epoch (i : Image) : Nat := i.num 0x28 2
def origin (i : Image) : Nat := i.num 0x2A 2

/-- The section of a type. -/
def sect (i : Image) (t : Nat) : Option Sect := i.sects.find? (fun x => x.type == t)

/-- Whether an image has a section of a type. -/
def has (i : Image) (t : Nat) : Bool := (i.sect t).isSome

/-- The records of a type. -/
def recs (i : Image) (t : Nat) : List Bytes := match i.sect t with | some x => x.recs | none => []

/-- The index of the section of a type. -/
def sectIx (i : Image) (t : Nat) : Nat := match i.sect t with | some x => x.ix | none => 0

end Image

/-- The DIGEST field of an image (Table 14-1). -/
def imageDigest (b : Bytes) : Bytes := sub b 0x40 64

/-- The digest over an image with its DIGEST read as zero (R424). -/
def digestOf (b : Bytes) : Bytes := Keccak.shake256 (splice b 0x40 (zeros 64)) 64

/-- The header's own check (Table 14-8 HEADER), over the whole buffer. -/
def headerBad (b : Bytes) : Bool :=
  let n := numAt b 8 4
  decide (numAt b 0 4 ≠ 0x4B455243) || decide (byteAt b 4 ≠ 1) || decide (1 < fieldOf (numAt b 4 4) 9 8) ||
  decide (fieldOf (numAt b 4 4) 31 12 ≠ 0) || decide (n % 16 ≠ 0) || decide (n < 128) || decide (0x1000000 < n) ||
  decide (numAt b 0xE 2 ≠ 0) || !allZero (sub b 0x2C 20)

/-- The sections from one on: how many are left, the index and type of the last, and the bytes (R424, R425). -/
def parseSects (amend : Bool) : Nat → Nat → Nat → Bytes → Except LoadErr (List Sect)
  | 0, _, _, _ => .ok []
  | n + 1, i, last, b =>
    let t := byteAt b 0
    let len := numAt b 4 4
    let count := numAt b 8 4
    match recordSize t with
    | none => .error ⟨5, i, 0⟩
    | some z =>
      if t ≤ last ∨ numAt b 0 4 ≠ t ∨ numAt b 12 4 ≠ 0 ∨ len ≠ 16 + count * z ∨ b.length < len ∨ recordMost t < count ∨
          (t = 1 ∧ (amend ∨ count ≠ 1)) then .error ⟨5, i, 0⟩
      else
        match parseSects amend n (i + 1) t (b.drop (roundUp len 16)) with
        | .error e => .error e
        | .ok rest => .ok ({ ix := i, type := t, recs := chunksOf z count (sub b 16 (count * z)) } :: rest)

/-- The index of the first element a test refuses. -/
def firstBad (p : Nat → Bytes → Bool) : Nat → List Bytes → Option Nat
  | _, [] => none
  | i, r :: t => if p i r then some i else firstBad p (i + 1) t

/-- Refuse an image whose section of a type holds a record a test refuses. -/
def checkRecs (img : Image) (t err : Nat) (p : Nat → Bytes → Bool) : Except LoadErr Unit :=
  match firstBad p 0 (img.recs t) with
  | some i => .error ⟨err, img.sectIx t, i⟩
  | none => .ok ()

/-- The checks HEADER to SECTION of Table 14-8, in order; `variant` is the module's variant code. -/
def parseImage (variant : Nat) (buf : Bytes) : Except LoadErr Image :=
  let b := buf.take (numAt buf 8 4)
  let amend := decide (fieldOf (numAt b 4 4) 9 8 = 1)
  if headerBad buf then .error ⟨1, 0, 0⟩
  else if digestOf b ≠ imageDigest b then .error ⟨2, 0, 0⟩
  else if fieldOf (numAt b 4 4) 11 10 ≠ variant then .error ⟨3, 0, 0⟩
  else if numAt b 0x20 8 ≠ 0 then .error ⟨4, 0, 0⟩
  else
    match parseSects amend (numAt b 0xC 2) 0 0 (b.drop 128) with
    | .error e => .error e
    | .ok ss =>
      let img : Image := { bytes := b, amend := amend, sects := ss }
      if !amend && !(img.has 1 && img.has 2 && img.has 3 && img.has 4) then .error ⟨5, ss.length, 0⟩
      else
        match checkRecs img 1 5 (fun _ r => recordReserved 1 r) with
        | .error e => .error e
        | .ok _ =>
          match checkRecs img 5 5 (fun _ r => recordReserved 5 r) with
          | .error e => .error e
          | .ok _ => .ok img

/-! Records. -/

/-- The slice number of a slice record. -/
def sliceNo (r : Bytes) : Nat := fieldOf (numAt r 0 4) 3 0

/-- A slice record (Table 14-3). -/
def sliceRecOf (r : Bytes) : SliceRec :=
  let w0 := numAt r 0 4
  let w4 := numAt r 4 4
  let w8 := numAt r 8 4
  { valid := w0.testBit 4, coded := w0.testBit 5, furmask := fieldOf w0 13 6, mirror := fieldOf w4 15 0
    cidx := fieldOf w4 19 16, rkFirst := fieldOf w8 11 0, rkCount := fieldOf w8 24 12, cset := numAt r 0xC 2
    stackMask := fieldOf (numAt r 0x10 8) 19 0, pcs := numAt r 0x18 8
    cnode := (List.range 10).map (fun k => numAt r (0x20 + 2 * k) 2) }

/-- The context of a context record. -/
def ctxNo (r : Bytes) : Nat := fieldOf (numAt r 0 4) 9 0

/-- A context record (Table 14-4). -/
def ctxRecOf (r : Bytes) : CtxRec :=
  let w0 := numAt r 0 4
  let w4 := numAt r 4 4
  { slice := fieldOf w0 13 10, enable := w0.testBit 14, share := fieldOf w0 23 16, vforigin := fieldOf w4 15 0
    leases := fieldOf w4 30 16 }

/-- A furrow record (Table 14-5). -/
structure FurRec where
  en : Bool := false
  minLinks : Nat := 0
  peer : Nat := 0
  floor : Nat := 0
  e2e : Nat := 0
  ctrl : Nat := 0
  links : Nat := 0
  c2m : Nat := 0
deriving DecidableEq, Repr

def furNo (r : Bytes) : Nat := fieldOf (numAt r 0 4) 2 0

def furRecOf (r : Bytes) : FurRec :=
  let w0 := numAt r 0 4
  { en := w0.testBit 3, minLinks := fieldOf w0 9 4, peer := fieldOf w0 31 16, floor := numAt r 4 2, e2e := numAt r 6 2
    ctrl := fieldOf (numAt r 8 4) 13 0, links := numAt r 0x10 8, c2m := numAt r 0x18 8 }

/-- A forwarding record (Table 14-6). -/
def fwdOf (r : Bytes) : FwdEntry :=
  { ctx := fieldOf (numAt r 0 4) 9 0, lo := numAt r 8 8, hi := numAt r 16 8, node := numAt r 2 2 }

/-- The register and instance a REGS record names, if its offset is one's. -/
def regOf (r : Bytes) : Option (Reg × Nat) := regAt (fieldOf (numAt r 0 4) 23 0)

/-- The commit group a REGS record may touch; none for a register it may not name (R433). -/
def regGroup (r : Bytes) : Option Group :=
  match regOf r with
  | none => none
  | some (.lkEn, _) => none
  | some (.lkIftype, _) => none
  | some (x, i) =>
    match groupOf x i with
    | some (.wp _) => none
    | some (.fu _) => none
    | some .rqEpoch => none
    | g => g

/-- Whether two slices share a pseudo-channel or a reckoner (R427). -/
def slicesMeet (a b : SliceRec) : Bool :=
  (a.stackMask &&& b.stackMask != 0 && a.pcs &&& b.pcs != 0) ||
  (decide (a.rkFirst < b.rkFirst + b.rkCount) && decide (b.rkFirst < a.rkFirst + a.rkCount))

/-- Pseudo-channels of a slice. -/
def slicePcCount (r : SliceRec) : Nat := popcount 20 r.stackMask * popcount 64 r.pcs

end Sys2Proof.Machine
end

