-- ==== Sys2Proof/Machine/Loader.lean ====
section
/-! DEFINITION. The Creko loader: validation against the module's state, applying an image, the operations of CB_CTL, and
reloading after a reset (14.3 to 14.7, R440). -/

namespace Sys2Proof.Machine

/-- The operations of CB_CTL that read an image. -/
inductive CbOp where
  | load | store | amend
deriving DecidableEq, Repr

/-- How an operation ends: with a state, in ERROR, or with a result the named rule leaves undefined (R444). -/
inductive LoadRes where
  | ok (s : State)
  | bad (e : LoadErr)
  | undef (rule : Nat)

namespace State

/-! What an image would leave. -/

/-- ORIGIN once an image is applied (R433). -/
def originAfter (s : State) (img : Image) : Nat := if img.amend then s.node else img.origin

/-- The slices once an image is applied; a record with VALID 0 removes its slice. -/
def slicesAfter (s : State) (img : Image) : List (Nat × SliceRec) :=
  (img.recs 2).foldl (fun m r =>
    let x := sliceRecOf r
    SMap.set {} m (sliceNo r) (if x.valid then x else {})) (if img.amend then s.img.slices else [])

/-- The contexts once an image is applied (R429). -/
def ctxsAfter (s : State) (img : Image) : List (Nat × CtxRec) :=
  (img.recs 3).foldl (fun m r => SMap.set {} m (ctxNo r) (ctxRecOf r)) (if img.amend then s.img.ctxs else [])

/-- The furrow records of an image, a later one replacing an earlier. -/
def furrowsOf (img : Image) : List (Nat × FurRec) :=
  (img.recs 4).foldl (fun m r => SMap.ins m (furNo r) (furRecOf r)) []

/-- The links of a furrow once an image is applied. -/
def linksAfter (s : State) (img : Image) (f : Nat) : Nat :=
  match (furrowsOf img).find? (fun e => e.1 == f) with
  | some e => e.2.links
  | none => if img.amend then (s.reg .fuLinks f).toNat else 0

/-- The groups an image commits in its third step, each once, in order (R433): in a base image RQ_CFG always is, since
ORIGIN is written. -/
def touched (s : State) (img : Image) : List Group :=
  let gs := (img.recs 7).foldl (fun l r =>
    match regGroup r with
    | some g => if s.hasGroup g && !l.contains g then l ++ [g] else l
    | none => l) []
  if img.amend || gs.contains .rq then gs else gs ++ [.rq]

/-- Write the records of section REGS to the shadows, in order (R433), for the groups a test picks. -/
def writeRegs (s : State) (img : Image) (pick : Group → Bool) : State :=
  let s := (img.recs 7).foldl (fun q r =>
    match regOf r, regGroup r with
    | some (x, i), some g => if pick g then q.setShadow x i (wordOf (numAt r 8 8) &&& wordOf x.access.rwc) else q
    | _, _ => q) s
  if (s.touched img).contains .rq && pick .rq then
    s.setShadow .rqCfg 0 ((s.shadow .rqCfg 0).setFld 15 0 (s.originAfter img))
  else s

/-- Every touched group's shadow as the value in effect, as the image would leave it. -/
def regsAfter (s : State) (img : Image) : State := (s.touched img).foldl (fun q g => q.commitNow g.regs) (s.writeRegs img (fun _ => true))

/-! Validation (R435, Table 14-8). -/

/-- Whether a slice record is refused (Table 14-8 SLICE). -/
def sliceBad (s : State) (img : Image) (r : Bytes) : Bool :=
  let n := sliceNo r
  let x := SMap.get {} (s.slicesAfter img) n
  let y := sliceRecOf r
  let origin := s.originAfter img
  recordReserved 2 r || (y.valid &&
    (decide (slicePcCount y = 0) || decide (y.rkCount = 0) || decide (4096 < y.rkFirst + y.rkCount) ||
      decide (2 ^ s.stackCount ≤ y.stackMask) || y.mirror == origin ||
      (y.coded && (decide (9 < y.cidx) || getAt 0 y.cnode y.cidx != origin)) ||
      (s.slicesAfter img).any (fun e => e.1 != n && e.2.valid && slicesMeet e.2 x)))

/-- Whether the i-th context record is refused (Table 14-8 CONTEXT). -/
def ctxBad (s : State) (img : Image) (i : Nat) (r : Bytes) : Bool :=
  let x := ctxRecOf r
  let sl := SMap.get {} (s.slicesAfter img) x.slice
  recordReserved 3 r || ((img.recs 3).take i).any (fun q => ctxNo q == ctxNo r) || !sl.valid ||
    decide (16 * slicePcCount sl < x.leases)

/-- RETRY_TIME as an image would leave it. -/
def retryAfter (s : State) (img : Image) : Nat :=
  (img.recs 7).foldl (fun t r => if regOf r = some (.lkCfg, 0) then fieldOf (numAt r 8 8) 9 4 else t) (s.rfld .lkCfg 0 9 4)

/-- Whether a furrow record is refused (Table 14-8 FURROW). -/
def furrowBad (s : State) (img : Image) (r : Bytes) : Bool :=
  let f := furNo r
  let x := furRecOf r
  recordReserved 4 r || decide (2 ^ s.linkCount ≤ x.links) || decide (x.e2e < e2eLeast x.floor (s.retryAfter img)) ||
    (List.range 8).any (fun g => g != f && s.linksAfter img g &&& x.links != 0)

/-- Whether the i-th forwarding record is refused (R432): out of order, overlapping the one before, or upside down. -/
def fwdBad (img : Image) (i : Nat) (r : Bytes) : Bool :=
  let x := fwdOf r
  recordReserved 6 r || decide (x.hi < x.lo) ||
    (match i with
     | 0 => false
     | k + 1 =>
       let p := fwdOf (getAt [] (img.recs 6) k)
       decide (x.ctx < p.ctx) || (x.ctx == p.ctx && decide (x.lo ≤ p.hi)))

/-- The first touched group whose commit would be refused, by the last record that names it (R433). -/
def regsRefused (s : State) (img : Image) : Option Nat :=
  let t := s.regsAfter img
  match (s.touched img).find? (fun g => (t.commitRefused g).isSome) with
  | some g =>
    some (((List.range (img.recs 7).length).filter (fun i => regGroup (getAt [] (img.recs 7) i) == some g)).getLast?.getD 0)
  | none => none

/-- Whether a pseudo-channel holds a frame outside PSTATE FREE. -/
def pcUsed (s : State) (pc : Nat) : Bool :=
  (SMap.range s.store.frames (frameKey pc 0) (frameKey pc 0 + framesPerPc)).any (fun e => decide (e.2.pstate ≠ .free))

/-- Whether a slice record of an amendment breaks a limit (Table 14-10). -/
def sliceLimit (s : State) (r : Bytes) : Bool :=
  let n := sliceNo r
  let x := sliceRecOf r
  let old := s.sliceRec n
  if old.valid then
    s.ctxs.any (fun e => decide (e.2.state ≠ .closed) && s.sliceOf e.1 == n) ||
    (s.slicePcs n).any (fun pc =>
      !(x.valid && x.stackMask.testBit (pc / 64) && x.pcs.testBit (pc % 64)) && s.pcUsed pc)
  else x.valid && s.img.slices.any (fun e => e.2.valid && slicesMeet e.2 x)

/-- Whether a context record of an amendment breaks a limit: all but LEASES changes for a CLOSED context alone. -/
def ctxLimit (s : State) (r : Bytes) : Bool :=
  let c := ctxNo r
  let x := ctxRecOf r
  decide ((s.ctx c).state ≠ .closed) && decide ({ s.ctxRec c with leases := 0 } ≠ { x with leases := 0 })

/-- The epoch rule of an amendment (R441), and that its commit would be accepted (R302). -/
def epochLimit (s : State) (img : Image) : Bool :=
  if img.has 6 then s.img.prevv || decide (s.epochIs img.epoch ≠ .newer) else decide (img.epoch ≠ s.img.epoch)

/-- Whether a base image clears confidential mode, which takes a memory initialisation (R413). -/
def clearsConf (s : State) (img : Image) : Bool := s.img.conf && !(numAt (getAt [] (img.recs 1) 0) 0 8).testBit 0

/-- The check STATE of Table 14-8 (R434, R436, R441, R443); `logging` says that an amendment would enter the log. A LOAD whose
memory initialisation could draw no fresh key is refused (R401, log entry 142). -/
def checkState (s : State) (op : CbOp) (logging : Bool) (img : Image) : Except LoadErr Unit :=
  match op with
  | .load =>
    if img.amend ∨ s.ctxs.any (fun e => decide (e.2.state ≠ .closed)) ∨ (s.clearsConf img ∧ s.mint.stopped) then .error ⟨0xB, 0, 0⟩
    else .ok ()
  | .store => if img.amend then .error ⟨0xB, 0, 0⟩ else .ok ()
  | .amend =>
    if !img.amend ∨ (logging ∧ 255 ≤ s.img.log.length) then .error ⟨0xB, 0, 0⟩
    else
      match checkRecs img 2 0xB (fun _ r => s.sliceLimit r) with
      | .error e => .error e
      | .ok _ =>
        match checkRecs img 3 0xB (fun _ r => s.ctxLimit r) with
        | .error e => .error e
        | .ok _ =>
          match checkRecs img 4 0xB (fun _ r => s.furrowBusy (furNo r)) with
          | .error e => .error e
          | .ok _ => if s.epochLimit img then .error ⟨0xB, img.sectIx 6, 0⟩ else .ok ()

/-- SERIAL of an image's bytes. -/
def serialOf (b : Bytes) : Nat := numAt b 0x10 8

/-- The check SERIAL (Table 14-8). -/
def serialBad (s : State) (img : Image) : Bool :=
  img.amend && ((match s.img.base with | some b => serialOf b != img.baseSerial | none => true) ||
    (match s.img.amends.getLast? with | some b => decide (img.serial ≤ serialOf b) | none => false))

/-- The checks SLICE to SERIAL of Table 14-8, in order. -/
def validate (s : State) (op : CbOp) (logging : Bool) (img : Image) : Except LoadErr Unit :=
  match checkRecs img 2 6 (fun _ r => s.sliceBad img r) with
  | .error e => .error e
  | .ok _ =>
    match checkRecs img 3 7 (s.ctxBad img) with
    | .error e => .error e
    | .ok _ =>
      match checkRecs img 4 8 (fun _ r => s.furrowBad img r) with
      | .error e => .error e
      | .ok _ =>
        match checkRecs img 6 9 (fwdBad img) with
        | .error e => .error e
        | .ok _ =>
          match checkRecs img 7 0xA (fun _ r => recordReserved 7 r || decide (regGroup r = none)) with
          | .error e => .error e
          | .ok _ =>
            match s.regsRefused img with
            | some i => .error ⟨0xA, img.sectIx 7, i⟩
            | none =>
              match s.checkState op logging img with
              | .error e => .error e
              | .ok _ => if s.serialBad img then .error ⟨0xC, 0, 0⟩ else .ok ()

/-! Applying an image (R436, R442). -/

/-- Step 1: SECURITY. A change of measurement 5 has a new alias certificate signed, and drops a pending one (R402, R403,
R484). -/
def applySecurity (s : State) (img : Image) : State :=
  match img.recs 1 with
  | [] => s
  | r :: _ =>
    let conf := (numAt r 0 8).testBit 0
    let root := sub r 0x10 64
    let same := conf == s.img.conf && root == s.img.ksroot
    let s := { s with img := { s.img with conf := conf, ksroot := root } }
    if same then s
    else { s with mint := { s.mint with aliasCert := false }, firm := { s.firm with pendCert := false } }

/-- The pipes of a stack that belong to a valid slice (R427). -/
def pipeMask (s : State) (k : Nat) : Nat :=
  s.img.slices.foldl (fun a e => if e.2.valid && e.2.stackMask.testBit k then a ||| e.2.pcs else a) 0

/-- PIPE_EN of every stack from the slices (R427). -/
def applyPipes (s : State) : State :=
  forUpTo s.stackCount s (fun k q => (q.setShadow .wpCfg k (wordOf (q.pipeMask k))).commitGroup (.wp k))

/-- The registers a context's record fills: its quota of leases and its VF's origin (Table 14-4). -/
def applyCtxRegs (s : State) (c : Nat) : State :=
  let x := s.ctxRec c
  (s.setFld .scLeaseQuota c 14 0 x.leases).setFld .hpVfCfg (c / 512 * 513 + c % 512 + 1) 15 0 x.vforigin

/-- Step 2: SLICES and CONTEXTS. -/
def applySlices (s : State) (img : Image) : State :=
  let had := s.img.ctxs.map (·.1)
  let s := { s with img := { s.img with slices := s.slicesAfter img, ctxs := s.ctxsAfter img } }
  let s := if img.has 2 then s.applyPipes else s
  let cs := if img.amend then (img.recs 3).map ctxNo else had ++ (img.recs 3).map ctxNo
  cs.foldl (fun (q : State) c => q.applyCtxRegs c) s

/-- Step 3: REGS with its commits, for the groups a test picks. -/
def applyRegs (s : State) (img : Image) (pick : Group → Bool) : State :=
  ((s.touched img).filter pick).foldl (fun q g => q.commitGroup g) (s.writeRegs img pick)

/-- The registers of a furrow from its record. -/
def applyFurrow (s : State) (f : Nat) (x : FurRec) : State :=
  let cfg := x.peer + place 16 x.minLinks + place 22 x.floor + place 38 x.e2e + place 54 (bnat x.en)
  (((s.setShadow .fuCfg f (wordOf cfg)).setShadow .fuLinks f (wordOf x.links)).setShadow .fuCtrl f (wordOf x.ctrl)).commitNow
    (Group.regs (.fu f))

/-- Step 4: FURROWS, then LK_EN and LK_IFTYPE (R430). In a base image a furrow that no record names is out of use, with no
link. -/
def applyFurrows (s : State) (img : Image) : State :=
  if !img.has 4 then s
  else
    let s := if img.amend then s
      else forUpTo 8 s (fun f q =>
        if q.rbit .fuCfg f 54 ∨ q.reg .fuLinks f ≠ 0 then q.applyFurrow f { minLinks := 1, floor := 0x20, e2e := 0x200 } else q)
    let s := (furrowsOf img).foldl (fun (q : State) e => q.applyFurrow e.1 e.2) s
    let en := (List.range 8).foldl (fun a f => if s.rbit .fuCfg f 54 then a ||| (s.reg .fuLinks f).toNat else a) 0
    let mine := (furrowsOf img).foldl (fun a e => a ||| e.2.links) 0
    let kept := if img.amend then (s.reg .lkIftype 0).toNat &&& (2 ^ 64 - 1 - mine) else 0
    let c2m := (furrowsOf img).foldl (fun a e => a ||| (e.2.c2m &&& e.2.links)) kept
    let s := ((s.setShadow .lkEn 0 (wordOf en)).setShadow .lkIftype 0 (wordOf c2m)).commitGroup .lk
    forUpTo 8 s (fun f q => q.noteFurrow f)

/-- Step 5, ROUTES (Table 14-10): an amendment's NODE 0 removes a route. Routes the Bursar added stay. -/
def applyRoutes (s : State) (img : Image) : State :=
  let old := if img.amend then s.img.routes else s.img.routes.filter (fun e => s.img.added.contains e.1)
  { s with img := { s.img with routes := (img.recs 5).foldl (fun m r =>
      let n := numAt r 2 2
      SMap.set 0 m (fieldOf (numAt r 0 4) 13 0) (if img.amend && n == 0 then 0 else n + 1)) old } }

/-- Step 5, FORWARD, and the epoch: a base image's at once, an amendment's by a commit of RQ_EPOCH (R436, R442). -/
def applyForward (s : State) (img : Image) : State :=
  let fwd := (img.recs 6).map fwdOf
  if !img.amend then
    { s with img := { s.img with
        fwdCur := fwd, fwdPrev := [], fwdShadow := fwd, epoch := img.epoch, prevv := false, drain := 0 } }
  else if img.has 6 then
    (({ s with img := { s.img with fwdShadow := fwd } }).setShadow .rqEpochCfg 0 (wordOf img.epoch)).commitGroup .rqEpoch
  else { s with img := { s.img with fwdShadow := s.img.fwdCur } }

/-- Whether the slices an image leaves give two coding sets one node at one index, or name a slice's mirror partner at a data
index of its own set (R178). -/
def codingUndef (s : State) (img : Image) : Bool :=
  let coded := (s.slicesAfter img).filter (fun e => e.2.valid && e.2.coded)
  coded.any (fun e =>
    (e.2.cnode.take 8).contains e.2.mirror ||
    coded.any (fun d => d.2.cset != e.2.cset && (List.zipWith (fun a b => a == b) d.2.cnode e.2.cnode).any id))

/-- The first commit of an image whose result is undefined (R444), with the furrow registers (R339) and the coding sets (R178)
among them. -/
def imageUndef (s : State) (img : Image) : Option Nat :=
  let t := s.writeRegs img (fun _ => true)
  match (s.touched img).findSome? (fun g => t.commitUndef g) with
  | some r => some r
  | none =>
    if !(img.recs 2).isEmpty && s.codingUndef img then some 178
    else if (furrowsOf img).any (fun e => decide (e.2.minLinks = 0) || decide (32 < e.2.minLinks) ||
        (s.furrowBusy e.1 && (decide (e.2.links ≠ (s.reg .fuLinks e.1).toNat) ||
          decide (e.2.peer ≠ s.rfld .fuCfg e.1 15 0) || decide (e.2.ctrl ≠ s.rfld .fuCtrl e.1 13 0)))) then some 339
    else none

/-- Every step of an image. -/
def applyAll (s : State) (img : Image) : State :=
  let s := (((s.applySecurity img).applySlices img).applyRegs img (fun _ => true)).applyFurrows img
  (s.applyRoutes img).applyForward img

/-! Reset of the domains and the reload that follows (R440, R449, R451). -/

/-- The images in effect, the base first. -/
def imagesInEffect (s : State) : List Image :=
  ((match s.img.base with | some b => [b] | none => []) ++ s.img.amends).filterMap (fun b =>
    match parseImage s.variantCode b with
    | .ok i => some i
    | .error _ => none)

/-- Reload the registers of the blocks a reset cleared, and with the fabric domain the furrows, routes, forwarding table
and epoch, from the image and its amendments (R440). -/
def reload (s : State) (blocks : List Nat) : State :=
  s.imagesInEffect.foldl (fun q img =>
    let pick (g : Group) : Bool := match g.regs with | x :: _ => blocks.contains (blockOf x.1) | [] => false
    let q := q.applyRegs img pick
    let q := ((q.touched img).filter pick).foldl (fun (p : State) g => p.takeEffect g.regs) q
    if blocks.contains 8 then
      let q := (img.recs 3).foldl (fun (p : State) r => p.applyCtxRegs (ctxNo r)) q
      ((q.applyFurrows img).applyRoutes img).applyForward img
    else q) s

/-- The blocks of the fabric domain and of the memory domain. -/
def fabricBlocks : List Nat := [1, 6, 7, 8, 9, 10]
def memoryBlocks : List Nat := [4, 5]

/-- A memory initialisation with the resets it includes, before the reload (R449). -/
def clearMemory (s : State) : State :=
  let s := s.computeDomain
  ((if s.rel.svc = .service then s else s.fabricDomain).memoryDomain.drawMeta).rbAgain

/-- A memory initialisation. -/
def initMemory (s : State) : State :=
  s.clearMemory.reload (if s.rel.svc = .service then memoryBlocks else memoryBlocks ++ fabricBlocks)

/-- A fabric reset. -/
def resetFabric (s : State) : State := ((s.computeDomain.fabricDomain).rbAgain).reload fabricBlocks

/-! The operations (R434, R436, R441, R442). -/

/-- LOAD of a buffer. -/
def loadBase (s : State) (buf : Bytes) : LoadRes :=
  match parseImage s.variantCode buf with
  | .error e => .bad e
  | .ok img =>
    match s.validate .load false img with
    | .error e => .bad e
    | .ok _ =>
      match s.imageUndef img with
      | some r => .undef r
      | none =>
        let s := ((if s.clearsConf img then s.clearMemory else s).applyAll img).count .cbCntLoad 0 1
        .ok { s with img := { s.img with base := some img.bytes, amends := [] } }

/-- AMEND of a buffer; at start-up a logged amendment is applied without being logged again. -/
def loadAmend (s : State) (logging : Bool) (buf : Bytes) : LoadRes :=
  match parseImage s.variantCode buf with
  | .error e => .bad e
  | .ok img =>
    match s.validate .amend logging img with
    | .error e => .bad e
    | .ok _ =>
      match s.imageUndef img with
      | some r => .undef r
      | none =>
        let s := (s.applyAll img).count .cbCntAmend 0 1
        .ok { s with img := { s.img with
          amends := s.img.amends ++ [img.bytes], log := if logging then s.img.log ++ [img.bytes] else s.img.log } }

/-- STORE of a buffer. -/
def storeBase (s : State) (buf : Bytes) : LoadRes :=
  match parseImage s.variantCode buf with
  | .error e => .bad e
  | .ok img =>
    match s.validate .store false img with
    | .error e => .bad e
    | .ok _ => .ok { s with img := { s.img with stored := some img.bytes, log := [] } }

/-- The logged amendments, in order. -/
def loadLog : List Bytes → State → LoadRes
  | [], s => .ok s
  | b :: t, s =>
    match s.loadAmend false b with
    | .ok s => loadLog t s
    | r => r

/-- The load at start-up (R434): the stored base image, then the logged amendments. -/
def loadStored (s : State) : LoadRes :=
  match s.img.stored with
  | none => .bad {}
  | some b =>
    match s.loadBase b with
    | .ok t => loadLog s.img.log t
    | r => r

/-- CB_STATUS after an operation. -/
def setLoad (s : State) (st : Nat) (e : LoadErr) : State :=
  { s with img := { s.img with state := st, err := e.err, sect := e.sect, record := e.record } }

/-- How an operation of CB_CTL ends. A base image applied after step 5 of start-up has failed lets start-up resume at
step 6 (R512). -/
def endLoad (s : State) (r : LoadRes) : Result :=
  match r with
  | .undef k => .fault (.undefinedResult k)
  | .bad e => .next ((s.setLoad 3 e).count .cbCntFail 0 1)
  | .ok t =>
    let t := t.setLoad 2 {}
    .next (if t.img.base.isSome ∧ t.power.step = 5 ∧ t.power.failed then
      { t with power := { t.power with step := 6, failed := false } } else t)

/-- The bytes of the load buffer that an image's LENGTH names, or its first 128. -/
def bufferBytes (s : State) : Bytes :=
  dramRead s.img.buffer 0 (Nat.min 0x1000000 (Nat.max 128 (leNat (dramRead s.img.buffer 8 4))))

/-- Write bytes into the load buffer, at offsets below 16 MiB. -/
def putBuffer (s : State) (off : Nat) (bs : Bytes) : State :=
  { s with img := { s.img with buffer := dramWrite s.img.buffer off (bs.take (0x1000000 - off)) } }

/-- Measurement 4 (R437): 64 zero bytes while no image is in effect. -/
def measurement4 (s : State) : Bytes :=
  match s.img.base with
  | none => zeros 64
  | some b => Keccak.shake256 (imageDigest b ++ s.img.amends.flatMap imageDigest) 64

/-- ADDR of CB_ADDR as an offset of 8 bytes. -/
def bufferAddr (s : State) : Nat := s.rfld .cbAddr 0 23 0 / 8 * 8

/-- ADDR advances by 8 (Table 14-12). -/
def stepAddr (s : State) : State := s.setFld .cbAddr 0 23 0 ((s.bufferAddr + 8) % 0x1000000)

end State

open State

/-- CB_LOAD (R436). -/
def execCbLoad (s : State) : Result := s.endLoad (s.loadBase s.bufferBytes)

/-- CB_STORE (R434). -/
def execCbStore (s : State) : Result := s.endLoad (s.storeBase s.bufferBytes)

/-- CB_AMEND (R441, R442, R443). -/
def execCbAmend (s : State) : Result := s.endLoad (s.loadAmend true s.bufferBytes)

/-- CB_CLEAR (Table 14-12): the buffer is emptied. -/
def execCbClear (s : State) : Result := .next (({ s with img := { s.img with buffer := [] } }).setLoad 2 {})

/-- CB_DATA (Table 14-12): a write of a word, or a read where none is given, of the 8 bytes at ADDR. -/
def execCbData (write : Option Word) (s : State) : Result :=
  match write with
  | some w => .next (s.putBuffer s.bufferAddr (leBytes 8 w.toNat)).stepAddr
  | none => .next (s.emit (.value (wordOf (leNat (dramRead s.img.buffer s.bufferAddr 8))))).stepAddr

end Sys2Proof.Machine
end

