-- ==== Sys2Proof/Machine/MlKem.lean ====
section
/-! DEFINITION. ML-KEM-1024 (FIPS 203), with which a session's secret is agreed (R9, R404, Table 13-2): the side that
encapsulates, which is the responder's (PRESUMED, log entry 166). A polynomial is the list of its 256 coefficients, from
0 to 3,328. -/

namespace Sys2Proof.MlKem

/-- The modulus. -/
def q : Nat := 3329

/-- The seven bits of a number in reverse. -/
def mirrored (i : Nat) : Nat := (upTo 7).foldl (fun r k => 2 * r + i / 2 ^ k % 2) 0

/-- A power of 17, whose order is 256. -/
def root (n : Nat) : Nat := 17 ^ (n % 256) % q

/-- Sum of two polynomials. -/
def plus (f g : List Nat) : List Nat := List.zipWith (fun a b => (a + b) % q) f g

/-- A polynomial less another. -/
def minus (f g : List Nat) : List Nat := List.zipWith (fun a b => (a + q - b) % q) f g

/-- A multiple of a polynomial. -/
def times (c : Nat) (f : List Nat) : List Nat := f.map (fun a => c * a % q)

/-- The remainders of a polynomial modulo the factors of X^256 + 1, by halving n times; i numbers the factor. -/
def ntt : Nat → Nat → List Nat → List Nat
  | 0, _, f => f
  | n + 1, i, f =>
    let k := f.length / 2
    let t := times (root (mirrored i)) (f.drop k)
    ntt n (2 * i) (plus (f.take k) t) ++ ntt n (2 * i + 1) (minus (f.take k) t)

/-- The way back, but for the factor 128. -/
def join : Nat → Nat → List Nat → List Nat
  | 0, _, f => f
  | n + 1, i, f =>
    let k := f.length / 2
    let a := join n (2 * i) (f.take k)
    let b := join n (2 * i + 1) (f.drop k)
    plus a b ++ times (root (256 - mirrored i)) (minus a b)

/-- The number-theoretic transform. -/
def fwd (f : List Nat) : List Nat := ntt 7 1 f

/-- Its inverse; 3,303 is the inverse of 128. -/
def back (f : List Nat) : List Nat := times 3303 (join 7 1 f)

/-- Products of remainders, each modulo its X^2 - c. -/
def mulPairs : Nat → List Nat → List Nat → List Nat
  | i, a :: b :: f, c :: d :: g =>
    ((a * c + b * d * root (2 * mirrored i + 1)) % q) :: ((a * d + b * c) % q) :: mulPairs (i + 1) f g
  | _, _, _ => []

/-- Product of two transformed polynomials. -/
def mul (f g : List Nat) : List Nat := mulPairs 0 f g

/-- The zero polynomial. -/
def nought : List Nat := List.replicate 256 0

/-- Sum of products of two vectors. -/
def dot (u v : List (List Nat)) : List Nat := (List.zipWith mul u v).foldl plus nought

/-- 256 numbers of d bits from bytes. -/
def unpack (d : Nat) (b : Bytes) : List Nat :=
  let v := leNat b
  (upTo 256).map (fun i => (v >>> (d * i)) % 2 ^ d)

/-- Bytes of 256 numbers of d bits. -/
def pack (d : Nat) (f : List Nat) : Bytes := leBytes (32 * d) (f.foldr (fun x acc => x + acc * 2 ^ d) 0)

/-- A coefficient in d bits, rounded. -/
def compress (d x : Nat) : Nat := (2 ^ (d + 1) * x + q) / (2 * q) % 2 ^ d

/-- The candidates in a byte stream: two of 12 bits in every three bytes. -/
def candidates : Bytes → List Nat
  | a :: b :: c :: t =>
    (a.toNat + 256 * (b.toNat % 16)) :: (b.toNat / 16 + 16 * c.toNat) :: candidates t
  | _ => []

/-- A uniform transformed polynomial: the first 256 candidates below q. -/
def uniform (seed : Bytes) : List Nat :=
  ((candidates (Keccak.shake128 seed 1344)).filter (fun x => decide (x < q))).take 256

/-- A small polynomial, by seed and number: of each four bits, the first two less the last two. -/
def small (seed : Bytes) (n : Nat) : List Nat :=
  (unpack 4 (Keccak.shake256 (seed ++ leBytes 1 n) 128)).map (fun x =>
    (x % 2 + x / 2 % 2 + q - x / 4 % 2 - x / 8) % q)

/-- Polynomial i of an encapsulation key. -/
def keyPart (ek : Bytes) (i : Nat) : List Nat := unpack 12 (sub ek (384 * i) 384)

/-- The checks on an encapsulation key: its length, and every coefficient below q. -/
def keyOk (ek : Bytes) : Bool :=
  decide (ek.length = 1568) && (upTo 4).all (fun i => (keyPart ek i).all (fun x => decide (x < q)))

/-- The ciphertext of a 32-byte message under a key, by the coins given. -/
def encrypt (ek m coins : Bytes) : Bytes :=
  let seed := sub ek 1536 32
  let y := (upTo 4).map (fun i => fwd (small coins i))
  let u := (upTo 4).map (fun i =>
    plus (back (dot ((upTo 4).map (fun j => uniform (seed ++ leBytes 1 i ++ leBytes 1 j))) y)) (small coins (4 + i)))
  let v := plus (plus (back (dot ((upTo 4).map (keyPart ek)) y)) (small coins 8)) ((unpack 1 m).map (fun b => 1665 * b))
  (u.map (fun f => pack 11 (f.map (compress 11)))).flatten ++ pack 5 (v.map (compress 5))

/-- The shared secret of 32 bytes and the ciphertext of 1,568 bytes, by 32 random bytes. -/
def encaps (ek m : Bytes) : Bytes × Bytes :=
  let g := Keccak.sha3x512 (m ++ Keccak.sha3x256 ek)
  (sub g 0 32, encrypt ek m (sub g 32 32))

end Sys2Proof.MlKem
end

