-- ==== Sys2Proof/Machine/Mint.lean ====
section
/-! DEFINITION. The Mint: identity, measurements, SPDM, key-service messages and the opening of a context (13.1 to
13.6). -/

namespace Sys2Proof.Machine

namespace State

def setMint (s : State) (m : MintSt) : State := { s with mint := m }

/-! Measurements and identity (R402, R403, R406). -/

/-- Measurement 7 (Table 13-3): variant code and stepping in the first word, then PG_CAP, LC_CAP and HP_CAP, a word each (DESIGN
CHOICE, log entry 184: the table gives the contents and the 32 bytes). -/
def shapeBlock (s : State) : Bytes :=
  leBytes 8 (s.variantCode + place 8 (Config.stepping % 256)) ++ leBytes 8 (s.reg .pgCap 0).toNat ++ leBytes 8 s.lcCapWord.toNat ++
    leBytes 8 (s.reg .hpCap 0).toNat

/-- The digest of a measurement index 1 to 6, or the bit stream of index 7 (Table 13-3). -/
def measurement (s : State) (i : Nat) : Bytes :=
  match i with
  | 1 => Config.mintRomDigest
  | 2 => s.running.m2
  | 3 => s.running.m3
  | 4 => s.measurement4
  | 5 => Keccak.shake256 (Config.securityState s.img.conf s.img.ksroot) 64
  | 6 => if s.fwStaged then (s.fwSlot s.stagedSlot).digest else zeros 64
  | 7 => s.shapeBlock
  | _ => []

/-- The bytes of an ASCII label. -/
def ascii (t : String) : Bytes := t.toList.map (fun c => BitVec.ofNat 8 c.toNat)

/-- The 96 bytes the alias key is made from (R402). -/
def aliasSeed (s : State) : Bytes :=
  Keccak.shake256 (Config.uds ++ ascii "UHALIAS" ++ s.measurement 1 ++ s.measurement 2 ++ s.measurement 3 ++
    s.measurement 5) 96

/-- The alias key pair (R402). -/
def aliasKey (s : State) : SlhDsa.Secret := .ofBytes s.aliasSeed

/-- The DevID key pair (R402). -/
def devIdKey : SlhDsa.Secret := .ofBytes (Keccak.shake256 (Config.uds ++ ascii "UHDEVID") 96)

/-- The certificate chain of slot 0 (R403). -/
def certificates (s : State) : Bytes := Config.certChain devIdKey.publicKey s.aliasKey.publicKey

/-! SPDM (R404, R405). -/

/-- A response of the Mint. -/
def spdmOut (s : State) (sid : Option Nat) (code : String) (payload : Bytes) : State :=
  s.emit (.spdm (sid.getD 0) code payload)

/-- ERROR with code Busy (R405). -/
def spdmBusy (s : State) (sid : Option Nat) : State := (s.spdmOut sid "ERROR Busy" []).count .mtCntSpdmBusy 0 1

/-- ERROR with another code. -/
def spdmError (s : State) (sid : Option Nat) (why : String) : State := (s.spdmOut sid why []).count .mtCntSpdmErr 0 1

/-- A secure session by number. -/
def spdmSession (s : State) (id : Nat) : Option SpdmSession := s.mint.sessions.find? (fun x => x.id == id)

/-- Open secure sessions (MT_STATUS.SESS). -/
def openSessions (s : State) : Nat := s.mint.sessions.countP (fun x => x.opened)

/-- What every SPDM request meets first: a Mint that is ready, the activation window (R405), and its session. -/
def spdmGuard (s : State) (sid : Option Nat) (k : State → Result) : Result :=
  if !s.mint.ready then .next s
  else
    let s := s.count .mtCntSpdmReq 0 1
    if s.firm.window then .next (s.spdmBusy sid)
    else
      match sid with
      | none => k s
      | some id => if (s.spdmSession id).isSome then k s else .next (s.spdmError sid "ERROR InvalidSession")

/-- A request that needs a signature: it enters the signer queue, or is told to come again (R403, R405). -/
def spdmSign (s : State) (sid : Option Nat) (code : String) (payload : Bytes) : State :=
  if 4 ≤ s.mint.signer.length ∨ !s.mint.aliasCert then s.spdmBusy sid
  else
    let q : SignReq := { session := sid.getD 0, code := code, payload := payload }
    s.setMint { s.mint with signer := s.mint.signer ++ [q] }

/-- A signed response leaves: by the port its request came by, where a management session waits for it (R508). -/
def signed (s : State) (id : Nat) (code : String) (payload : Bytes) : State :=
  match s.power.sessions.find? (fun x => x.session == id && x.answers.any (fun a => a.msgs.isEmpty)) with
  | none => s.emit (.spdm id code payload)
  | some x =>
    match x.answers.find? (fun a => a.msgs.isEmpty) with
    | none => s.emit (.spdm id code payload)
    | some a =>
      let y : MSession := { x with answers := x.answers.map (fun b => if b.seq = a.seq then { b with msgs := [(code, payload)] } else b) }
      let s : State := { s with power := { s.power with sessions := s.power.sessions.map (fun z => if z.session = id then y else z) } }
      s.emit (.mgmt a.port 1 id a.seq code payload)

/-- Take a session out, its keys zeroed (R421). -/
def dropSession (s : State) (id : Nat) : State :=
  { s with
    mint := { s.mint with sessions := s.mint.sessions.filter (fun x => x.id != id) }
    power := { s.power with sessions := s.power.sessions.filter (fun x => x.session != id) } }

/-- KEY_EXCHANGE: a session begins, at most 8 at once (Table 13-2); its secret needs fresh randomness (R401), and the
ciphertext that carries it goes back signed. -/
def keyExchange (s : State) (via : SpdmVia) (sid : Option Nat) (id : Nat) (ek : Bytes) : State :=
  if 8 ≤ s.mint.sessions.length then s.spdmError sid "ERROR SessionLimitExceeded"
  else if s.mint.stopped then s.spdmError sid "ERROR Unspecified"
  else if id = 0 ∨ (s.spdmSession id).isSome ∨ !MlKem.keyOk ek then s.spdmError sid "ERROR InvalidRequest"
  else if 4 ≤ s.mint.signer.length ∨ !s.mint.aliasCert then s.spdmBusy sid
  else
    let c := MlKem.encaps ek (fit 32 (Config.draw s.fresh))
    let x : SpdmSession := { id := id, via := via, secret := c.1 }
    (s.setMint { s.mint with sessions := s.mint.sessions ++ [x] }).tick.spdmSign sid "KEY_EXCHANGE_RSP"
      (leBytes 4 id ++ c.2)

/-- FINISH: the session is established, with the root its requester authenticated with, or ends. -/
def finishSession (s : State) (sid : Option Nat) (root : Option Bytes) (ok : Bool) : State :=
  match sid with
  | none => s.spdmError sid "ERROR UnexpectedRequest"
  | some id =>
    if ok then
      (s.setMint { s.mint with sessions := s.mint.sessions.map (fun x =>
        if x.id = id then { x with opened := true, root := root } else x) }).spdmOut sid "FINISH_RSP" []
    else (s.spdmError sid "ERROR DecryptError").dropSession id

/-- IDE_KM (R394, Table 13-1): inside an established session, a stream of a host port starts with a key or stops. -/
def ideKm (s : State) (sid : Option Nat) (port : Nat) (stream : Option Nat) (key : Option Bytes) : State :=
  if !((sid.bind s.spdmSession).map (·.opened)).getD false then s.spdmError sid "ERROR UnexpectedRequest"
  else if 2 ≤ port ∨ (stream.any (fun n => decide (16 ≤ n))) then
    s.spdmError sid "ERROR InvalidRequest"
  else (s.setIde port stream key).spdmOut sid "IDE_KM_ACK" []

/-- The algorithms of Table 13-2, one for each class. -/
def spdmAlgs : List SpdmAlg := [.slhDsaShake256s, .mlKem1024, .shake256, .aes256Gcm]

/-- CTExponent, then the capabilities of Table 13-2 as a mask in the table's order, all set: CERT, CHAL, MEAS with signature,
MEAS_FRESH, KEY_EX, ENCRYPT, MAC, MUT_AUTH, HBEAT, KEY_UPD (log entry 183: SPDM's own layout is not given). -/
def spdmCaps : Bytes := [16] ++ leBytes 2 0x3FF

/-- The answer to an SPDM request (R394, R403, R404); one that offers no algorithm of Table 13-2 in some class is refused (log entry
183). -/
def spdmAnswer (s : State) (via : SpdmVia) (sid : Option Nat) (m : SpdmMsg) : State :=
  match m with
  | .getVersion => s.spdmOut sid "VERSION" [0x14]
  | .getCapabilities => s.spdmOut sid "CAPABILITIES" spdmCaps
  | .negotiate offered =>
    if spdmAlgs.all offered.contains then s.spdmOut sid "ALGORITHMS" (spdmAlgs.map (fun a => BitVec.ofNat 8 a.ctorIdx))
    else s.spdmError sid "ERROR UnsupportedRequest"
  | .getDigests => s.spdmOut sid "DIGESTS" (Keccak.shake256 (s.certificates) 64)
  | .getCertificate slot off len =>
    if slot = 0 then s.spdmOut sid "CERTIFICATE" (sub (s.certificates) off len)
    else s.spdmError sid "ERROR InvalidRequest"
  | .challenge slot =>
    if slot = 0 then s.spdmSign sid "CHALLENGE_AUTH" (Keccak.shake256 (s.certificates) 64)
    else s.spdmError sid "ERROR InvalidRequest"
  | .keyExchange id ek => s.keyExchange via sid id ek
  | .finish root ok => s.finishSession sid root ok
  | .heartbeat =>
    if sid.isSome then s.spdmOut sid "HEARTBEAT_ACK" [] else s.spdmError sid "ERROR UnexpectedRequest"
  | .keyUpdate =>
    if sid.isSome then s.spdmOut sid "KEY_UPDATE_ACK" [] else s.spdmError sid "ERROR UnexpectedRequest"
  | .ideKm port stream key => s.ideKm sid port stream key
  | .setCertificate => s.spdmError sid "ERROR UnsupportedRequest"
  | .vendor => s.spdmError sid "ERROR UnexpectedRequest"
  | .other => s.spdmError sid "ERROR UnsupportedRequest"

/-- The blocks a GET_MEASUREMENTS asks for: 0 their number, 0xFF all, else one. -/
def measurementBlocks (s : State) (i : Nat) : Option Bytes :=
  if i = 0 then some [7]
  else if i = 0xFF then some ((List.range 7).flatMap (fun k => s.measurement (k + 1)))
  else if i ≤ 7 then some (s.measurement i)
  else none

/-! Key-service messages and management commands (R407, R408, R509). -/

/-- Whether a session's requester authenticated mutually with the key-service root of the image in effect (R407). -/
def keyServiceOk (s : State) (sid : Option Nat) : Bool :=
  match sid.bind s.spdmSession with
  | some x => x.opened && s.img.base.isSome && x.root == some s.img.ksroot
  | none => false

/-- Whether a session came by MCTP: the I3C port carries no Rubiarn commands (R511). -/
def overI3c (s : State) (sid : Option Nat) : Bool := (sid.bind s.spdmSession).any (fun x => x.via == .mctp)

/-- Whether a session may give management commands (R509, R511). -/
def managementOk (s : State) (sid : Option Nat) : Bool :=
  !s.overI3c sid && (s.keyServiceOk sid ||
  (match sid.bind s.spdmSession with
   | some x => x.opened && x.root.isSome && s.img.stored.isNone
   | none => false))

/-- A key-service message (R407): its effect gives the state, the status and the payload of the response. -/
def keyService (s : State) (sid : Option Nat) (op : Nat) (k : State → State × Nat × Bytes) : Result :=
  s.spdmGuard sid (fun q =>
    if q.keyServiceOk sid then
      let r := k q
      .next (r.1.spdmOut sid "VENDOR_DEFINED_RESPONSE" (leBytes 1 op ++ leBytes 1 r.2.1 ++ r.2.2))
    else .next (q.spdmError sid "ERROR UnexpectedRequest"))

/-- A management command (R509). After a start-up step has failed only transfers are accepted (R512). -/
def managementCmd (s : State) (sid : Option Nat) (transfer : Bool) (k : State → Result) : Result :=
  s.spdmGuard sid (fun q =>
    if !q.managementOk sid then .next ((q.spdmError sid "ERROR UnexpectedRequest").count .brCntMpAuth 0 1)
    else if q.power.failed && !transfer then .next (q.spdmError sid "ERROR UnexpectedRequest")
    else k q)

/-! Statuses (Table 13-5). -/
def ksOk : Nat := 0
def ksBadSlot : Nat := 1
def ksInUse : Nat := 2
def ksNoConn : Nat := 3
def ksClosing : Nat := 4
def ksConf : Nat := 5
def ksEntropy : Nat := 6

/-- Replace a job slot. -/
def setJobSlot (s : State) (n : Nat) (j : Job) : State := s.setMint { s.mint with jobs := SMap.set {} s.mint.jobs n j }

/-- Phases bound to a job slot (R409). -/
def binds (s : State) (n : Nat) : Nat :=
  (s.conns.map (fun e => bnat (e.2.key0 == n + 1) + bnat (e.2.key1 == n + 1))).sum

/-- A refusal of a key-service message, which changes nothing. -/
def ksRefuse (s : State) (status : Nat) : State × Nat × Bytes := (s, status, [])

/-- JOB_INSTALL. -/
def jobInstall (slot id : Nat) (key : Bytes) (s : State) : State × Nat × Bytes :=
  if 4096 ≤ slot ∨ (s.job slot).loaded then s.ksRefuse ksBadSlot
  else ((s.setJobSlot slot { loaded := true, id := id % 2 ^ 64, key := fit 32 key }).count .mtCntKeyinst 0 1, ksOk, [])

/-- JOB_RETIRE. -/
def jobRetire (slot : Nat) (s : State) : State × Nat × Bytes :=
  if 4096 ≤ slot ∨ !(s.job slot).loaded then s.ksRefuse ksBadSlot
  else if s.binds slot ≠ 0 then s.ksRefuse ksInUse
  else ((s.setJobSlot slot {}).count .mtCntKeyret 0 1, ksOk, [])

/-- Install a slot's key in the unused phase of a connection and start the key change (R324, R325). -/
def bindKey (k : Conn) (slot key : Nat) : Conn :=
  let old := phaseKey k k.kp != 0
  let k := if k.kp = 0 then { k with kp := 1, key1 := slot + 1, kn1 := key } else { k with kp := 0, key0 := slot + 1, kn0 := key }
  { k with retire := old, fenceNext := true, ctr := if k.usedKeys.contains key then k.ctr else 0 }

/-- CONN_BIND. -/
def connBind (conn slot : Nat) (s : State) : State × Nat × Bytes :=
  let x := s.conn conn
  let closing : Bool := match s.connCtx conn with | some c => decide ((s.ctx c).state ≠ .opn) | none => false
  if 4096 ≤ slot ∨ !(s.job slot).loaded then s.ksRefuse ksBadSlot
  else if x.state ≠ .opn then s.ksRefuse ksNoConn
  else if closing then s.ksRefuse ksClosing
  else if s.img.conf ∧ !s.connEnc conn then s.ksRefuse ksConf
  else if x.retire then s.ksRefuse ksInUse
  else ((s.setConn conn (bindKey x slot (leNat (s.job slot).key + 1))).count .mtCntKeyinst 0 1, ksOk, [])

/-- CONN_UNBIND. -/
def connUnbind (conn : Nat) (s : State) : State × Nat × Bytes :=
  if (s.conn conn).state ≠ .opn then s.ksRefuse ksNoConn else (s.zeroPhases conn, ksOk, [])

/-- The code of a context's state. -/
def ctxCode (s : State) (c : Nat) : Nat := match (s.ctx c).state with | .closed => 0 | .opn => 1 | .closing => 2

/-- MT_CTX_STATUS of a context (Table 13-11). -/
def ctxStatus (s : State) (c : Nat) : Word :=
  let step := s.closeStep c
  let fs := match s.close? c with | some x => x.furrows.foldl (fun a f => a ||| 2 ^ f) 0 | none => 0
  wordOf (s.ctxCode c + place 2 step + place 6 (bnat (s.mint.ctxKeys.any (fun e => e.1 == c))) + place 7 fs +
    place 15 (bnat (step == 4 && !(s.pathsHeld c).isEmpty)) + place 16 (bnat (s.mint.drainto.contains c)))

/-- A context opens: a fresh key is drawn and installed, and only then is the context OPEN (R411), its bucket full
(R346). -/
def openCtx (s : State) (c : Nat) : State :=
  let k := s.fresh
  let s := (s.setMint { s.mint with
    ctxKeys := SMap.ins s.mint.ctxKeys c k, drainto := s.mint.drainto.filter (· != c) }).tick
  let s := s.updStore (fun st => { st with keys := SMap.set 0 st.keys c (k + 1) })
  let b := s.burst c
  (s.count .mtCntKeyinst 0 1).updCtx c (fun g => { g with state := .opn, drained := false, tokens := b })

end State

open State

/-- SPDM_REQUEST (R404, R405), by one of the three transports; the response leaves by the same. A host port without a link
carries none. -/
def execSpdmRequest (via : SpdmVia) (session : Option Nat) (msg : SpdmMsg) (s : State) : Result :=
  match via with
  | .doe p =>
    if p < 2 ∧ s.portUp p then s.spdmGuard session (fun q => .next (q.spdmAnswer via session msg)) else .next s
  | .mctp => s.spdmGuard session (fun q => .next (q.spdmAnswer via session msg))
  | .management => s.spdmGuard session (fun q => .next (q.spdmAnswer via session msg))

/-- GET_MEASUREMENTS (R406). -/
def execGetMeasurements (session : Option Nat) (index : Nat) (sign : Bool) (s : State) : Result :=
  s.spdmGuard session (fun q =>
    match q.measurementBlocks index with
    | none => .next (q.spdmError session "ERROR InvalidRequest")
    | some b => .next (if sign then q.spdmSign session "MEASUREMENTS" b else q.spdmOut session "MEASUREMENTS" b))

/-- END_SESSION (R421). -/
def execEndSession (session : Nat) (s : State) : Result :=
  s.spdmGuard (some session) (fun q => .next ((q.dropSession session).spdmOut (some session) "END_SESSION_ACK" []))

/-- HEARTBEAT_FAILURE (R421). -/
def execHeartbeatFailure (session : Nat) (s : State) : Result := .next (s.dropSession session)

/-- JOB_INSTALL (R408). -/
def execJobInstall (session : Option Nat) (slot id : Nat) (key : Bytes) (s : State) : Result :=
  s.keyService session 1 (jobInstall slot id key)

/-- JOB_RETIRE (R408). -/
def execJobRetire (session : Option Nat) (slot : Nat) (s : State) : Result := s.keyService session 2 (jobRetire slot)

/-- CONN_BIND (R325, R408). -/
def execConnBind (session : Option Nat) (conn slot : Nat) (s : State) : Result :=
  s.keyService session 3 (connBind (conn % 16384) slot)

/-- CONN_UNBIND (R408). -/
def execConnUnbind (session : Option Nat) (conn : Nat) (s : State) : Result :=
  s.keyService session 4 (connUnbind (conn % 16384))

/-- CTX_CLOSE (R408, R414). -/
def execCtxClose (session : Option Nat) (ctx : Nat) (s : State) : Result :=
  s.keyService session 5 (fun q => (q.startClose (ctx % 1024), ksOk, []))

/-- CTX_QUERY (R408). -/
def execCtxQuery (session : Option Nat) (ctx : Nat) (s : State) : Result :=
  s.keyService session 6 (fun q => (q, ksOk, leBytes 8 (q.ctxStatus (ctx % 1024)).toNat))

/-- CTX_OPEN (R411, R420, R429, R509): a context that is CLOSED and enabled by the image in effect opens, unless no key
can be drawn. -/
def execCtxOpen (session : Option Nat) (ctx : Nat) (s : State) : Result :=
  let c := ctx % 1024
  s.managementCmd session false (fun q =>
    let may := decide ((q.ctx c).state = .closed) && (q.ctxRec c).enable && q.img.base.isSome
    if may && !q.mint.stopped then .next ((q.openCtx c).spdmOut session "CTX_OPEN" [0])
    else .next (q.spdmOut session "CTX_OPEN" [if may then 6 else 1]))

/-- ENTROPY (R401, R422): the entropy source fails its health checks. -/
def execEntropy (s : State) : Result :=
  if s.mint.stopped then .next s
  else
    let s := (s.setMint { s.mint with stopped := true }).setBit .mtFault 0 0
    .next ((s.rsFault 3).pred 6 0 2 1)

/-- ENTROPY_RECOVERY (R401). -/
def execEntropyRecovery (s : State) : Result := .next (s.setMint { s.mint with stopped := false })

/-- SIGNATURE_COMPLETE (R403, R405): the signature at the front of the signer queue is made, with the alias key and random
bytes, and its response sent. -/
def execSignatureComplete (s : State) : Result :=
  match s.mint.signer with
  | [] => .next s
  | q :: rest =>
    let sig := SlhDsa.sign s.aliasKey (fit 32 (Config.draw s.fresh)) (Config.transcript q.session q.payload)
    .next (((s.setMint { s.mint with signer := rest }).count .mtCntSign 0 1).tick.signed q.session q.code
      (q.payload ++ sig))

/-- IMAGE_TRANSFER (R509, 14.5): a segment lands in the load buffer, and an operation of CB_CTL that comes with it runs. -/
def execImageTransfer (session : Option Nat) (off : Nat) (data : Bytes) (op : Nat) (s : State) : Result :=
  s.managementCmd session true (fun q =>
    let q := (q.putBuffer off (data.take 8000)).spdmOut session "IMAGE_TRANSFER" [0]
    match op with
    | 1 => execCbLoad q
    | 2 => execCbStore q
    | 3 => execCbAmend q
    | 4 => execCbClear q
    | _ => .next q)

end Sys2Proof.Machine
end

