-- ==== Sys2Proof/Machine/Power.lean ====
section
/-! DEFINITION. Power, clocks, temperature, start-up and the resets the Bursar runs (chapter 17, R449, R451). -/

namespace Sys2Proof.Machine

namespace State

def setPower (s : State) (p : PowerSt) : State := { s with power := p }

/-- Whether the standby rail is up: the Bursar, the Mint and the management ports run. -/
def standby (s : State) : Bool :=
  match s.power.rails with
  | .noInput => false
  | .overvolt => false
  | .overcurrent => false
  | _ => true

/-- Whether every converter runs. -/
def powered (s : State) : Bool := decide (s.power.rails = .on)

/-! Module reset and loss of power (R449, R478, R490, R497, R515). -/

/-- Whether a module reset falls back: in PROBATION and REVERTING, and in an activation that has changed slots (R490, R496). -/
def mustRevert (f : FirmSt) : Bool :=
  decide (f.st = .probation) || decide (f.st = .reverting) || (decide (f.st = .activating) && f.flipped)

/-- Firmware update after a module reset: flash keeps the slots. A reset before confirmation falls back to the old slot, the one
that runs again where a fall-back has changed slots (R490, R496); a start-up activation makes the staged slot the one to
start from, until its start-up has passed into PROBATION (R488). -/
def bootFirm (f : FirmSt) : FirmSt :=
  let kept : FirmSt := { slot0 := f.slot0, slot1 := f.slot1, run := f.run, fuse := f.fuse }
  if mustRevert f then
    let old := if f.st = .reverting ∧ f.flipped then f.run else 1 - f.run
    let slots : FirmSt := if old = 0 then { kept with slot1 := {} } else { kept with slot0 := {} }
    { slots with run := old, err := 7 }
  else if f.boot then { kept with run := if f.flipped then f.run else 1 - f.run, boot := true, flipped := true }
  else kept

/-- The module after a module reset: what flash, the fuses and the hot-swap controller keep, and the wear of the silt
channels. The predictive counters resume from the values last written (R478). A power-on follows a stop that was itself the
module reset: firmware is not touched again, and its fall-back stays counted (R490). -/
def moduleReset (s : State) (rails : Rails) (step : Nat) : State :=
  let chans := s.store.chans.map (fun e => (e.1, ({ noprog := e.2.noprog, used := e.2.used, spare := e.2.spare } : Chan)))
  let up := s.standby
  let fell := if up then bnat (mustRevert s.firm) else s.ctr .brCntFallback 0
  let t : State :=
    { variant := s.variant, hubUnits := s.hubUnits, fresh := s.fresh, out := s.out, pending := s.pending
      store := { chans := chans.filter (fun e => decide (e.2 ≠ {})) }
      img := { stored := s.img.stored, log := s.img.log }
      firm := if up then bootFirm s.firm else s.firm
      rel := { pred := s.rel.predFlash, predFlash := s.rel.predFlash }
      power := { rails := rails, step := step, ocLatch := s.power.ocLatch, ovLatch := s.power.ovLatch } }
  let t := t.setFld .pwFault 0 1 0 (s.rfld .pwFault 0 1 0)
  if fell = 0 then t else t.count .brCntFallback 0 fell

/-- Power comes on: the latched input faults show, and start-up begins at step 1 (R494, R512). -/
def powerOn (s : State) : State :=
  let s := s.moduleReset .on 1
  let s := if s.power.ocLatch then s.setBit .pwFault 0 0 else s
  let s := if s.power.ovLatch then s.setBit .pwFault 0 1 else s
  s.setPower { s.power with ocLatch := false, ovLatch := false }

/-- What a stop of every converter but standby takes with it (R505, R514): the links and the module's data state. -/
def dataLost (s : State) (rails : Rails) : State :=
  let s := s.linksOff.computeDomain.fabricDomain.memoryDomain
  { s with mint := { s.mint with metaKey := none }, store := { s.store with keys := [] }
           sluice := { s.sluice with vload := none }, power := { s.power with rails := rails }
           rel := { s.rel with cr := .none, wanted := [], escalate := false } }

/-! Start-up (R512). -/

/-- Whether a firmware slot holds an image the boot accepts (R481 checks 3 to 5). -/
def bootOk (s : State) (bad : List Nat) (n : Nat) : Bool :=
  (s.fwSlot n).used && !bad.contains n && decide (s.firm.fuse ≤ (s.fwSlot n).svn)

/-- A start-up step fails: the module stays in START with RS_FAULT set. -/
def failStep (s : State) : State := (s.setPower { s.power with failed := true }).rsFault 3

/-- A start-up step ends and the next begins, unless PWR_FAIL_N has stopped start-up (R496). -/
def nextStep (s : State) : State :=
  if s.power.pwrFail then s.setPower { s.power with halted := true }
  else s.setPower { s.power with step := s.power.step + 1 }

/-- The Mint's part of step 2: the identity keys are derived and the alias certificate is signed (R402, R403); a start-up
activation passes into PROBATION (R488). -/
def mintReady (s : State) : State :=
  let s := ({ s with mint := { s.mint with ready := true, aliasCert := true } }).count .mtCntSign 0 1
  if s.firm.boot then s.startProbation else s

/-- Step 2: the boot slot, or the other where it fails (R490). An image that fails leaves its slot EMPTY (R481). -/
def bootStep (s : State) (bad : List Nat) : State :=
  if s.bootOk bad s.firm.run then s.mintReady.nextStep
  else if s.bootOk bad s.otherSlot then
    let failed := s.firm.run
    let s := (s.setFirm { s.firm with run := s.otherSlot, boot := false, flipped := false, err := 7 }).setFwSlot failed {}
    ((s.count .brCntFallback 0 1).mintReady).nextStep
  else (s.setFirm { s.firm with slot0 := {}, slot1 := {} }).failStep

/-- Step 3: the rails come up and the PLLs lock; the vendor halves are loaded before any station takes a command (R181). -/
def clockStep (s : State) (e : StepEnd) : State :=
  let s := s.setPower { s.power with pllStack := e.pllStacks % 2 ^ s.stackCount, pllHub := e.pllHub
                                     pllPort := e.pllPorts % 2 ^ s.portDies, refclk := e.refclk % 4 }
  if e.pllHub ∧ e.pllStacks % 2 ^ s.stackCount = 2 ^ s.stackCount - 1 ∧ e.pllPorts % 2 ^ s.portDies = 2 ^ s.portDies - 1 then
    s.loadVendors.nextStep
  else s.failStep

/-- Step 4: TEST and memory initialisation. -/
def testStep (s : State) (passed : Nat) : State :=
  let s := s.clearMemory
  (s.setPower { s.power with tested := passed % 2 ^ s.stackCount }).nextStep

/-- Step 5: the load of the stored image (R434, R435, R512). -/
def imageStep (s : State) : Result :=
  match s.loadStored with
  | .undef r => .fault (.undefinedResult r)
  | .bad e => .next (s.setLoad 3 e).failStep
  | .ok t => .next (t.setLoad 2 {}).nextStep

/-! SERVICE (R513). -/

/-- The conditions of R513, as BR_SVC shows them. -/
def svcImage (s : State) : Bool := s.img.base.isSome
def svcTest (s : State) : Bool := s.slicedStacks &&& s.power.tested == s.slicedStacks
def svcFurrows (s : State) : Bool := (List.range 8).all (fun f => !s.rbit .fuCfg f 54 || s.furrowState f == 1)
def openCtxs (s : State) : List Nat := (s.ctxs.filter (fun e => decide (e.2.state = .opn))).map (·.1)
def svcMirror (s : State) : Bool := s.openCtxs.all (fun c => (s.mirrorConn c).isSome)
def svcCode (s : State) : Bool :=
  s.openCtxs.all (fun c =>
    let r := s.sliceRec (s.sliceOf c)
    !r.coded || r.cnode.all (fun n => n == s.node || (s.rmaConn c n rightCode).isSome))

/-- Whether every condition holds. -/
def svcReady (s : State) : Bool := s.svcImage && s.svcTest && s.svcFurrows && s.svcMirror && s.svcCode

/-! Thermal steps (R503 to R505). -/

/-- A reading. -/
def temp (s : State) (cls ix : Nat) : Nat := SMap.get 0 s.power.temps (cls * 128 + ix)

/-- The hottest reading of a class. -/
def hottestOf (s : State) (cls : Nat) : Nat :=
  s.power.temps.foldl (fun m e => if e.1 / 128 = cls then Nat.max m e.2 else m) 0

/-- The step of a class: a step is entered above its set point and left 5 °C below it (R503). -/
def thermalStep (old t : Nat) (points : List Nat) : Nat :=
  let up := points.countP (fun p => decide (p < t))
  if old ≤ up then up
  else ((List.range (old + 1)).filter (fun j => j == 0 || decide (getAt 0 points (j - 1) < t + 5))).foldl Nat.max 0

/-- Set points of the base die, the hub die and the port die (Table 17-5). -/
def basePoints (s : State) : List Nat := [s.rfld .pwCfg 0 7 0, s.rfld .pwCfg 0 15 8, s.rfld .pwCfg 0 23 16]
def hubPoints (s : State) : List Nat := [s.rfld .pwCfg 0 31 24, s.rfld .pwCfg 0 39 32, s.rfld .pwCfg 0 47 40]
def portPoints (s : State) : List Nat := [s.rfld .lcCfg 0 44 37, s.rfld .lcCfg 0 52 45, s.rfld .lcCfg 0 60 53]

/-- Double refresh of each stack: entered above 85 °C, left 5 °C below (Table 17-5). -/
def refreshSteps (s : State) : State :=
  forUpTo s.stackCount s (fun k q =>
    let t := q.temp 2 k
    let was := q.power.ref2x.testBit k
    if !was ∧ 85 < t then (q.setPower { q.power with ref2x := q.power.ref2x + 2 ^ k }).count .pwCntRef2x 0 1
    else if was ∧ t ≤ 80 then q.setPower { q.power with ref2x := q.power.ref2x - 2 ^ k }
    else q)

/-- The port die with the hottest reading. -/
def hottestPort (s : State) : Nat :=
  (List.range s.portDies).foldl (fun b i => if s.temp 3 b < s.temp 3 i then i else b) 0

/-- Move every class to its step; a change of the module's step is told (R504). -/
def moveSteps (s : State) : State :=
  let s := s.refreshSteps
  let base := (List.range s.stackCount).foldl (fun m k =>
    SMap.set 0 m k (thermalStep (SMap.get 0 s.power.bsteps k) (s.temp 1 k) s.basePoints)) s.power.bsteps
  let hub := thermalStep s.power.hstep (s.temp 0 0) s.hubPoints
  let port := thermalStep s.cam.throttle (s.hottestOf 3) s.portPoints
  let s := if s.cam.throttle < port then s.pred 5 s.hottestPort 2 1 else s
  let step := base.foldl (fun m e => Nat.max m e.2) (Nat.max hub port)
  let old := s.power.mstep
  let s := { s with cam := { s.cam with throttle := port }
                    power := { s.power with bsteps := base, hstep := hub, mstep := step } }
  if step = old then s
  else (((s.broadcast evThermal step).requestPf 6).report (.thermal step)).count .pwCntStep 0 1

/-- Whether a reading exceeds a trip point (R505). -/
def tripPoint (s : State) : Bool :=
  s.power.temps.any (fun e =>
    let c := e.1 / 128
    if c = 2 then decide (100 < e.2) else (c == 0 || c == 1 || c == 3) && decide (115 < e.2))

/-- A thermal trip (R478, R505). -/
def trip (s : State) : State :=
  let s := s.pwFault 2
  ({ s with rel := { s.rel with predFlash := s.rel.pred } }).dataLost .tripped

end State

open State

/-- PWR_FAIL (R495, R496): PWR_FAIL_N is low for `cycles` of the management clock. -/
def execPwrFail (cycles : Nat) (s : State) : Result :=
  if cycles < 256 ∨ !s.standby then .next s
  else
    let s := (((s.broadcast evPowerFail 0).pwFault 3).requestPf 7).count .pwCntPwrfail 0 1
    let s : State := { s with power := { s.power with pwrFail := true }, rel := { s.rel with predFlash := s.rel.pred } }
    let s : State := if s.rel.cr = .none then s
      else s.slots.foldl (fun (q : State) e => if (q.slot e.1).state = .active then q.complete e.1 stBusy [] else q) s
    .next (if s.rel.svc = .service then s.startWithdraw 7 else s)

/-- MOD_RESET (R494, R499, R505): MOD_RESET_N is low for `us` µs. Start-up runs from step 2 on its rise, from step 1
where standby was off too, and after a thermal trip once every sensor reads below 70 °C. -/
def execModReset (us : Nat) (s : State) : Result :=
  if us < 10 then .next s
  else
    match s.power.rails with
    | .noInput => .next s
    | .overvolt => .next s
    | .overcurrent => .next s.powerOn
    | .tripped =>
      if s.power.temps.all (fun e => decide (e.2 < 70)) then .next (s.moduleReset .on 2)
      else
        let t := s.moduleReset .tripped 2
        .next (t.setPower { t.power with pulsed := true })
    | _ => .next (s.moduleReset .on 2)

/-- OVERCURRENT (R494): every converter is off until MOD_RESET_N is pulsed or the input falls below 38.0 V. -/
def execOvercurrent (s : State) : Result :=
  if !s.standby then .next s
  else
    let t := s.moduleReset .overcurrent 1
    .next (t.setPower { t.power with ocLatch := true })

/-- OVERVOLTAGE (R494): every converter is off until the input falls below 51.0 V. -/
def execOvervoltage (s : State) : Result :=
  if !s.standby then .next s
  else
    let t := s.moduleReset .overvolt 1
    .next (t.setPower { t.power with ovLatch := true })

/-- INPUT_RISE (R493, R494, R512). -/
def execInputRise (s : State) : Result :=
  match s.power.rails with
  | .noInput => .next s.powerOn
  | .overvolt => .next s.powerOn
  | _ => .next s

/-- UNDERVOLTAGE (R493, R494, R497): a loss of power. -/
def execUndervoltage (s : State) : Result := .next (s.moduleReset .noInput 1)

/-- STARTUP_STEP_DONE (R512): the start-up step in progress ends. -/
def execStartupStepDone (e : StepEnd) (s : State) : Result :=
  if !s.powered ∨ s.power.failed ∨ s.power.halted then .next s
  else if !e.ok ∧ s.power.step < 6 then .next s.failStep
  else
    match s.power.step with
    | 1 => .next s.nextStep
    | 2 => .next (s.bootStep e.bad)
    | 3 => .next (s.clockStep e)
    | 4 => .next (if s.mint.stopped then s else s.testStep e.passed)
    | 5 => s.imageStep
    | _ => .next s

/-- FABRIC_RESET (R449, R451): allowed in START and OUT. -/
def execFabricReset (s : State) : Result :=
  if s.rel.svc = .start ∨ s.rel.svc = .out then .next s.resetFabric else .next s

/-- MEMORY_INIT_REQUEST (R401, R449, R451): allowed in START and OUT, and in SERVICE with every context CLOSED, while a fresh
metadata key can be drawn. -/
def execMemoryInitRequest (s : State) : Result :=
  if s.mint.stopped then .next s
  else if s.rel.svc = .start ∨ s.rel.svc = .out ∨
      (s.rel.svc = .service ∧ !s.ctxs.any (fun e => decide (e.2.state ≠ .closed))) then .next s.initMemory
  else .next s

/-- SERVICE (R513). -/
def execService (s : State) : Result :=
  if s.rel.svc = .service then .next s
  else if s.rel.svc = .start ∧ s.svcReady then
    let t : State := { s with rel := { s.rel with svc := .service }, power := { s.power with step := 7 } }
    .next t.noteHealth
  else .next (s.setBit .brSvc 0 5)

/-- OFF (R514). -/
def execOff (s : State) : Result := if s.rel.svc = .out ∧ s.powered then .next (s.dataLost .commanded) else .next s

/-- SENSOR_READING (R503 to R505): the sensors are read, 1 ms after the last reading. A commit of PW_CFG takes effect
(Table 17-8), and BR_TIME and R489 are kept (log entry 3). -/
def execSensorReading (r : Sensors) (s : State) : Result :=
  if !s.standby then .next s
  else
    let s : State := { s with mgmtMs := s.mgmtMs + 1 }
    let s := s.takeEffect [(.pwCfg, 0)]
    let temps : List (Nat × Nat) := r.temps.foldl (fun m e => SMap.set 0 m e.1 e.2) []
    let s := s.setPower { s.power with
      seconds := s.mgmtMs / 1000, temps := temps, vin := r.vin % 65536, iin := r.iin % 65536, pin := r.pin % 65536 }
    let s := s.moveSteps
    if !s.powered then
      .next (if s.power.rails = .tripped ∧ s.power.pulsed ∧ temps.all (fun e => decide (e.2 < 70)) then
        s.setPower { s.power with rails := .on, step := 2, pulsed := false } else s)
    else
      let hot := s.tripPoint
      if hot ∧ s.power.tripOnce then .next (s.setPower { s.power with tripOnce := false }).trip
      else .next (s.setPower { s.power with tripOnce := hot }).noteHealth

/-- HUB_PLL_LOSS (R501): the links go down without a word to the partners. -/
def execHubPllLoss (s : State) : Result :=
  if !s.powered then .next s
  else
    let s := (s.setPower { s.power with pllHub := false }).linksDark.pwFault 4
    .next { s with rel := { s.rel with svc := .out } }

/-- MANAGEMENT_PLL_LOSS (Table 17-4): a module reset; converters that are held off stay off. -/
def execManagementPllLoss (s : State) : Result :=
  if !s.standby then .next s
  else .next (s.moduleReset (if s.power.rails = .tripped then .tripped else .on) 2)

end Sys2Proof.Machine
end

