-- ==== Sys2Proof/Machine/Access.lean ====
section
/-! DEFINITION. Access to registers and counters: what a read returns, and what a write does under its access code (R13,
R17, R517 to R527). -/

namespace Sys2Proof.Machine

namespace State

/-- The bits below n that pass a test, as a number. -/
def maskOf (n : Nat) (p : Nat → Bool) : Nat := (List.range n).foldl (fun a j => a + place j (bnat (p j))) 0

/-- The selections 0 to n - 1, or every one of them where the value is n. -/
def selOf (n v : Nat) : List Nat := if v < n then [v] else List.range n

/-- Whether an instance block lies in a stack or port die the variant lacks (R520). -/
def blockAbsent (s : State) (dims : List (Nat × Nat)) (i : Nat) : Bool :=
  match dims with
  | [(20, _)] => decide (s.stackCount ≤ i)
  | [(4, _)] => decide (s.portDies ≤ i)
  | _ => false

/-- Whether a register instance lies in a block the variant lacks. -/
def regAbsent (s : State) (r : Reg) (i : Nat) : Bool :=
  match r.place? with
  | some p => s.blockAbsent p.dims i
  | none => false

/-! Counters (R17, R96, R176, R211, R237, R338, R364, R398). -/

/-- The functions HP_SEL selects: VFs by port * 1024 + number, 0 for the PF of a port. -/
def hpSelected (s : State) : List Nat :=
  let v := s.rfld .hpSel 0 11 2
  (selOf 2 (s.rfld .hpSel 0 1 0)).flatMap (fun p =>
    if v = 0 then (List.range 513).map (fun i => p * 1024 + i) else [p * 1024 + v])

/-- The instances of a counter that a read of it sums: those its block's selection register selects. -/
def ctrInstances (s : State) (c : Ctr) (i : Nat) : List Nat :=
  let base := c.place.base
  match base / 2 ^ 20 with
  | 1 => if base < 0x104000 then selOf 1024 (s.rfld .hgSel 0 10 0) else [i]
  | 2 => (selOf 64 (s.rfld .wpCntSel i 6 0)).map (fun n => 64 * i + n)
  | 3 => (selOf 64 (s.rfld .scSel i 6 0)).flatMap (fun n =>
      (selOf 16 (s.rfld .scSel i 11 7)).map (fun b => (64 * i + n) * 16 + b))
  | 4 => if base < 0x418000 then (selOf 64 (s.rfld .pgSel i 6 0)).map (fun n => 64 * i + n) else [0]
  | 5 => (selOf 4 (s.rfld .stSel i 2 0)).map (fun n => 4 * i + n)
  | 8 => selOf 64 (s.rfld .lkSel 0 6 0)
  | 9 => [i]
  | 10 => s.hpSelected
  | _ => [0]

/-- A read of a counter register: the sum, saturating, and every counter it summed cleared. -/
def readCtr (s : State) (c : Ctr) (i : Nat) : State × Word :=
  if s.blockAbsent c.place.dims i then (s, 0)
  else
    let is := s.ctrInstances c i
    (is.foldl (fun q k => q.clearCtr c k) s, wordOf (Nat.min ctrMax (is.foldl (fun a k => a + s.ctr c k) 0)))

/-! Reads (R13, R519). A field that hardware changes is read from the state it reports. -/

/-- The code of a link's state (LK_LSTATE). -/
def linkCode : LinkState → Nat
  | .disabled => 0
  | .phyTrain => 1
  | .lock => 2
  | .hello => 3
  | .active => 4

/-- The code of a connection's state (FU_CONN_STATUS). -/
def connCode : ConnState → Nat
  | .closed => 0
  | .opn => 1
  | .failed => 2
  | .closing => 3

/-- The code of a station's state (Table 06-3). -/
def stationCode : StState → Nat
  | .ready => 0
  | .run => 1
  | .wait => 2
  | .fault => 3

/-- The code of a service state (RS_STATE). -/
def svcWord : Svc → Nat
  | .start => 0
  | .service => 1
  | .withdrawing => 2
  | .out => 3

/-- The code of an update state (Table 16-2). -/
def fwCode : FwState → Nat
  | .idle => 0
  | .receiving => 1
  | .staged => 2
  | .armed => 3
  | .activating => 4
  | .probation => 5
  | .reverting => 6

/-- The code of a host-range entry's state (Table 12-8). -/
def rngCode : RngState → Nat
  | .free => 0
  | .active => 1
  | .revoking => 2

/-- Whether a pipe has an open lane or a queued descriptor. -/
def pipeBusy (s : State) (k : Nat) : Bool := !(s.pipe k).queue.isEmpty || (s.pipe k).lanes.any Option.isSome

/-- Cells of a channel in a state. -/
def cellsIn (s : State) (ch : Nat) (x : CellState) : Nat :=
  (SMap.range s.store.cells (ch * 2 ^ 26) ((ch + 1) * 2 ^ 26)).countP (fun e => decide (e.2.state = x))

/-- Slots in a state. -/
def slotsIn (s : State) (x : SlotState) : Nat := s.slots.countP (fun e => decide (e.2.state = x))

/-- SC_VF_STATE of a context for the core it selects (Table 06-11). -/
def stationWord (s : State) (ctx : Nat) : Word :=
  let k := s.core (s.selectedCore ctx)
  if k.lessee = some ctx then
    wordOf (stationCode k.st + place 2 1 + place 3 (bnat k.vendor) + place 4 k.fcause + place 8 k.fpc + place 32 k.result)
  else 0

/-- SC_DBG_DATA (Table 06-18, R212): of the scratch only the customer region of Table 06-6 (R183). Of a vector register the first 8 bytes are read. -/
def debugData (s : State) : Word :=
  let k := s.core s.debugCore
  let a := s.rfld .scDbgAddr 0 15 0
  if !s.debugged s.debugCore then 0
  else
    match s.rfld .scDbgAddr 0 17 16 with
    | 0 => wordOf (leNat ((List.range 8).map (fun i => if Core.mayWrite (a + i) 1 then k.scrByte (a + i) else 0)))
    | 1 => wordOf (leNat (sub ((List.range 3).flatMap (fun i => leBytes 4 (k.word (a / 4 + i)))) (a % 4) 8))
    | 2 => if a / 8 < 32 then wordOf (k.reg (a / 8)).toNat else 0
    | _ => if a / 8 < 32 then wordOf (leNat ((k.vreg (a / 8)).take 2 |>.flatMap (fun x => leBytes 4 x.toNat))) else 0

/-- Word w of the list entry RS_LIST_SEL selects (Tables 15-8, 15-11). -/
def listWord (s : State) (w : Nat) : Word :=
  let i := s.rfld .rsListSel 0 17 2
  match s.rfld .rsListSel 0 1 0 with
  | 0 => wordOf (numAt (getAt [] s.rel.mis i) (8 * w) 8)
  | 1 =>
    let e : LostEnt := getAt {} s.rel.lost i
    if s.rel.lost.length ≤ i then 0
    else wordOf (getAt 0 [e.ctx + place 10 e.cause, e.conv] w)
  | _ =>
    let e : GapEnt := getAt {} s.rel.gaps i
    if s.rel.gaps.length ≤ i then 0
    else wordOf (getAt 0 [e.ctx + place 10 e.layer + place 18 e.kvh + place 26 e.firstpos, e.conv,
      e.gseq % 2 ^ 32 + place 32 e.cidx + place 35 e.rows] w)

/-- HP_RNG_STATUS of an entry (Table 12-8). -/
def rangeWord (s : State) (e : Nat) : Word :=
  let x := s.range e
  wordOf (rngCode x.state + place 2 (bnat (x.inflight == 0)) + place 3 (bnat x.done) + place 4 (bnat x.refused) +
    place 5 x.cause + place 9 x.inflight)

/-- The version word of an entry's range (R385); 0 without PUB. -/
def rangeVersion (s : State) (e : Nat) : Word :=
  let x := s.rangeCfg e
  if x.published ∧ (s.range e).state ≠ .free then
    wordOf (leNat (s.targetRead (s.targetKey x) x 0 8))
  else 0

/-- HP_VF_RING_STATUS (Table 12-9). -/
def ringWord (s : State) (v : Nat) : Word :=
  let x := s.vf v
  wordOf (x.cqTail + place 20 (bnat (x.cqPass % 2 == 0)) + place 21 x.rspTail +
    place 47 (bnat (s.ringHold v)) + place 48 (bnat x.refused) + place 49 (bnat x.armed))

/-- The stored value of a register, its write-only bits reading 0. -/
def plainRead (s : State) (r : Reg) (i : Nat) : Word :=
  let m := r.access
  s.reg r i &&& wordOf (m.ro ||| m.rw ||| m.rwc ||| m.w1c)

/-- The registers of capability, of weir pipes, retrieval, pages and sluice cores whose value is not a stored one. -/
def readCore (s : State) (r : Reg) (i : Nat) : Option Word :=
  match r with
  | .hubCap => some (wordOf (s.variantCode + place 2 s.stackCount + place 7 s.portDies + place 10 1 + place 14 1 +
      place 18 (Config.stepping % 256)))
  | .wpStatus => some (wordOf (maskOf 64 (fun n => s.pipeBusy (64 * i + n))))
  | .pgFree =>
    let pcs := (selOf 64 (s.rfld .pgSel i 6 0)).map (fun n => 64 * i + n)
    some (wordOf ((pcs.map s.store.freeFrames).sum + place 22 (pcs.map s.store.freeSlots).sum))
  | .scCfg => if s.img.conf then some ((s.plainRead .scCfg i).setBit 1 false) else none
  | .scLeaseQuota => some ((s.plainRead .scLeaseQuota i).setFld 30 16 (s.leasesOf i).length)
  | .scDbgSel => if s.img.conf then some 0 else none
  | .scDbgCtl =>
    if s.img.conf then some 0
    else some ((s.plainRead .scDbgCtl 0).setBit 2 (s.haltedAt s.debugCore))
  | .scDbgAddr => if s.img.conf then some 0 else none
  | .scDbgData => some s.debugData
  | .stCap => some ((s.reg .stCap i).setFld 4 0 s.chanCount)
  | .stChan => some (wordOf (maskOf 4 (fun n => !(s.store.chan (4 * i + n)).down) +
      place 4 (maskOf 4 (fun n => (s.store.chan (4 * i + n)).noprog))))
  | .stUsage =>
    let cs := (selOf 4 (s.rfld .stSel i 2 0)).map (fun n => 4 * i + n)
    some (wordOf ((cs.map (fun c => s.cellsIn c .live)).sum +
      place 29 (cs.map (fun c => 2 ^ 26 - s.cellsIn c .live - s.cellsIn c .retired)).sum))
  | .stWear =>
    let cs := (selOf 4 (s.rfld .stSel i 2 0)).map (fun n => s.store.chan (4 * i + n))
    some (wordOf (cs.foldl (fun m c => Nat.max m c.used) 0 + place 11 ((cs.map (fun c => c.spare)).sum)))
  | _ => none

/-- The registers of the CAM, the request table, links, furrows and the headgate whose value is not a stored one. -/
def readFabric (s : State) (r : Reg) (i : Nat) : Option Word :=
  match r with
  | .lcCap => some s.lcCapWord
  | .lcStatus => some (wordOf (s.cam.throttle + place 2 (maskOf s.camSlices (fun n => !s.cam.down.contains n)) +
      place 6 (bnat (s.cam.rebuild || !s.cam.dirUe.isEmpty || s.cam.rows.any (fun e => e.2.ue))) +
      place 7 (bnat (s.slots.any (fun e => match e.2.prog with | .inserting _ _ => true | _ => false)))))
  | .lcUsage => some (wordOf (s.cam.exactCount + place 19 s.cam.joinCount +
      place 38 (s.cam.freeUnordered s.ordRuns s.camSlices)))
  | .rqEpochStatus => some (wordOf (s.img.epoch + place 16 s.img.prev + place 32 (bnat s.img.prevv) +
      place 33 s.img.drain + place 41 (bnat (s.rbit .rqEpochStatus 0 41))))
  | .rqSlots => some (wordOf ((slotTotal - s.slots.countP (fun e => decide (e.2.state ≠ .free))) +
      place 19 (s.slotsIn .held) + place 38 (s.slotsIn .forwarded)))
  | .rqOriginUse => some (wordOf s.origins.length)
  | .hgCap => some ((s.reg .hgCap 0).setFld 11 11 (bnat s.fitOrWait))
  | .lkCap => some ((s.reg .lkCap 0).setFld 13 7 s.linkCount)
  | .lkUp => some (wordOf (maskOf 64 (fun n => decide ((s.link n).state = .active))))
  | .lkLstate =>
    let l := s.rfld .lkSel 0 6 0
    if 64 ≤ l then some 0
    else
      let k := s.link l
      some (wordOf (linkCode k.state + place 3 ((s.furrowOf l).getD 0) + place 6 k.gen + place 8 k.peer +
        place 24 k.peerLink + place 30 (bnat k.swap) + place 31 k.inv))
  | .fuStatus =>
    let y := s.furrow i
    some (wordOf (s.furrowState i + place 2 (s.activeLinks i).length + place 9 y.gen + place 11 y.peerFloor +
      place 27 y.peerRetry + place 33 (bnat (s.rbit .fuStatus i 33))))
  | .fuEvt => some (wordOf ((s.furrow i).evtCode + place 8 (s.furrow i).evtSeq))
  | .fuEvtArg => some (s.furrow i).evtArg
  | .fuConnCfg => some (s.plainRead .fuConnCfg (s.rfld .fuConnSel 0 13 0))
  | .fuConnStatus =>
    let k := s.conn (s.rfld .fuConnSel 0 13 0)
    some (wordOf (connCode k.state + place 2 k.kp + place 3 k.rnext))
  | .fuConnTxseq => some (wordOf (s.conn (s.rfld .fuConnSel 0 13 0)).txseq)
  | .hgStatus => some (wordOf (s.sharedFree + place 19 (bnat (s.rbit .hgStatus 0 19))))
  | .hgBktState => some (wordOf (s.tokens i))
  | .hgCtxState => some (wordOf (s.ctxCode i + place 2 (bnat (s.ctx i).drained) + place 3 (s.heldBy i) +
      place 22 (s.ctx i).queue.length))
  | .hgGateStatus => some (wordOf ((s.furrow i).entry + place 4 (bnat (s.rbit .hgGateStatus i 4)) +
      place 5 (bnat (s.captured .hgGateCfg i).isSome)))
  | _ => none

/-- The registers of the host ports and the Mint whose value is not a stored one. -/
def readHost (s : State) (r : Reg) (i : Nat) : Option Word :=
  match r with
  | .hpPortStatus =>
    let p := s.hport i
    some (wordOf (p.width + place 4 p.rate + place 7 (bnat p.flit) + place 8 (bnat p.degraded) + place 9 (bnat (ideActive p none))))
  | .hpFlr => some (wordOf (maskOf 64 (fun b => (s.vf (i / 8 * 1024 + 64 * (i % 8) + b + 1)).flr)))
  | .hpRngCfg0 => some (s.plainRead r (s.rfld .hpRngSel 0 11 0))
  | .hpRngCfg1 => some (s.plainRead r (s.rfld .hpRngSel 0 11 0))
  | .hpRngCfg2 => some (s.plainRead r (s.rfld .hpRngSel 0 11 0))
  | .hpRngStatus => some (s.rangeWord (s.rfld .hpRngSel 0 11 0))
  | .hpRngVer => some (s.rangeVersion (s.rfld .hpRngSel 0 11 0))
  | .mtMode => some (wordOf (bnat s.img.conf + place 1 1))
  | .mtStatus => some (wordOf (bnat s.mint.ready + place 1 (bnat s.mint.stopped) + place 2 (bnat s.firm.window) +
      place 3 s.openSessions + place 7 s.mint.signer.length))
  | .mtCtxStatus => some (s.ctxStatus (s.rfld .mtCtxSel 0 9 0))
  | .mtJobStatus =>
    let n := s.rfld .mtJobSel 0 11 0
    some (wordOf (bnat (s.job n).loaded + place 1 (s.binds n)))
  | .mtJobId => some (wordOf (s.job (s.rfld .mtJobSel 0 11 0)).id)
  | .mtMeasData => some (wordOf (numAt (s.measurement (s.rfld .mtMeasSel 0 2 0)) (8 * s.rfld .mtMeasSel 0 5 3) 8))
  | .cbStatus => some (wordOf (s.img.state + place 2 s.img.err + place 6 s.img.sect + place 22 s.img.record +
      place 38 (bnat s.img.base.isSome)))
  | .cbSerial => some (wordOf (match s.img.base with | some b => serialOf b | none => 0))
  | .cbLast => some (wordOf (match s.img.amends.getLast? with | some b => serialOf b | none => 0))
  | .cbLog => some (wordOf s.img.log.length)
  | _ => none

/-- The registers of reliability, firmware, power and the Bursar, and of the privileged search port, whose value is not a
stored one. -/
def readManage (s : State) (r : Reg) (i : Nat) : Option Word :=
  match r with
  | .rsState => some (wordOf (svcWord s.rel.svc + place 2 (bnat (decide (s.rel.cr ≠ .none))) + place 3 s.winCount +
      place 7 s.rel.wcause))
  | .rsListUse => some (wordOf (s.rel.mis.length + place 9 s.rel.lost.length + place 24 s.rel.gaps.length +
      place 37 (bnat s.rel.gapovf)))
  | .rsListData => some (s.listWord i)
  | .rsTakeStatus =>
    let t := s.rel.take
    some (wordOf ((if t.busy then 1 else if t.done then 2 else if t.refused then 3 else 0) + place 2 t.convs +
      place 22 t.gaps))
  | .rsRbStatus => some (wordOf (s.rel.rb.state + place 2 s.rel.rb.cause))
  | .rsShadowStatus => some (wordOf ((s.shadowSt i).phase + place 2 (s.shadowSt i).copied.length))
  | .rsPredData0 =>
    let k := predKey (s.rfld .rsPredSel 0 3 0) (s.rfld .rsPredSel 0 9 4)
    some (wordOf (SMap.get 0 s.rel.pred (k 0) + place 32 (SMap.get 0 s.rel.pred (k 1))))
  | .rsPredData1 =>
    let k := predKey (s.rfld .rsPredSel 0 3 0) (s.rfld .rsPredSel 0 9 4)
    some (wordOf (SMap.get 0 s.rel.pred (k 2) + place 32 (SMap.get 0 s.rel.pred (k 3))))
  | .brFwStatus => some (wordOf (fwCode s.firm.st + place 3 s.firm.run + place 4 s.firm.err +
      place 8 (bnat s.firm.pendCert) + place 9 (bnat s.firm.boot) + place 10 (bnat (s.rbit .brFwStatus 0 10)) +
      place 11 s.firm.fuse))
  | .brFwVer => some (wordOf ((s.fwSlot i).svn + place 16 ((s.fwSlot i).version % 2 ^ 48)))
  | .brFwProb =>
    if s.firm.st = .probation then
      some (wordOf (Nat.min 0xFFFF (s.power.seconds - s.firm.began) +
        place 16 (match s.firm.healthy with | some t => Nat.min 0xFFFF (s.power.seconds - t) | none => 0)))
    else some 0
  | .pwStatus => some (wordOf (s.power.mstep + place 2 s.power.hstep +
      place 4 ((List.range 20).foldl (fun a k => a + place (2 * k) (SMap.get 0 s.power.bsteps k)) 0) +
      place 44 (maskOf 20 (fun k => s.power.ref2x.testBit k || s.rbit .pgCfg k 16))))
  | .pwIn => some (wordOf (s.power.vin + place 16 s.power.iin + place 32 s.power.pin))
  | .pwTemp =>
    let c := s.rfld .pwTempSel 0 2 0
    some (wordOf (s.temp c (s.rfld .pwTempSel 0 9 3) % 256 + place 8 (s.hottestOf c % 256)))
  | .pwClk => some (wordOf (s.power.pllStack + place 20 (bnat s.power.pllHub) + place 21 s.power.pllPort +
      place 25 s.power.refclk))
  | .brTime => some (wordOf (s.power.seconds % 2 ^ 32))
  | .brSvc => some (wordOf (bnat s.svcImage + place 1 (bnat s.svcTest) + place 2 (bnat s.svcFurrows) +
      place 3 (bnat s.svcMirror) + place 4 (bnat s.svcCode) + place 5 (bnat (s.rbit .brSvc 0 5))))
  | .brMpStatus => some (wordOf (bnat (s.power.mpLink.testBit i) + place 1 (bnat (s.power.mpGlobal.testBit i))))
  | _ => none

/-- Whether a register belongs to the privileged search port (Table 08-10). -/
def isPsReg (r : Reg) : Bool :=
  [Reg.lcPsKey0, .lcPsKey1, .lcPsGmask0, .lcPsGmask1, .lcPsStart, .lcPsCmd, .lcPsRes, .lcPsData, .lcPsVal0, .lcPsVal1,
   .lcPsCare0, .lcPsCare1].contains r

/-- What a read of a register of the device register space returns. -/
def regRead (s : State) (r : Reg) (i : Nat) : Word :=
  if s.regAbsent r i ∨ (isPsReg r ∧ s.img.conf) then 0
  else
    match s.readCore r i with
    | some w => w
    | none =>
      match s.readFabric r i with
      | some w => w
      | none =>
        match s.readHost r i with
        | some w => w
        | none => (s.readManage r i).getD (s.plainRead r i)

/-- What a read of a register of a VF's page returns; `w` is the word of the mailbox (R204, R525). -/
def pageRead (s : State) (v : Nat) (r : Reg) (w : Nat) : Word :=
  let c := ctxOfVf v
  let k := s.core (s.selectedCore c)
  let mine := decide (k.lessee = some c)
  match r with
  | .hpVfInfo => wordOf (c + place 10 (v / 1024) + place 11 (v % 1024) + place 21 (bnat s.img.conf))
  | .hpVfRingStatus => s.ringWord v
  | .hgVfStatus => wordOf (s.tokens c)
  | .hgVfUse => wordOf (s.ctxCode c + place 2 (s.heldBy c) + place 21 (s.ctx c).queue.length)
  | .scVfState => s.stationWord c
  | .scVfArg0 => if mine then s.plainRead r v else 0
  | .scVfArg1 => if mine then s.plainRead r v else 0
  | .scVfArg2 => if mine then s.plainRead r v else 0
  | .scVfMbox => if mine then wordOf (leNat (k.scr (0x3F00 + 8 * w) 8)) else 0
  | r => s.plainRead r v

/-! MSI-X tables (R521, R525). -/

/-- A read of 8 bytes of a function's MSI-X table. -/
def msixRead (s : State) (fn off : Nat) : Word :=
  let m := msixVec (s.msixFn fn) (off / 16)
  if off % 16 = 0 then wordOf m.addr else wordOf (m.data + place 32 (bnat m.masked))

/-- The pending bits of a function. -/
def msixPending (s : State) (fn : Nat) : Word := wordOf (maskOf 64 (fun i => (msixVec (s.msixFn fn) i).pending))

/-- A write of 8 bytes of a function's MSI-X table; messages it unmasks are sent (Table 12-3). -/
def msixWrite (s : State) (fn off : Nat) (w : Word) : State :=
  let f := s.msixFn fn
  let m := msixVec f (off / 16)
  let m := if off % 16 = 0 then { m with addr := w.toNat / 4 * 4 } else { m with data := w.fld 31 0, masked := w.bit 32 }
  (s.setMsixFn fn { f with vecs := SMap.set {} f.vecs (off / 16) m }).releaseMsix fn

/-! Writes (R13, R15, R438, R523, R524). -/

/-- A write under a register's access codes alone, with no reserved field set (`regWrite` makes that check, R19): RW bits
take effect at once, RWC bits go to the shadow, bits written 1 clear W1C bits. -/
def plainWrite (s : State) (r : Reg) (i : Nat) (w : Word) : State :=
  let m := r.access
  let s := if m.rwc = 0 then s else s.setShadow r i (w &&& wordOf m.rwc)
  let old := s.reg r i
  let new := (old &&& ~~~(wordOf m.rw) ||| w &&& wordOf m.rw) &&& ~~~(w &&& wordOf m.w1c)
  if m.rw = 0 ∧ m.w1c = 0 then s else s.setReg r i new

/-- The instance a write reaches: the selected connection or entry, or the one its address names (R524). -/
def shadowInst (s : State) (r : Reg) (i : Nat) : Nat :=
  match r with
  | .fuConnCfg => s.rfld .fuConnSel 0 13 0
  | .hpRngCfg0 => s.rfld .hpRngSel 0 11 0
  | .hpRngCfg1 => s.rfld .hpRngSel 0 11 0
  | .hpRngCfg2 => s.rfld .hpRngSel 0 11 0
  | _ => i

/-- Whether PW_TEMP_SEL would name a reserved class, or a part the variant lacks (R516). -/
def tempSelBad (s : State) (w : Word) : Bool :=
  let n := match w.fld 2 0 with
    | 0 => 1
    | 1 => s.stackCount
    | 2 => s.stackCount
    | 3 => s.portDies
    | 4 => s.chanCount
    | 5 => 1
    | _ => 0
  decide (n ≤ w.fld 9 3)

/-- Whether a register of the privileged search port takes writes. -/
def isPsInput (r : Reg) : Bool :=
  [Reg.lcPsKey0, .lcPsKey1, .lcPsGmask0, .lcPsGmask1, .lcPsStart, .lcPsCmd].contains r

/-- A write whose result the named rule leaves undefined: a reserved value of a selection or a quota, or a change of the
privileged search port under a search. -/
def writeUndef (s : State) (r : Reg) (w : Word) : Option Nat :=
  match r with
  | .wpCntSel => if 64 < w.fld 6 0 then some 100 else none
  | .pgSel => if 64 < w.fld 6 0 then some 178 else none
  | .scSel => if 64 < w.fld 6 0 ∨ 16 < w.fld 11 7 then some 213 else none
  | .scLeaseQuota => if 20480 < w.fld 14 0 then some 213 else none
  | .stSel => if 4 < w.fld 2 0 then some 238 else none
  | .lkSel => if 64 < w.fld 6 0 then some 339 else none
  | .hgSel => if 1024 < w.fld 10 0 then some 365 else none
  | .hpSel => if w.fld 1 0 = 3 ∨ 512 < w.fld 11 2 then some 399 else none
  | .mtMeasSel => if w.fld 2 0 = 0 then some 423 else none
  | .rsListSel => if w.fld 1 0 = 3 then some 480 else none
  | .pwTempSel => if s.tempSelBad w then some 516 else none
  | r => if isPsInput r && s.cam.psGo && !s.img.conf then some 268 else none

/-- The commit group of a commit register. -/
def commitOf (r : Reg) (i : Nat) : Option Group :=
  match r with
  | .hubRetCfgCommit => some .hubRet
  | .hgCfgCommit => some .hgCfg
  | .hgCtxCommit => some (.hgCtx i)
  | .hgGateCommit => some (.hgGate i)
  | .wpCfgCommit => some (.wp i)
  | .scCfgCommit => some (.sc i)
  | .pgCfgCommit => some (.pg i)
  | .pgCodeCommit => some .pgCode
  | .stCfgCommit => some (.st i)
  | .lcCfgCommit => some .lc
  | .rqCfgCommit => some .rq
  | .rqEpochCommit => some .rqEpoch
  | .lkCfgCommit => some .lk
  | .fuCommit => some (.fu i)
  | .mtCfgCommit => some .mt
  | .rsCfgCommit => some .rs
  | .rsShadowCommit => some (.rsShadow i)
  | .brFwCommit => some .brFw
  | .pwCfgCommit => some .pw
  | _ => none

/-- One command after another, the second where the first answers a state. -/
def andThen (r : Result) (k : State → Result) : Result :=
  match r with
  | .next s => k s
  | .fault f => .fault f
  | .refused x => .refused x

/-- Do a command where a bit was written 1. -/
def whenBit (w : Word) (b : Nat) (k : State → Result) (s : State) : Result := if w.bit b then k s else .next s

/-- RQ_ORIGIN_CLR.GO (R304): an origin entry is freed while no slot holds a request of it and none is held back. -/
def clearOrigin (s : State) (o : Nat) : State :=
  if s.slots.any (fun e => decide (e.2.state ≠ .free) && e.2.hdr.origin == o) then s
  else { s with origins := s.origins.filter (fun x => x.node != o) }

/-- Writes of command and commit registers of the device register space; none where a register has no effect beyond its
access codes. -/
def commandWrite (s : State) (r : Reg) (i : Nat) (w : Word) : Option Result :=
  match r with
  | .fuConnCommit => some (whenBit w 0 (execFuConnCommit none) s)
  | .hpRngCommit => some (whenBit w 0 execHpRngCommit s)
  | .rqOriginClr => some (whenBit w 16 (fun q => .next (q.clearOrigin (w.fld 15 0))) s)
  | .lcPsCmd => some (whenBit w 0 (execPrivilegedSearch none) s)
  | .scDbgCtl => some (andThen (execDebugHalt (w.bit 0) s) (whenBit w 1 execDebugStep))
  | .mtCtxCmd => some (whenBit w 0 execMtCtxCmdClose s)
  | .cbCtl => some (match w.fld 2 0 with
      | 1 => execCbLoad s
      | 2 => execCbStore s
      | 3 => execCbAmend s
      | 4 => execCbClear s
      | _ => .next s)
  | .cbData => some (execCbData (some w) s)
  | .rsCmd => some (andThen (whenBit w 0 execCreset s) (whenBit w 1 execWithdraw))
  | .rsLostCmd => some (andThen (whenBit w 10 (execLostAdd (w.fld 9 0)) s) (whenBit w 11 (execLostRemove (w.fld 9 0))))
  | .rsTake => some (whenBit w 10 (execRsTake (w.fld 9 0)) s)
  | .rsRbCmd => some (whenBit w 0 (fun q => if q.rbit .rsRbArg0 0 35 then execRebuildDecode q else execRebuildRecord q) s)
  | .brFwCmd => some (match w.fld 2 0 with
      | 1 => execArm s
      | 2 => execDisarm s
      | 3 => execRevert s
      | 4 => execDiscard s
      | 5 => execBoot s
      | _ => .next s)
  | .brCmd => some (whenBit w 0 execService s)
  | .pwCmd => some (whenBit w 0 execOff s)
  | .hpRngStatus =>
    let e := s.rfld .hpRngSel 0 11 0
    some (.next (s.updRange e (fun x => { x with done := x.done && !w.bit 3, refused := x.refused && !w.bit 4 })))
  | r =>
    match commitOf r i with
    | some g => some (whenBit w 0 (fun q => q.commit g) s)
    | none => none

/-- Whether a write is discarded: to a block the variant lacks (R520), to a port disabled by confidential mode (R209,
R262), and to HP_VF_CFG of a VF whose TDI is locked or of no VF (R396). -/
def writeDiscarded (s : State) (r : Reg) (i : Nat) : Bool :=
  s.regAbsent r i || (s.img.conf && (isPsReg r || [Reg.scDbgSel, .scDbgCtl, .scDbgAddr].contains r)) ||
  (r == .hpVfCfg && s.tdiLocked (i / 513 * 1024 + i % 513))

/-- Whether a written value is nonzero in a reserved field, a bit that no field of the register names (R15, R19). -/
def reservedSet (r : Reg) (w : Word) : Bool :=
  let m := r.access
  w &&& ~~~(wordOf (m.ro ||| m.rw ||| m.rwc ||| m.w1c ||| m.wo)) != 0

/-- A write of a register of the device register space. A nonzero value in a reserved field has no defined result (R19). -/
def regWrite (s : State) (r : Reg) (i : Nat) (w : Word) : Result :=
  if s.writeDiscarded r i then .next s
  else if reservedSet r w then .fault (.undefinedResult 19)
  else
    match s.writeUndef r w with
    | some n => .fault (.undefinedResult n)
    | none =>
      match s.commandWrite r i w with
      | some x => x
      | none => .next (s.plainWrite r (s.shadowInst r i) w)

/-- Writes of SC_VF_CMD (Table 06-12). -/
def stationWrite (s : State) (c op : Nat) : Result :=
  match op with
  | 1 => execLoad c s
  | 2 => execRun c s
  | 3 => execStop c s
  | 4 => execGrant c s
  | 5 => execRelease c s
  | 6 => execDeq c s
  | 7 => execClear c s
  | n => execReservedCommand c n s

/-- A write of HG_VF_IRQ (R362). -/
def irqWrite (s : State) (v : Nat) (w : Word) : State :=
  let s := s.plainWrite .hgVfIrq v w
  forUpTo 3 s (fun i q =>
    if q.rbit .hgVfIrq v i && q.rbit .hgVfIrqCause v i then
      q.requestMsix v (q.rfld .hgVfIrq v (5 + 3 * i) (3 + 3 * i))
    else q)

/-- A write of a register of a VF's page; `n` is the word of the mailbox. -/
def pageWrite (s : State) (v : Nat) (tee : Bool) (r : Reg) (n : Nat) (w : Word) : Result :=
  let c := ctxOfVf v
  let core := s.selectedCore c
  let k := s.core core
  let mine := decide (k.lessee = some c)
  let drop := Host.Outcome.next (s.count .scCntCmddrop core 1)
  match r with
  | .hpVfRingCommit => whenBit w 0 (execHpVfRingCommit v tee) s
  | .hpVfCqHead => execCqHead v (w.fld 19 0) (w.bit 20) tee s
  | .hpVfRspHead => execRspHead v (w.fld 25 0) tee s
  | .hpVfRingStatus => .next (s.updVf v (fun x => { x with refused := x.refused && !w.bit 48 }))
  | .hgVfIrq => .next (s.irqWrite v w)
  | .scVfLease =>
    (match w.fld 1 0 with
     | 1 => execAcquire c tee s
     | 2 => execLeaseRelease c tee s
     | _ => .next s)
  | .scVfCmd => s.stationWrite c (w.fld 3 0)
  | .scVfArg0 => if mine then .next (s.plainWrite r v w) else drop
  | .scVfArg1 => if mine then .next (s.plainWrite r v w) else drop
  | .scVfArg2 => if mine then .next (s.plainWrite r v w) else drop
  | .scVfState => if mine then .next s else drop
  | .scVfMbox =>
    if mine ∧ k.st ≠ .run ∧ k.st ≠ .wait then .next (s.setCore core (k.setScr (0x3F00 + 8 * n) (leBytes 8 w.toNat)))
    else drop
  | r => .next (s.plainWrite r v w)

/-! The two spaces (R517, R518, R525, R527). -/

/-- Whether an access has the one size and alignment that is served (R518). -/
def aligned (addr len : Nat) : Bool := len == 8 && addr % 8 == 0

/-- The function whose MSI-X table lies in a space an agent reaches: that of the PF, none for management (R521). -/
def tableBase : Nat := 0xA80000
def pbaAddr : Nat := 0xA81000

/-- A read of the device register space through the PF of a port, or by management: the state after it and the value. An
offset that no register occupies reads a free value (R19, log entry 79). -/
def devRead (s : State) (pf : Option Nat) (a : Nat) : State × Word :=
  if tableBase ≤ a ∧ a < tableBase + 0x400 then
    (s, match pf with | some p => s.msixRead (p * 1024) (a - tableBase) | none => 0)
  else if a = pbaAddr then (s, match pf with | some p => s.msixPending (p * 1024) | none => 0)
  else
    match regAt a with
    | some (.cbData, _) => (s.stepAddr, wordOf (leNat (dramRead s.img.buffer s.bufferAddr 8)))
    | some (r, i) => (s, s.regRead r i)
    | none =>
      match ctrAt a with
      | some (c, i) => s.readCtr c i
      | none => (s.tick, Config.readOpen s.fresh a)

/-- Whether an address is that of a shadow register computed for a slice above 7 that names no other register (R527). -/
def highShadow (a : Nat) : Bool :=
  decide (0xD00320 ≤ a) && decide (a < 0xD00400) && decide ((a - 0xD00200) % 0x20 ≤ 0x10)

/-- A write of the device register space. At an offset that no register occupies it has no defined result (R19). -/
def devWrite (s : State) (pf : Option Nat) (a : Nat) (w : Word) : Result :=
  if tableBase ≤ a ∧ a < tableBase + 0x400 then
    .next (match pf with | some p => s.msixWrite (p * 1024) (a - tableBase) w | none => s)
  else if a = pbaAddr ∨ highShadow a then .fault (.undefinedResult 527)
  else
    match regAt a with
    | some (r, i) => s.regWrite r i w
    | none => if (ctrAt a).isSome then .next s else .fault (.undefinedResult 19)

/-- A write of a VF's page. -/
def vfWrite (s : State) (v : Nat) (tee : Bool) (a : Nat) (w : Word) : Result :=
  if 0x800 ≤ a ∧ a < 0x880 then .next (s.msixWrite v (a - 0x800) w)
  else
    match pageRegAt a with
    | some (r, n) => if reservedSet r w then .fault (.undefinedResult 19) else s.pageWrite v tee r n w
    | none => .fault (.undefinedResult 527)

/-- A read of a VF's page; an offset that no register occupies reads a free value (R19, log entry 79). -/
def vfRead (s : State) (v a : Nat) : Word :=
  if 0x800 ≤ a ∧ a < 0x880 then s.msixRead v (a - 0x800)
  else if a = 0xC00 then s.msixPending v
  else
    match pageRegAt a with
    | some (r, n) => s.pageRead v r n
    | none => Config.readOpen s.fresh a

end State

open State

/-- COUNTER_READ (R17, R518, R519): a read of a counter register through the PF of a port; a read of another size or
alignment completes with Unsupported Request. -/
def execCounterRead (port addr len : Nat) (s : State) : Result :=
  if aligned addr len then
    match ctrAt addr with
    | some (c, i) =>
      let r := s.readCtr c i
      .next (r.1.emit (.value r.2))
    | none => .next s
  else .next (s.emit (.hostError port 0 "UR"))

/-- HG_VF_IRQ (R362): the interrupt register of a context is written through its VF's BAR0, as far as the port serves the VF; a
nonzero reserved field has no defined result (R19). -/
def execHgVfIrq (ctx : Nat) (value : Word) (tee : Bool) (s : State) : Result :=
  s.vfAccess (vfOfCtx ctx) tee (fun q =>
    if reservedSet .hgVfIrq value then .fault (.undefinedResult 19) else .next (q.irqWrite (vfOfCtx ctx) value))

/-- RQ_ORIGIN_CLR (R304). -/
def execRqOriginClr (origin : Nat) (s : State) : Result := .next (s.clearOrigin origin)

/-- REGISTER_WRITE (R13, R518, R525): a write of the device register space or of a per-context page. -/
def execRegisterWrite (space : RegSpace) (addr len : Nat) (value : Word) (s : State) : Result :=
  match space with
  | .pf p => if p < 2 ∧ s.portUp p ∧ aligned addr len then s.devWrite (some p) addr value else .next s
  | .vf v tee =>
    s.vfAccess v tee (fun q => if aligned addr len then q.vfWrite v tee addr value else .next q)

end Sys2Proof.Machine
end

