-- ==== Sys2Proof/Machine/Instrs.lean ====
section
/-! DEFINITION. The instructions of a customer station, one command each: the station executes its next word when that
word is the instruction named (Table 06-9). -/

namespace Sys2Proof.Machine

open State

/-- ADD (R200). -/
def execAdd (core : Nat) (s : State) : Result := .next (s.instr core 0x00 effAdd)

/-- SUB (R200). -/
def execSub (core : Nat) (s : State) : Result := .next (s.instr core 0x01 effSub)

/-- AND (R200). -/
def execAnd (core : Nat) (s : State) : Result := .next (s.instr core 0x02 effAnd)

/-- OR (R200). -/
def execOr (core : Nat) (s : State) : Result := .next (s.instr core 0x03 effOr)

/-- XOR (R200). -/
def execXor (core : Nat) (s : State) : Result := .next (s.instr core 0x04 effXor)

/-- SHL (R200). -/
def execShl (core : Nat) (s : State) : Result := .next (s.instr core 0x05 effShl)

/-- SHR (R200). -/
def execShr (core : Nat) (s : State) : Result := .next (s.instr core 0x06 effShr)

/-- SRA (R200). -/
def execSra (core : Nat) (s : State) : Result := .next (s.instr core 0x07 effSra)

/-- MUL (R200). -/
def execMul (core : Nat) (s : State) : Result := .next (s.instr core 0x08 effMul)

/-- SLT (R200). -/
def execSlt (core : Nat) (s : State) : Result := .next (s.instr core 0x09 effSlt)

/-- SLTU (R200). -/
def execSltu (core : Nat) (s : State) : Result := .next (s.instr core 0x0A effSltu)

/-- FADD (R200). -/
def execFadd (core : Nat) (s : State) : Result := .next (s.instr core 0x10 effFadd)

/-- FMUL (R200). -/
def execFmul (core : Nat) (s : State) : Result := .next (s.instr core 0x11 effFmul)

/-- FMAX (R200). -/
def execFmax (core : Nat) (s : State) : Result := .next (s.instr core 0x12 effFmax)

/-- FMIN (R200). -/
def execFmin (core : Nat) (s : State) : Result := .next (s.instr core 0x13 effFmin)

/-- FLT (R200). -/
def execFlt (core : Nat) (s : State) : Result := .next (s.instr core 0x14 effFlt)

/-- CVTF (R200). -/
def execCvtf (core : Nat) (s : State) : Result := .next (s.instr core 0x15 effCvtf)

/-- CVTI (R200). -/
def execCvti (core : Nat) (s : State) : Result := .next (s.instr core 0x16 effCvti)

/-- JR (R200). -/
def execJr (core : Nat) (s : State) : Result := .next (s.instr core 0x1F effJr)

/-- ADDI (R200). -/
def execAddi (core : Nat) (s : State) : Result := .next (s.instr core 0x20 effAddi)

/-- ANDI (R200). -/
def execAndi (core : Nat) (s : State) : Result := .next (s.instr core 0x22 effAndi)

/-- ORI (R200). -/
def execOri (core : Nat) (s : State) : Result := .next (s.instr core 0x23 effOri)

/-- XORI (R200). -/
def execXori (core : Nat) (s : State) : Result := .next (s.instr core 0x24 effXori)

/-- SHLI (R200). -/
def execShli (core : Nat) (s : State) : Result := .next (s.instr core 0x25 effShli)

/-- SHRI (R200). -/
def execShri (core : Nat) (s : State) : Result := .next (s.instr core 0x26 effShri)

/-- LUI (R200). -/
def execLui (core : Nat) (s : State) : Result := .next (s.instr core 0x2C effLui)

/-- LDS (R200). -/
def execLds (core : Nat) (s : State) : Result := .next (s.instr core 0x2D effLds)

/-- STS (R200). -/
def execSts (core : Nat) (s : State) : Result := .next (s.instr core 0x2E effSts)

/-- BEQ (R200). -/
def execBeq (core : Nat) (s : State) : Result := .next (s.instr core 0x40 effBeq)

/-- BNE (R200). -/
def execBne (core : Nat) (s : State) : Result := .next (s.instr core 0x41 effBne)

/-- BLT (R200). -/
def execBlt (core : Nat) (s : State) : Result := .next (s.instr core 0x42 effBlt)

/-- BGE (R200). -/
def execBge (core : Nat) (s : State) : Result := .next (s.instr core 0x43 effBge)

/-- BLTU (R200). -/
def execBltu (core : Nat) (s : State) : Result := .next (s.instr core 0x44 effBltu)

/-- JAL (R200). -/
def execJal (core : Nat) (s : State) : Result := .next (s.instr core 0x45 effJal)

/-- BLD (R187). -/
def execBld (core : Nat) (held : Bool) (s : State) : Result := .next (s.instrHeld core 0x60 effBld held)

/-- BST (R187). -/
def execBst (core : Nat) (held : Bool) (s : State) : Result := .next (s.instrHeld core 0x61 effBst held)

/-- VLD (R200). -/
def execVld (core : Nat) (s : State) : Result := .next (s.instr core 0x80 effVld)

/-- VST (R200). -/
def execVst (core : Nat) (s : State) : Result := .next (s.instr core 0x81 effVst)

/-- VWID (R201). -/
def execVwid (core : Nat) (s : State) : Result := .next (s.instr core 0x82 effVwid)

/-- VSPL (R200). -/
def execVspl (core : Nat) (s : State) : Result := .next (s.instr core 0x83 effVspl)

/-- VADD (R200). -/
def execVadd (core : Nat) (s : State) : Result := .next (s.instr core 0x84 effVadd)

/-- VMUL (R200). -/
def execVmul (core : Nat) (s : State) : Result := .next (s.instr core 0x85 effVmul)

/-- VFMA (R200). -/
def execVfma (core : Nat) (s : State) : Result := .next (s.instr core 0x86 effVfma)

/-- VMAX (R200). -/
def execVmax (core : Nat) (s : State) : Result := .next (s.instr core 0x87 effVmax)

/-- VMIN (R200). -/
def execVmin (core : Nat) (s : State) : Result := .next (s.instr core 0x88 effVmin)

/-- VEXP (R200). -/
def execVexp (core : Nat) (s : State) : Result := .next (s.instr core 0x89 effVexp)

/-- VRSUM (R200). -/
def execVrsum (core : Nat) (s : State) : Result := .next (s.instr core 0x8A (effVrsum s.fresh))

/-- VRMAX (R200). -/
def execVrmax (core : Nat) (s : State) : Result := .next (s.instr core 0x8B effVrmax)

/-- VBND (R200). -/
def execVbnd (core : Nat) (s : State) : Result := .next (s.instr core 0x8C effVbnd)

/-- VCVT (R200). -/
def execVcvt (core : Nat) (s : State) : Result := .next (s.instr core 0x8D effVcvt)

/-- VSTN (R200). -/
def execVstn (core : Nat) (s : State) : Result := .next (s.instr core 0x8E effVstn)

/-- VXOR (R200). -/
def execVxor (core : Nat) (s : State) : Result := .next (s.instr core 0x8F effVxor)

/-- VGFMA (R200). -/
def execVgfma (core : Nat) (s : State) : Result := .next (s.instr core 0x90 effVgfma)

/-- VSTH (R200). -/
def execVsth (core : Nat) (s : State) : Result := .next (s.instr core 0x91 effVsth)

/-- NOP (R200). -/
def execNop (core : Nat) (s : State) : Result := .next (s.instr core 0xA0 effNop)

/-- HALT (R185). -/
def execHalt (core : Nat) (s : State) : Result := .next (s.instr core 0xA1 effHalt)

/-- FENCE (R198). -/
def execFence (core : Nat) (s : State) : Result := .next (s.instr core 0xA2 effFence)

/-- VIEW (R194). -/
def execView (core : Nat) (s : State) : Result := .next (s.instr core 0xA3 effView)

/-- KRND (R200). With `vendor` the vendor station, which holds the core, runs it on its working space: the round's number
(log entry 22) and the register that holds the scratch address. An address outside that space is the vendor station's
RANGE fault (R192, R202). In the customer station it faults as ILLEGAL. -/
def execKrnd (core : Nat) (vendor : Option (Nat × Nat)) (s : State) : Result :=
  let k := s.core core
  match vendor with
  | some (round, ra) =>
    let a := (vendorReg (s.vendor core) ra).toNat
    .next (if !k.vendor then s
      else if decide (0x0800 ≤ a) && decide (a + 200 ≤ 0x2000) then s.updVendor core (vendorKrnd round a)
      else s.scFault core fcRange)
  | none =>
    .next (if executing k && !s.haltedAt core && opKey (k.word k.pc) == 0xA4 then s.runEffect core effKrnd false else s)

/-- ILLEGAL (R200, R202): the next word is a reserved encoding. -/
def execIllegal (core : Nat) (s : State) : Result :=
  let k := s.core core
  .next (if executing k && !s.haltedAt core && !legalWord (k.word k.pc) then s.runEffect core effIllegal false else s)

end Sys2Proof.Machine
end

