-- ==== Sys2Proof/Machine/Manage.lean ====
section
/-! DEFINITION. Management: datagrams, sessions, DISCOVER, events, register access and subscriptions (17.6, R447,
R478). -/

namespace Sys2Proof.Machine

namespace State

/-- A management message header (Table 17-6). -/
structure MgmtHdr where
  type : Nat := 0
  length : Nat := 0
  session : Nat := 0
  mseq : Nat := 0
deriving DecidableEq, Repr

/-- The header of a datagram with `len` payload bytes; none where it is malformed, or its VER or TYPE is not one of
Table 17-6 (R507). -/
def mgmtHdr (b : Bytes) (len : Nat) : Option MgmtHdr :=
  let w := numAt b 0 4
  let type := fieldOf w 15 8
  if b.length = 16 ∧ fieldOf w 3 0 = 1 ∧ fieldOf w 7 4 = 0 ∧ 1 ≤ type ∧ type ≤ 4 ∧ fieldOf w 31 16 = len ∧ len ≤ 8192 then
    some { type := type, length := len, session := numAt b 4 4, mseq := numAt b 8 8 }
  else none

/-! Management commands (R509). -/

/-- A register access by management, as PF software can (R509, R518). -/
def registerAccess (s : State) (sid : Option Nat) (addr len : Nat) (write : Option Word) : Result :=
  if !aligned addr len then .next (s.spdmError sid "ERROR InvalidRequest")
  else
    match write with
    | some w => andThen (s.devWrite none addr w) (fun q => .next (q.spdmOut sid "REGISTER_ACCESS" []))
    | none =>
      let r := s.devRead none addr
      .next (r.1.spdmOut sid "REGISTER_ACCESS" (leBytes 8 r.2.toNat))

/-- An address that is to receive events. -/
def subscribe (s : State) (addr : Bytes) : State :=
  if s.power.subs.contains addr then s else s.setPower { s.power with subs := s.power.subs ++ [addr] }

/-- The predictive counters return to 0, in the module and in flash (R478). -/
def clearPred (s : State) : State := { s with rel := { s.rel with pred := [], predFlash := [] } }

/-! Events (R510). -/

/-- Take an EVENT off the list. -/
def dropEvent (s : State) (eseq : Nat) : State :=
  s.setPower { s.power with events := s.power.events.filter (fun e => e.eseq != eseq) }

/-- Send an EVENT again 1 s after its last sending; after 8 sends it is given up. -/
def resendEvent (s : State) (eseq : Nat) : State :=
  match s.power.events.find? (fun e => e.eseq == eseq) with
  | none => s
  | some e =>
    if s.power.seconds ≤ e.since then s
    else if 8 ≤ e.sends then (s.dropEvent eseq).count .brCntEvtUnack 0 1
    else
      let f : MEvent := { e with sends := e.sends + 1, since := s.power.seconds }
      let s := s.setPower { s.power with events := s.power.events.map (fun x => if x.eseq = eseq then f else x) }
      s.sendReport f

/-! The module's two status pins (Table 17-3, R447, R501, R505). -/

/-- ALERT_N is asserted. -/
def alertAsserted (s : State) : Bool :=
  decide (s.reg .rsFault 0 ≠ 0) || decide (s.rel.svc = .withdrawing) || decide (s.rel.svc = .out) ||
  decide (s.power.rails = .tripped)

/-- WITHDRAWN_N is low. -/
def withdrawnAsserted (s : State) : Bool := decide (s.rel.svc ≠ .service) || !s.powered

/-! DISCOVER (R507). -/

/-- What DISCOVER answers: the variant code, ORIGIN, the service state, the VERSION of the running firmware and the
serial number of the DevID certificate. -/
def discoverBytes (s : State) : Bytes :=
  leBytes 1 s.variantCode ++ leBytes 2 s.node ++ leBytes 1 (svcWord s.rel.svc) ++ leBytes 8 s.running.version ++
  leBytes 20 Config.devIdSerial

/-- The answer to a DISCOVER on a port. -/
def discover (s : State) (port mseq : Nat) : State := s.emit (.mgmt port 2 0 mseq "DISCOVER" s.discoverBytes)

end State

open State

/-- REGISTER_ACCESS (R509): a read, or a write, of the device register space. -/
def execRegisterAccess (session : Option Nat) (addr len : Nat) (write : Option Word) (s : State) : Result :=
  s.managementCmd session false (fun q => q.registerAccess session addr len write)

/-- SUBSCRIBE (R509). -/
def execSubscribe (session : Option Nat) (addr : Bytes) (s : State) : Result :=
  s.managementCmd session false (fun q => .next ((q.subscribe addr).spdmOut session "SUBSCRIBE" []))

/-- PREDICTIVE_CLEAR (R478). -/
def execPredictiveClear (session : Option Nat) (s : State) : Result :=
  s.managementCmd session false (fun q => .next (q.clearPred.spdmOut session "PREDICTIVE_CLEAR" []))

/-- DISCOVER (R507). -/
def execDiscover (port mseq : Nat) (s : State) : Result := .next (if s.standby then s.discover port mseq else s)

/-- EVENT_ACK (R510). -/
def execEventAck (eseq : Nat) (s : State) : Result := .next (if s.standby then s.dropEvent eseq else s)

/-- EVENT_RESEND (R510). -/
def execEventResend (eseq : Nat) (s : State) : Result := .next (if s.standby then s.resendEvent eseq else s)

/-- DYNAMIC_ADDRESS_ASSIGNMENT (R511): the I3C target takes a dynamic address and an MCTP endpoint ID. -/
def execDynamicAddressAssignment (addr eid : Nat) (s : State) : Result :=
  .next (if s.standby then s.setPower { s.power with i3cAddr := some (addr % 128), eid := some (eid % 256) } else s)

namespace State

/-! Datagrams (R507, R508). -/

/-- What an SPDM payload asks for, done as its own command does it; `none` is a message outside a session. -/
def mgmtDispatch (s : State) (sid : Option Nat) (m : MgmtMsg) : Result :=
  match m with
  | .none => .next s
  | .spdm x => execSpdmRequest .management sid x s
  | .getMeasurements i sign => execGetMeasurements sid i sign s
  | .endSession => match sid with | some n => execEndSession n s | none => .next s
  | .jobInstall slot id key => execJobInstall sid slot id key s
  | .jobRetire slot => execJobRetire sid slot s
  | .connBind c slot => execConnBind sid c slot s
  | .connUnbind c => execConnUnbind sid c s
  | .ctxClose c => execCtxClose sid c s
  | .ctxQuery c => execCtxQuery sid c s
  | .ctxOpen c => execCtxOpen sid c s
  | .registerAccess a n w => execRegisterAccess sid a n w s
  | .subscribe a => execSubscribe sid a s
  | .imageTransfer off data op => execImageTransfer sid off data op s
  | .firmwareTransfer data first last flash =>
    s.managementCmd sid true (fun q =>
      andThen (execFirmwareTransfer (data.take 8000) first last flash q) (fun t => .next (t.spdmOut sid "FIRMWARE_TRANSFER" [])))
  | .predictiveClear => execPredictiveClear sid s
  | .eventAck _ => .next s

/-- The answers of the Mint among what has left the module, and the rest. -/
def spdmAnswers (l : List Out) : List (String × Bytes) :=
  l.filterMap (fun o => match o with | .spdm _ code b => some (code, b) | _ => none)
def notSpdm (o : Out) : Bool := match o with | .spdm _ _ _ => false | _ => true

/-- Answers leave on a port. -/
def sendAnswers (s : State) (port id mseq : Nat) (l : List (String × Bytes)) : State :=
  l.foldl (fun q a => q.emit (.mgmt port 1 id mseq a.1 a.2)) s

/-- Run an SPDM payload; its answers leave on the port it came by. The answers are returned. -/
def mgmtRun (s : State) (port id mseq : Nat) (m : MgmtMsg) : Host.Outcome (State × List (String × Bytes)) Fault Refusal :=
  let sid : Option Nat := if id = 0 then none else some id
  match s.mgmtDispatch sid m with
  | .fault f => .fault f
  | .refused r => .refused r
  | .next t =>
    let fresh := t.out.drop s.out.length
    let l := spdmAnswers fresh
    .next ((({ t with out := s.out ++ fresh.filter notSpdm } : State).sendAnswers port id mseq l), l)

/-- A management session's record of its requests. -/
def msession (s : State) (id : Nat) : MSession :=
  (s.power.sessions.find? (fun x => x.session == id)).getD { session := id }

/-- Keep the answer of a request, with those of the last 256 sequences; a session that has ended keeps none. -/
def keepAnswer (s : State) (x : MSession) (a : MAnswer) : State :=
  let next := Nat.max x.next (a.seq + 1)
  let y : MSession := { session := x.session, next := next
                        answers := (a :: x.answers).filter (fun b => decide (next ≤ b.seq + 256)) }
  if (s.spdmSession x.session).isNone then s
  else s.setPower { s.power with sessions := y :: s.power.sessions.filter (fun z => z.session != x.session) }

/-- A request in a session (R508): performed the first time, answered from store after that, discarded below the window. One that
differs from the stored request of its MSEQ has no defined result (R516). -/
def sessionRequest (s : State) (port : Nat) (h : MgmtHdr) (m : MgmtMsg) : Result :=
  let x := s.msession h.session
  match x.answers.find? (fun a => a.seq == h.mseq) with
  | some a => if a.req ≠ m then .fault (.undefinedResult 516) else .next ((s.count .brCntMpDup 0 1).sendAnswers port h.session h.mseq a.msgs)
  | none =>
    if h.mseq + 256 < x.next then .next s
    else
      match (s.count .brCntMpRx 0 1).mgmtRun port h.session h.mseq m with
      | .fault f => .fault f
      | .refused r => .refused r
      | .next r => .next (r.1.keepAnswer x { seq := h.mseq, req := m, port := port, msgs := r.2 })

/-- A checked message by its type (Table 17-6); outside a session only DISCOVER and SPDM messages are accepted (R508). -/
def mgmtMessage (s : State) (port : Nat) (h : MgmtHdr) (m : MgmtMsg) : Result :=
  let known := (s.spdmSession h.session).isSome
  match h.type with
  | 1 =>
    if h.session = 0 then
      (match (s.count .brCntMpRx 0 1).mgmtRun port 0 h.mseq m with
       | .fault f => .fault f
       | .refused r => .refused r
       | .next r => .next r.1)
    else if known then s.sessionRequest port h m
    else .next s
  | 2 => .next ((s.count .brCntMpRx 0 1).discover port h.mseq)
  | 4 =>
    if known then
      (match m with
       | .eventAck eseq => .next ((s.count .brCntMpRx 0 1).dropEvent eseq)
       | _ => .next s)
    else .next s
  | _ => .next s

end State

/-- MANAGEMENT_DATAGRAM (R507, R508): a datagram arrives on port A (0) or B (1), at the link-local or the global address;
`hdr` are its 16 header bytes, `len` how many payload bytes follow, `msg` what the payload says. -/
def execManagementDatagram (port : Nat) (atGlobal : Bool) (hdr : Bytes) (len : Nat) (msg : MgmtMsg) (s : State) : Result :=
  if 2 ≤ port ∨ !s.standby then .next s
  else
    let g := if atGlobal then 2 ^ port else 0
    let s := s.setPower { s.power with mpLink := s.power.mpLink ||| 2 ^ port, mpGlobal := s.power.mpGlobal ||| g }
    match mgmtHdr hdr len with
    | none => .next (s.count .brCntMpBad 0 1)
    | some h => s.mgmtMessage port h msg

end Sys2Proof.Machine
end

