-- ==== Sys2Proof/Machine/Markers.lean ====
section
/-! DEFINITION. The commands of markers (R302 to R304, R415, R487, R530). -/

namespace Sys2Proof.Machine

open State

/-- Whether a carrier is a marker of a type. -/
def isMarker (h : Hdr) (body : Bytes) (t : Nat) : Bool := h.kind == kMarker && markerType body == t

/-- DRAIN_EPOCH (R303: held until this node has reached the epoch and answered what came before). -/
def execDrainEpoch (conn : Nat) (hdr : Hdr) (body : Bytes) (s : State) : Result :=
  .next (if isMarker hdr body mDrainEpoch ∧ (s.conn conn).state = .opn then s.unlessOut (s.markerArrive (.conn conn) hdr body) else s)

/-- DRAIN_CTX (R415: held until everything received on the furrow has been answered). -/
def execDrainCtx (conn : Nat) (hdr : Hdr) (body : Bytes) (s : State) : Result :=
  .next (if isMarker hdr body mDrainCtx ∧ (s.conn conn).state = .opn then s.unlessOut (s.markerArrive (.conn conn) hdr body) else s)

/-- MARKER_RETURN (R303, R304, R415, R487): a held marker's conditions are met and it is returned. -/
def execMarkerReturn (index : Nat) (s : State) : Result :=
  match s.held[index]? with
  | none => .next s
  | some m =>
    if s.markerReady m then
      let s := { s with held := s.held.take index ++ s.held.drop (index + 1) }
      let s := if markerType m.body = mOriginClose then s.dropOrigin m.hdr.origin else s
      .next (s.returnMarker m)
    else .next s

/-- RETURNED_MARKER (R530): a marker of this node's comes back. -/
def execReturnedMarker (conn : Nat) (hdr : Hdr) (body : Bytes) (s : State) : Result :=
  .next (if hdr.kind = kMarker + 0x20 ∧ (s.conn conn).state = .opn then s.unlessOut (s.markerBack conn body) else s)

/-- ORIGIN_OPEN (R304). -/
def execOriginOpen (src : Src) (hdr : Hdr) (body : Bytes) (s : State) : Result :=
  .next (if isMarker hdr body mOriginOpen then s.unlessOut (s.markerArrive src hdr body) else s)

/-- ORIGIN_CLOSE (R304). -/
def execOriginClose (src : Src) (hdr : Hdr) (body : Bytes) (s : State) : Result :=
  .next (if isMarker hdr body mOriginClose then s.unlessOut (s.markerArrive src hdr body) else s)

/-- ACTIVATE (R487, R488). -/
def execActivate (conn : Nat) (hdr : Hdr) (body : Bytes) (s : State) : Result :=
  .next (if isMarker hdr body mActivate ∧ (s.conn conn).state = .opn then s.unlessOut (s.markerArrive (.conn conn) hdr body) else s)

end Sys2Proof.Machine
end

