-- ==== Sys2Proof/Machine/Rma.lean ====
section
/-! DEFINITION. The commands of remote memory access: responses, time limits and the operations of Table 10-9
(chapter 10). A request with no restriction on its order is classified first (R330). -/

namespace Sys2Proof.Machine

open State

/-- Whether a complete RMA request is an operation: kind, OP and, for MSTATE, the action. -/
def isOp (h : Hdr) (body : Bytes) (kind op : Nat) (action : Option Nat) : Bool :=
  let d := RmaDesc.ofBytes body
  h.kind == kind && d.op == op && (match action with | some a => d.arg % 16 == a | none => true)

/-- RMA_RESPONSE (R331): a whole response arrives on a connection. -/
def execRmaResponse (conn : Nat) (hdr : Hdr) (body : Bytes) (s : State) : Result :=
  if (s.conn conn).state = .opn ∨ (s.conn conn).state = .closing then
    .next (if classOf hdr.kind = .rmaResponse then s.unlessOut (s.rmaReturn conn hdr body).resumeGrants else s)
  else .next s

/-- RMA_GAP_EXPIRY (R330): a held request has waited E2E with RNEXT still missing. -/
def execRmaGapExpiry (conn : Nat) (s : State) : Result :=
  let k := s.conn conn
  let late := k.held.any (fun x => decide (x.since + s.e2e (s.connFurrow conn) ≤ s.hubUnits))
  if k.state = .opn ∧ late ∧ !k.held.any (fun x => x.hdr.seq == k.rnext) then .next (s.connFail conn) else .next s

/-- RMA_TIMEOUT (R331): a request of the module's own has been outstanding for E2E. -/
def execRmaTimeout (conn : Nat) (s : State) : Result :=
  let k := s.conn conn
  if (k.state = .opn ∨ k.state = .closing) ∧
      k.outs.any (fun o => decide (o.since + s.e2e (s.connFurrow conn) ≤ s.hubUnits)) then .next (s.connFail conn)
  else .next s

/-- A complete RMA request reaches the engine, unless the module is withdrawing (R462). -/
def State.rmaIn (s : State) (conn : Nat) (hdr : Hdr) (body : Bytes) : State :=
  if s.rel.svc = .withdrawing ∨ s.rel.svc = .out then s.count .rsDropOut 0 1 else s.rmaArrive conn hdr body

/-- MOPEN (R326, R171: a root record and its stream table for the copy). -/
def execMopen (conn : Nat) (hdr : Hdr) (body : Bytes) (s : State) : Result :=
  .next (if isOp hdr body kRmaWrite opMopen none then s.rmaIn conn hdr body else s)

/-- MROWS (R328: rows for a copy page). -/
def execMrows (conn : Nat) (hdr : Hdr) (body : Bytes) (s : State) : Result :=
  .next (if isOp hdr body kRmaWrite opMrows none then s.rmaIn conn hdr body else s)

/-- MSTATE action 0x1 (R157: commit or rollback on the copy). -/
def execMstateCommit (conn : Nat) (hdr : Hdr) (body : Bytes) (s : State) : Result :=
  .next (if isOp hdr body kRmaWrite opMstate (some 1) then s.rmaIn conn hdr body else s)

/-- MSTATE action 0x2 (R172: the copy is sealed if the tag matches). -/
def execMstateSeal (conn : Nat) (hdr : Hdr) (body : Bytes) (s : State) : Result :=
  .next (if isOp hdr body kRmaWrite opMstate (some 2) then s.rmaIn conn hdr body else s)

/-- MSTATE action 0x3 (R171: the hint). -/
def execMstateHint (conn : Nat) (hdr : Hdr) (body : Bytes) (s : State) : Result :=
  .next (if isOp hdr body kRmaWrite opMstate (some 3) then s.rmaIn conn hdr body else s)

/-- MSTATE action 0x4 (R171, R253: the copy is closed). -/
def execMstateClose (conn : Nat) (hdr : Hdr) (body : Bytes) (s : State) : Result :=
  .next (if isOp hdr body kRmaWrite opMstate (some 4) then s.rmaIn conn hdr body else s)

/-- MSTATE action 0x5 (R328: a copy page is freed). -/
def execMstateFreePage (conn : Nat) (hdr : Hdr) (body : Bytes) (s : State) : Result :=
  .next (if isOp hdr body kRmaWrite opMstate (some 5) then s.rmaIn conn hdr body else s)

/-- MSTATE action 0x6 (R49, R466: a coded page's copy is released). -/
def execMstateReleaseCopy (conn : Nat) (hdr : Hdr) (body : Bytes) (s : State) : Result :=
  .next (if isOp hdr body kRmaWrite opMstate (some 6) then s.rmaIn conn hdr body else s)

/-- MPAGE (R172, R328: a whole copy page). -/
def execMpage (conn : Nat) (hdr : Hdr) (body : Bytes) (s : State) : Result :=
  .next (if isOp hdr body kRmaWrite opMpage none then s.rmaIn conn hdr body else s)

/-- CODE (R174, R175: a payload into or out of parity). -/
def execCode (conn : Nat) (hdr : Hdr) (body : Bytes) (s : State) : Result :=
  .next (if isOp hdr body kRmaWrite opCode none then s.rmaIn conn hdr body else s)

/-- PUT (R467, R475: a page of this node's own copy). -/
def execPut (conn : Nat) (hdr : Hdr) (body : Bytes) (s : State) : Result :=
  .next (if isOp hdr body kRmaWrite opPut none then s.rmaIn conn hdr body else s)

/-- LOOKUP (R332: a reference). -/
def execLookup (conn : Nat) (hdr : Hdr) (body : Bytes) (s : State) : Result :=
  .next (if isOp hdr body kRmaRead opLookup none then s.rmaIn conn hdr body else s)

/-- GET (R329: a page). -/
def execGet (conn : Nat) (hdr : Hdr) (body : Bytes) (s : State) : Result :=
  .next (if isOp hdr body kRmaRead opGet none then s.rmaIn conn hdr body else s)

/-- LEDGER (R326: a record and its stream table). -/
def execLedger (conn : Nat) (hdr : Hdr) (body : Bytes) (s : State) : Result :=
  .next (if isOp hdr body kRmaRead opLedger none then s.rmaIn conn hdr body else s)

end Sys2Proof.Machine
end

