-- ==== Sys2Proof/Machine/Dispatch.lean ====
section
/-! DEFINITION. The dispatch: one arm per command, each one direct call of its meaning. -/

namespace Sys2Proof.Machine

def exec (i : Instr) (s : State) : Host.Outcome State Fault Refusal :=
  match i with
  | .dataFlit link block => Sys2Proof.Machine.execDataFlit link block s
  | .idleFlit link block => Sys2Proof.Machine.execIdleFlit link block s
  | .hello link block => Sys2Proof.Machine.execHello link block s
  | .nak link block => Sys2Proof.Machine.execNak link block s
  | .credit link block => Sys2Proof.Machine.execCredit link block s
  | .ldrep link block => Sys2Proof.Machine.execLdrep link block s
  | .ldack link block => Sys2Proof.Machine.execLdack link block s
  | .ackLimitExpiry link nak => Sys2Proof.Machine.execAckLimitExpiry link nak s
  | .retryTimeExpiry link => Sys2Proof.Machine.execRetryTimeExpiry link s
  | .trainingComplete link swap inv => Sys2Proof.Machine.execTrainingComplete link swap inv s
  | .trainLimitExpiry link => Sys2Proof.Machine.execTrainLimitExpiry link s
  | .blockLock link lane0 lane1 => Sys2Proof.Machine.execBlockLock link lane0 lane1 s
  | .badBlockRun link => Sys2Proof.Machine.execBadBlockRun link s
  | .laneLoss link => Sys2Proof.Machine.execLaneLoss link s
  | .helloTimer link => Sys2Proof.Machine.execHelloTimer link s
  | .creditTimer link stalled => Sys2Proof.Machine.execCreditTimer link stalled s
  | .ldrepTimer link => Sys2Proof.Machine.execLdrepTimer link s
  | .downFurrowDiscard furrow => Sys2Proof.Machine.execDownFurrowDiscard furrow s
  | .eventReceive furrow code eseq arg => Sys2Proof.Machine.execEventReceive furrow code eseq arg s
  | .reasmLimitExpiry src cls origin seq => Sys2Proof.Machine.execReasmLimitExpiry src cls origin seq s
  | .hgGrant ctx => Sys2Proof.Machine.execHgGrant ctx s
  | .accrualAdvance t => Sys2Proof.Machine.execAccrualAdvance t s
  | .waitLimitExpiry ctx => Sys2Proof.Machine.execWaitLimitExpiry ctx s
  | .gapLimitExpiry origin => Sys2Proof.Machine.execGapLimitExpiry origin s
  | .attend slot => Sys2Proof.Machine.execAttend slot s
  | .scoringRoundDone slot => Sys2Proof.Machine.execScoringRoundDone slot s
  | .stallLimitExpiry slot => Sys2Proof.Machine.execStallLimitExpiry slot s
  | .pipeDescriptor pipe => Sys2Proof.Machine.execPipeDescriptor pipe s
  | .laneEmit pipe lane stalls => Sys2Proof.Machine.execLaneEmit pipe lane stalls s
  | .pipeReadUe pipe lane addr => Sys2Proof.Machine.execPipeReadUe pipe lane addr s
  | .mergePartials slot => Sys2Proof.Machine.execMergePartials slot s
  | .assayCompare slot => Sys2Proof.Machine.execAssayCompare slot s
  | .append slot => Sys2Proof.Machine.execAppend slot s
  | .seal slot => Sys2Proof.Machine.execSeal slot s
  | .hint slot => Sys2Proof.Machine.execHint slot s
  | .openConv slot => Sys2Proof.Machine.execOpenConv slot s
  | .closeConv slot => Sys2Proof.Machine.execCloseConv slot s
  | .promote slot => Sys2Proof.Machine.execPromote slot s
  | .relayedResponse conn hdr body => Sys2Proof.Machine.execRelayedResponse conn hdr body s
  | .ownRequestResend index => Sys2Proof.Machine.execOwnRequestResend index s
  | .responseSend slot => Sys2Proof.Machine.execResponseSend slot s
  | .gateEntry furrow closed guarded unfit => Sys2Proof.Machine.execGateEntry furrow closed guarded unfit s
  | .rmaResponse conn hdr body => Sys2Proof.Machine.execRmaResponse conn hdr body s
  | .rmaGapExpiry conn => Sys2Proof.Machine.execRmaGapExpiry conn s
  | .rmaTimeout conn => Sys2Proof.Machine.execRmaTimeout conn s
  | .mopen conn hdr body => Sys2Proof.Machine.execMopen conn hdr body s
  | .mrows conn hdr body => Sys2Proof.Machine.execMrows conn hdr body s
  | .mstateCommit conn hdr body => Sys2Proof.Machine.execMstateCommit conn hdr body s
  | .mstateSeal conn hdr body => Sys2Proof.Machine.execMstateSeal conn hdr body s
  | .mstateHint conn hdr body => Sys2Proof.Machine.execMstateHint conn hdr body s
  | .mstateClose conn hdr body => Sys2Proof.Machine.execMstateClose conn hdr body s
  | .mstateFreePage conn hdr body => Sys2Proof.Machine.execMstateFreePage conn hdr body s
  | .mstateReleaseCopy conn hdr body => Sys2Proof.Machine.execMstateReleaseCopy conn hdr body s
  | .mpage conn hdr body => Sys2Proof.Machine.execMpage conn hdr body s
  | .code conn hdr body => Sys2Proof.Machine.execCode conn hdr body s
  | .put conn hdr body => Sys2Proof.Machine.execPut conn hdr body s
  | .lookup conn hdr body => Sys2Proof.Machine.execLookup conn hdr body s
  | .get conn hdr body => Sys2Proof.Machine.execGet conn hdr body s
  | .ledger conn hdr body => Sys2Proof.Machine.execLedger conn hdr body s
  | .drainEpoch conn hdr body => Sys2Proof.Machine.execDrainEpoch conn hdr body s
  | .drainCtx conn hdr body => Sys2Proof.Machine.execDrainCtx conn hdr body s
  | .markerReturn index => Sys2Proof.Machine.execMarkerReturn index s
  | .returnedMarker conn hdr body => Sys2Proof.Machine.execReturnedMarker conn hdr body s
  | .originOpen src hdr body => Sys2Proof.Machine.execOriginOpen src hdr body s
  | .originClose src hdr body => Sys2Proof.Machine.execOriginClose src hdr body s
  | .activate conn hdr body => Sys2Proof.Machine.execActivate conn hdr body s
  | .firmwareTransfer data first last flash => Sys2Proof.Machine.execFirmwareTransfer data first last flash s
  | .aliasCertSigned pending => Sys2Proof.Machine.execAliasCertSigned pending s
  | .scrubDue core upsets v => Sys2Proof.Machine.execScrubDue core upsets v s
  | .refreshDue bank postpone => Sys2Proof.Machine.execRefreshDue bank postpone s
  | .refreshEnd bank again => Sys2Proof.Machine.execRefreshEnd bank again s
  | .bankGrant core refresh pipe other => Sys2Proof.Machine.execBankGrant core refresh pipe other s
  | .ueRestore page => Sys2Proof.Machine.execUeRestore page s
  | .restoreDone page decoded => Sys2Proof.Machine.execRestoreDone page decoded s
  | .metaRebuildDone pc addr => Sys2Proof.Machine.execMetaRebuildDone pc addr s
  | .sinkStart pc => Sys2Proof.Machine.execSinkStart pc s
  | .cellProgramDone chan ok second used spare => Sys2Proof.Machine.execCellProgramDone chan ok second used spare s
  | .frameRelease page => Sys2Proof.Machine.execFrameRelease page s
  | .promotionDone chan bad bad2 => Sys2Proof.Machine.execPromotionDone chan bad bad2 s
  | .cellReadFail chan second => Sys2Proof.Machine.execCellReadFail chan second s
  | .channelDown chan => Sys2Proof.Machine.execChannelDown chan s
  | .sealProgram page v => Sys2Proof.Machine.execSealProgram page v s
  | .sumcopy page v => Sys2Proof.Machine.execSumcopy page v s
  | .score slot cores => Sys2Proof.Machine.execScore slot cores s
  | .copyProgram page v => Sys2Proof.Machine.execCopyProgram page v s
  | .codeProgram page v other => Sys2Proof.Machine.execCodeProgram page v other s
  | .test core defect v => Sys2Proof.Machine.execTest core defect v s
  | .vendorQueueEmpty core cycles => Sys2Proof.Machine.execVendorQueueEmpty core cycles s
  | .acquire ctx tee => Sys2Proof.Machine.execAcquire ctx tee s
  | .leaseRelease ctx tee => Sys2Proof.Machine.execLeaseRelease ctx tee s
  | .leaseZeroed core => Sys2Proof.Machine.execLeaseZeroed core s
  | .load ctx => Sys2Proof.Machine.execLoad ctx s
  | .run ctx => Sys2Proof.Machine.execRun ctx s
  | .stop ctx => Sys2Proof.Machine.execStop ctx s
  | .grant ctx => Sys2Proof.Machine.execGrant ctx s
  | .release ctx => Sys2Proof.Machine.execRelease ctx s
  | .deq ctx => Sys2Proof.Machine.execDeq ctx s
  | .clear ctx => Sys2Proof.Machine.execClear ctx s
  | .reservedCommand ctx op => Sys2Proof.Machine.execReservedCommand ctx op s
  | .add core => Sys2Proof.Machine.execAdd core s
  | .sub core => Sys2Proof.Machine.execSub core s
  | .and core => Sys2Proof.Machine.execAnd core s
  | .or core => Sys2Proof.Machine.execOr core s
  | .xor core => Sys2Proof.Machine.execXor core s
  | .shl core => Sys2Proof.Machine.execShl core s
  | .shr core => Sys2Proof.Machine.execShr core s
  | .sra core => Sys2Proof.Machine.execSra core s
  | .mul core => Sys2Proof.Machine.execMul core s
  | .slt core => Sys2Proof.Machine.execSlt core s
  | .sltu core => Sys2Proof.Machine.execSltu core s
  | .fadd core => Sys2Proof.Machine.execFadd core s
  | .fmul core => Sys2Proof.Machine.execFmul core s
  | .fmax core => Sys2Proof.Machine.execFmax core s
  | .fmin core => Sys2Proof.Machine.execFmin core s
  | .flt core => Sys2Proof.Machine.execFlt core s
  | .cvtf core => Sys2Proof.Machine.execCvtf core s
  | .cvti core => Sys2Proof.Machine.execCvti core s
  | .jr core => Sys2Proof.Machine.execJr core s
  | .addi core => Sys2Proof.Machine.execAddi core s
  | .andi core => Sys2Proof.Machine.execAndi core s
  | .ori core => Sys2Proof.Machine.execOri core s
  | .xori core => Sys2Proof.Machine.execXori core s
  | .shli core => Sys2Proof.Machine.execShli core s
  | .shri core => Sys2Proof.Machine.execShri core s
  | .lui core => Sys2Proof.Machine.execLui core s
  | .lds core => Sys2Proof.Machine.execLds core s
  | .sts core => Sys2Proof.Machine.execSts core s
  | .beq core => Sys2Proof.Machine.execBeq core s
  | .bne core => Sys2Proof.Machine.execBne core s
  | .blt core => Sys2Proof.Machine.execBlt core s
  | .bge core => Sys2Proof.Machine.execBge core s
  | .bltu core => Sys2Proof.Machine.execBltu core s
  | .jal core => Sys2Proof.Machine.execJal core s
  | .bld core held => Sys2Proof.Machine.execBld core held s
  | .bst core held => Sys2Proof.Machine.execBst core held s
  | .burstEnd core => Sys2Proof.Machine.execBurstEnd core s
  | .vld core => Sys2Proof.Machine.execVld core s
  | .vst core => Sys2Proof.Machine.execVst core s
  | .vwid core => Sys2Proof.Machine.execVwid core s
  | .vspl core => Sys2Proof.Machine.execVspl core s
  | .vadd core => Sys2Proof.Machine.execVadd core s
  | .vmul core => Sys2Proof.Machine.execVmul core s
  | .vfma core => Sys2Proof.Machine.execVfma core s
  | .vmax core => Sys2Proof.Machine.execVmax core s
  | .vmin core => Sys2Proof.Machine.execVmin core s
  | .vexp core => Sys2Proof.Machine.execVexp core s
  | .vrsum core => Sys2Proof.Machine.execVrsum core s
  | .vrmax core => Sys2Proof.Machine.execVrmax core s
  | .vbnd core => Sys2Proof.Machine.execVbnd core s
  | .vcvt core => Sys2Proof.Machine.execVcvt core s
  | .vstn core => Sys2Proof.Machine.execVstn core s
  | .vxor core => Sys2Proof.Machine.execVxor core s
  | .vgfma core => Sys2Proof.Machine.execVgfma core s
  | .vsth core => Sys2Proof.Machine.execVsth core s
  | .nop core => Sys2Proof.Machine.execNop core s
  | .halt core => Sys2Proof.Machine.execHalt core s
  | .fence core => Sys2Proof.Machine.execFence core s
  | .view core => Sys2Proof.Machine.execView core s
  | .krnd core vendor => Sys2Proof.Machine.execKrnd core vendor s
  | .illegal core => Sys2Proof.Machine.execIllegal core s
  | .debugHalt on => Sys2Proof.Machine.execDebugHalt on s
  | .lcScrub upsets stalled => Sys2Proof.Machine.execLcScrub upsets stalled s
  | .shadowUe index keys => Sys2Proof.Machine.execShadowUe index keys s
  | .camRebuildDone stalled => Sys2Proof.Machine.execCamRebuildDone stalled s
  | .apertureWrite vf off data tee => Sys2Proof.Machine.execApertureWrite vf off data tee s
  | .responseRingWrite vf => Sys2Proof.Machine.execResponseRingWrite vf s
  | .cqHead vf head arm tee => Sys2Proof.Machine.execCqHead vf head arm tee s
  | .rspHead vf head tee => Sys2Proof.Machine.execRspHead vf head tee s
  | .msixUnmask fn enable fmask bme vec => Sys2Proof.Machine.execMsixUnmask fn enable fmask bme vec s
  | .windowRead vf rid addr len tag atomic tee => Sys2Proof.Machine.execWindowRead vf rid addr len tag atomic tee s
  | .windowWrite vf rid addr data enables poisoned tee => Sys2Proof.Machine.execWindowWrite vf rid addr data enables poisoned tee s
  | .windowEffect index bad => Sys2Proof.Machine.execWindowEffect index bad s
  | .hpVfRingCommit vf tee => Sys2Proof.Machine.execHpVfRingCommit vf tee s
  | .flr vf => Sys2Proof.Machine.execFlr vf s
  | .flrComplete vf => Sys2Proof.Machine.execFlrComplete vf s
  | .pfFlr port => Sys2Proof.Machine.execPfFlr port s
  | .perst port => Sys2Proof.Machine.execPerst port s
  | .portTrained port width rate flit => Sys2Proof.Machine.execPortTrained port width rate flit s
  | .ideFailure port stream => Sys2Proof.Machine.execIdeFailure port stream s
  | .lockInterface vf stream => Sys2Proof.Machine.execLockInterface vf stream s
  | .spdmRequest via session msg => Sys2Proof.Machine.execSpdmRequest via session msg s
  | .getMeasurements session index sign => Sys2Proof.Machine.execGetMeasurements session index sign s
  | .endSession session => Sys2Proof.Machine.execEndSession session s
  | .heartbeatFailure session => Sys2Proof.Machine.execHeartbeatFailure session s
  | .jobInstall session slot id key => Sys2Proof.Machine.execJobInstall session slot id key s
  | .jobRetire session slot => Sys2Proof.Machine.execJobRetire session slot s
  | .connBind session conn slot => Sys2Proof.Machine.execConnBind session conn slot s
  | .connUnbind session conn => Sys2Proof.Machine.execConnUnbind session conn s
  | .ctxClose session ctx => Sys2Proof.Machine.execCtxClose session ctx s
  | .ctxQuery session ctx => Sys2Proof.Machine.execCtxQuery session ctx s
  | .closeDrained ctx => Sys2Proof.Machine.execCloseDrained ctx s
  | .closeRevoked ctx => Sys2Proof.Machine.execCloseRevoked ctx s
  | .closeMarkersReturned ctx => Sys2Proof.Machine.execCloseMarkersReturned ctx s
  | .drainLimitExpiry ctx => Sys2Proof.Machine.execDrainLimitExpiry ctx s
  | .closeConnsClosed ctx => Sys2Proof.Machine.execCloseConnsClosed ctx s
  | .closeScrubDone ctx => Sys2Proof.Machine.execCloseScrubDone ctx s
  | .ctxOpen session ctx => Sys2Proof.Machine.execCtxOpen session ctx s
  | .cbData write => Sys2Proof.Machine.execCbData write s
  | .hgCtxCommit ctx => Sys2Proof.Machine.execHgCtxCommit ctx s
  | .hgGateCommit furrow => Sys2Proof.Machine.execHgGateCommit furrow s
  | .wpCfgCommit stack => Sys2Proof.Machine.execWpCfgCommit stack s
  | .scCfgCommit stack => Sys2Proof.Machine.execScCfgCommit stack s
  | .pgCfgCommit stack => Sys2Proof.Machine.execPgCfgCommit stack s
  | .stCfgCommit die => Sys2Proof.Machine.execStCfgCommit die s
  | .fuCommit furrow => Sys2Proof.Machine.execFuCommit furrow s
  | .fuConnCommit far => Sys2Proof.Machine.execFuConnCommit far s
  | .connClosed conn => Sys2Proof.Machine.execConnClosed conn s
  | .rsShadowCommit slice => Sys2Proof.Machine.execRsShadowCommit slice s
  | .captureEffect group => Sys2Proof.Machine.execCaptureEffect group s
  | .counterRead port addr len => Sys2Proof.Machine.execCounterRead port addr len s
  | .hgVfIrq ctx value tee => Sys2Proof.Machine.execHgVfIrq ctx value tee s
  | .rqOriginClr origin => Sys2Proof.Machine.execRqOriginClr origin s
  | .registerWrite space addr len value => Sys2Proof.Machine.execRegisterWrite space addr len value s
  | .stagnationSample edges => Sys2Proof.Machine.execStagnationSample edges s
  | .withdrawTimeout slot => Sys2Proof.Machine.execWithdrawTimeout slot s
  | .portdieDown die pll => Sys2Proof.Machine.execPortdieDown die pll s
  | .stackDown stack pll => Sys2Proof.Machine.execStackDown stack pll s
  | .rsTake ctx => Sys2Proof.Machine.execRsTake ctx s
  | .lostAdd ctx => Sys2Proof.Machine.execLostAdd ctx s
  | .lostRemove ctx => Sys2Proof.Machine.execLostRemove ctx s
  | .shadowCompare slice => Sys2Proof.Machine.execShadowCompare slice s
  | .pwrFail cycles => Sys2Proof.Machine.execPwrFail cycles s
  | .modReset us => Sys2Proof.Machine.execModReset us s
  | .startupStepDone e => Sys2Proof.Machine.execStartupStepDone e s
  | .sensorReading r => Sys2Proof.Machine.execSensorReading r s
  | .managementDatagram port atGlobal hdr len msg => Sys2Proof.Machine.execManagementDatagram port atGlobal hdr len msg s
  | .discover port mseq => Sys2Proof.Machine.execDiscover port mseq s
  | .eventAck eseq => Sys2Proof.Machine.execEventAck eseq s
  | .eventResend eseq => Sys2Proof.Machine.execEventResend eseq s
  | .registerAccess session addr len write => Sys2Proof.Machine.execRegisterAccess session addr len write s
  | .subscribe session addr => Sys2Proof.Machine.execSubscribe session addr s
  | .imageTransfer session off data op => Sys2Proof.Machine.execImageTransfer session off data op s
  | .cellReadDone chan bad bad2 => Sys2Proof.Machine.execCellReadDone chan bad bad2 s
  | .hostLinkDown port refclk => Sys2Proof.Machine.execHostLinkDown port refclk s
  | .dynamicAddressAssignment addr eid => Sys2Proof.Machine.execDynamicAddressAssignment addr eid s
  | .startInterface vf => Sys2Proof.Machine.execStartInterface vf s
  | .predictiveClear session => Sys2Proof.Machine.execPredictiveClear session s
  | .rebalance => Sys2Proof.Machine.execRebalance s
  | .activationQuiesced => Sys2Proof.Machine.execActivationQuiesced s
  | .activationEnd => Sys2Proof.Machine.execActivationEnd s
  | .confirm => Sys2Proof.Machine.execConfirm s
  | .healthLimitExpiry => Sys2Proof.Machine.execHealthLimitExpiry s
  | .fallbackEnd => Sys2Proof.Machine.execFallbackEnd s
  | .arm => Sys2Proof.Machine.execArm s
  | .disarm => Sys2Proof.Machine.execDisarm s
  | .revert => Sys2Proof.Machine.execRevert s
  | .discard => Sys2Proof.Machine.execDiscard s
  | .boot => Sys2Proof.Machine.execBoot s
  | .debugStep => Sys2Proof.Machine.execDebugStep s
  | .privilegedSearch mid => Sys2Proof.Machine.execPrivilegedSearch mid s
  | .hpRngCommit => Sys2Proof.Machine.execHpRngCommit s
  | .mtCtxCmdClose => Sys2Proof.Machine.execMtCtxCmdClose s
  | .entropy => Sys2Proof.Machine.execEntropy s
  | .cbLoad => Sys2Proof.Machine.execCbLoad s
  | .cbStore => Sys2Proof.Machine.execCbStore s
  | .cbAmend => Sys2Proof.Machine.execCbAmend s
  | .cbClear => Sys2Proof.Machine.execCbClear s
  | .hubRetCfgCommit => Sys2Proof.Machine.execHubRetCfgCommit s
  | .hgCfgCommit => Sys2Proof.Machine.execHgCfgCommit s
  | .pgCodeCommit => Sys2Proof.Machine.execPgCodeCommit s
  | .lcCfgCommit => Sys2Proof.Machine.execLcCfgCommit s
  | .rqCfgCommit => Sys2Proof.Machine.execRqCfgCommit s
  | .rqEpochCommit => Sys2Proof.Machine.execRqEpochCommit s
  | .lkCfgCommit => Sys2Proof.Machine.execLkCfgCommit s
  | .mtCfgCommit => Sys2Proof.Machine.execMtCfgCommit s
  | .rsCfgCommit => Sys2Proof.Machine.execRsCfgCommit s
  | .brFwCommit => Sys2Proof.Machine.execBrFwCommit s
  | .pwCfgCommit => Sys2Proof.Machine.execPwCfgCommit s
  | .creset => Sys2Proof.Machine.execCreset s
  | .withdraw => Sys2Proof.Machine.execWithdraw s
  | .computeReset => Sys2Proof.Machine.execComputeReset s
  | .resetCutoff => Sys2Proof.Machine.execResetCutoff s
  | .computeResetQuiesced => Sys2Proof.Machine.execComputeResetQuiesced s
  | .computeResetEnd => Sys2Proof.Machine.execComputeResetEnd s
  | .withdrawOut => Sys2Proof.Machine.execWithdrawOut s
  | .takeoverDone => Sys2Proof.Machine.execTakeoverDone s
  | .rebuildDecode => Sys2Proof.Machine.execRebuildDecode s
  | .rebuildRecord => Sys2Proof.Machine.execRebuildRecord s
  | .predictiveSave => Sys2Proof.Machine.execPredictiveSave s
  | .overcurrent => Sys2Proof.Machine.execOvercurrent s
  | .overvoltage => Sys2Proof.Machine.execOvervoltage s
  | .inputRise => Sys2Proof.Machine.execInputRise s
  | .undervoltage => Sys2Proof.Machine.execUndervoltage s
  | .fabricReset => Sys2Proof.Machine.execFabricReset s
  | .service => Sys2Proof.Machine.execService s
  | .off => Sys2Proof.Machine.execOff s
  | .hubPllLoss => Sys2Proof.Machine.execHubPllLoss s
  | .entropyRecovery => Sys2Proof.Machine.execEntropyRecovery s
  | .signatureComplete => Sys2Proof.Machine.execSignatureComplete s
  | .managementPllLoss => Sys2Proof.Machine.execManagementPllLoss s
  | .memoryInitRequest => Sys2Proof.Machine.execMemoryInitRequest s

end Sys2Proof.Machine
end

