-- ==== Sys2Proof/Safety.lean ====
section
/-! DEFINITION. What counts as a well-formed state of the module, and the conditions the statements name. -/

namespace Sys2Proof.Machine

/-- The canonical form of memory: addresses strictly rising, and no entry equal to what an unlisted address reads as (0;
log entry 4). -/
def Memory.wf (m : List Host.Cell) : Bool := SMap.wf (0 : Byte) m

namespace State

/-- DRAM and the buffer of the image loader are in canonical form. -/
def memoryOk (s : State) : Bool := Memory.wf s.store.dram && Memory.wf s.img.buffer

/-- Every counter is listed once, in order, nonzero and at most 0xFFFF_FFFF_FFFF (R17). -/
def countersOk (s : State) : Bool := SMap.wf 0 s.ctrs && s.ctrs.all (fun e => decide (e.2 ≤ ctrMax))

end State

/-- The customer station of a core executes now, and its next word is a legal one of class and OP `key` (R184, R200). -/
def Stands (s : State) (c key : Nat) : Prop :=
  let k := s.core c
  State.executing k = true ∧ s.haltedAt c = false ∧ opKey (k.word k.pc) = key ∧ legalWord (k.word k.pc) = true

/-- A core is leased to a context, selected by its SC_VF_SEL, and its station accepts a command (R186, R204). -/
def Accepts (s : State) (ctx : Nat) : Prop :=
  let k := s.core (s.selectedCore ctx)
  k.lessee = some ctx ∧ (k.st = .ready ∨ k.st = .fault)

/-- Two states that agree on everything but the station of one core, the counters and the number of free values taken. -/
def SameButCore (s t : State) : Prop :=
  t = { s with sluice := { s.sluice with cores := t.sluice.cores }, ctrs := t.ctrs, fresh := t.fresh }

end Sys2Proof.Machine
end

