-- ==== Sys2Proof/Certificates/Slice0/Obligations.lean ====
section
/-! DEFINITION. The statements about the module, one definition each (OBLIGATIONS.json lists them). -/

open Sys2Proof Sys2Proof.Machine Sys2Proof.Machine.State

/-- A step runs the command at the front of the queue on the state with the rest of the queue, and an empty queue
leaves the state as it is (spec/95_what_each_step_holds.md). -/
def Obligations.StepRunsFrontCommand : Prop :=
  (∀ (c : Instr) (s : State), step { s with pending := c :: s.pending } = exec c s) ∧
  (∀ (c : Instr) (rest : List Instr) (s : State), s.pending = c :: rest → step s = exec c { s with pending := rest }) ∧
  ∀ s : State, s.pending = [] → step s = .next s

/-- What the state holds right after reset: registers at their reset values, nothing stored, every context and
connection closed, every link disabled (R512, R438, R22, R311, section 18). -/
def Obligations.ResetLeaves : Prop :=
  let z := State.reset
  (∀ (r : Reg) (i : Nat), z.reg r i = wordOf r.access.reset ∧ z.shadow r i = z.reg r i) ∧
  (∀ (c : Ctr) (i : Nat), z.ctr c i = 0) ∧ z.pending = [] ∧ (∀ a : Nat, dramGet z.store.dram a = 0) ∧
  (∀ c : Nat, (z.ctx c).state = .closed) ∧ (∀ c : Nat, (z.conn c).state = .closed) ∧
  (∀ l : Nat, (z.link l).state = .disabled) ∧ (∀ n : Nat, (z.slot n).state = .free) ∧
  (∀ i : Nat, (z.cam.row i).sValid = false) ∧ z.rel.svc = .start ∧ z.img.base = none ∧
  (∀ c : Nat, (z.core c).st = .ready ∧ (z.core c).lessee = none) ∧ z.memoryOk = true

/-- A counter advances by what is counted, saturates at 0xFFFF_FFFF_FFFF, and a clear brings it to 0; no other
counter changes (R17). -/
def Obligations.CountersSaturateAndClear : Prop :=
  ∀ (s : State) (c : Ctr) (i n : Nat), s.countersOk = true →
    (s.count c i n).ctr c i = min 0xFFFFFFFFFFFF (s.ctr c i + n) ∧ (s.clearCtr c i).ctr c i = 0 ∧
    (∀ (d : Ctr) (j : Nat), d.key j ≠ c.key i → (s.count c i n).ctr d j = s.ctr d j ∧ (s.clearCtr c i).ctr d j = s.ctr d j) ∧
    (s.count c i n).countersOk = true ∧ (s.clearCtr c i).countersOk = true

/-- The station after an instruction that goes on: as the instruction leaves it, or, behind word 1,023, with a RANGE fault
(the model's choice, log entry 46). -/
def goesOn (s : State) (c : Nat) (t : Core) : State :=
  if t.pc < 1024 then s.setCore c t else (s.setCore c t).coreFault c 2 t.pc

/-- A class R instruction: rd takes a function of ra and rb, the station goes to the next word and nothing else changes. -/
def RegisterOp (i : Nat → Instr) (key : Nat) (f : W32 → W32 → W32) : Prop :=
  ∀ (s : State) (c : Nat), Stands s c key →
    let k := s.core c
    let w := k.word k.pc
    exec (i c) s = .next ((goesOn s c { k.setReg (rdOf w) (f (k.reg (raOf w)) (k.reg (rbOf w))) with pc := k.pc + 1 }).tick)

/-- A class I instruction: rd takes a function of ra and the 16-bit immediate. -/
def ImmediateOp (i : Nat → Instr) (key : Nat) (f : W32 → Nat → W32) : Prop :=
  ∀ (s : State) (c : Nat), Stands s c key →
    let k := s.core c
    let w := k.word k.pc
    exec (i c) s = .next ((goesOn s c { k.setReg (rdOf w) (f (k.reg (raOf w)) (fieldOf w 15 0)) with pc := k.pc + 1 }).tick)

/-- A class B branch: it is taken when ra compares with rb; a target outside words 0 to 1,023 is a RANGE fault. -/
def BranchOp (i : Nat → Instr) (key : Nat) (f : W32 → W32 → Bool) : Prop :=
  ∀ (s : State) (c : Nat), Stands s c key →
    let k := s.core c
    let w := k.word k.pc
    let target : Int := (k.pc : Int) + 1 + signedOf 16 (fieldOf w 15 0)
    let taken := f (k.reg (fieldOf w 23 20)) (k.reg (fieldOf w 19 16))
    (taken = false → exec (i c) s = .next ((goesOn s c { k with pc := k.pc + 1 }).tick)) ∧
    (taken = true → 0 ≤ target → target < 1024 → exec (i c) s = .next ((goesOn s c { k with pc := target.toNat }).tick)) ∧
    (taken = true → (target < 0 ∨ 1024 ≤ target) → exec (i c) s = .next ((s.coreFault c 2 k.pc).tick))

/-- A class V instruction whose lanes are a function of its station and word. -/
def LaneOp (i : Nat → Instr) (key : Nat) (f : Nat → Core → List W32) : Prop :=
  ∀ (s : State) (c : Nat), Stands s c key →
    let k := s.core c
    let w := k.word k.pc
    exec (i c) s = .next ((goesOn s c { k.setVreg (fieldOf w 23 21) (f w k) with pc := k.pc + 1 }).tick)

/-- Lane by lane from va and vb. -/
def lanes2 (f : W32 → W32 → W32) (w : Nat) (k : Core) : List W32 :=
  List.zipWith f (k.vreg (fieldOf w 20 18)) (k.vreg (fieldOf w 17 15))

/-- A class V store to scratch: the bytes of va go to the address in the scalar register named; a range outside what the
station may write is a RANGE fault. -/
def LaneStore (i : Nat → Instr) (key n align : Nat) (f : List W32 → Bytes) : Prop :=
  ∀ (s : State) (c : Nat), Stands s c key →
    let k := s.core c
    let w := k.word k.pc
    let a := (k.reg (fieldOf w 11 8)).toNat
    (Core.mayWrite a n = true → a % align = 0 →
      exec (i c) s = .next ((goesOn s c { k.setScr a (f (k.vreg (fieldOf w 20 18))) with pc := k.pc + 1 }).tick)) ∧
    (Core.mayWrite a n = false → exec (i c) s = .next ((s.coreFault c 2 k.pc).tick)) ∧
    (Core.mayWrite a n = true → a % align ≠ 0 → exec (i c) s = .next ((s.coreFault c 3 k.pc).tick))

/-- Each class R instruction of a customer station writes rd from ra and rb, goes to the next word and changes
nothing else (R200, R179, R62). -/
def Obligations.SluiceRegisterInstructions : Prop :=
  RegisterOp .add 0x00 (fun a b => a + b) ∧ RegisterOp .sub 0x01 (fun a b => a - b) ∧
  RegisterOp .and 0x02 (fun a b => a &&& b) ∧ RegisterOp .or 0x03 (fun a b => a ||| b) ∧
  RegisterOp .xor 0x04 (fun a b => a ^^^ b) ∧ RegisterOp .shl 0x05 (fun a b => a <<< (b.toNat % 32)) ∧
  RegisterOp .shr 0x06 (fun a b => a >>> (b.toNat % 32)) ∧ RegisterOp .sra 0x07 (fun a b => a.sshiftRight (b.toNat % 32)) ∧
  RegisterOp .mul 0x08 (fun a b => a * b) ∧ RegisterOp .slt 0x09 (fun a b => if a.slt b then 1 else 0) ∧
  RegisterOp .sltu 0x0A (fun a b => if a.ult b then 1 else 0) ∧ RegisterOp .fadd 0x10 F.add ∧
  RegisterOp .fmul 0x11 F.mul ∧ RegisterOp .fmax 0x12 F.max ∧ RegisterOp .fmin 0x13 F.min ∧
  RegisterOp .flt 0x14 (fun a b => if F.lt a b then 1 else 0) ∧
  RegisterOp .cvtf 0x15 (fun a _ => F.round .near false ⟨a.toInt, 0⟩) ∧ RegisterOp .cvti 0x16 (fun a _ => toInt32 0 a)

/-- Each class I arithmetic instruction of a customer station writes rd from ra and the immediate and changes
nothing else (R200). -/
def Obligations.SluiceImmediateInstructions : Prop :=
  ImmediateOp .addi 0x20 (fun a n => a + BitVec.ofInt 32 (signedOf 16 n)) ∧ ImmediateOp .andi 0x22 (fun a n => a &&& BitVec.ofNat 32 n) ∧
  ImmediateOp .ori 0x23 (fun a n => a ||| BitVec.ofNat 32 n) ∧ ImmediateOp .xori 0x24 (fun a n => a ^^^ BitVec.ofNat 32 n) ∧
  ImmediateOp .shli 0x25 (fun a n => a <<< (n % 32)) ∧ ImmediateOp .shri 0x26 (fun a n => a >>> (n % 32)) ∧
  ImmediateOp .lui 0x2C (fun _ n => BitVec.ofNat 32 (n * 65536))

/-- s0 reads 0 and discards writes; every other scalar register reads back what was written, and no other register
changes (R179, Table 06-1). -/
def Obligations.ScalarRegisterFile : Prop :=
  ∀ (k : Core) (i : Nat) (x : W32),
    k.reg 0 = 0 ∧ k.setReg 0 x = k ∧ { k.setReg i x with regs := k.regs } = k ∧
    (SMap.wf 0 k.regs = true → i ≠ 0 → (k.setReg i x).reg i = x) ∧ ∀ j : Nat, j ≠ i → (k.setReg i x).reg j = k.reg j

/-- LDS and STS move one word between scratch and a register, with their RANGE and ALIGN faults (R200, R202, Table
06-6). -/
def Obligations.ScratchWordInstructions : Prop :=
  ∀ (s : State) (c : Nat),
    let k := s.core c
    let w := k.word k.pc
    let a := (k.reg (raOf w) + BitVec.ofInt 32 (signedOf 16 (fieldOf w 15 0))).toNat
    (Stands s c 0x2D →
      (Core.mayRead a 4 = true → a % 4 = 0 → exec (.lds c) s =
        .next ((goesOn s c { k.setReg (rdOf w) (BitVec.ofNat 32 (leNat (k.scr a 4))) with pc := k.pc + 1 }).tick)) ∧
      (Core.mayRead a 4 = false → exec (.lds c) s = .next ((s.coreFault c 2 k.pc).tick)) ∧
      (Core.mayRead a 4 = true → a % 4 ≠ 0 → exec (.lds c) s = .next ((s.coreFault c 3 k.pc).tick))) ∧
    (Stands s c 0x2E →
      (Core.mayWrite a 4 = true → a % 4 = 0 → exec (.sts c) s =
        .next ((goesOn s c { k.setScr a (leBytes 4 (k.reg (rdOf w)).toNat) with pc := k.pc + 1 }).tick)) ∧
      (Core.mayWrite a 4 = false → exec (.sts c) s = .next ((s.coreFault c 2 k.pc).tick)) ∧
      (Core.mayWrite a 4 = true → a % 4 ≠ 0 → exec (.sts c) s = .next ((s.coreFault c 3 k.pc).tick)))

/-- Branches and jumps go to their target within words 0 to 1,023, and a target outside is a RANGE fault (R193,
R200). -/
def Obligations.SluiceBranchesAndJumps : Prop :=
  BranchOp .beq 0x40 (fun a b => a == b) ∧ BranchOp .bne 0x41 (fun a b => a != b) ∧ BranchOp .blt 0x42 (fun a b => a.slt b) ∧
  BranchOp .bge 0x43 (fun a b => !a.slt b) ∧ BranchOp .bltu 0x44 (fun a b => a.ult b) ∧
  ∀ (s : State) (c : Nat),
    let k := s.core c
    let w := k.word k.pc
    let target : Int := (k.pc : Int) + 1 + signedOf 16 (fieldOf w 15 0)
    let dest := (k.reg (raOf w)).toNat
    (Stands s c 0x45 →
      (0 ≤ target → target < 1024 → exec (.jal c) s =
        .next ((goesOn s c { k.setReg (fieldOf w 23 20) (BitVec.ofNat 32 (k.pc + 1)) with pc := target.toNat }).tick)) ∧
      ((target < 0 ∨ 1024 ≤ target) → exec (.jal c) s = .next ((s.coreFault c 2 k.pc).tick))) ∧
    (Stands s c 0x1F →
      (dest < 1024 → exec (.jr c) s = .next ((goesOn s c { k with pc := dest }).tick)) ∧
      (1024 ≤ dest → exec (.jr c) s = .next ((s.coreFault c 2 k.pc).tick)))

/-- The vector instructions on registers write vd lane by lane, or a scalar from all lanes, and change nothing else
(R200, R65, R69). -/
def Obligations.SluiceLaneInstructions : Prop :=
  LaneOp .vspl 0x83 (fun w k => List.replicate 8 (k.reg (fieldOf w 11 8))) ∧
  LaneOp .vadd 0x84 (lanes2 F.add) ∧ LaneOp .vmul 0x85 (lanes2 F.mul) ∧
  LaneOp .vfma 0x86 (fun w k => List.zipWith (fun d p => F.fma p.1 p.2 d) (k.vreg (fieldOf w 23 21))
    (List.zip (k.vreg (fieldOf w 20 18)) (k.vreg (fieldOf w 17 15)))) ∧
  LaneOp .vmax 0x87 (lanes2 F.max) ∧ LaneOp .vmin 0x88 (lanes2 F.min) ∧
  LaneOp .vexp 0x89 (fun w k => (k.vreg (fieldOf w 20 18)).map F.exp) ∧
  LaneOp .vbnd 0x8C (fun w k =>
    let d := k.vreg (fieldOf w 23 21)
    let prod (v i : Nat) : W32 := F.mul (getAt 0 (k.vreg (fieldOf w 20 18)) i) (getAt 0 (k.vreg v) i)
    setAt d 0 ((List.range 8).foldl (fun acc i =>
      F.addUp acc (Weir.larger (prod (fieldOf w 17 15) i) (prod (fieldOf w 17 15 + 1) i))) (getAt 0 d 0))) ∧
  LaneOp .vcvt 0x8D (fun w k => (k.vreg (fieldOf w 20 18)).map (toInt32 (fieldOf w 14 12 % 4))) ∧
  LaneOp .vxor 0x8F (lanes2 (fun a b => a ^^^ b)) ∧
  LaneOp .vgfma 0x90 (fun w k => lanesOf (xorBytes (lanesBytes (k.vreg (fieldOf w 23 21)))
    ((lanesBytes (k.vreg (fieldOf w 20 18))).map (fun x => gfMul x (BitVec.ofNat 8 (k.reg (fieldOf w 11 8)).toNat))))) ∧
  ∀ (s : State) (c : Nat),
    let k := s.core c
    let w := k.word k.pc
    let a := k.vreg (fieldOf w 20 18)
    (Stands s c 0x8A → exec (.vrsum c) s =
      .next ((goesOn s c { k.setReg (fieldOf w 11 8) (F.sum 7 s.fresh a) with pc := k.pc + 1 }).tick)) ∧
    (Stands s c 0x8B → exec (.vrmax c) s =
      .next ((goesOn s c { k.setReg (fieldOf w 11 8) (a.tail.foldl F.max (getAt 0 a 0)) with pc := k.pc + 1 }).tick))

/-- VLD, VWID, VST, VSTN and VSTH move lanes between vector registers and scratch, with their faults (R200, R201,
R68). -/
def Obligations.SluiceVectorScratch : Prop :=
  LaneStore .vst 0x81 32 32 lanesBytes ∧ LaneStore .vstn 0x8E 8 1 (fun l => l.flatMap (fun x => leBytes 1 (sat8 x))) ∧
  LaneStore .vsth 0x91 16 1 (fun l => l.flatMap (fun x => leBytes 2 (F.toBf16 x).toNat)) ∧
  ∀ (s : State) (c : Nat),
    let k := s.core c
    let w := k.word k.pc
    let a := (k.reg (fieldOf w 11 8)).toNat
    let n := fmtBits (fieldOf w 14 12)
    let lo := a * n / 8
    let len := (a * n + 8 * n + 7) / 8 - lo
    let bits := leNat (k.scr lo len) / 2 ^ (a * n % 8)
    let scale := if w.testBit 3 then (k.reg (fieldOf w 7 4)).toNat % 256 else 127
    (Stands s c 0x80 →
      (Core.mayRead a 32 = true → a % 32 = 0 → exec (.vld c) s = .next ((goesOn s c
        { k.setVreg (fieldOf w 23 21) ((List.range 8).map (fun i => BitVec.ofNat 32 (numAt (k.scr a 32) (4 * i) 4)))
          with pc := k.pc + 1 }).tick)) ∧
      (Core.mayRead a 32 = false → exec (.vld c) s = .next ((s.coreFault c 2 k.pc).tick)) ∧
      (Core.mayRead a 32 = true → a % 32 ≠ 0 → exec (.vld c) s = .next ((s.coreFault c 3 k.pc).tick))) ∧
    (Stands s c 0x82 →
      (Core.mayRead lo len = true → exec (.vwid c) s = .next ((goesOn s c
        { k.setVreg (fieldOf w 23 21) ((List.range 8).map (fun i => widenFmt (fieldOf w 14 12) scale (fieldOf bits (n * i + n - 1) (n * i))))
          with pc := k.pc + 1 }).tick)) ∧
      (Core.mayRead lo len = false → exec (.vwid c) s = .next ((s.coreFault c 2 k.pc).tick)))

/-- NOP and FENCE go on, HALT ends the program with its RESULT, VIEW sets a view, and a reserved word or KRND is an
ILLEGAL fault (R185, R194, R198, R200, R202). -/
def Obligations.SluiceControlInstructions : Prop :=
  ∀ (s : State) (c : Nat),
    let k := s.core c
    let w := k.word k.pc
    let on (t : State) : State := t.tick
    let a := (k.reg (fieldOf w 23 20)).toNat
    let kind := fieldOf (leNat (k.scr a 1)) 3 0
    let g := fieldOf (leNat (k.scr (a + 1) 1)) 5 0
    let view (v : SView) : State :=
      goesOn s c { k with views := SMap.set SView.unset k.views (fieldOf w 1 0) v, pc := k.pc + 1 }
    (Stands s c 0xA0 → exec (.nop c) s = .next (on (goesOn s c { k with pc := k.pc + 1 }))) ∧
    (Stands s c 0xA2 → exec (.fence c) s = .next (on (goesOn s c { k with pc := k.pc + 1 }))) ∧
    (Stands s c 0xA1 → SMap.wf s.idleCore s.sluice.cores = true → exec (.halt c) s = .next (on
      ((s.setCore c { k with st := .ready, prog := false, result := fieldOf w 15 0 }).count .scCntCcmd c 1))) ∧
    (Stands s c 0xA3 → Core.mayRead a 16 = true →
      (kind = 0 → exec (.view c) s = .next (on (view .unset))) ∧
      (kind = 1 → (k.grant g).valid = true → exec (.view c) s = .next (on (view (.grant g)))) ∧
      (kind = 8 → exec (.view c) s = .next (on (view .dataC))) ∧
      (kind = 1 → (k.grant g).valid = false → exec (.view c) s = .next (on (s.coreFault c 5 k.pc))) ∧
      (kind ≠ 0 → kind ≠ 1 → kind ≠ 8 → exec (.view c) s = .next (on (s.coreFault c 4 k.pc)))) ∧
    (Stands s c 0xA3 → Core.mayRead a 16 = false → exec (.view c) s = .next (on (s.coreFault c 2 k.pc))) ∧
    (State.executing k = true → s.haltedAt c = false → legalWord w = false → exec (.illegal c) s = .next (s.coreFault c 1 k.pc)) ∧
    (State.executing k = true → s.haltedAt c = false → opKey w = 0xA4 → exec (.krnd c none) s = .next (s.coreFault c 1 k.pc)) ∧
    ∀ round ra : Nat, k.vendor = true →
      let x := (vendorReg (s.vendor c) ra).toNat
      (0x800 ≤ x → x + 200 ≤ 0x2000 → exec (.krnd c (some (round, ra))) s = .next (s.updVendor c (vendorKrnd round x))) ∧
      ((x < 0x800 ∨ 0x2000 < x + 200) → exec (.krnd c (some (round, ra))) s = .next (s.scFault c 2))

/-- A fault of a customer station restores what the core saved of it, stops it in FAULT with cause and FPC, counts
it, and changes nothing else (R202, R183, Table 06-10). -/
def Obligations.StationFaultRecords : Prop :=
  ∀ (s : State) (c cause fpc : Nat),
    let r := s.restoreSaved c
    let t := s.coreFault c cause fpc
    ((s.vendor c).saved = none → r = s) ∧
    (r.countersOk = true → SMap.wf r.idleCore r.sluice.cores = true →
      t.core c = { r.core c with st := .fault, prog := false, burst := none, fcause := cause, fpc := fpc % 1024 } ∧
      (∀ j, j ≠ c → t.core j = r.core j) ∧ t.ctr .scCntCfault c = min 0xFFFFFFFFFFFF (r.ctr .scCntCfault c + 1) ∧
      (∀ (d : Ctr) (j : Nat), d.key j ≠ Ctr.scCntCfault.key c → t.ctr d j = r.ctr d j) ∧
      t = { r with
          ctrs := t.ctrs
          sluice := { r.sluice with cores := t.sluice.cores, waiting := r.sluice.waiting.filter (fun q => !(q.core == c && q.vendor == false)) } })

/-- The checks of a burst at issue: the bytes its window holds, and whether its view may be used at all. -/
def BurstAllowed (load : Bool) (k : Core) (v : SView) (off n scr : Nat) : Prop :=
  (match v with | .unset => False | .grant i => load = true ∧ (k.grant i).valid = true | .dataC => True | _ => False) ∧
  off + 64 * n ≤ windowSize k v ∧ off % 1024 + 64 * n ≤ 1024 ∧
  (if load then Core.mayWrite scr (64 * n) else Core.mayRead scr (64 * n)) = true ∧ scr % 64 = 0 ∧ off % 64 = 0

/-- BLD and BST: a burst that is allowed takes its bank if the bank is free, no other
request waits for it and no other access holds it, else the station waits behind the requests made before; one that is not allowed faults. -/
def BurstOp (i : Nat → Bool → Instr) (key : Nat) (load : Bool) : Prop :=
  ∀ (s : State) (c : Nat) (held : Bool), Stands s c key →
    let k := s.core c
    let w := k.word k.pc
    let v := k.view (fieldOf w 23 22)
    let n := fieldOf w 21 18 + 1
    let scr := (k.reg (fieldOf w 17 14)).toNat
    let off := (k.reg (fieldOf w 13 10)).toNat
    let b : Burst := { load := load, view := v, off := off, lines := n, scr := scr }
    let bank := burstBank c b
    (BurstAllowed load k v off n scr →
      (s.bankFree bank = true → s.nextReq bank = none → held = false →
        exec (i c held) s = .next ((s.setCore c { k with st := .run, burst := some { b with granted := true } }).tick)) ∧
      ((s.bankFree bank = false ∨ s.nextReq bank ≠ none ∨ held = true) →
        let q : State := if held && s.bankFree bank then
          { s with sluice := { s.sluice with units := s.sluice.units ++ [bank] } } else s
        exec (i c held) s = .next (((q.setCore c { k with st := .wait, burst := some b }).askBank
          { bank := bank, core := c, vendor := false }).tick))) ∧
    (v = .unset → exec (i c held) s = .next ((s.coreFault c 5 k.pc).tick)) ∧
    (∀ g, v = .grant g → (k.grant g).valid = false → exec (i c held) s = .next ((s.coreFault c 5 k.pc).tick)) ∧
    (∀ g, v = .grant g → (k.grant g).valid = true → load = false → exec (i c held) s = .next ((s.coreFault c 4 k.pc).tick)) ∧
    ((v = .dataC ∨ ∃ g, v = .grant g ∧ (k.grant g).valid = true ∧ load = true) →
      ((windowSize k v < off + 64 * n ∨ 1024 < off % 1024 + 64 * n ∨
        (if load then Core.mayWrite scr (64 * n) else Core.mayRead scr (64 * n)) = false) →
        exec (i c held) s = .next ((s.coreFault c 2 k.pc).tick)) ∧
      (off + 64 * n ≤ windowSize k v → off % 1024 + 64 * n ≤ 1024 →
        (if load then Core.mayWrite scr (64 * n) else Core.mayRead scr (64 * n)) = true → (scr % 64 ≠ 0 ∨ off % 64 ≠ 0) →
        exec (i c held) s = .next ((s.coreFault c 3 k.pc).tick)))

/-- BLD and BST issue one burst through a view, a waiting burst gets its bank, and the end of a burst moves its
bytes (R185, R187, R191, R194, R195, R197). -/
def Obligations.SluiceBursts : Prop :=
  BurstOp .bld 0x60 true ∧ BurstOp .bst 0x61 false ∧
  (∀ (s : State) (c refresh pipe other : Nat) (b : Burst), (s.core c).burst = some b → (s.core c).st = .wait →
    let bank := burstBank c b
    let q := s.endUnit bank
    s.sluice.waiting.find? (fun r => r.core == c) = some { bank := bank, core := c, vendor := false } →
    (s.nextReq bank = some { bank := bank, core := c, vendor := false } → q.bankFree bank = true →
      ∃ t, exec (.bankGrant c refresh pipe other) s = .next t ∧ t.store = s.store ∧ t.slots = s.slots ∧ t.cam = s.cam ∧
        t.core c = { s.core c with st := .run, burst := some { b with granted := true } } ∧
        (∀ j, j ≠ c → t.core j = s.core j) ∧
        t.sluice.waiting = s.sluice.waiting.filter (fun r => !(r.core == c && r.vendor == false))) ∧
    (s.nextReq bank = some { bank := bank, core := c, vendor := false } → q.bankFree bank = false →
      exec (.bankGrant c refresh pipe other) s = .next q) ∧
    (s.nextReq bank ≠ some { bank := bank, core := c, vendor := false } → exec (.bankGrant c refresh pipe other) s = .next s)) ∧
  ∀ (s : State) (c : Nat) (b : Burst), let k := s.core c
    k.burst = some b → b.granted = true → k.st = .run →
    let a := s.burstAddr c b
    let n := 64 * b.lines
    let key := s.store.key (s.burstSlot c b)
    (b.load = true → k.pc < 1023 → key ≠ 0 → s.store.anyBad (gaddr a.1 a.2) n = false → ∃ t, exec (.burstEnd c) s = .next t ∧
      t.store = { s.store with errs := t.store.errs } ∧ (∀ j, j ≠ c → t.core j = s.core j) ∧
      t.core c = { k.setScr b.scr (s.store.readUnder key a.1 a.2 n) with burst := none, pc := k.pc + 1 }) ∧
    (b.load = false → k.pc < 1023 → ∃ t, exec (.burstEnd c) s = .next t ∧ (∀ j, j ≠ c → t.core j = s.core j) ∧
      t.core c = { k with burst := none, pc := k.pc + 1 } ∧
      t.store = if key = 0 then s.store else s.store.writeUnder key a.1 a.2 (k.scr b.scr n)) ∧
    (1023 ≤ k.pc → (b.load = true → key ≠ 0 ∧ s.store.anyBad (gaddr a.1 a.2) n = false) → ∃ t,
      exec (.burstEnd c) s = .next t ∧ (t.core c).st = .fault ∧ (t.core c).fcause = 2 ∧ (t.core c).fpc = (k.pc + 1) % 1024) ∧
    (b.load = true → (key = 0 ∨ s.store.anyBad (gaddr a.1 a.2) n = true) →
      let q := ((s.setCore c { k with burst := none }).count .scCntBurst c 1).releaseBank (burstBank c b)
      let r := ((q.senseUnder key a.1 [(a.2, n)]).1.coreFault c 6 k.pc).count .scCntUe c 1
      (b.view = .dataC → ∃ t, exec (.burstEnd c) s = .next t ∧ t = r ∧ (t.core c).st = .fault ∧ (t.core c).fcause = 6 ∧
        ((s.vendor c).saved = none → (t.core c).scratch = k.scratch) ∧ t.store.dram = s.store.dram) ∧
      ∀ g, b.view = .grant g → exec (.burstEnd c) s = .next ((r.startRestore (k.grant g).page).pastEnd c))

/-- LOAD, RUN, STOP, CLEAR, RELEASE, GRANT, DEQ and a reserved command act on the leased station that the context
selects (R185, R186, R193, R204, R205, R206, Table 06-12). -/
def Obligations.StationCommands : Prop :=
  ∀ (s : State) (ctx : Nat), let c := s.selectedCore ctx
    let k := s.core c
    let a0 := s.scArg0 ctx
    let a1 := s.scArg1 ctx
    let a2 := s.scArg2 ctx
    (Accepts s ctx →
      (SMap.wf 0 k.code = true → ∃ t, exec (.load ctx) s = .next t ∧ ((s.vendor c).saved = none → SameButCore s t) ∧
        (∀ i : Nat, i < 64 → (t.core c).word (64 * a0.fld 3 0 + i) = leNat (k.scr (0x3F00 + 4 * i) 4)) ∧
        (∀ j : Nat, (j < 64 * a0.fld 3 0 ∨ 64 * a0.fld 3 0 + 64 ≤ j) → (t.core c).word j = k.word j) ∧
        (t.core c).st = .ready ∧ (t.core c).result = 0 ∧ (t.core c).lessee = some ctx ∧ ∀ j, j ≠ c → t.core j = s.core j) ∧
      (∃ t, exec (.run ctx) s = .next t ∧ SameButCore s t ∧ (t.core c).st = .run ∧ (t.core c).prog = true ∧
        (t.core c).pc = a0.fld 9 0 ∧ (t.core c).reg 1 = BitVec.ofNat 32 (a1.fld 31 0) ∧
        (t.core c).reg 2 = BitVec.ofNat 32 (a1.fld 63 32) ∧ (t.core c).reg 3 = BitVec.ofNat 32 (a2.fld 31 0) ∧
        (t.core c).reg 4 = BitVec.ofNat 32 (a2.fld 63 32) ∧ (∀ i, 4 < i → (t.core c).reg i = 0) ∧
        (∀ i, (t.core c).vreg i = List.replicate 8 0 ∧ (t.core c).view i = .unset) ∧ (t.core c).code = k.code ∧
        (t.core c).scratch = k.scratch ∧ (t.core c).grants = k.grants ∧ ∀ j, j ≠ c → t.core j = s.core j) ∧
      (SMap.wf {} s.sluice.vendors = true → ∃ t, exec (.clear ctx) s = .next t ∧ (t.core c).code = [] ∧ (t.core c).scratch = [] ∧ (t.core c).regs = [] ∧
        (t.core c).vregs = [] ∧ (t.core c).views = [] ∧ (t.core c).grants = [] ∧ (t.core c).st = .ready ∧
        (t.core c).result = 0 ∧ (t.core c).lessee = some ctx ∧ t.store.dram = s.store.dram) ∧
      (SMap.wf {} k.grants = true → 1 ≤ a0.fld 12 6 → a0.fld 5 0 + a0.fld 12 6 ≤ 64 → ∃ t, exec (.release ctx) s = .next t ∧
        (∀ j, a0.fld 5 0 ≤ j → j < a0.fld 5 0 + a0.fld 12 6 → ((t.core c).grant j).valid = false) ∧
        (∀ j, (j < a0.fld 5 0 ∨ a0.fld 5 0 + a0.fld 12 6 ≤ j) → (t.core c).grant j = k.grant j) ∧
        (t.core c).st = .ready ∧ (t.core c).result = 0 ∧ t.store.dram = s.store.dram) ∧
      (∀ (q : State) (i d : Nat) (r : Root), s.camSearch (searchGrant c) (camKey ctx kindConv a0.toNat) 0 0 = (q, .hit i d) →
        q.store.root (assocLedger d) = some r → assocPend d = false → assocClosing d = false → a1.fld 15 8 < 32 →
        r.headSet.testBit (a1.fld 15 8) = true → a1.fld 7 0 < r.layers → 0 < a1.fld 47 40 →
        let as := if r.groupLedger = 0 then [assocLedger d] else [assocLedger d, r.groupLedger]
        let u := q.senseNeeded ctx false as
        let waits := (u.store.metaUe ++ u.store.ledgerUe).any (u.needsWord ctx false as)
        let ps := u.grantWalk (assocLedger d) (Store.streamIx r (a1.fld 7 0) (a1.fld 15 8)) (a1.fld 39 16) (a1.fld 47 40)
        let x := ps.foldl (grantOne c) (u, a1.fld 53 48, 0)
        (waits = false → ps.any Store.isGap = false →
          exec (.grant ctx) s = .next (x.1.cmdDone c ((x.2.1 - a1.fld 53 48) % 256 + 256 * (x.2.2 % 256)))) ∧
        (waits = false → ps.any Store.isGap = true →
          exec (.grant ctx) s = .next ((u.count .rsCntGapbusy 0 1).coreFault c 8 (u.core c).pc)) ∧
        (waits = true → exec (.grant ctx) s = .next (u.updCore c (fun k =>
          { k with st := .run, prog := false, search := some { ctx := ctx, arg0 := a0, arg1 := a1 } })))) ∧
      (∀ q : State, s.camSearch (searchGrant c) (camKey ctx kindConv a0.toNat) 0 0 = (q, .miss) →
        exec (.grant ctx) s = .next (q.coreFault c 8 (q.core c).pc)) ∧
      (∀ (q : State) (i : Nat), s.camSearch (searchGrant c) (camKey ctx kindConv a0.toNat) 0 0 = (q, .stall i) →
        exec (.grant ctx) s = .next (q.updCore c (fun k => { k with st := .run, prog := false, search := some { ctx := ctx, arg0 := a0, arg1 := a1 } }))) ∧
      (let g := k.grant (a0.fld 5 0)
       let wide := if a0.bit 16 then 2 else 4
       let size := 2 * g.rows * dimOf g.dim * wide
       let key := s.store.key ctx
       let rs := Weir.readRows s.store (s.store.frame (c / 16) g.frame).ctx (c / 16) g.frame g.kvfmt g.dim (List.range g.rows)
       (g.valid = false → exec (.deq ctx) s = .next (s.coreFault c 5 k.pc)) ∧
       (g.valid = true → (a1.toNat % 1024 ≠ 0 ∨ 0xC0000 < a1.toNat + size) → exec (.deq ctx) s = .next (s.coreFault c 8 k.pc)) ∧
       (g.valid = true → a1.toNat % 1024 = 0 → a1.toNat + size ≤ 0xC0000 → (s.vendor c).queue = [] → (s.vendor c).turn = false →
         (s.sluice.vload.isSome = true → (s.sluice.vjobs.any (fun j => j.core == c)) = false →
           (s.vendor c).due = [] → (s.vendor c).saved = none → s.vendorGets c {} = true → key ≠ 0 →
           (s.sense (c / 16) (rowRegions g.frame g.kvfmt g.dim g.rows)).2 = false → ∃ t, exec (.deq ctx) s = .next t ∧
           t.core c = { k with st := .ready, prog := false, result := size / 64 % 65536 } ∧ (∀ j, j ≠ c → t.core j = s.core j) ∧
           t.store.dram = (s.store.writeUnder key (c / 16) (dataAddr (c % 16) + 0x40000 + a1.toNat)
             ((rs.keys ++ rs.vals).flatMap (fun row => row.flatMap (fun x =>
               if a0.bit 16 then leBytes 2 (F.toBf16 x).toNat else leBytes 4 x.toNat)))).dram) ∧
         (s.sluice.vload = none → ∃ t, exec (.deq ctx) s = .next t ∧ t.core c = { k with st := .run, prog := false } ∧
           t.store = s.store ∧ ∀ j, j ≠ c → t.core j = s.core j))) ∧
      (∀ op : Nat, (op = 0 ∨ 7 < op) → exec (.reservedCommand ctx op) s = .next (s.coreFault c 8 k.pc))) ∧
    (k.lessee = some ctx → (k.st = .run ∨ k.st = .wait) → k.burst = none → (s.vendor c).saved = none → ∃ t, exec (.stop ctx) s = .next t ∧
      t = { s with sluice := t.sluice, ctrs := t.ctrs } ∧
      t.core c = { k with st := .ready, prog := false, burst := none, result := 0xFFFF, preempted := false, search := none } ∧
      ∀ j, j ≠ c → t.core j = s.core j) ∧
    (k.lessee = some ctx → (k.st = .ready ∨ k.st = .fault) → k.burst = none → (s.vendor c).saved = none → exec (.stop ctx) s = .next (s.count .scCntCcmd c 1)) ∧
    (k.lessee = some ctx → exec (.stop ctx) s = .next ((s.stopStation c).count .scCntCcmd c 1)) ∧
    (k.lessee ≠ some ctx → exec (.stop ctx) s = .next (s.count .scCntCmddrop c 1)) ∧
    (¬ Accepts s ctx → (∀ i ∈ [Instr.load ctx, .run ctx, .clear ctx, .release ctx, .grant ctx, .deq ctx],
      exec i s = .next (s.count .scCntCmddrop c 1)) ∧
      ∀ op : Nat, (op = 0 ∨ 7 < op) → exec (.reservedCommand ctx op) s = .next (s.count .scCntCmddrop c 1))

/-- ACQUIRE leases a free core within its conditions, the end of a lease clears the station, and the core is free
once DATA_C is zeroed (R203, R207, R388, R389, R396, R397). -/
def Obligations.LeasesOfCores : Prop :=
  (∀ (s : State) (ctx : Nat) (tee : Bool), State.isVf (vfOfCtx ctx) = true → s.portUp (vfOfCtx ctx / 1024) = true →
    s.vfServes (vfOfCtx ctx) tee = true → let c := s.selectedCore ctx
    (s.mayAcquire ctx c = true → ∃ t, exec (.acquire ctx tee) s = .next t ∧
      t = { s with sluice := { s.sluice with cores := t.sluice.cores }, store := { s.store with under := t.store.under } } ∧
      t.core c = { s.core c with lessee := some ctx } ∧ ∀ j, j ≠ c → t.core j = s.core j) ∧
    (s.mayAcquire ctx c = false → exec (.acquire ctx tee) s = .next (s.count .scCntLeaseref c 1)) ∧
    ((s.core c).lessee = some ctx → s.tdiLocked (vfOfCtx ctx) = false → ∃ t, exec (.leaseRelease ctx tee) s = .next t ∧
      (t.core c).lessee = none ∧ (t.core c).zeroing = some ctx ∧ (t.core c).code = [] ∧ (t.core c).scratch = [] ∧
      (t.core c).regs = [] ∧ (t.core c).vregs = [] ∧ (t.core c).views = [] ∧ (t.core c).grants = [] ∧
      (t.core c).st = .ready ∧ (t.core c).result = 0)) ∧
  (∀ (s : State) (ctx : Nat) (tee : Bool), State.isVf (vfOfCtx ctx) = true → s.portUp (vfOfCtx ctx / 1024) = true →
    s.vfServes (vfOfCtx ctx) tee = false → ∀ i ∈ [Instr.acquire ctx tee, .leaseRelease ctx tee],
      exec i s = .next (s.emit (.hostError (vfOfCtx ctx / 1024) 0 "UR"))) ∧
  ∀ (s : State) (c : Nat), SMap.wf s.idleCore s.sluice.cores = true → (s.core c).zeroing.isSome = true →
    s.coreMapped c = false → ∃ t, exec (.leaseZeroed c) s = .next t ∧ (t.core c).zeroing = none ∧
      (∀ j, j ≠ c → t.core j = s.core j) ∧
      let g := gaddr (c / 16) (dataCAddr (c % 16))
      (∀ a, g ≤ a → a < g + 0xC0000 → dramGet t.store.dram a = 0) ∧
      ∀ a, (a < g ∨ g + 0xC0000 ≤ a) → dramGet t.store.dram a = dramGet s.store.dram a

/-- Refreshes are issued, postponed up to eight times or forced, the vendor station hands the core back, and the
debug port halts and steps (R165, R166, R183, R191, R209, R212). -/
def Obligations.BanksAndDebug : Prop :=
  (∀ (s : State) (b : Nat) (postpone : Bool), s.bankExists b = true → b ∉ s.sluice.refreshing → b ∉ s.sluice.forced →
    let n := SMap.get 0 s.sluice.postponed b
    let begun (u : State) : State :=
      let q := u.refreshCfg (b / 2048)
      { q with sluice := { q.sluice with refreshing := q.sluice.refreshing ++ [b] } }
    (n < 8 → s.bankFree b = true → postpone = false → exec (.refreshDue b postpone) s = .next (begun s)) ∧
    (n < 8 → (postpone = true ∨ s.bankFree b = false) → exec (.refreshDue b postpone) s =
      .next { s with sluice := { s.sluice with postponed := SMap.set 0 s.sluice.postponed b (n + 1) } }) ∧
    (8 ≤ n → ∃ t, exec (.refreshDue b postpone) s = .next t ∧
      t.sluice = (if s.bankFree b then { s.sluice with refreshing := s.sluice.refreshing ++ [b] }
        else { s.sluice with forced := s.sluice.forced ++ [b] }) ∧
      (s.countersOk = true → t.ctr .pgCntRefForced (b / 32) = min 0xFFFFFFFFFFFF (s.ctr .pgCntRefForced (b / 32) + 1)))) ∧
  (∀ (s : State) (b : Nat) (again : Bool), b ∈ s.sluice.refreshing →
    let n := SMap.get 0 s.sluice.postponed b
    let q : State := { s with sluice := { s.sluice with refreshing := s.sluice.refreshing.filter (· != b) } }
    ((again = false ∨ n = 0) → exec (.refreshEnd b again) s = .next q) ∧
    (again = true → 0 < n → exec (.refreshEnd b again) s =
      .next (({ q with sluice := { q.sluice with postponed := SMap.set 0 q.sluice.postponed b (n - 1) } } : State).refresh b))) ∧
  (∀ (s : State) (c cycles : Nat), let k := s.core c
    let v := s.vendor c
    k.vendor = true → v.queue = [] → (∀ j, (s.vendor j).turn = false) →
    let r := (s.restoreSaved c).updCore c (fun x => { x with vendor := false, preempted := false })
    exec (.vendorQueueEmpty c cycles) s = .next (if k.preempted then r.count .scCntPreempt c cycles else r) ∧
    ((v.saved.getD {}).spill = false → r = { s with sluice := r.sluice } ∧ (∀ j, j ≠ c → r.core j = s.core j) ∧
      (SMap.wf s.idleCore s.sluice.cores = true →
        (v.saved = none → r.core c = { k with vendor := false, preempted := false }) ∧
        ∀ x : Saved, v.saved = some x → r.core c =
          { k with regs := x.regs, vregs := x.vregs, views := x.views, vendor := false, preempted := false }) ∧
      (SMap.wf {} s.sluice.vendors = true → (r.vendor c).saved = none))) ∧
  (∀ (s : State) (on : Bool), (s.img.conf = true → exec (.debugHalt on) s = .next s) ∧
    (s.img.conf = false →
      let q := s.setFld .scDbgCtl 0 0 0 (bnat on)
      (s.debugged s.debugCore = true → ∃ t, exec (.debugHalt on) s = .next t ∧
        t = { q with sluice := { s.sluice with cores := t.sluice.cores } } ∧
        (SMap.wf s.idleCore s.sluice.cores = true → t.core s.debugCore = { s.core s.debugCore with halted := on }) ∧
        ∀ j, j ≠ s.debugCore → t.core j = s.core j) ∧
      (s.debugged s.debugCore = false → exec (.debugHalt on) s = .next q))) ∧
  ∀ (s : State) (key : Nat) (f : Effect), let k := s.core s.debugCore
    s.haltedAt s.debugCore = true → State.executing k = true → legalWord (k.word k.pc) = true →
    opKey (k.word k.pc) = key → (key, f) ∈ effects s.fresh →
    exec .debugStep s = .next ((s.runEffect s.debugCore f false).tick)

/-- A block that passes FEC and CRC and carries no FACK. -/
def GoodFlit (block : Bytes) : Prop :=
  (rxBlock block).uncorrectable = false ∧ (rxBlock block).crcOk = true ∧ (rxBlock block).flit.av = false

/-- The state after the codewords of a good block are counted. -/
def afterFec (s : State) (l : Nat) (block : Bytes) : State :=
  (s.count .lkCntFecCorr l (rxBlock block).corrected).pred 2 l 0 (rxBlock block).corrected

/-- The block a link sends now for a flit of a type, with its FACK. -/
def sentBlock (s : State) (l ft fseq : Nat) (data : Bytes) : Out :=
  .block l (Flit.block { ft := ft, fseq := fseq, fack := (s.link l).rxNext, av := decide ((s.link l).state = .active), data := data })

/-- The block of a CTRL message. -/
def sentCtrl (s : State) (l code : Nat) (fields : List Nat) : Out := sentBlock s l 2 0 (ctrlData code fields)

/-- Two states whose links other than one are in the same link states, with the same pages, CAM rows and sluice cores. -/
def OtherLinks (s t : State) (l : Nat) : Prop :=
  (∀ j, j ≠ l → (t.link j).state = (s.link j).state) ∧ t.store = s.store ∧ t.cam = { s.cam with waiting := t.cam.waiting } ∧
  t.sluice = s.sluice

/-- Training, block lock, the training limit, bad blocks, lane loss and a retry that lasts too long move a link as
Table 10-4 says (R311, R318, Table 10-4, Table 10-13). -/
def Obligations.LinkStatesAndFaults : Prop :=
  ∀ (s : State) (l : Nat), l < 64 → SMap.wf {} s.links = true →
    ((s.link l).state = .phyTrain → ∀ (swap : Bool) (inv : Nat), ∃ t, exec (.trainingComplete l swap inv) s = .next t ∧
      t.link l = { s.link l with state := .lock, swap := swap, inv := inv % 4 } ∧ (∀ j, j ≠ l → t.link j = s.link j) ∧
      t = { s with links := t.links }) ∧
    ((s.link l).state = .lock → ∀ lane0 lane1 : Bytes, (lockAt lane0 lane1).isSome = true →
      let q := s.updLink l (fun k => { k with state := .hello, heard := false, heardSeen := false })
      exec (.blockLock l lane0 lane1) s = .next { q with out := s.out ++ [sentCtrl q l 1 (q.helloFields l)] } ∧
      (q.link l).state = .hello ∧ ∀ j, j ≠ l → q.link j = s.link j) ∧
    (∀ lane0 lane1 : Bytes, lockAt lane0 lane1 = none → exec (.blockLock l lane0 lane1) s = .next s) ∧
    ((s.link l).state = .phyTrain → ∃ t, exec (.trainLimitExpiry l) s = .next t ∧ t.links = s.links ∧
      t.rbit .lkFault 0 l = true ∧ t.reg .lkFaultCause 0 = wordOf (l + 64 * 2) ∧ t.store = s.store) ∧
    ((s.link l).state = .active → ∃ t, exec (.badBlockRun l) s = .next t ∧ (t.link l).state = .phyTrain ∧ OtherLinks s t l) ∧
    ((s.link l).state = .active → ∃ t, exec (.laneLoss l) s = .next t ∧ (t.link l).state = .phyTrain ∧
      t.reg .lkFaultCause 0 = wordOf (l + 64 * 5) ∧ OtherLinks s t l) ∧
    ((s.link l).state = .active → (s.link l).episode = true → ∃ t, exec (.retryTimeExpiry l) s = .next t ∧
      (t.link l).state = .phyTrain ∧ t.reg .lkFaultCause 0 = wordOf (l + 64) ∧ OtherLinks s t l)

/-- The timers of a link send HELLO, CREDIT and LDREP, and an unacknowledged replay buffer is sent again from its
oldest flit (R312, R317, R318, R319). -/
def Obligations.LinkTimersSend : Prop :=
  ∀ (s : State) (l : Nat),
    ((s.link l).state = .hello → exec (.helloTimer l) s = .next { s with out := s.out ++ [sentCtrl s l 1 (s.helloFields l)] }) ∧
    ((s.link l).state = .active → ∀ stalled : Nat, ∃ t, exec (.creditTimer l stalled) s = .next t ∧
      t = { s with out := s.out ++ [sentCtrl s l 3 [(s.link l).peerLink, 1024]], ctrs := t.ctrs }) ∧
    (∀ pl d f a rest, (s.link l).ldrep = some (pl, d) → s.furrowOf l = some f → s.activeLinks f = a :: rest →
      exec (.ldrepTimer l) s = .next { s with out := s.out ++ [sentCtrl s a 4 [pl, d]] }) ∧
    ((s.link l).state = .active → (s.link l).nak = true → ∃ t, exec (.ackLimitExpiry l true) s = .next t ∧
      t.out = s.out ++ [sentCtrl s l 2 [(s.link l).peerLink, (s.link l).rxNext]] ∧ t.link l = s.link l ∧ t.slots = s.slots ∧
      OtherLinks s t l) ∧
    ((s.link l).state = .active → (s.link l).episode = false → (s.link l).replay ≠ [] →
      ∃ t, exec (.ackLimitExpiry l false) s = .next t ∧
        t.out = s.out ++ (s.link l).replay.map (fun r => sentBlock s l 1 r.fseq r.data) ∧ t.slots = s.slots ∧
        (t.link l).episode = true ∧ (t.link l).epReplays = 1 ∧ (t.link l).replay = (s.link l).replay ∧
        (t.link l).state = .active ∧ OtherLinks s t l)

/-- What an arriving flit does: data in order is acknowledged and taken, a bad block is NAKed, a NAK replays, HELLO
brings the link up, CREDIT, LDREP and LDACK act (R309, R310, R312, R313, R317, R318, R319). -/
def Obligations.FlitsOnALink : Prop :=
  ∀ (s : State) (l : Nat) (block : Bytes), SMap.wf {} s.links = true → s.undef = none →
    let x := (rxBlock block).flit
    (GoodFlit block → x.ft = 1 → (s.link l).state = .active → x.fseq = (s.link l).rxNext → ∀ f, s.furrowOf l = some f →
      let q := (((afterFec s l block).updLink l (fun k => { k with rxNext := (k.rxNext + 1) % 4096, nak := false })).count
        .lkCntFlitRx l 1).sendFlit l 0 0 []
      exec (.dataFlit l block) s = (takeItems 20 q l f x.fseq ((s.link l).rest ++ x.data)).outcome ∧
      ((s.link l).rest = [] → x.data = zeros 248 → ∃ t, exec (.dataFlit l block) s = .next t ∧
        t.link l = { s.link l with rxNext := (x.fseq + 1) % 4096, nak := false, rest := [] } ∧
        t.out = s.out ++ [.block l (Flit.block { ft := 0, fseq := 0, fack := (x.fseq + 1) % 4096, av := true, data := [] })] ∧
        t.slots = s.slots ∧ OtherLinks s t l)) ∧
    (GoodFlit block → x.ft = 1 → (s.link l).state = .active → x.fseq ≠ (s.link l).rxNext → (s.link l).nak = false →
      ∃ t, exec (.dataFlit l block) s = .next t ∧ t.out = s.out ++ [sentCtrl s l 2 [(s.link l).peerLink, (s.link l).rxNext]] ∧
        t.link l = { s.link l with nak := true } ∧ t.slots = s.slots ∧ OtherLinks s t l) ∧
    ((rxBlock block).uncorrectable = true → (s.link l).state = .active → (s.link l).nak = false →
      ∃ t, exec (.dataFlit l block) s = .next t ∧ t.out = s.out ++ [sentCtrl s l 2 [(s.link l).peerLink, (s.link l).rxNext]] ∧
        t.link l = { s.link l with nak := true } ∧ t.slots = s.slots ∧ OtherLinks s t l ∧
        (s.countersOk = true → t.ctr .lkCntFecUncorr l = min 0xFFFFFFFFFFFF (s.ctr .lkCntFecUncorr l + 1))) ∧
    ((rxBlock block).uncorrectable = false → (rxBlock block).crcOk = true → x.av = true → (s.link l).state = .active →
      (x.fack + 4096 - (s.link l).txAcked) % 4096 ≤ (s.link l).replay.length →
      ∃ t, exec (.idleFlit l block) s = .next t ∧ (t.link l).txAcked = x.fack ∧ OtherLinks s t l) ∧
    (GoodFlit block → (s.link l).state = .active → (s.link l).episode = false → ∀ fseq : Nat,
      ctrlFields 2 x = some [l, fseq] → (s.link l).replay.dropWhile (fun r => r.fseq != fseq) ≠ [] →
      ∃ t, exec (.nak l block) s = .next t ∧
        t.out = s.out ++ ((s.link l).replay.dropWhile (fun r => r.fseq != fseq)).map (fun r => sentBlock s l 1 r.fseq r.data) ∧
        (t.link l).episode = true ∧ t.slots = s.slots ∧ OtherLinks s t l) ∧
    (GoodFlit block → (s.link l).state = .hello → ∀ (y : List Nat) (f : Nat), ctrlFields 1 x = some y → s.furrowOf l = some f →
      let h := HelloMsg.ofFields y
      h.node = s.rfld .fuCfg f 15 0 → h.gens % 2 = 1 → h.lanes = 2 → h.seen = true → h.peerNode = s.node → h.peerLinkid = l →
      ∃ t, exec (.hello l block) s = .next t ∧ (t.link l).state = .active ∧ (t.link l).peer = h.node ∧
        (t.link l).peerLink = h.linkid ∧ OtherLinks s t l) ∧
    (GoodFlit block → (s.link l).state = .active → ∀ free : Nat, ctrlFields 3 x = some [l, free] →
      let q := (afterFec s l block).updLink l (fun k => { k with credit := free })
      exec (.credit l block) s = .next (match q.furrowOf l with | some f => q.pump f | none => q)) ∧
    (GoodFlit block → (s.link l).state = .active → ∀ (f k dfseq : Nat), ctrlFields 4 x = some [k, dfseq] →
      s.furrowOf l = some f → s.inFurrow f k = true →
      ∃ t, exec (.ldrep l block) s = .next t ∧ (t.link k).lost = [] ∧ (t.link k).lostRest = [] ∧
        t.out.getLast? = some (sentCtrl s l 5 [k]) ∧ t.store = s.store) ∧
    (GoodFlit block → (s.link l).state = .active → ∀ k : Nat, ctrlFields 5 x = some [k] → ∃ t, exec (.ldack l block) s = .next t ∧
      OtherLinks s t l ∧ t.slots = s.slots ∧
      ∀ j d, (s.link j).ldrep = some (k, d) → s.furrowOf j = s.furrowOf l → (t.link j).ldrep = none)

/-- A DOWN furrow drops what it held too long, an arriving event is recorded and reported, and an egress gate goes
to its next entry (R319, R334, R355, R356, R357). -/
def Obligations.FurrowEventsAndGates : Prop :=
  ∀ (s : State) (f : Nat), SMap.wf {} s.furrows = true → SMap.wf {} s.links = true →
    (s.furrowState f = 0 → ∃ t, exec (.downFurrowDiscard f) s = .next t ∧
      (t.furrow f).out = (s.furrow f).out.filter (fun i => !i.carrier || decide (s.hubUnits < i.since + s.e2e f)) ∧
      (∀ j, j ≠ f → t.furrow j = s.furrow j) ∧ t.store = s.store ∧ (∀ l, (t.link l).state = (s.link l).state)) ∧
    (∀ (code eseq : Nat) (arg : Word), ∃ t, exec (.eventReceive f code eseq arg) s = .next t ∧
      t.furrow f = { s.furrow f with evtCode := code, evtSeq := eseq, evtArg := arg, evtHeard := true } ∧
      (s.countersOk = true → t.ctr .fuCntEvtRx f = min 0xFFFFFFFFFFFF (s.ctr .fuCntEvtRx f + 1)) ∧
      (s.countersOk = true → (s.furrow f).evtHeard = true → eseq ≠ ((s.furrow f).evtSeq + 1) % 65536 →
        t.ctr .fuCntEvtGap f = min 0xFFFFFFFFFFFF (s.ctr .fuCntEvtGap f + 1)) ∧
      t.power.nextEseq = (s.power.nextEseq + 1) % 2 ^ 32 ∧ (∀ j, j ≠ f → t.furrow j = s.furrow j) ∧
      t.links = s.links ∧ t.store = s.store ∧ t.slots = s.slots) ∧
    (s.rbit .hgGateCfg f 0 = true → ∀ closed guarded unfit : Nat, ∃ t, exec (.gateEntry f closed guarded unfit) s = .next t ∧
      (t.furrow f).entry = (if s.rfld .hgGateCfg f 4 1 ≤ (s.furrow f).entry then 0 else (s.furrow f).entry + 1) ∧
      (∀ l, (t.link l).state = (s.link l).state) ∧ t.store = s.store)

/-- A grant puts the head of a queue in a slot, time fills the buckets, and the wait, gap and reassembly limits end
what waited too long (R288, R294, R295, R345, R347, R348, R354). -/
def Obligations.AdmissionAndTime : Prop :=
  (∀ (s : State) (ctx n : Nat) (r : QReq), SMap.wf {} s.ctxs = true → (s.captured .hgBktRate ctx).isSome = false →
    (s.ctx ctx).queue = [r] → s.eligible ctx r = true → s.freeSlotNo = some n →
    s.charge r.hdr ≤ (s.ctx ctx).deficit + 64 * s.rfld .hgCtxArb ctx 7 0 → s.nextTurn = some ctx →
    (∀ c, c ≠ ctx → (s.ctx c).queue = [] ∨ s.rbit .hgCtxArb c 10 = true) →
    ∃ t, exec (.hgGrant ctx) s = .next t ∧ (t.slot n).hdr = r.hdr ∧ (t.slot n).body = r.body ∧
      (t.slot n).state ≠ .free ∧ (t.ctx ctx).queue = [] ∧ t.store = s.store) ∧
  (∀ (s : State) (k : Tick), SMap.wf {} s.ctxs = true → ∃ t, exec (.accrualAdvance k) s = .next t ∧ t.hubUnits = s.hubUnits + 1 ∧
    (∀ c : Nat, c < 1024 → (t.ctx c).tokens =
      min (s.rfld .hgBktBurst c 31 0 * 256) ((s.ctx c).tokens + s.rfld .hgBktRate c 31 0)) ∧
    (∀ c : Nat, (t.ctx c).queue = (s.ctx c).queue ∧ (t.ctx c).state = (s.ctx c).state) ∧
    (∀ n : Nat, t.slot n = { s.slot n with units := (t.slot n).units }) ∧ t.store = { s.store with errs := t.store.errs } ∧
    (k.upsets = [] → t.store = s.store) ∧ t.regs = s.regs) ∧
  (∀ (s : State) (ctx : Nat) (r : QReq) (rest : List QReq), SMap.wf {} s.ctxs = true → (s.ctx ctx).queue = r :: rest →
    s.rbit .hgCtxArb ctx 10 = true → s.eligible ctx r = false →
    r.since + s.rfld .hgCtxArb ctx 34 19 ≤ s.hubUnits → ∃ t, exec (.waitLimitExpiry ctx) s = .next t ∧
      (t.ctx ctx).queue.map (·.hdr) = rest.map (·.hdr) ∧ t.store = s.store) ∧
  (∀ (s : State) (o q k : Nat) (e : Origin) (x : Slot), s.lowestHeld o = some (q, x) → x.since + x.limit ≤ s.hubUnits →
    s.origin? o = some e → e.next + 1 = q → e.done = [] → s.heldSlot o e.next = none → s.heldSlot o q = some k →
    s.queuedReq o e.next = false → s.stage4Open = true → ∃ t, exec (.gapLimitExpiry o) s = .next t ∧
      (t.slot k).state = .active ∧ t.store = s.store) ∧
  ∀ (s : State) (src : Src) (cls : CarrierClass) (o q : Nat),
    let same : Reasm → Bool := fun e => e.src == src && e.cls == cls && e.hdr.origin == o && e.hdr.seq == q
    ∀ e : Reasm, s.reasm.find? same = some e → e.since + e.limit ≤ s.hubUnits →
      exec (.reasmLimitExpiry src cls o q) s =
        .next (({ s with reasm := s.reasm.filter (fun x => !same x) }).count .rqDropReasm 0 1)

/-- What is done to one stream a SEAL names: an empty open page is dropped, one that holds rows starts its seal. -/
def sealOne (slot a : Nat) (q : State) (ix : Nat) : State :=
  let d := q.store.stream a ix
  if d.openv then
    if (q.store.header d.openPage).rows = 0 then q.dropPage a ix d.openPage else q.sealStart a ix d.openPage (some slot)
  else q

/-- APPEND, SEAL, HINT, CLOSE_CONV and PROMOTE at their turn, past the lookup, change their conversation as their
rules say, or end with BAD_RANGE or BUSY (R33, R147, R151, R221, R226, R229, R282, R283, R31, R39, R469, R133). -/
def Obligations.RequestsOnConversations : Prop :=
  ∀ (s q : State) (slot a : Nat) (r : Root),
    let x := q.slot slot
    let h := (s.slot slot).hdr
    let b := bodyOf h (s.slot slot).body
    (s.enter slot kAppend (ownStream h) = .go q a r →
      let rows := bodyOf x.hdr x.body
      let pos := numAt rows 0 3
      let n := byteAt rows 3 + 1
      let ix := Store.streamIx r x.hdr.layer x.hdr.kvh
      let g : Staged := { root := a, ix := ix, pos := pos, n := n, tent := x.hdr.flag flagTentative }
      (q.appendBad x.hdr r (q.store.stream a ix) pos n = true →
        exec (.append slot) s = .next (q.finish slot stBadRange [] .plain)) ∧
      (q.appendBad x.hdr r (q.store.stream a ix) pos n = false → ∀ p : Nat,
        q.listStale (if (q.store.stream a ix).openv then [(q.store.stream a ix).openPage] else []) = some p →
        exec (.append slot) s = .next ((q.staleUse p).finish slot stBusy [] .plain)) ∧
      ∀ (u v : State) (g' : Staged), q.appendBad x.hdr r (q.store.stream a ix) pos n = false →
        q.listStale (if (q.store.stream a ix).openv then [(q.store.stream a ix).openPage] else []) = none →
        q.needsAside r (q.store.stream a ix) g.tent n = false →
        stageRows (2 * n + 2) q r g (bodyRows rows r.kvfmt r.dim n) = .ok (u, g') → (u.beginWait slot r.ctx).sendParts slot r g' g'.parts = some v →
        exec (.append slot) s = .next (v.updSlot slot (fun y => { y with prog := .staged g' }))) ∧
    (s.enter slot kSeal (fun r ix => ((streamSet h b r).getD []).contains ix) = .go q a r →
      (streamSet h b r = none → exec (.seal slot) s = .next (q.finish slot stBadRange [] .plain)) ∧
      ∀ set : List Nat, streamSet h b r = some set →
        let tent := set.any (fun ix => (q.store.stream a ix).openv && decide (0 < (q.store.stream a ix).tent))
        let ls := q.listStale ((set.filter (fun ix => (q.store.stream a ix).openv)).map (fun ix => (q.store.stream a ix).openPage))
        let u := set.foldl (sealOne slot a) q
        (tent = true → exec (.seal slot) s = .next (q.finish slot stBadRange [] .plain)) ∧
        (tent = false → ∀ p : Nat, ls = some p → exec (.seal slot) s = .next ((q.staleUse p).finish slot stBusy [] .plain)) ∧
        (tent = false → ls = none → r.group = false → exec (.seal slot) s = .next (u.finish slot stDone [] .plain)) ∧
        (tent = false → ls = none → r.group = true → exec (.seal slot) s = .next (((u.updStore (fun st => set.foldl (fun (t : Store) ix =>
          t.updStream a ix (fun d => { d with closed := true })) st)).mirrorRecord (some slot) a).finish slot stDone [] .plain))) ∧
    (s.enter slot kHint (fun _ _ => false) = .go q a r →
      let code := fieldOf (byteAt b 0) 1 0
      let m := q.mirrorChange (some slot) r.ctx r.conv 0 0 { op := opMstate, grp := r.group, arg := 3, arg2 := code } []
      (q.listStale (q.hintPages a r) = none →
        exec (.hint slot) s = .next ((m.setHint a r (Store.hintOf code)).finish slot stDone [] .plain)) ∧
      ∀ p : Nat, q.listStale (q.hintPages a r) = some p →
        exec (.hint slot) s = .next ((q.staleUse p).finish slot stBusy [] .plain)) ∧
    (s.enter slot kCloseConv (fun _ _ => true) = .go q a r → q.attending a = false →
      exec (.closeConv slot) s = .next ((((q.shadowRelay a x.hdr x.body).closeConv (some slot) a r).dropLost x.hdr.ctx
        x.hdr.conv).finish slot stDone [] .plain).resumeInserts) ∧
    (s.enter slot kPromote (fun _ _ => false) = .go q a r → streamSet h b r = none →
      exec (.promote slot) s = .next (q.finish slot stBadRange [] .plain)) ∧
    (s.enter slot kPromote (fun _ _ => false) = .go q a r → ∀ set : List Nat, streamSet h b r = some set →
      let ps := set.flatMap (fun ix => (q.store.allPages a ix).map (fun e => e.2.page))
      let deep := q.siltOf ps
      (ps.any Store.isGap = true → exec (.promote slot) s =
        .next ((q.count .rsCntGapbusy 0 1).finish slot stBusy [] .plain)) ∧
      (ps.any Store.isGap = false → ∀ p : Nat, q.listStale ps = some p →
        exec (.promote slot) s = .next ((q.staleUse p).finish slot stBusy [] .plain)) ∧
      (ps.any Store.isGap = false → q.listStale ps = none → deep = [] → exec (.promote slot) s = .next (q.finish slot stDone [] .plain)) ∧
      (ps.any Store.isGap = false → q.listStale ps = none → deep ≠ [] → exec (.promote slot) s =
        .next ((deep.foldl (fun t p => (t.promotePage p 3 none false).1)
          ((q.updSlot slot (fun y => { y with
            prog := .promote deep, stall := q.hubUnits, limit := q.stallLimit deep, stalled := true, units := (0, 0, 0)
            stallCh := (q.store.pent (deep.headD 0)).silt % 16 })).count .stCntStalled ((q.store.pent (deep.headD 0)).silt % 16) 1)).pumpSilt.siltWaiters)))

/-- A completed request answers with its status, and a request whose changes the partner has yet to confirm waits
with it (R272, R276, R281, R291, R469, R254). -/
def Obligations.RequestsCompleteOrWait : Prop :=
  (∀ (s : State) (n status : Nat) (body : Bytes), let t := s.complete n status body
    (t.slot n).state = .respond ∧ (t.slot n).formed = true ∧ (t.slot n).resp = (if status = 0 then body else []) ∧
    (t.slot n).respHdr.status = status ∧ (t.slot n).respHdr.kind = (s.slot n).hdr.kind + 0x20 ∧
    (t.slot n).respHdr.origin = (s.slot n).hdr.origin ∧ (t.slot n).respHdr.seq = (s.slot n).hdr.seq ∧
    (∀ m, m ≠ n → t.slot m = s.slot m) ∧ t.store = s.store) ∧
  (∀ (s : State) (n status : Nat) (body : Bytes) (fin : Finish), (s.slot n).waits ≠ 0 →
    s.finish n status body fin = s.updSlot n (fun x => { x with prog := .confirm status body fin })) ∧
  ∀ (s₀ : State) (n : Nat), s₀.atTurn n kOpenConv = true →
    let s := s₀.senseFor n
    let x := s.slot n
    let q := openReq x.body
    let ends (t : State) : Prop := exec (.openConv n) s₀ = .next t.resumeInserts
    (s.metaStalls x = true → exec (.openConv n) s₀ = .next s) ∧
    (s.metaStalls x = false →
    (s.isLost x.hdr.ctx x.hdr.conv = true → ends ((s.count .rsCntLost 0 1).complete n stLost [])) ∧
    (s.isLost x.hdr.ctx x.hdr.conv = false →
      (∀ st, s.openCheck x.hdr q = some st → ends (s.complete n st [])) ∧
      (s.openCheck x.hdr q = none → q.join = 0 → ends (s.openInsert n q none)) ∧
      (s.openCheck x.hdr q = none → q.join ≠ 0 →
        (∀ u, s.findGroup n x.hdr q = (u, .miss) → ends (u.complete n stNoConv [])) ∧
        (∀ u, s.findGroup n x.hdr q = (u, .stall) → ends u) ∧
        (∀ u g, s.findGroup n x.hdr q = (u, .record g) →
          (∀ st, u.joinCheck g q = some st → ends (u.complete n st [])) ∧
          (u.joinCheck g q = none → ends (u.openInsert n q (some g)))))))

/-- A checked OPEN_CONV with no pattern inserts a pending CAM entry and makes the record; its confirmation clears
PEND, its failure undoes both (R243, R244, R250, R281). -/
def Obligations.OpenConvMakesEntryAndRecord : Prop :=
  (∀ (s u v : State) (n i a tab : Nat) (st : Store), let x := s.slot n
    let q := openReq x.body
    let r : Root := { conv := x.hdr.conv, ctx := x.hdr.ctx, group := x.hdr.flag flagGroup, kvfmt := q.kvfmt, dim := q.dim,
                      layers := q.layers, kvhs := q.kvhs, headSet := q.headSet, firstPage := q.firstPage,
                      pageLimit := q.pageLimit, groupLedger := 0, originNode := u.node }
    q.pats = [] → s.camSearch (searchSlot n) (reqKey x.hdr) 0 0 = (u, .miss) → u.cam.freeRow u.ordRuns u.camTotal = some i →
    u.store.makeRecord (u.ctxPcs x.hdr.ctx) r = some (st, a) → st.root a = some { r with streamTab := tab } →
    let w := s.openInsert n q none
    let e : CamEntry := ⟨reqKey x.hdr, allCare, assoc a (u.sliceOf x.hdr.ctx) true false false⟩
    let made : State := { u with
      store := (List.range (Store.nstreams r)).foldl (fun (t : Store) k => t.setStream a k
        { length := q.firstPage * tokensPerPage q.kvfmt, basepos := q.firstPage * tokensPerPage q.kvfmt }) st
      cam := u.cam.put i e }
    (made.count .lcCntInsert 0 1).mirrorSend r.ctx r.conv 0 0 { op := opMopen, grp := r.group }
      ((made.count .lcCntInsert 0 1).store.recordBytes a { r with streamTab := tab }) (.rows n 0) = some v →
    w = v.updSlot n (fun y => { y with waits := y.waits + 1, prog := .confirm stDone [] (.openConv a) })) ∧
  (∀ (c : Cam) (i : Nat) (e : CamEntry), (c.put i e).row i =
      ⟨true, e.value, e.care, true, e.value, e.care, e.data, rankOf e.care, false⟩ ∧
    ∀ j, j ≠ i → (c.put i e).row j = c.row j) ∧
  ∀ (s : State) (n a : Nat) (x : Slot), s.slot n = x → x.prog = .confirm stDone [] (.openConv a) → x.failed = false →
    s.slotConfirmed n = (s.clearPend a).complete n stDone []

/-- ATTEND at its turn checks its head, layer, formats and length, takes its snapshot and goes on to scoring; a gap
among the visible pages is BUSY (R40, R107, R126, R278, R467). -/
def Obligations.AttendTakesItsSnapshot : Prop :=
  ∀ (s q : State) (slot a : Nat) (r : Root), s.enter slot kAttend (fun _ _ => false) = .go q a r →
    let x := q.slot slot
    let y := q.attReq slot
    let ix := Store.streamIx r x.hdr.layer x.hdr.kvh
    let snap := (q.store.allPages a ix).map (fun e => q.snapPage y x.snaplen e.2)
    let gaps := snap.any (fun p => Store.isGap p.page && decide (0 < p.visible))
    let held : Prop := x.hdr.kvh < 32 ∧ r.headSet.testBit x.hdr.kvh = true ∧ x.hdr.layer < r.layers
    let sized : Prop := ownTotal x.hdr = 32 + y.g * dimOf r.dim * Weir.qWidth y.qfmt ∧ y.sinks ≤ 4096 ∧ y.topk ≤ 4096
    (¬ held → exec (.attend slot) s = .next (q.finish slot stBadRange [] .plain)) ∧
    (held → Weir.formatOk y.qfmt r.kvfmt = false → exec (.attend slot) s = .next (q.finish slot stFormat [] .plain)) ∧
    (held → Weir.formatOk y.qfmt r.kvfmt = true →
      (¬ sized → exec (.attend slot) s = .next (q.finish slot stBadRange [] .plain)) ∧
      (sized → gaps = true → exec (.attend slot) s = .next ((q.count .rsCntGapbusy 0 1).finish slot stBusy [] .plain)) ∧
      (∀ p, sized → gaps = false → snap.find? (fun p => decide (0 < p.visible) && !q.store.valid p.page) = some p →
        exec (.attend slot) s = .next ((q.staleUse p.page).finish slot stBusy [] .plain)) ∧
      (sized → gaps = false → snap.any (fun p => decide (0 < p.visible) && !q.store.valid p.page) = false → ∃ u : State, u.regs = q.regs ∧ u.cam = q.cam ∧ u.store.dram = q.store.dram ∧
        (u.slot slot).taken = true ∧ (u.slot slot).hdr = x.hdr ∧ (u.slot slot).body = x.body ∧
        (u.slot slot).snaplen = some (x.snaplen.getD (q.store.stream a ix).length) ∧
        exec (.attend slot) s = .next (u.toScoring slot
          { root := a, ix := ix, raEn := q.rbit .hubRetCfg 0 0, raMax := q.rfld .hubRetCfg 0 8 1,
            round := q.rfld .hubRetCfg 0 17 9, snap := snap
            snaplen := x.snaplen.getD (q.store.stream a ix).length })))

/-- Scoring: a round has at most ROUND pages, one per core, SCORE gives its pages their bounds, and when all are
scored the TOPK best and the pinned are selected (R104, R105, R108, R110, R111, R118, R120, R129, R229). -/
def Obligations.AttendScoresAndSelects : Prop :=
  (∀ (s : State) (n : Nat) (a : Att), ((s.attReq n).topk = 0 → s.toScoring n a =
      (s.count .hubRetCntDense 0 1).selected n a ((State.candidates a).map (·.page))) ∧
    ((s.attReq n).topk ≠ 0 → (State.unpinned a).length ≤ (s.attReq n).topk → ∃ u : State, u.store = s.store ∧ u.slots = s.slots ∧
      u.regs = s.regs ∧ s.toScoring n a = u.selected n a ((State.candidates a).map (·.page)))) ∧
  (∀ (s : State) (a : Att), (s.nextRound a).length ≤ a.round ∧ ((s.nextRound a).map s.coreOf).Nodup ∧
    ∀ p ∈ s.nextRound a, ∃ x ∈ State.unpinned a, x.page = p ∧ State.scored x = false) ∧
  (∀ a : Att, (State.ranking a).Perm ((State.unpinned a).filter State.scored)) ∧
  (∀ (s : State) (slot p : Nat) (a : Att) (j : VJob), s.att? slot = some a → a.stage = .scoring → a.turn = [p] →
    s.restore? p = none → s.scoreJob slot p = some j → j.page = p →
    let y := s.attReq slot
    let dim := (s.attRoot a).dim
    let r := s.sense (pagePc p) [(s.store.summaryAddr p dim, summaryBytes dim)]
    (∀ c, (s.vendor c).turn = false) →
    (s.vendorGets j.core {} = false → exec (.score slot []) s = .next (s.vendorWait j.core {})) ∧
    (s.vendorGets j.core {} = true → r.2 = true → exec (.score slot []) s = .next (r.1.vendorUe j {} p)) ∧
    (s.vendorGets j.core {} = true → (s.vendor j.core).due = [] → (s.core j.core).pc < 1024 → r.2 = false → Weir.queryOk y (dimOf dim) = true → Weir.sigmaOk y.sigma = true → (s.vendor j.core).queue = [j] →
      s.sluice.vjobs.any (fun x => x.core == j.core) = false → (∀ b, (s.core j.core).burst = some b → b.granted = false) →
      ∃ t b, exec (.score slot []) s = .next t ∧ t.att? slot = some b ∧ b.stage = .scoring ∧ b.turn = a.turn ∧
        b.snap = a.snap.map (fun x => if x.page = p then { x with bounds := Weir.bounds y (dimOf dim) (s.store.summary p dim) }
          else x) ∧ t.store = { s.store with errs := t.store.errs } ∧ t.regs = s.regs ∧ ∀ n, n ≠ slot → t.slot n = s.slot n)) ∧
  (∀ (s : State) (slot : Nat) (a : Att), s.att? slot = some a → a.stage = .scoring → a.turn ≠ [] →
    a.turn.all (fun p => a.snap.any (fun x => x.page == p && State.scored x)) = true →
    let q := s.raTurn slot
    (a.raEn = false → q = s.setAtt slot { a with prov := ((State.ranking a).take (s.attReq slot).topk).map (·.page) }) ∧
    ∀ b, q.att? slot = some b → exec (.scoringRoundDone slot) s =
      .next (if (State.unpinned b).all State.scored then q.selectTop slot b else (q.startRound slot b).pumpSilt)) ∧
  ∀ (s : State) (slot p : Nat) (ps rest : List Nat), (s.slot slot).state = .active → (s.slot slot).stalled = true →
    (s.slot slot).stall + (s.slot slot).limit ≤ s.hubUnits → s.siltOf ps = p :: rest →
    ((s.slot slot).prog = .promote ps ∨ ∃ a, (s.slot slot).prog = .attend a ∧ a.stage = .silt ∧ a.chosen = ps) →
    exec (.stallLimitExpiry slot) s =
      .next (((((s.noteChan slot (p :: rest)).settleStall slot).count .stCntDeepunav ((s.store.pent p).silt % 16) 1).finish
        slot stDeep [] .plain))

/-- INTAKE opens, continues or refuses a lane; a lane whose last descriptor has come emits its records; a stale GEN
faults, and a bad read restores the page (R78, R79, R91, R92, R94, R95, R99). -/
def Obligations.PipesTakeAndEmit : Prop :=
  (∀ (s : State) (k : Nat) (b : Bytes) (rest : List Bytes), (s.pipe k).queue = b :: rest →
    let x := s.pipe k
    let part := fieldOf (numAt b 0 4) 27 18
    let last := (numAt b 0 4).testBit 29
    let took (lanes : List (Option Lane)) : State :=
      ((s.setPipe k { queue := rest, lanes := lanes }).count .wpCntDesc k 1).pushPipe k
    let refused : State := (s.setPipe k { x with queue := rest }).wpFault k 1 (State.descSlot b)
    (descFieldsOk b = false → exec (.pipeDescriptor k) s = .next refused) ∧
    (descFieldsOk b = true → State.descFirst b = true →
      (∀ i, x.lanes.findIdx? (·.isNone) = some i → exec (.pipeDescriptor k) s =
        .next (took (setAt x.lanes i (some { slot := State.descSlot b, part := part, descs := [b], last := last })))) ∧
      (x.lanes.findIdx? (·.isNone) = none → exec (.pipeDescriptor k) s = .next refused)) ∧
    (descFieldsOk b = true → State.descFirst b = false →
      (laneOf x (State.descSlot b) = none → exec (.pipeDescriptor k) s = .next refused) ∧
      ∀ i l, laneOf x (State.descSlot b) = some (i, l) →
        (part = (l.part + 1) % 1024 → descShape b = descShape (l.descs.headD []) → exec (.pipeDescriptor k) s =
          .next (took (setAt x.lanes i (some { l with part := part, descs := l.descs ++ [b], last := last })))) ∧
        (part ≠ (l.part + 1) % 1024 → exec (.pipeDescriptor k) s = .next refused))) ∧
  (∀ (s : State) (k lane : Nat) (st : PipeStalls) (l : Lane), getAt none (s.pipe k).lanes lane = some l → l.last = true →
    let b := l.descs.headD []
    let es := l.descs.flatMap descEntries
    let w := (((s.count .wpStallData k st.data).count .wpStallRefresh k st.refresh).count .wpStallBank k st.bank).count
      .wpStallEmit k st.emit
    let look (u : State) (e : Nat × Nat × Nat × Nat) : State × Bool := u.sense k (rowRegions e.1 (descKv b) (descDim b) e.2.2.1)
    let old (e : Nat × Nat × Nat × Nat) : Bool := (s.store.frame k e.1).gen % 256 != e.2.2.2
    let ends := es.find? (fun e => old e || (look s e).2)
    (∀ e, ends = some e →
      let before := es.takeWhile (fun x => x.1 != e.1)
      let u := before.foldl (fun q x => (look q x).1) w
      (old e = true → exec (.laneEmit k lane st) s =
        .next ((((u.closeLane k lane).countRead k (laneReq l) before).wpFault k 2 l.slot).pushPipe k)) ∧
      (old e = false → exec (.laneEmit k lane st) s = .next ((look u e).1.laneUe k lane e.1))) ∧
    (ends = none →
      let q := laneReq l
      let recs := Weir.laneRun s.fresh q (descKv b) (dimOf (descDim b))
        (es.map (fun e => Weir.readRows s.store (s.laneSlot k b e.1) k e.1 (descKv b) (descDim b) (Weir.visibleRows q e.2.1 e.2.2.1)))
      ∃ t, exec (.laneEmit k lane st) s = .next t ∧ t.store = { s.store with errs := t.store.errs } ∧ t.regs = s.regs ∧
        t.cam = s.cam ∧
        ∀ a i, s.att? l.slot = some a → activeChain a k = some i → ∃ b' e, t.att? l.slot = some b' ∧
          b'.got = a.got ++ [e] ∧ e.pipe = k ∧ e.recs = recs ∧ e.trailer.slot = l.slot ∧ e.trailer.status = 0 ∧
          e.trailer.pages = es.length ∧ e.trailer.pc = k % 64 ∧ e.trailer.stack = k / 64 ∧ b'.stage = a.stage)) ∧
  ∀ (s : State) (k lane addr : Nat) (l : Lane) (e : Nat × Nat × Nat × Nat), getAt none (s.pipe k).lanes lane = some l →
    l.descs.flatMap descEntries = [e] → frameAddr e.1 ≤ addr → addr < frameAddr e.1 + 0x4000 →
    exec (.pipeReadUe k lane addr) s =
      .next (((s.updStore (fun st => st.markBad (gaddr k addr / 32) true)).countUe k 1).laneUe k lane e.1)

/-- When every pipe has emitted, the partials are merged and answered, or kept for the assay, whose comparison only
reports and never changes the answer (R45, R113, R472, R473, R476). -/
def Obligations.MergeAndAssay : Prop :=
  ∀ (s : State) (slot : Nat) (a : Att), s.att? slot = some a →
    (a.stage = .pipes → State.allEmitted a 0 = true →
      let r := s.attBody slot a (s.mergeOf slot a 0)
      let u := (r.1.tick).keepSample slot a (s.mergeOf slot a 0) r.2
      (a.assay = false → exec (.mergePartials slot) s = .next (u.finish slot stDone r.2 .plain)) ∧
      (a.assay = true → ∃ t, exec (.mergePartials slot) s = .next t ∧
        t.att? slot = some { a with stage := .assay, merged := s.mergeOf slot a 0, body := r.2 } ∧ t.store = s.store)) ∧
    (a.stage = .assay → State.allEmitted a 1 = true →
      let root := s.attRoot a
      let es := State.emitted a 0 ++ State.emitted a 1
      let c := Weir.compare (dimOf root.dim) (Weir.hAcc root.kvfmt (State.mostPages a)) (s.attReq slot).obf16
        (s.attReq slot).sigma (State.maxRecorded (es.map (·.trailer.a))) (State.maxRecorded (es.map (·.trailer.vmax)))
        a.merged (s.mergeOf slot a 1)
      (c = none → exec (.assayCompare slot) s =
        .next (((s.tick.count .rsCntAssay 0 1).dropCopies a.frames).finish slot stDone a.body .plain)) ∧
      (∀ m, c = some m → ∃ u : State, u.slots = s.slots ∧ u.store = s.store ∧ u.cam = s.cam ∧
        (s.rel.mis.length < 256 → u.rel.mis.length = s.rel.mis.length + 1) ∧ exec (.assayCompare slot) s =
        .next (((u.count .rsCntAssay 0 1).dropCopies a.frames).finish slot stDone a.body .plain)))

/-- A formed response leaves its slot, a relayed request is answered to its slot and sent again when it is late, and
the rebalancer moves CAM entries (R258, R289, R291, R299, R301, R463). -/
def Obligations.ResponsesAndOwnRequests : Prop :=
  (∀ (s : State) (slot : Nat), let x := s.slot slot
    x.state = .respond → x.formed = true → x.sent = 0 →
    (∀ v, x.src = .aperture v → exec (.responseSend slot) s =
      .next ((s.updSlot slot (fun y => { y with sent := 1 })).sendResponse x.src x.respHdr x.resp (some slot))) ∧
    (∀ c, x.src = .conn c → exec (.responseSend slot) s =
      .next ((((s.updSlot slot (fun y => { y with sent := carriersOf x.resp.length })).count .rqCntResp 0 1).sendResponse x.src
        x.respHdr x.resp (some slot)).relaySample x.hdr))) ∧
  (∀ (s : State) (conn : Nat) (hdr : Hdr) (body : Bytes) (o : OwnReq), s.ownFor conn hdr = some o → o.shadow = none →
    (s.slot o.slot).state = .forwarded → s.rel.svc ≠ .out → ∃ t, exec (.relayedResponse conn hdr body) s = .next t ∧
      (t.slot o.slot).state = .respond ∧ (t.slot o.slot).formed = true ∧ (t.slot o.slot).respHdr.status = hdr.status ∧
      (t.slot o.slot).resp = (if hdr.status = 0 ∧ hdr.kind ≠ kEcho then body else []) ∧ t.store = s.store ∧
      ∀ n, n ≠ o.slot → t.slot n = s.slot n) ∧
  (∀ (s : State) (conn : Nat) (hdr : Hdr) (body : Bytes) (o : OwnReq), s.ownFor conn hdr = some o → s.rel.svc = .out →
    exec (.relayedResponse conn hdr body) s = .next (s.count .rsDropOut 0 1)) ∧
  (∀ (s : State) (i : Nat) (m : SentMarker), s.sentMarkers[i]? = some m → m.since + s.e2e m.furrow ≤ s.hubUnits →
    (s.conn m.conn).state = .opn → s.rel.svc ≠ .out → s.rel.svc ≠ .withdrawing →
    exec (.ownRequestResend (s.own.length + i)) s = .next (({ s with sentMarkers :=
        (setAt s.sentMarkers i { m with furrow := s.connFurrow m.conn, since := s.hubUnits }) } : State).sendCarrier m.conn none true none s.markerHdr
      (markerBody m.mtype m.arg))) ∧
  (∀ (s : State) (i k : Nat) (o : OwnReq) (d : Dest), s.own[i]? = some o → o.sent = true →
    o.since + s.e2e o.furrow ≤ s.hubUnits → s.peerConn o.hdr.ctx o.dest = some k → s.dest? o.dest = some d →
    let h : Hdr := { o.hdr with origin := s.node, epoch := s.img.epoch }
    ∃ t, exec (.ownRequestResend i) s = .next t ∧ t = { s.sendPayload k (some 3) none h o.body with own := t.own } ∧
      (t.own[i]?.map (·.hdr) = some h ∧ t.own[i]?.map (·.since) = some s.hubUnits)) ∧
  ∀ (s : State) (run : Nat), s.cam.rebuild = false → s.cam.fullRun s.ordRuns = some run →
    let c := s.cam.rebalance s.ordRuns run
    exec .rebalance s = .next (({ s with cam := c.1 } : State).count .lcCntMoves 0 c.2).resumeInserts

/-- The commands of the remote memory engine for one request, with the kind, OP and action each stands for. -/
def rmaCommands (c : Nat) (h : Hdr) (b : Bytes) : List (Instr × Nat × Nat × Option Nat) :=
  [(.mopen c h b, kRmaWrite, State.opMopen, none), (.mrows c h b, kRmaWrite, State.opMrows, none),
   (.mstateCommit c h b, kRmaWrite, State.opMstate, some 1), (.mstateSeal c h b, kRmaWrite, State.opMstate, some 2),
   (.mstateHint c h b, kRmaWrite, State.opMstate, some 3), (.mstateClose c h b, kRmaWrite, State.opMstate, some 4),
   (.mstateFreePage c h b, kRmaWrite, State.opMstate, some 5), (.mstateReleaseCopy c h b, kRmaWrite, State.opMstate, some 6),
   (.mpage c h b, kRmaWrite, State.opMpage, none), (.code c h b, kRmaWrite, State.opCode, none),
   (.put c h b, kRmaWrite, State.opPut, none), (.lookup c h b, kRmaRead, State.opLookup, none),
   (.get c h b, kRmaRead, State.opGet, none), (.ledger c h b, kRmaRead, State.opLedger, none)]

/-- An RMA request at RNEXT is performed and answered once; ahead of it, it is held; a repeated write is echoed; a
copy, an old or a far one dropped (R330, R462). -/
def Obligations.RmaRequestsInOrder : Prop :=
  ∀ (s : State) (c : Nat) (h : Hdr) (b : Bytes), ∀ x ∈ rmaCommands c h b, isOp h b x.2.1 x.2.2.1 x.2.2.2 = true →
    let k := s.conn c
    let f := s.connFurrow c
    let kept : State := s.setConn c { k with held := k.held ++ [{ hdr := h, body := b, since := s.hubUnits }] }
    ((s.rel.svc = .withdrawing ∨ s.rel.svc = .out) → exec x.1 s = .next (s.count .rsDropOut 0 1)) ∧
    (s.rel.svc ≠ .withdrawing → s.rel.svc ≠ .out → k.state = .opn →
      (k.rnext ≤ h.seq + 1024 → h.seq < k.rnext + 1024 → k.window.find? (fun e => e.seq == h.seq) = none →
        k.held.any (fun e => e.hdr.seq == h.seq) = false →
        (h.seq = k.rnext → k.waiting.contains k.rnext = false →
          (∀ w, kept.rmaWaits c h (RmaDesc.ofBytes b) = (w, true) → exec x.1 s = .next w) ∧
          (∀ w t st r, kept.rmaWaits c h (RmaDesc.ofBytes b) = (w, false) → w.serve c h b = (t, some (st, r)) →
            exec x.1 s = .next (State.rmaRun 1024 c ((t.rmaResolve c h st r).rmaAnswer c h st r))) ∧
          (∀ w t, kept.rmaWaits c h (RmaDesc.ofBytes b) = (w, false) → w.serve c h b = (t, none) →
            exec x.1 s = .next (t.updConn c (fun k => { k with waiting := k.waiting ++ [h.seq] })))) ∧
        (h.seq ≠ k.rnext → k.held.any (fun e => e.hdr.seq == k.rnext) = false → exec x.1 s = .next kept)) ∧
      (∀ e, k.rnext ≤ h.seq + 1024 → h.seq < k.rnext + 1024 → k.window.find? (fun e => e.seq == h.seq) = some e →
        e.kind = kRmaWrite → exec x.1 s = .next ((s.rmaAnswer c h e.status e.body).count .fuRmaEcho f 1)) ∧
      (k.rnext ≤ h.seq + 1024 → h.seq < k.rnext + 1024 → k.window.find? (fun e => e.seq == h.seq) = none →
        k.held.any (fun e => e.hdr.seq == h.seq) = true → exec x.1 s = .next (s.count .fuRmaDup f 1)) ∧
      (h.seq + 1024 < k.rnext → exec x.1 s = .next (s.count .fuRmaOld f 1)) ∧
      (k.rnext + 1024 ≤ h.seq → exec x.1 s = .next (s.count .fuRmaAhead f 1)))

/-- What each RMA operation does once it is performed: rights, references, and its effect on copies, pages, hints,
seals, parity and records (R22, R133, R172, R174, R327, R328, R329, R332, R466, Table 10-9). -/
def Obligations.RmaOperationsServe : Prop :=
  ∀ (s : State) (c a : Nat) (h : Hdr) (body : Bytes) (r : Root),
    let d := RmaDesc.ofBytes body
    let b := body.drop 32
    let bad : State × Option (Nat × Bytes) := (s, some (stBadRange, []))
    ((s.connCtx c).any (fun x => decide ((s.ctx x).state ≠ .opn)) = true → s.serve c h body = (s, some (stCtxClosed, []))) ∧
    ((s.connCtx c).any (fun x => decide ((s.ctx x).state ≠ .opn)) = false →
    (s.hasRight c h d = false → s.serve c h body = (s.count .fuRmaRights (s.connFurrow c) 1, some (stBadRange, []))) ∧
    (s.hasRight c h d = true → State.formOk h d = false → s.serve c h body = bad) ∧
    (s.hasRight c h d = true → State.formOk h d = true → s.targetRecord c h d = some (a, r) →
      let gone : State × Option (Nat × Bytes) := ((s.staleUse d.page).count .fuRmaStale (s.connFurrow c) 1, some (stBadRange, []))
      let fits : Bool := decide (b.length = extentBytes (r.dim == 2) + (if r.dim = 2 then 2 else 1) * 0x7C0)
      let whole : Prop := d.form ≠ State.formRef ∨ ∃ ix, s.refMeets a r d = .page ix
      (h.kind = kRmaRead → d.op = State.opLookup → ∀ ix, State.targetStream r h = some ix →
        (∀ p, s.asideAt a ix d.firstpos = some p → s.serve c h body = (s, some (stDone, s.pageRef p))) ∧
        ∀ e, s.asideAt a ix d.firstpos = none →
        State.pageHolding (s.store.stream a ix) (tokensPerPage r.kvfmt) d.firstpos = some e → Store.isGap e.page = false →
        (s.store.valid e.page = true → s.serve c h body = (s, some (stDone, s.pageRef e.page))) ∧
        (s.store.valid e.page = false → s.serve c h body = (s.staleUse e.page, some (stBadRange, [])))) ∧
      (h.kind = kRmaRead → d.op = State.opLedger →
        s.serve c h body = (s, some (stDone, s.store.recordBytes a r))) ∧
      (h.kind = kRmaRead → d.op = State.opGet → d.form = State.formRef →
        (s.refMeets a r d = .stale → s.serve c h body = gone) ∧ (s.refMeets a r d = .bad → s.serve c h body = bad) ∧
        (∀ ix, s.refMeets a r d = .page ix →
          ((s.store.pent d.page).tier ≠ .silt → let q := s.sensePage d.page
            (q.2 = false → s.serve c h body = (q.1, some (stDone, q.1.pageRef d.page ++ q.1.pagePayload d.page))) ∧
            (q.2 = true → s.serve c h body = (q.1, some (stBusy, [])))) ∧
          ((s.store.pent d.page).tier = .silt → s.serve c h body = (s.queueRead d.page (.rma c h), none)))) ∧
      (h.kind = kRmaWrite → d.op = State.opMrows → d.form = State.formRef → ∀ ix, State.targetStream r h = some ix →
        let n := fieldOf (numAt b 0 4) 31 24 + 1
        let x := s.store.header d.page
        let rows := State.bodyRows b r.kvfmt r.dim n
        b.length = State.appendLen r.kvfmt r.dim n → s.refMeets a r d = .page ix → s.store.inDram d.page = true →
        ((fieldOf (numAt b 0 4) 23 0 = x.firstpos + x.rows ∧ x.rows + n ≤ tokensPerPage r.kvfmt) →
          (s.rowsFail d.page r.kvfmt r.dim x.rows n = false → ∃ t,
            t = s.copyRows r a ix d.page rows (d.arg.testBit 0) (s.asideOf a ix == some d.page) ∧
            s.serve c h body = (t, some (stDone, t.pageRef d.page))) ∧
          (s.rowsFail d.page r.kvfmt r.dim x.rows n = true →
            s.serve c h body = ((s.putRows d.page r.kvfmt r.dim x.rows rows).startRestore d.page, some (stBusy, [])))) ∧
        (fieldOf (numAt b 0 4) 23 0 ≠ x.firstpos + x.rows → s.serve c h body = bad)) ∧
      (h.kind = kRmaWrite → (d.op = State.opMpage ∨ d.op = State.opPut) → d.form = State.formRef → fits = true → ∀ ix,
        State.targetStream r h = some ix → (s.refMeets a r d = .stale → s.serve c h body = gone) ∧
        (s.refMeets a r d = .page ix →
          (∀ u, s.parityNear d.page = some u → ∃ t, t = u.fillPage a ix d.page (fieldOf d.arg 7 0) b ∧
            s.serve c h body = (t, some (stDone, t.pageRef d.page))) ∧
          (s.parityNear d.page = none → s.serve c h body = (s, some (stBusy, []))))) ∧
      (h.kind = kRmaWrite → d.op = State.opMstate →
        (d.form = State.formRef → s.refMeets a r d = .stale → 1 ≤ fieldOf d.arg 3 0 → fieldOf d.arg 3 0 ≤ 6 →
          s.serve c h body = gone) ∧
        (fieldOf d.arg 3 0 = 3 → whole → s.serve c h body =
          (s.updStore (fun st => st.updRoot a (fun y => { y with hint := Store.hintOf (d.arg2 % 4) })), some (stDone, []))) ∧
        (fieldOf d.arg 3 0 = 4 → whole → ∀ i, s.rowOf (if d.grp then kindMgroup else kindMconv) r.ctx r.conv = some i →
          s.serve c h body = (({ s with cam := s.cam.clear i }).updStore (fun st => st.freeRecord a), some (stDone, []))) ∧
        (d.form = State.formRef → ∀ ix, s.refMeets a r d = .page ix → s.asideOf a ix = none →
          (fieldOf d.arg 3 0 = 2 → s.store.inDram d.page = true → let q := s.senseCopy d.page
            (q.2 = true → s.serve c h body = (q.1.startRestore d.page, some (stBusy, []))) ∧
            (q.2 = false → q.1.copyTag d.page ≠ b.take 32 →
              s.serve c h body = (q.1.count .pgCntTagmis (pagePc d.page) 1, some (stDone, leBytes 16 0))) ∧
            (q.2 = false → q.1.copyTag d.page = b.take 32 → (q.1.writeSeal d.page (b.take 32)).2 = false →
              ∃ t, s.serve c h body = (t, some (stDone, leBytes 16 1)))) ∧
          (fieldOf d.arg 3 0 = 5 → s.serve c h body = (s.dropPage a ix d.page, some (stDone, []))) ∧
          (fieldOf d.arg 3 0 = 6 → s.serve c h body = ({ s with store := (s.store.updPageEnt a ix d.page (fun e =>
            { e with page := Store.gapMark (fieldOf d.arg2 34 32) (fieldOf d.arg2 31 0) })).freePage d.page },
            some (stDone, [])))))) ∧
    ∀ x : Nat, s.hasRight c h d = true → State.formOk h d = true → h.kind = kRmaWrite → d.op = State.opCode →
      s.connCtx c = some x →
      let sl := s.sliceRec (s.sliceOf x)
      let i := fieldOf d.arg 3 0
      let key := State.groupKey (fieldOf d.arg2 47 32) (fieldOf d.arg2 31 0)
      let g := s.store.group key
      sl.coded = true → sl.cidx = 9 → i < 8 → d.arg.testBit 4 = false → b.length = 0x4000 + 0x7C0 → g.live = true →
      s.store.closed.contains key = false →
      g.members.length = 8 → g.index = 9 → g.wide = false → (getAt {} g.members i : Member).filled = false →
      (getAt {} g.members i : Member).declared = false → (s.store.pent g.parity).tier = .near →
      (s.sensePage g.parity).2 = false → ∃ t, s.serve c h body = (t, some (stDone, [])) ∧
        t.store.dram = (s.store.writePayload g.parity (xorBytes (s.store.payload g.parity) (b.map (gfPow i)))).dram)

/-- A response to the module's own RMA request settles it once, a late one is counted, and a gap or an answer that
does not come in time fails the connection (R330, R331, R463). -/
def Obligations.RmaAnswersAndLimits : Prop :=
  (∀ (s : State) (c : Nat) (h : Hdr) (b : Bytes), ((s.conn c).state = .opn ∨ (s.conn c).state = .closing) →
    classOf h.kind = .rmaResponse →
    (s.rel.svc = .out → exec (.rmaResponse c h b) s = .next (s.count .rsDropOut 0 1)) ∧
    (∀ o, s.rel.svc ≠ .out → (s.conn c).outs.find? (fun o => o.seq == h.seq) = some o → exec (.rmaResponse c h b) s =
      .next ((s.setConn c { s.conn c with outs := (s.conn c).outs.filter (fun x => x.seq != h.seq) }).settle o (some h.status)
        b).resumeGrants) ∧
    (s.rel.svc ≠ .out → (s.conn c).outs.all (fun o => o.seq != h.seq) = true →
      exec (.rmaResponse c h b) s = .next (s.count .fuRmaLate (s.connFurrow c) 1).resumeGrants)) ∧
  (∀ (s : State) (c : Nat), (s.conn c).state = .opn → let k := s.conn c
    (k.held.any (fun x => x.hdr.seq == k.rnext) = false →
      (k.held.any (fun x => decide (x.since + s.e2e (s.connFurrow c) ≤ s.hubUnits)) = true →
        exec (.rmaGapExpiry c) s = .next (s.connFail c)) ∧
      (k.held.any (fun x => decide (x.since + s.e2e (s.connFurrow c) ≤ s.hubUnits)) = false →
        exec (.rmaGapExpiry c) s = .next s)) ∧
    (k.outs.any (fun o => decide (o.since + s.e2e (s.connFurrow c) ≤ s.hubUnits)) = true →
      exec (.rmaTimeout c) s = .next (s.connFail c))) ∧
  ∀ (s : State) (c : Nat), SMap.wf {} s.conns = true → (s.conn c).state = .opn → (s.conn c).outs = [] → s.rel.shadows = [] →
    ((s.connFail c).conn c).state = .failed ∧ (s.connFail c).store = s.store ∧
    ∀ j, j ≠ c → (s.connFail c).conn j = s.conn j

/-- Drain markers are held with what they wait for and return when it is answered; ORIGIN markers make and free an
origin's entry; ACTIVATE starts the activation (R302, R303, R304, R415, R463, R487, R488, R530). -/
def Obligations.MarkersHeldAndReturned : Prop :=
  (∀ (s : State) (c : Nat) (h : Hdr) (b : Bytes), (s.conn c).state = .opn → h.kind = kMarker → State.markerOk h b = true → s.rel.svc ≠ .out →
    (markerType b = mDrainEpoch → exec (.drainEpoch c h b) s = .next { s with held := s.held ++
      [{ src := .conn c, hdr := h, body := b, waits := s.unanswered (s.covers c), rma := [] }] }) ∧
    (markerType b = mDrainCtx → exec (.drainCtx c h b) s = .next { s with held := s.held ++
      [{ src := .conn c, hdr := h, body := b, waits := s.unanswered (fun k => s.connFurrow k == s.connFurrow c),
         rma := s.rmaUnanswered (fun k => s.connFurrow k == s.connFurrow c) }] }) ∧
    (markerType b = mActivate → let t := s.holdMarker (.conn c) h b (fun _ => false) false
      (s.rfld .fuCtrl (s.connFurrow c) 13 0 = c → s.firm.st = .armed → markerArg b = s.firm.armed → s.rel.cr = .none →
        s.rel.svc = .service → ∃ u, exec (.activate c h b) s = .next u ∧ u.firm.st = .activating ∧ u.firm.holding = true ∧
          u.firm.since = s.hubUnits ∧ u.held = t.held ∧ u.firm.armed = s.firm.armed ∧ u.slots = s.slots) ∧
      (s.firm.st ≠ .armed → exec (.activate c h b) s = .next (t.count .brCntActMiss 0 1)))) ∧
  (∀ (s : State) (i : Nat) (m : HeldMarker), s.held[i]? = some m →
    (s.markerReady m = false → exec (.markerReturn i) s = .next s) ∧
    (s.markerReady m = true → let u : State := { s with held := s.held.eraseIdx i }
      exec (.markerReturn i) s =
        .next ((if markerType m.body = mOriginClose then u.dropOrigin m.hdr.origin else u).returnMarker m))) ∧
  (∀ (s : State) (c : Nat) (h : Hdr) (b : Bytes), (s.conn c).state = .opn → h.kind = kMarker + 0x20 →
    let same : SentMarker → Bool := fun m => m.furrow == s.connFurrow c && m.mtype == markerType b && m.arg == markerArg b
    s.sentMarkers.any same = true → markerType b = mDrainEpoch → s.rel.svc ≠ .out →
    ∃ t, exec (.returnedMarker c h b) s = .next t ∧
      t.sentMarkers = s.sentMarkers.filter (fun m => !same m) ∧
      (markerArg b % 65536 = s.img.epoch → s.img.drain = 2 ^ s.connFurrow c → s.img.prevv = true →
        t.img.drain = 0 ∧ t.img.prevv = false ∧ t.img.fwdPrev = []) ∧ t.store = s.store ∧ t.slots = s.slots) ∧
  (∀ (s : State) (c : Nat) (h : Hdr) (b : Bytes), (s.conn c).state = .opn → s.rel.svc = .out →
    (h.kind = kMarker → markerType b = mDrainEpoch → exec (.drainEpoch c h b) s = .next (s.count .rsDropOut 0 1)) ∧
    (h.kind = kMarker → markerType b = mDrainCtx → exec (.drainCtx c h b) s = .next (s.count .rsDropOut 0 1)) ∧
    (h.kind = kMarker → markerType b = mActivate → exec (.activate c h b) s = .next (s.count .rsDropOut 0 1)) ∧
    (h.kind = kMarker + 0x20 → exec (.returnedMarker c h b) s = .next (s.count .rsDropOut 0 1))) ∧
  ∀ (s : State) (src : Src) (h : Hdr) (b : Bytes), h.kind = kMarker → State.markerOk h b = true → s.rel.svc ≠ .out →
    (markerType b = mOriginOpen → s.origin? h.origin = none → s.origins.length < 2048 → exec (.originOpen src h b) s =
      .next (({ s with origins := s.origins ++ [({ node := h.origin } : Origin)] } : State).returnMarker { src := src, hdr := h, body := b })) ∧
    (markerType b = mOriginClose → s.originBusy h.origin = false → exec (.originClose src h b) s =
      .next (({ s with origins := s.origins.filter (fun e => e.node != h.origin) }).returnMarker
        { src := src, hdr := h, body := b })) ∧
    (markerType b = mOriginClose → s.originBusy h.origin = true → (s.origin? h.origin).isSome = true →
      ∃ m, exec (.originClose src h b) s = .next { s with held := s.held ++ [m] } ∧ m.hdr = h ∧ m.body = b)

/-- Sinking, a finished program, a release, a finished read and a failed one move a page between DRAM and silt; a
channel that goes down keeps nothing queued (R215, R219, R220, R222, R223, R225, R230, R232, R236). -/
def Obligations.SiltMovesPages : Prop :=
  (∀ (s : State) (pc : Nat), exec (.sinkStart pc) s = .next ((s.hinted pc).pressure pc).pumpSilt ∧
    (s.pagesIn pc = [] → s.hinted pc = s) ∧
    (s.store.relieving.contains pc = false → s.lowWm pc ≤ s.store.freeFrames pc → s.frameWanted pc = false →
      s.store.releases.all s.releaseWanted = true → s.pressure pc = s)) ∧
  (∀ (s : State) (ch used spare i : Nat) (second : Bool) (j : ChanJob), s.startedJob ch true = some (i, j) → j.freed = false →
    let q := s.noteWear ch used spare
    (exec (.cellProgramDone ch true second used spare) s =
      .next (if spare = 0 then (q.programOk ch i j).chanDown ch else q.programOk ch i j).pumpSilt ∧
    exec (.cellProgramDone ch false second used spare) s =
      .next (if spare = 0 then (q.programFail ch i j second).chanDown ch else q.programFail ch i j second).pumpSilt) ∧
    (j.release = false → let u := q.programOk ch i j
      (u.store.pent j.page).tier = .both ∧ (u.store.pent j.page).silt = Store.siltAddr ch j.cell ∧
      (u.store.pent j.page).frame = (s.store.pent j.page).frame ∧ u.store.dram = s.store.dram ∧
      (u.store.cell (ch * 2 ^ 26 + j.cell)).page = (s.store.cell (ch * 2 ^ 26 + j.cell)).page ∧
      (u.store.cell (ch * 2 ^ 26 + j.cell)).state = .live) ∧
    let u := q.programFail ch i j second
    (u.store.cell (ch * 2 ^ 26 + j.cell + if second && j.wide then 1 else 0)).state = .retired ∧
      u.store.pmap = s.store.pmap ∧ u.store.dram = s.store.dram) ∧
  (∀ (s : State) (p : Nat), s.store.releases.contains p = true → s.store.valid p = true → (s.store.pent p).tier = .both →
    s.releaseBlocked p = false → s.releaseWanted p = true → (s.store.header p).pstate ≠ .sealed →
    s.store.sumcopied.all (fun x => x.1 != p) = true →
    ∃ u : State, exec (.frameRelease p) s = .next u.pumpSilt ∧
      u.store.pent p = { s.store.pent p with tier := .silt, frame := 0, sidx := 0 } ∧
      u.store.releases.contains p = false ∧ u.store.dram = s.store.dram ∧
      (SMap.wf {} s.store.cells = true → ∀ k, (u.store.cell k).state = (s.store.cell k).state)) ∧
  (∀ (s : State) (ch i : Nat) (bad bad2 : List Nat) (j : ChanJob), s.startedJob ch false = some (i, j) →
    let r := s.fixSectors ch bad (if j.wide then bad2 else [])
    (∀ second, r.2 = some second →
      (j.kind = .promote →
        exec (.promotionDone ch bad bad2) s = .next ((r.1.readFailed ch i j second).raNext j.ra).pumpSilt) ∧
      (j.kind = .read → exec (.cellReadDone ch bad bad2) s = .next (r.1.readFailed ch i j second).pumpSilt)) ∧
    (r.2 = none →
      (j.kind = .promote → exec (.promotionDone ch bad bad2) s =
        let u := if j.freed || r.1.trailerOk j.page then r.1.promoted ch i j
          else (r.1.stFault ch 2).readFailed ch i j false
        .next (u.raNext j.ra).pumpSilt) ∧
      (j.kind = .read → (j.freed = false ∨ j.reader = .remove) → exec (.cellReadDone ch bad bad2) s =
        .next ((r.1.dropJob ch i).serveReader j.page j.reader).pumpSilt)) ∧
    (j.freed = false → s.store.valid j.page = true → (s.store.pent j.page).tier = .silt → (s.store.pent j.page).frame = 0 →
      s.restore? j.page = none → ∃ v : State, s.promoted ch i j = v.siltWaiters ∧ (v.store.pent j.page).tier = .both ∧
        (v.store.pent j.page).frame = j.frame ∧ (v.store.pent j.page).silt = (s.store.pent j.page).silt) ∧
    ∀ second : Bool, exec (.cellReadFail ch second) s = .next ((s.readFailed ch i j second).raNext j.ra).pumpSilt ∧
      let k := ch * 2 ^ 26 + j.cell + if second && j.wide then 1 else 0
      (((s.store.cell k).state = .free ∨ (s.store.cell k).page = j.page) → j.freed = false → s.store.valid j.page = true →
        (s.store.pent j.page).tier = .silt → ((s.readFailed ch i j second).store.cell k).state = .retired ∧
          ((s.readFailed ch i j second).restore? j.page).isSome = true ∧
          (s.readFailed ch i j second).store.pmap = s.store.pmap)) ∧
  ∀ (s : State) (ch : Nat), ch < s.chanCount → (s.store.chan ch).down = false →
    exec (.channelDown ch) s = .next (s.chanDown ch).pumpSilt ∧ ((s.chanDown ch).store.chan ch).down = true

/-- SUMCOPY, SEAL_PROGRAM, COPY_PROGRAM, CODE_PROGRAM and TEST run on their page's core; a read they cannot correct
ends in a fault and another try (R140, R152, R181, R182, R190, R197, R202, R220). -/
def Obligations.VendorProgramsRun : Prop :=
  (∀ (s : State) (find : State → Option VJob) (v : VendorIn) (j : VJob), (∀ c, (s.vendor c).turn = false) →
    (find s = none → s.vendorTurn find v = (s, none)) ∧
    (find s = some j → s.vendorTurn find v = if s.vendorGets j.core v then (s, some j) else (s.vendorWait j.core v, none))) ∧
  (∀ (s q : State) (p : Nat) (v : VendorIn) (other : Option Bytes),
    (s.vendorTurn (fun q => q.vjobFor .sumcopy p) v = (q, none) → exec (.sumcopy p v) s = .next q) ∧
    (s.vendorTurn (fun q => q.vjobFor .seal p) v = (q, none) → exec (.sealProgram p v) s = .next q) ∧
    (s.vendorTurn (fun q => q.vjobFor .copy p) v = (q, none) → exec (.copyProgram p v) s = .next q) ∧
    (s.vendorTurn (fun q => q.vjobFor .code p) v = (q, none) → exec (.codeProgram p v other) s = .next q) ∧ ∀ j : VJob,
    (s.vendorTurn (fun q => q.vjobFor .sumcopy p) v = (q, some j) → q.store.valid p = true → (q.store.pent p).tier = .both →
      q.store.sumcopied.any (fun x => x.1 == p) = false → q.store.releases.contains p = true →
      let dim := (q.store.header p).dim
      let r := q.sense (pagePc p) [(q.store.summaryAddr p dim, summaryBytes dim)]
      (r.2 = true → exec (.sumcopy p v) s = .next (r.1.vendorUe j v p)) ∧
      ∀ t, r.2 = false → r.1.copySummary p = some t →
        exec (.sumcopy p v) s = .next (t.vendorRun j v) ∧ t.store.sumcopied.any (fun x => x.1 == p) = true) ∧
    (s.vendorTurn (fun q => q.vjobFor .seal p) v = (q, some j) → q.store.inDram p = true → (q.store.header p).pstate = .sealing →
      q.restore? p = none →
      let h := q.store.header p
      let r := q.sense (pagePc p) (rowRegions (q.store.frameOf p) h.kvfmt h.dim h.rows)
      let w := r.1.writeSeal p (Keccak.shake256 (sealBytes q.store p h.kvfmt h.dim h.firstpos h.rows) 32)
      (r.2 = true → exec (.sealProgram p v) s = .next (r.1.vendorUe j v p)) ∧
      (r.2 = false → exec (.sealProgram p v) s =
        .next (if w.2 then w.1.vendorRetry j v p else (w.1.vendorRun j v).sealDone j))) ∧
    (s.vendorTurn (fun q => q.vjobFor .copy p) v = (q, some j) → q.store.valid p = true → let r := q.sensePage p
      exec (.copyProgram p v) s = .next (if r.2 then r.1.vendorUe j v p else r.1.vendorRun j v)) ∧
    (s.vendorTurn (fun q => q.vjobFor .code p) v = (q, some j) → q.store.valid p = true → let r := q.sensePage p
      (r.2 = true → exec (.codeProgram p v other) s = .next (r.1.vendorUe j v p)) ∧
      (r.2 = false → exec (.codeProgram p v other) s =
        .next (if j.arg = 1 then (r.1.vendorRun j v).rbDecode other else r.1.vendorRun j v)))) ∧
  (∀ (s : State) (j : VJob) (v : VendorIn), (s.core j.core).burst = none → (s.core j.core).pc < 1024 → v.spill = false →
    SMap.wf {} s.sluice.vendors = true → (s.vendor j.core).queue = [j] → (s.vendor j.core).due = [] →
    s.sluice.vjobs.all (fun x => x.core != j.core) = true →
    let t := s.vendorRun j v
    t.store = s.store ∧ t.regs = s.regs ∧ (t.vendor j.core).queue = [] ∧ (t.core j.core).vendor = true ∧
    (t.core j.core).code = (s.core j.core).code ∧ (t.core j.core).grants = (s.core j.core).grants ∧
    ∀ c, c ≠ j.core → t.core c = s.core c) ∧
  ∀ (s : State) (c : Nat) (v : VendorIn), c < s.stackCount * 1024 → s.sluice.vload.isSome = true → (s.core c).burst = none →
    (s.core c).pc < 1024 → v.spill = false → SMap.wf {} s.sluice.vendors = true → (s.vendor c).queue = [] →
    (s.vendor c).due = [] → s.sluice.vjobs.all (fun x => x.core != c) = true → s.vendorGets c v = true →
    (∃ t, exec (.test c false v) s = .next t ∧ t.store = s.store ∧ t.regs = s.regs ∧ (t.core c).vendor = true ∧
      (s.countersOk = true → t.ctr .scCntVcmd c = min 0xFFFFFFFFFFFF (s.ctr .scCntVcmd c + 1))) ∧
    ∃ t n, exec (.test c true v) s = .next t ∧ t.store = s.store ∧
      t.reg .scFaultCause (c / 1024) =
        wordOf (c / 16 % 64 + place 6 (c % 16) + place 10 7 + place 14 (Config.vendorPc n % 1024)) ∧
      t.rbit .scFault (c / 1024) (c / 16 % 64) = true

/-- A scrub burst advances its core's pass, an uncorrectable page is restored from its other copy, and one that no
copy gives lists its conversations lost (R52, R163, R164, R167, R230, R469). -/
def Obligations.ScrubAndRestore : Prop :=
  (∀ (s : State) (c : Nat) (v : VendorIn), c < s.stackCount * 1024 → s.sluice.vload.isSome = true →
    (s.core c).burst = none → (s.core c).pc < 1024 → v.spill = false → SMap.wf 0 s.sluice.scrub = true →
    (∀ k, (s.vendor k).turn = false) →
    let k := SMap.get 0 s.sluice.scrub c
    let w := gaddr (c / 16) (State.scrubAddr (c % 16) k) / 32
    ((s.vendor c).queue ≠ [] → ∀ ups : List (Nat × Nat), exec (.scrubDue c ups v) s =
      .next (s.updVendor c (fun x => { x with due := x.due ++ [{ upsets := ups, vin := v }] }))) ∧
    ((s.vendor c).queue = [] → (∀ i, i < 32 → s.store.wordBad (w + i) = false) →
    ∃ t, exec (.scrubDue c [] v) s = .next t ∧ SMap.get 0 t.sluice.scrub c = (k + 1) % State.scrubSteps ∧
      t.store = { s.store with errs := t.store.errs } ∧ (k ≠ 0 → t.regs = s.regs) ∧ t.cam = s.cam ∧ t.slots = s.slots ∧
      (SMap.wf .clean s.store.errs = true → ∀ i, i < 32 → t.store.wordErr (w + i) = .clean) ∧
      (s.countersOk = true → t.ctr .pgCntCe (c / 16) = min 0xFFFFFFFFFFFF (s.ctr .pgCntCe (c / 16) +
        (List.range 32).countP (fun i => decide (s.store.wordErr (w + i) = .oneByte)))))) ∧
  (∀ (s : State) (p : Nat), s.store.valid p = true → s.restore? p = none → ∃ t, exec (.ueRestore p) s = .next t ∧
    (t.restore? p).isSome = true ∧ t.store = { s.store with chans := t.store.chans } ∧ t.sluice = s.sluice) ∧
  (∀ (s : State) (p : Nat) (x : Restore), s.restore? p = some x → s.store.valid p = true →
    (∀ (b : Bytes) (d : Option Bytes), x.body = some b → exec (.restoreDone p d) s = .next (s.restoreOk x b)) ∧
    (x.body = none → (x.asked = false ∨ x.refused = true) →
      (∀ b, exec (.restoreDone p (some b)) s = .next (s.restoreOk x b)) ∧
      exec (.restoreDone p none) s = .next (s.restoreLost x) ∧
      (x.page = p → x.readers = [] → s.slots = [] → s.sluice.vendors = [] → s.sluice.vjobs = [] →
        let t := s.restoreLost x
        t.restore? p = none ∧ ((s.anyHeader p).pstate ≠ .mirror → (s.anyHeader p).pstate ≠ .parity →
          s.rel.lost.length + (s.lostConvs p).length ≤ 16384 →
          ∀ y, (s.lostConvs p).contains y = true → t.isLost y.1 y.2 = true))) ∧
    ∀ (b : Bytes) (u : State), (s.putRestored x.page b = some (u, true) →
      s.restoreOk x b =
        let q : State := x.readers.foldl (fun (q : State) r => q.serveReader x.page r)
          (((u.dropRestore x.page).regrant x.page).siltWaiters.reissue x.page).pumpSilt
        (q.flushUnsent (q.anyHeader x.page).ctx).shadowsStep) ∧
      (s.putRestored x.page b = some (u, false) →
        s.restoreOk x b = ((u.dropRestore x.page).losePage x.page 2).refuseReaders x)) ∧
  ∀ (s : State) (pc a : Nat), s.store.metaUe.contains (pc, a) = true → ∃ t : State, exec (.metaRebuildDone pc a) s = .next t.rmaRunAll.resumeGrants ∧
    t.store.metaUe.contains (pc, a) = false ∧ t.store.dram = s.store.dram ∧ t = { s with store := t.store }

/-- A scrub makes array rows equal their shadows, SHADOW_UE marks its row and faults, a rebuild clears marks, the
privileged search answers or is undefined (R249, R261, R262, R265, R268). -/
def Obligations.CamScrubAndRebuild : Prop :=
  ∀ s : State, SMap.wf {} s.cam.rows = true →
    (∀ (ups : List (Nat × Bool × Nat × Nat)) (stalled : Nat), s.cam.rebuild = false → s.cam.period = none →
      ∃ t, exec (.lcScrub ups stalled) s = .next t ∧ t = { s with cam := t.cam, ctrs := t.ctrs, rel := t.rel } ∧ t.cam.dir = t.cam.rebuiltDir ∧
        ∀ i, ((t.cam.row i).ue = false → Cam.rowGood (t.cam.row i) = true) ∧ (t.cam.row i).sValid = (s.cam.row i).sValid ∧
          (t.cam.row i).sValue = (s.cam.row i).sValue ∧ (t.cam.row i).sCare = (s.cam.row i).sCare ∧
          (t.cam.row i).data = (s.cam.row i).data) ∧
    (∀ i, i < s.camTotal → ∃ t, exec (.shadowUe i []) s = .next t ∧ (t.cam.row i).ue = true ∧
      (∀ j, j ≠ i → t.cam.row j = s.cam.row j) ∧ t.rbit .lcFault 0 (i / 65536) = true ∧ t.store = s.store) ∧
    (∀ stalled, s.cam.rebuild = false → s.cam.waiting = [] →
      ∃ t, exec (.camRebuildDone stalled) s = .next t ∧
      t = { s with cam := t.cam, ctrs := t.ctrs } ∧ (∀ i, (t.cam.row i).ue = false) ∧ t.cam.dirUe = [] ∧
      t.cam.dir = t.cam.rebuiltDir) ∧
    (s.img.conf = true → ∀ mid, exec (.privilegedSearch mid) s = .next s) ∧
    (s.img.conf = false → s.cam.psGo = true → ∀ mid, exec (.privilegedSearch mid) s = .fault (.undefinedResult 268)) ∧
    (s.img.conf = false → s.cam.psGo = false →
      let key := (s.reg .lcPsKey0 0).toNat + place 64 (s.rfld .lcPsKey1 0 47 0)
      let gmask := (s.reg .lcPsGmask0 0).toNat + place 64 (s.rfld .lcPsGmask1 0 47 0)
      (∀ mid, ∃ t, exec (.privilegedSearch mid) s = .next t ∧ t.store = s.store ∧ t.slots = s.slots) ∧
      (∀ k run view m u i d, s.cam.fullRun s.ordRuns = some run → s.cam.midRebalance s.ordRuns run k = some (view, m) →
        ({ s with cam := view } : State).camSearch searchPort key gmask (s.rfld .lcPsStart 0 17 0) = (u, .hit i d) →
        ∃ t, exec (.privilegedSearch (some k)) s = .next t ∧ t.cam.rows = s.cam.rows ∧
          t.reg .lcPsRes 0 = wordOf (3 + place 2 (bnat !(u.cam.arrayMatches key gmask (i + 1)).isEmpty) +
            place 3 (bnat (i == m.1 || i == m.2)) + place 4 i)) ∧
      ∀ u f, s.camSearch searchPort key gmask (s.rfld .lcPsStart 0 17 0) = (u, f) →
        (f = .miss → ∃ t, exec (.privilegedSearch none) s = .next t ∧ t.reg .lcPsRes 0 = 1 ∧ t = { u with regs := t.regs }) ∧
        ∀ i d, f = .hit i d → ∃ t, exec (.privilegedSearch none) s = .next t ∧ t = { u with regs := t.regs } ∧
          t.reg .lcPsRes 0 = wordOf (3 + place 2 (bnat !(u.cam.arrayMatches key gmask (i + 1)).isEmpty) + place 4 i))

/-- ARM, DISARM, BOOT, DISCARD and REVERT act only in the update state that allows them, and are otherwise refused
and change no update state (R486, R488, R490, Table 16-4). -/
def Obligations.FirmwareCommands : Prop :=
  ∀ s : State,
    let held : Prop := s.firm.st = .staged ∨ s.firm.st = .armed
    let refused (i : Instr) : Prop := ∃ t, exec i s = .next t ∧ t.firm = s.firm ∧ t.rbit .brFwStatus 0 10 = true ∧ t.rel = s.rel
    (s.firm.st = .staged → s.rel.svc = .service → s.winCount + 2 < s.rfld .rsCfg 0 3 0 → exec .arm s =
      .next { s with firm := { s.firm with st := .armed, armed := (s.reg .brFwArmStep 0).toNat } }) ∧
    ((s.firm.st ≠ .staged ∨ s.rel.svc ≠ .service ∨ s.rfld .rsCfg 0 3 0 ≤ s.winCount + 2) → refused .arm) ∧
    (s.firm.st = .armed → exec .disarm s = .next { s with firm := { s.firm with st := .staged } }) ∧
    (s.firm.st ≠ .armed → refused .disarm) ∧
    (held → exec .boot s = .next { s with firm := { s.firm with boot := true } }) ∧ (¬ held → refused .boot) ∧
    (held → ∃ t, exec .discard s = .next t ∧ t = { s with firm := t.firm } ∧ t.firm.st = .idle ∧
      (t.fwSlot s.otherSlot).used = false ∧ t.running = s.running ∧ t.firm.run = s.firm.run ∧ t.firm.buffer = []) ∧
    (¬ held → refused .discard) ∧
    (s.firm.st = .probation → s.rel.svc = .service → s.rel.cr = .none → ∃ t, exec .revert s = .next t ∧
      t.firm.st = .reverting ∧ t.firm.window = true ∧ t.firm.holding = true ∧ t.firm.run = s.firm.run ∧ t.rel.cr = .draining ∧
      t.reg .rsCrCause 0 = 7 ∧ t.store = s.store ∧ t.sluice = s.sluice) ∧
    (s.firm.st ≠ .probation → refused .revert)

/-- A transferred image is verified and staged or discarded with its error; activation, probation, confirmation and
fall-back move the update state as the rules say (R403, R481, R483, R484, R487, R489, R490). -/
def Obligations.FirmwareStagedAndActivated : Prop :=
  ∀ s : State,
    (∀ data : Bytes, (s.firm.st = .idle ∨ s.firm.st = .staged) → ∃ t, exec (.firmwareTransfer data true false false) s = .next t ∧
      t.firm.st = .receiving ∧ t.firm.buffer = data ∧ t.running = s.running ∧ t = { s with firm := t.firm }) ∧
    (∀ data : Bytes, s.firm.st = .receiving →
      exec (.firmwareTransfer data false false false) s =
        .next { s with firm := { s.firm with buffer := s.firm.buffer ++ data } } ∧
      ∃ t, exec (.firmwareTransfer data false true false) s = .next t ∧ t.running = s.running ∧
        (s.fwVerify (s.firm.buffer ++ data) ≠ 0 → t.firm.st = .idle ∧ t.firm.err = s.fwVerify (s.firm.buffer ++ data) ∧
          (t.fwSlot s.otherSlot).used = false) ∧
        (s.fwVerify (s.firm.buffer ++ data) = 0 → t.firm.st = .staged ∧ t.firm.err = 0 ∧ t.firm.buffer = [] ∧
          t.fwSlot s.otherSlot = State.fwSlotOf (s.firm.buffer ++ data))) ∧
    (s.firm.st = .activating → s.firm.window = false → s.slots.any (fun e => decide (e.2.state = .active)) = false →
      s.firm.pendCert = true → s.img.state ≠ 1 → s.rel.cr = .none → ∃ t, exec .activationQuiesced s = .next t ∧
        t.firm.window = true ∧ t.firm.st = .activating ∧ t.rel.cr = .draining ∧ t.reg .rsCrCause 0 = 6 ∧ t.store = s.store) ∧
    (s.firm.st = .activating → s.firm.window = true → s.rel.cr = .none → ∃ t, exec .activationEnd s = .next t ∧
      t.firm.st = .probation ∧ t.firm.window = false ∧ t.firm.holding = false ∧ t.firm.began = s.power.seconds ∧
      t.firm.health = s.rfld .brFwCfg 0 15 0 ∧ t.firm.settle = s.rfld .brFwCfg 0 47 32 ∧ t.store = s.store) ∧
    (∀ t0, s.firm.st = .probation → s.fwHealthy = true → s.firm.healthy = some t0 → t0 + s.firm.settle ≤ s.power.seconds →
      ∃ t, exec .confirm s = .next t ∧ t.firm.st = .idle ∧ t.firm.fuse = Nat.max s.firm.fuse s.running.svn ∧
        (t.fwSlot s.otherSlot).used = false ∧ t.running = s.running ∧ t = { s with firm := t.firm, ctrs := t.ctrs }) ∧
    (s.firm.st = .probation → s.firm.began + s.firm.health ≤ s.power.seconds → s.rel.svc = .service → s.rel.cr = .none →
      ∃ t, exec .healthLimitExpiry s = .next t ∧ t.firm.st = .reverting ∧ t.firm.window = true ∧ t.rel.cr = .draining ∧
        t.reg .rsCrCause 0 = 7) ∧
    (s.firm.st = .reverting → s.firm.window = true → s.rel.cr = .none → ∃ t, exec .fallbackEnd s = .next t ∧
      t.firm.st = .idle ∧ t.firm.err = 7 ∧ t.firm.window = false ∧ t.firm.holding = false ∧ t.firm.run = s.firm.run ∧
      (t.fwSlot s.otherSlot).used = false) ∧
    (s.fwStaged = true → s.firm.pendCert = false → ∃ t, exec (.aliasCertSigned true) s = .next t ∧ t.firm.pendCert = true ∧
      t = { s with firm := t.firm, ctrs := t.ctrs }) ∧
    (s.mint.ready = true → s.mint.aliasCert = false → ∃ t, exec (.aliasCertSigned false) s = .next t ∧ t.mint.aliasCert = true ∧
      t = { s with mint := t.mint, ctrs := t.ctrs })

/-- A compute reset is asked for once, begins with its cause, cuts off what lasts too long, resets pipes and
stations, and ends or escalates (R181, R208, R453, R454, R456, R458, R460). -/
def Obligations.ComputeResetSteps : Prop :=
  ∀ s : State,
    (s.rel.cr = .none → s.rel.wanted = [] →
      exec .creset s = .next { s with rel := { s.rel with wanted := [{ cause := 5, stack := 0, pc := 0 }] } }) ∧
    ((s.rel.cr ≠ .none ∨ s.rel.wanted ≠ []) → exec .creset s = .next s) ∧
    (∀ w rest, s.rel.cr = .none → s.rel.wanted = w :: rest → (s.rel.svc = .start ∨ s.rel.svc = .service) →
      s.firm.st ≠ .reverting → SMap.risesFrom 0 s.regs.eff = true → ∃ t, exec .computeReset s = .next t ∧
        t.rel.cr = .draining ∧ t.rel.wanted = [] ∧ t.reg .rsCrCause 0 = wordOf (w.cause + place 4 w.stack + place 9 w.pc) ∧
        t.store = s.store ∧ t.sluice = s.sluice ∧ t.attn = s.attn ∧ t.cam.rows = s.cam.rows) ∧
    (SMap.wf s.idleCore s.sluice.cores = true → s.rel.cr = .draining → ∃ t, exec .resetCutoff s = .next t ∧
      t.burstsRun = false ∧ t = { s with sluice := t.sluice, regs := t.regs } ∧
        (s.sluice.forced = [] → t.regs = s.regs) ∧ ∀ c, (t.core c).st = (s.core c).st ∧
        (t.core c).regs = (s.core c).regs ∧ (t.core c).scratch = (s.core c).scratch) ∧
    (SMap.wf s.idleCore s.sluice.cores = true → SMap.wf {} s.slots = true → s.rel.cr = .draining → s.burstsRun = false →
      ∃ t, exec .computeResetQuiesced s = .next t ∧ t.rel.cr = .rebuilding ∧ t.attn.pipes = [] ∧
        (∀ c, (t.core c).st = .fault ∧ (t.core c).fcause = fcReset ∧ (t.core c).code = [] ∧ (t.core c).regs = [] ∧
          (t.core c).lessee = (s.core c).lessee) ∧
        (∀ n a, (s.slot n).state = .active → (s.slot n).prog = .attend a → (t.slot n).state = .active ∧
          (t.slot n).prog = .queued ∧ (t.slot n).reissued = true ∧ (t.slot n).hdr = (s.slot n).hdr) ∧
        t.store.dram = s.store.dram ∧ t.cam.rows = s.cam.rows ∧ t.sluice.vload = some t.running.m3) ∧
    (s.rel.cr = .rebuilding →
      (s.power.pwrFail = true →
        exec .computeResetEnd s = .next { s with rel := { s.rel with cr := .none, wanted := s.fallBackWant, escalate := false } }) ∧
      (s.power.pwrFail = false → s.rel.escalate = true → s.rel.svc = .service → ∃ t, exec .computeResetEnd s = .next t ∧
        t.rel.cr = .none ∧ t.rel.svc = .withdrawing ∧ t.rel.wcause = 1) ∧
      (s.power.pwrFail = false → s.rel.escalate = false → exec .computeResetEnd s = .next s.endReset ∧
        (s.slots = [] → (∀ c, (s.conn c).held = []) → s.endReset.rel.cr = .none ∧ s.endReset.rel.wanted = s.fallBackWant ∧
          s.endReset.sluice = s.sluice ∧ s.endReset.store = s.store))) ∧
    (∀ es : List WaitEdge, State.cyclesOf (s.queueEdges ++ es) = [] → exec (.stagnationSample es) s =
      .next { s with rel := { s.rel with cycles := [] } }) ∧
    ∀ (es : List WaitEdge) (c : List Nat), State.cyclesOf (s.queueEdges ++ es) = [c] → s.rel.cycles = [] → 1 < s.rfld .rsCfg 0 35 20 →
      exec (.stagnationSample es) s = .next { s with rel := { s.rel with cycles := [(c.map State.queueOf, 1)] } }

/-- A withdrawal refuses every queued request with BUSY, answers HELD ones, waits only as the rules let it, and goes
OUT when every slot is free (R461, R462, R464, R469, Table 15-2). -/
def Obligations.WithdrawalEmptiesTheModule : Prop :=
  ∀ s : State, SMap.wf {} s.ctxs = true → SMap.wf {} s.slots = true → SMap.wf {} s.links = true →
    ((s.rel.svc = .start ∨ s.rel.svc = .service) → ∃ t, exec .withdraw s = .next t ∧ t.rel.svc = .withdrawing ∧
      t.rel.wcause = 6 ∧ t.rel.wstart = s.hubUnits ∧ (∀ c, (t.ctx c).queue = []) ∧ t.store.dram = s.store.dram ∧ t.store.pmap = s.store.pmap ∧
      t.cam.rows = s.cam.rows ∧ (s.links.all (fun e => decide (e.2.state ≠ .active)) = true →
        (∀ n, (s.slot n).state = .held →
          (t.slot n).state = .respond ∧ (t.slot n).formed = true ∧ (t.slot n).respHdr.status = stBusy) ∧
        ∀ n, (s.slot n).state = .respond → t.slot n = s.slot n)) ∧
    ((s.rel.svc = .withdrawing ∨ s.rel.svc = .out) → exec .withdraw s = .next s) ∧
    ((s.rel.svc = .start ∨ s.rel.svc = .service) → ∀ k, k < s.stackCount → ∃ t, exec (.stackDown k false) s = .next t ∧
      t.rel.svc = .withdrawing ∧ t.rel.wcause = 2 ∧ t.rbit .rsFault 0 5 = true) ∧
    (∀ n, s.rel.svc = .withdrawing → s.rel.wstart + s.withdrawWait n ≤ s.hubUnits →
      ((s.slot n).state = .forwarded → ∃ t, exec (.withdrawTimeout n) s = .next t ∧ (t.slot n).state = .respond ∧
        (t.slot n).respHdr.status = stBusy ∧ t.own.any (fun o => o.slot == n && o.shadow.isNone) = false ∧
        ∀ m, m ≠ n → t.slot m = s.slot m) ∧
      (∀ g, (s.slot n).state = .active → (s.slot n).prog = .staged g → s.rel.lost.length < 16384 →
        ∃ t, exec (.withdrawTimeout n) s = .next t ∧ (t.slot n).state = .respond ∧ (t.slot n).respHdr.status = stLost ∧
          t.isLost (s.slot n).hdr.ctx (s.slot n).hdr.conv = true)) ∧
    (s.rel.svc = .withdrawing → s.slots = [] →
      exec .withdrawOut s = .next { s with rel := { s.rel with svc := .out } }) ∧
    ∀ d, d < s.portDies → s.cam.down.contains d = false → ∃ t, exec (.portdieDown d false) s = .next t ∧
      (∀ i, i < 16 → (t.link (16 * d + i)).state = .disabled) ∧ t.cam.down = s.cam.down ++ [d] ∧ t.cam.rebuild = true ∧
      t.cam.rows = s.cam.rows ∧ t.rbit .rsFault 0 6 = true

/-- Takeover, rebuild, the lost list, the spare's comparison and the saved counters change what their rules name and
nothing else of the reliability blocks (R465, R468, R469, R476, R478, R480). -/
def Obligations.TakeoverRebuildAndLists : Prop :=
  ∀ s : State,
    (∀ c, s.rel.take.busy = false →
      ((s.ctx c).state ≠ .opn → ∃ t, exec (.rsTake c) s = .next t ∧ t.rel.take = { refused := true, ctx := c } ∧
        t.store = s.store ∧ t.cam = s.cam) ∧
      ((s.ctx c).state = .opn → s.takeClash c = true → exec (.rsTake c) s = .fault (.undefinedResult 480)) ∧
      ((s.ctx c).state = .opn → s.takeClash c = false → exec (.rsTake c) s = .next (s.takeOver c))) ∧
    (s.rel.take.busy = true → s.rel.take.waits = 0 → ∃ t, exec .takeoverDone s = .next t ∧
      t.rel.take = { s.rel.take with busy := false, done := true } ∧ t.store = s.store) ∧
    (s.rel.rb.state ≠ 1 → let key? := s.rbGroup (s.rfld .rsRbArg0 0 31 0) (s.rfld .rsRbArg0 0 34 32) (s.rfld .rsRbArg2 0 39 16)
      (s.rbit .rsRbArg0 0 35 = true → (key? = none → ∃ t, exec .rebuildDecode s = .next t ∧
          t.rel.rb.state = 3 ∧ t.rel.rb.cause = 1 ∧ t.store = s.store) ∧
        (∀ key, key? = some key → (s.store.group key).members = List.replicate 8 {} →
          exec .rebuildDecode s = .next ((s.setRb (s.rbArgs key)).rbGathered))) ∧
      (s.rbit .rsRbArg0 0 35 = false → (key? = none → ∃ t, exec .rebuildRecord s = .next t ∧ t.rel.rb.state = 3 ∧
          t.rel.rb.cause = 1 ∧ t.store = s.store) ∧
        (∀ key, key? = some key → (s.store.group key).live = true → (s.store.group key).members.length = 8 →
          ∃ t, exec .rebuildRecord s = .next t ∧ t.rel.rb.state = 2 ∧ t.store.dram = s.store.dram ∧
            let i := s.rfld .rsRbArg0 0 34 32
            let m : Member := getAt {} (t.store.group key).members i
            m.node = s.rfld .rsRbArg2 0 55 40 ∧ m.page = s.rfld .rsRbArg3 0 39 0 ∧ m.filled = true ∧
            ∀ j, j ≠ i → getAt {} (t.store.group key).members j = getAt {} (s.store.group key).members j))) ∧
    (∀ c, let h := (s.reg .rsLostConv 0).toNat
      (s.isLost c h = false → s.rel.lost.length < 16384 → ∃ t, exec (.lostAdd c) s = .next t ∧
        t.rel.lost = s.rel.lost ++ [{ ctx := c, conv := h, cause := 4 }] ∧ t.store = s.store ∧ t.rbit .rsFault 0 8 = true) ∧
      ∃ t, exec (.lostRemove c) s = .next t ∧ t.isLost c h = false ∧ t = { s with rel := t.rel } ∧
        ∀ d g, (d ≠ c ∨ g ≠ h) → t.isLost d g = s.isLost d g) ∧
    (∀ (k i st : Nat) (resp : Bytes) (m : Sample), SMap.wf {} s.rel.shadows = true → (s.shadowSt k).samples.findIdx? (fun m => m.answer.isSome) = some i →
      (s.shadowSt k).samples[i]? = some m → m.answer = some (st, resp) → ∃ u : State,
        (u.shadowSt k).samples = (s.shadowSt k).samples.eraseIdx i ∧ u.store = s.store ∧
        (State.sampleDiff m st resp = none → exec (.shadowCompare k) s = .next u) ∧
        ∀ d, State.sampleDiff m st resp = some d → ∃ t, exec (.shadowCompare k) s = .next t ∧ t.store = s.store ∧
          (t.shadowSt k).samples = (s.shadowSt k).samples.eraseIdx i ∧ t.rel.misNext = (s.rel.misNext + 1) % 256) ∧
    (s.rel.predSaved + 3600 ≤ s.power.seconds → exec .predictiveSave s =
      .next { s with rel := { s.rel with predFlash := s.rel.pred, predSaved := s.power.seconds } })

/-- A VF serves requests at a trained port with no error pending. -/
def Serves (s : State) (vf : Nat) (tee : Bool) : Prop :=
  State.isVf vf = true ∧ s.portUp (vf / 1024) = true ∧ s.vfServes vf tee = true

/-- Aperture bytes gather in their lane until a carrier is whole, responses are written where the rings have room,
and heads free what software has read (R371, R373, R374, R375, R376, R377, R389, R390, R399). -/
def Obligations.AperturesAndRings : Prop :=
  ∀ s : State, s.undef = none → SMap.wf {} s.host.vfs = true → SMap.risesFrom 0 s.regs.eff = true →
    (∀ (vf off : Nat) (data : Bytes) (tee : Bool), Serves s vf tee → let x := s.vf vf
      let lane := off / 4096 % 256
      let o := off % 4096
      data.length ≤ 4096 - o →
      (x.tdi ≠ .locked → s.ringOn vf = true → let ps := SMap.get [] x.lanes lane ++ [(o, data)]
        let n := (State.laneLength ps).getD 4096
        ((SMap.get [] x.lanes lane).any (fun p => State.piecesMeet p (o, data) n) = true →
          exec (.apertureWrite vf off data tee) s = .fault (.undefinedResult 399)) ∧
        ((SMap.get [] x.lanes lane).any (fun p => State.piecesMeet p (o, data) n) = false →
          (State.laneLength ps = none → exec (.apertureWrite vf off data tee) s =
            .next (s.setVf vf { x with lanes := SMap.set [] x.lanes lane ps })) ∧
          ((State.laneLength ps).isSome = true → State.piecesBelow ps n = n → exec (.apertureWrite vf off data tee) s =
            ((s.setVf vf { x with lanes := SMap.set [] x.lanes lane [] }).apertureCarrier vf (State.laneBytes ps n)).outcome))) ∧
      ((x.tdi = .locked ∨ s.ringOn vf = false) → (s.hport (vf / 1024)).degraded = false → x.flr = false →
        (x.tdi = .run → tee = true) → exec (.apertureWrite vf off data tee) s =
          .next ((s.setVf vf { x with lanes := [] }).count .hpDropApoff vf 1))) ∧
    (∀ (vf : Nat) (r : HostRsp), s.nextRsp vf = some r → r.slot = none →
      ((s.vf vf).flr = true → exec (.responseRingWrite vf) s = .next ((s.dropRsp r).count .hpDropRspflr vf 1)) ∧
      ((s.vf vf).flr = false → (s.vf vf).armed = false → s.portUp (vf / 1024) = true → s.ringRoom r = true →
        ∃ t w c, exec (.responseRingWrite vf) s = .next t ∧ t.out = s.out ++ [w, c] ∧ t.host.rspq = s.host.rspq.erase r ∧
          (t.vf vf).cqUsed = (s.vf vf).cqUsed + 1 ∧ (t.vf vf).rspUsed = (s.vf vf).rspUsed + s.blockTakes r ∧
          (t.vf vf).cqUsed ≤ s.cqSize vf ∧ (t.vf vf).rspUsed ≤ s.rspSize vf ∧ t.store = s.store ∧ t.slots = s.slots)) ∧
    (∀ (vf head : Nat) (tee : Bool), Serves s vf tee →
      let freed (size old : Nat) : Nat := (head % size + size - old % size) % size
      let f := freed (s.cqSize vf) (s.rfld .hpVfCqHead vf 19 0)
      let g := freed (s.rspSize vf) (s.rfld .hpVfRspHead vf 25 0)
      ((s.vf vf).cqUsed < f → exec (.cqHead vf head false tee) s = .fault (.undefinedResult 399)) ∧
      (f ≤ (s.vf vf).cqUsed → ∃ t, exec (.cqHead vf head false tee) s = .next t ∧
        t.vf vf = { s.vf vf with cqUsed := (s.vf vf).cqUsed - f } ∧ t.rfld .hpVfCqHead vf 19 0 = head % 2 ^ 20) ∧
      ((s.vf vf).rspUsed < g → exec (.rspHead vf head tee) s = .fault (.undefinedResult 399)) ∧
      (g ≤ (s.vf vf).rspUsed → ∃ t, exec (.rspHead vf head tee) s = .next t ∧
        t.vf vf = { s.vf vf with rspUsed := (s.vf vf).rspUsed - g } ∧ t.rfld .hpVfRspHead vf 25 0 = head % 2 ^ 26)) ∧
    (∀ (vf head : Nat) (arm tee : Bool), State.isVf vf = true → s.portUp (vf / 1024) = true → s.vfServes vf tee = false →
      let ur : Host.Outcome State Fault Refusal := .next (s.emit (.hostError (vf / 1024) 0 "UR"))
      exec (.cqHead vf head arm tee) s = ur ∧ exec (.rspHead vf head tee) s = ur ∧ exec (.hpVfRingCommit vf tee) s = ur) ∧
    ∀ (vf : Nat) (tee : Bool), Serves s vf tee → let w := s.shadow .hpVfRingCfg vf
      let inRange : Prop := 6 ≤ w.fld 4 0 ∧ w.fld 4 0 ≤ 20 ∧ 19 ≤ w.fld 9 5 ∧ w.fld 9 5 ≤ 26
      let busy : Prop := (∃ e ∈ s.slots, e.2.state = .respond ∧ e.2.hdr.ctx = State.ctxOfVf vf) ∨ 0 < (s.vf vf).cqUsed ∨
        0 < (s.vf vf).rspUsed
      ((busy ∨ ¬ inRange ∨ s.tdiLocked vf = true) →
        exec (.hpVfRingCommit vf tee) s = .next (s.setVf vf { s.vf vf with refused := true })) ∧
      (¬ busy → inRange → s.tdiLocked vf = false → ∃ t, exec (.hpVfRingCommit vf tee) s = .next t ∧
        t.reg .hpVfRingCfg vf = w ∧ t.reg .hpVfCqBase vf = s.shadow .hpVfCqBase vf ∧
        t.reg .hpVfRspBase vf = s.shadow .hpVfRspBase vf ∧ t.rfld .hpVfCqHead vf 19 0 = 0 ∧
        (t.vf vf).cqTail = 0 ∧ (t.vf vf).rspTail = 0 ∧ t.store = s.store)

/-- A window request is accepted by the entry that matches it or turned away, takes effect in order, and a commit
activates, refuses or revokes its entry (R162, R368, R380, R381, R382, R387, Table 12-4, Table 12-5). -/
def Obligations.WindowsAndRanges : Prop :=
  ∀ s : State, SMap.wf {} s.host.ranges = true → SMap.risesFrom 0 s.regs.eff = true →
    (∀ (vf rid addr len tag : Nat) (tee : Bool), Serves s vf tee → len ≤ 4096 →
      exec (.windowRead vf rid addr len tag true tee) s = .next (s.windowRefuse vf tag "UR") ∧
      (∀ why, s.windowMatch vf rid addr len false = .error why → ∃ t, exec (.windowRead vf rid addr len tag false tee) s = .next t ∧
        t.out = s.out ++ [.hostError (vf / 1024) tag why] ∧ t.host = s.host ∧ t.store = s.store) ∧
      (∀ e, s.windowMatch vf rid addr len false = .ok e → ∃ t w, exec (.windowRead vf rid addr len tag false tee) s = .next t ∧
        t.host.window = s.host.window ++ [w] ∧ w.entry = e ∧ w.write = false ∧ w.len = len ∧ w.lessee = s.lesseeOf e ∧
        w.off = addr - (s.rangeCfg e).wbase * 4096 ∧ (t.range e).inflight = (s.range e).inflight + 1 ∧ t.out = s.out ∧
        t.store = s.store)) ∧
    (∀ (vf rid addr : Nat) (data : Bytes) (en : List Bool) (tee : Bool), Serves s vf tee → data.length ≤ 4096 →
      (∀ why p, s.windowMatch vf rid addr data.length true = .error why →
        ∃ t, exec (.windowWrite vf rid addr data en p tee) s = .next t ∧
          t.out = s.out ++ [.hostError (vf / 1024) 0 why] ∧ t.host = s.host ∧ t.store = s.store) ∧
      (∀ e, s.windowMatch vf rid addr data.length true = .ok e →
        (∃ t, exec (.windowWrite vf rid addr data en true tee) s = .next t ∧ t.host = s.host ∧ t.store = s.store) ∧
        ∃ t w, exec (.windowWrite vf rid addr data en false tee) s = .next t ∧ t.host.window = s.host.window ++ [w] ∧
          w.entry = e ∧ w.write = true ∧ w.data = data ∧ w.enables = en ∧ w.lessee = s.lesseeOf e ∧ (t.range e).inflight = (s.range e).inflight + 1 ∧
          t.store = s.store)) ∧
    (∀ (i : Nat) (w : WinReq), s.host.window[i]? = some w → s.windowMayRun w (s.host.window.take i) = true →
      (s.rangeCfg w.entry).published = false → (s.range w.entry).state = .active →
      let x := s.rangeCfg w.entry
      let ta := State.targetAddr x w.off
      s.winKey w ≠ 0 → ∃ t, exec (.windowEffect i []) s = .next t ∧ t.host.window = s.host.window.eraseIdx i ∧
        (t.range w.entry).inflight = (s.range w.entry).inflight - 1 ∧
        (w.write = false → t.store = { s.store with errs := t.store.errs } ∧
          ((Store.words (gaddr ta.1 ta.2) w.len).filter s.store.wordBad = [] →
            t.out = s.out ++ [.completion w.port w.tag (s.targetRead (s.winKey w) x w.off w.len) []])) ∧
        (w.write = true → t.out = s.out ∧ t.store = { s.store.writeUnder (s.winKey w) ta.1 ta.2
          (State.enabledBytes (s.targetRead (s.winKey w) x w.off w.data.length) w.data w.enables) with errs := t.store.errs })) ∧
    (let e := s.rfld .hpRngSel 0 11 0
      let x := State.rangeCfgOf (s.shadow .hpRngCfg0 e) (s.shadow .hpRngCfg1 e) (s.shadow .hpRngCfg2 e)
      ((s.range e).state = .free → x.valid = true →
        (s.rangeCause e x ≠ 0 → exec .hpRngCommit s =
          .next (s.setRange e { s.range e with refused := true, cause := s.rangeCause e x })) ∧
        (s.rangeCause e x = 0 → ∃ t, exec .hpRngCommit s = .next t ∧ (t.range e).state = .active ∧ (t.range e).inflight = 0 ∧
          t.rangeCfg e = x)) ∧
      ((s.range e).state = .free → x.valid = false → s.rangeLocked x = false →
        ∃ t, exec .hpRngCommit s = .next t ∧ t.rangeCfg e = x ∧ t.host = s.host) ∧
      ((s.range e).state = .active → { x with valid := (s.rangeCfg e).valid } ≠ s.rangeCfg e → exec .hpRngCommit s =
        .next (s.setRange e { s.range e with refused := true, cause := 6 })) ∧
      ((s.range e).state = .active → { x with valid := (s.rangeCfg e).valid } = s.rangeCfg e → x.valid = false →
        s.rangeLocked (s.rangeCfg e) = false → ∃ t, exec .hpRngCommit s = .next t ∧ (t.rangeCfg e).valid = false ∧
          ((s.range e).inflight ≠ 0 → (t.range e).state = .revoking) ∧
          ((s.range e).inflight = 0 → (t.range e).state = .free ∧ (t.range e).done = true)))

/-- MSI-X control, FLR of a function or a port, training, link loss, IDE failure and the TDI commands act on their
port or function as their rules say (R366, R378, R389, R391, R393, R394, R395, R396, R397, R499, R500). -/
def Obligations.PortsFunctionsAndTdis : Prop :=
  ∀ s : State, SMap.wf {} s.host.vfs = true → SMap.wf {} s.host.ports = true → SMap.risesFrom 0 s.regs.eff = true →
    (∀ (fn : Nat) (en fm bme : Bool), (s.msixFn fn).vecs.all (fun e => !e.2.pending) = true →
      ∃ t, exec (.msixUnmask fn en fm bme none) s = .next t ∧ t = { s with host := t.host } ∧
        t.msixFn fn = { s.msixFn fn with enable := en, fmask := fm, bme := bme } ∧ ∀ g, g ≠ fn → t.msixFn g = s.msixFn g) ∧
    (∀ v, State.isVf v = true → (s.vf v).flr = false → ∃ t, exec (.flr v) s = .next t ∧ (t.vf v).flr = true ∧
      (t.vf v).lanes = [] ∧ (t.ctx (State.ctxOfVf v)).state ≠ .opn ∧ (t.vf v).tdi ≠ .run ∧ (t.vf v).tdi ≠ .locked) ∧
    (∀ v, s.flrDone v = true → ∃ t, exec (.flrComplete v) s = .next t ∧ t.vf v = {} ∧ t.store = s.store ∧
      (((s.host.rspq.filter (fun r => r.vf == v)).filterMap (fun r => r.slot)).Nodup →
        (∀ r ∈ s.host.rspq, r.vf = v → ∀ n, r.slot = some n → (s.slot n).hdr.ctx = State.ctxOfVf v) →
        ∀ u, u ≠ v → t.vf u = s.vf u)) ∧
    (∀ p, p < 2 → (∃ t, exec (.pfFlr p) s = .next t ∧ (t.hport p).pf = {} ∧
        ∀ i, i < 512 → (t.vf (p * 1024 + i + 1)).flr = true) ∧
      (∃ t, exec (.perst p) s = .next t ∧ (t.hport p).pf = {} ∧ t.portUp p = false ∧ (t.hport p).degraded = false) ∧
      (∀ (w r : Nat) (f : Bool), 0 < w → s.hostOpen = true → ∃ t, exec (.portTrained p w r f) s = .next t ∧ t.portUp p = true ∧
        (t.hport p).width = w ∧ (t.hport p).rate = r ∧ (t.hport p).flit = f ∧ (t.hport p).pf = (s.hport p).pf ∧
        ((t.hport p).degraded = false ↔ 8 ≤ w ∧ 6 ≤ r ∧ f = true) ∧ ∀ q, q ≠ p → t.hport q = s.hport q) ∧
      (∀ refclk : Bool, ∃ t, exec (.hostLinkDown p refclk) s = .next t ∧ t.portUp p = false ∧ t.host.vfs = s.host.vfs ∧
        t.store = s.store ∧ (refclk = false → (t.hport p).pf = (s.hport p).pf ∧ t.power = s.power ∧ t.regs = s.regs) ∧
        (refclk = true → t.power.refclk = s.power.refclk &&& (3 - 2 ^ p) ∧ t.rbit .pwFault 0 4 = true)) ∧
      (∃ t, exec (.ideFailure p none) s = .next t ∧ State.ideActive (t.hport p) none = false ∧ t.host.vfs = s.host.vfs ∧
        t.out = s.out ++ [.hostError p 0 "IDE"]) ∧
      ∀ n : Nat, ∃ t, exec (.ideFailure p (some n)) s = .next t ∧ ∀ i, i < 512 → let v := p * 1024 + i + 1
        ((s.vf v).stream ≠ some n → t.vf v = s.vf v) ∧
        ((s.vf v).stream = some n → ((s.vf v).tdi = .locked ∨ (s.vf v).tdi = .run) → (t.vf v).tdi = .error)) ∧
    (∀ (v : Nat) (st : Option Nat), State.isVf v = true →
      let foreign := s.liveRanges.any (fun e => (s.range e).state == .active && (s.rangeCfg e).vf != v &&
        (s.core (s.rangeCfg e).core).lessee == some (State.ctxOfVf v))
      let may : Prop := (s.vf v).tdi = .unlocked ∧ s.img.conf = true ∧ (∃ n, st = some n ∧ n < 16) ∧ s.ringOn v = true ∧
        foreign = false ∧ (s.vf v).flr = false
      (may → ∃ t, exec (.lockInterface v st) s = .next t ∧ (t.vf v).tdi = .locked ∧ (t.vf v).stream = st ∧
        ∀ u, u ≠ v → t.vf u = s.vf u) ∧
      (¬ may → exec (.lockInterface v st) s = .next (s.emit (.tdiReport (v / 1024) (v % 1024) false [])))) ∧
    ∀ v, (s.vf v).tdi = .locked → ∃ t, exec (.startInterface v) s = .next t ∧ t.vf v = { s.vf v with tdi := .run } ∧
      (∀ u, u ≠ v → t.vf u = s.vf u) ∧ t.store = s.store

/-- The Mint takes requests, no activation window is open, and a session, if named, exists. -/
def MintHears (s : State) (sid : Option Nat) : Prop :=
  s.mint.ready = true ∧ s.firm.window = false ∧ ∀ id, sid = some id → (s.spdmSession id).isSome = true

/-- A request by a transport reaches the Mint: a host port's mailbox answers while the port is served. -/
def Reaches (s : State) (via : SpdmVia) : Prop := ∀ p, via = .doe p → p < 2 ∧ s.portUp p = true

/-- The state after an SPDM request is counted. -/
def heardReq (s : State) : State := s.count .mtCntSpdmReq 0 1

/-- A key-service response: operation, status, payload. -/
def ksOut (s : State) (sid : Option Nat) (op status : Nat) (b : Bytes) : State :=
  s.spdmOut sid "VENDOR_DEFINED_RESPONSE" (leBytes 1 op ++ leBytes 1 status ++ b)

/-- Measurement 4 is SHAKE256 over the digest of the base image and the digests of the amendments applied, in order,
and GET_MEASUREMENTS answers it (R437). -/
def Obligations.MeasurementFour : Prop :=
  ∀ (s : State) (b : Bytes), s.img.base = some b →
    s.measurement 4 = Keccak.shake256 (imageDigest b ++ (s.img.amends.map imageDigest).flatten) 64 ∧
    ∀ sid : Option Nat, MintHears s sid → ∃ t, exec (.getMeasurements sid 4 false) s = .next t ∧
      t.out = s.out ++ [.spdm (sid.getD 0) "MEASUREMENTS"
        (Keccak.shake256 (imageDigest b ++ (s.img.amends.map imageDigest).flatten) 64)] ∧
      t = { s with out := t.out, ctrs := t.ctrs }

/-- Every SPDM request of a ready Mint is answered once or queued for its signature; the window answers Busy;
sessions begin, end and are forgotten (R401, R403, R404, R405, R406, R421, R422). -/
def Obligations.SpdmAndTheSigner : Prop :=
  ∀ s : State,
    (∀ via sid m, s.mint.ready = false → exec (.spdmRequest via sid m) s = .next s) ∧
    (∀ via sid m, Reaches s via → s.mint.ready = true → s.firm.window = true → ∃ t, exec (.spdmRequest via sid m) s = .next t ∧
      t.out = s.out ++ [.spdm (sid.getD 0) "ERROR Busy" []] ∧ t = { s with out := t.out, ctrs := t.ctrs }) ∧
    (∀ via sid, Reaches s via → MintHears s sid →
      exec (.spdmRequest via sid .getVersion) s = .next ((heardReq s).emit (.spdm (sid.getD 0) "VERSION" [0x14])) ∧
      exec (.spdmRequest via sid .getCapabilities) s = .next ((heardReq s).emit (.spdm (sid.getD 0) "CAPABILITIES" [16, 0xFF, 3])) ∧
      (∀ offered, exec (.spdmRequest via sid (.negotiate offered)) s =
        .next (if (∀ a ∈ [SpdmAlg.slhDsaShake256s, .mlKem1024, .shake256, .aes256Gcm], a ∈ offered) then (heardReq s).emit (.spdm (sid.getD 0) "ALGORITHMS" [0, 1, 2, 3])
          else ((heardReq s).emit (.spdm (sid.getD 0) "ERROR UnsupportedRequest" [])).count .mtCntSpdmErr 0 1)) ∧
      exec (.spdmRequest via sid .getDigests) s = .next ((heardReq s).emit (.spdm (sid.getD 0) "DIGESTS"
        (Keccak.shake256 (s.certificates) 64))) ∧
      (∀ i b, s.measurementBlocks i = some b →
        exec (.getMeasurements sid i false) s = .next ((heardReq s).emit (.spdm (sid.getD 0) "MEASUREMENTS" b)) ∧
        (s.mint.signer.length < 4 → s.mint.aliasCert = true → exec (.getMeasurements sid i true) s =
          .next ((heardReq s).setMint { s.mint with signer := s.mint.signer ++
            [{ session := sid.getD 0, code := "MEASUREMENTS", payload := b }] })) ∧
        ((4 ≤ s.mint.signer.length ∨ s.mint.aliasCert = false) → exec (.getMeasurements sid i true) s =
          .next (((heardReq s).emit (.spdm (sid.getD 0) "ERROR Busy" [])).count .mtCntSpdmBusy 0 1))) ∧
      (∀ i g, 7 < i → i ≠ 0xFF → exec (.getMeasurements sid i g) s =
        .next (((heardReq s).emit (.spdm (sid.getD 0) "ERROR InvalidRequest" [])).count .mtCntSpdmErr 0 1)) ∧
      (∀ id ek, MlKem.keyOk ek = true → s.mint.sessions.length < 8 → s.mint.stopped = false → id ≠ 0 → s.spdmSession id = none →
        s.mint.signer.length < 4 → s.mint.aliasCert = true → ∃ t, exec (.spdmRequest via sid (.keyExchange id ek)) s = .next t ∧
          t.mint.sessions = s.mint.sessions ++
            [{ id := id, via := via, secret := (MlKem.encaps ek (fit 32 (Config.draw s.fresh))).1 }] ∧ t.mint.signer.length = s.mint.signer.length + 1 ∧
          t.out = s.out)) ∧
    (∀ id, MintHears s (some id) → ∃ t, exec (.endSession id) s = .next t ∧ t.spdmSession id = none ∧
      t.out = s.out ++ [.spdm id "END_SESSION_ACK" []] ∧ ∀ j, j ≠ id → t.spdmSession j = s.spdmSession j) ∧
    (∀ id, ∃ t, exec (.heartbeatFailure id) s = .next t ∧ t.spdmSession id = none ∧
      (∀ j, j ≠ id → t.spdmSession j = s.spdmSession j) ∧ t.out = s.out ∧ t.store = s.store) ∧
    (∀ q rest, s.mint.signer = q :: rest → s.power.sessions = [] → ∃ t, exec .signatureComplete s = .next t ∧
      t.mint.signer = rest ∧ t.out = s.out ++ [.spdm q.session q.code
        (q.payload ++
          SlhDsa.sign s.aliasKey (fit 32 (Config.draw s.fresh)) (Config.transcript q.session q.payload))]) ∧
    (s.mint.stopped = false → ∃ t, exec .entropy s = .next t ∧ t.mint.stopped = true ∧ t.rbit .mtFault 0 0 = true ∧
      t.rbit .rsFault 0 3 = true ∧ t.store = s.store) ∧
    exec .entropyRecovery s = .next { s with mint := { s.mint with stopped := false } }

/-- A key-service message is obeyed only in a session with the key-service root; jobs, bindings and closes change as
Table 13-5 says or are refused (R324, R325, R407, R408, R409, R414, Table 13-5). -/
def Obligations.KeyServiceMessages : Prop :=
  ∀ (s : State) (sid : Option Nat), MintHears s sid →
    (s.keyServiceOk sid = false → ∀ (n id c x : Nat) (key : Bytes), ∀ i ∈ [Instr.jobInstall sid n id key, .jobRetire sid n,
      .connBind sid c n, .connUnbind sid c, .ctxClose sid x, .ctxQuery sid x], ∃ t, exec i s = .next t ∧
        t.out = s.out ++ [.spdm (sid.getD 0) "ERROR UnexpectedRequest" []] ∧ t = { s with out := t.out, ctrs := t.ctrs }) ∧
    (s.keyServiceOk sid = true →
      (∀ n id key, n < 4096 → (s.job n).loaded = false → ∃ t, exec (.jobInstall sid n id key) s = .next t ∧
        t.job n = { loaded := true, id := id % 2 ^ 64, key := fit 32 key } ∧ (∀ m, m ≠ n → t.job m = s.job m) ∧
        t.conns = s.conns ∧ t.ctxs = s.ctxs) ∧
      (∀ n id key, (4096 ≤ n ∨ (s.job n).loaded = true) → exec (.jobInstall sid n id key) s =
        .next (ksOut (heardReq s) sid 1 State.ksBadSlot [])) ∧
      (∀ n, SMap.wf {} s.mint.jobs = true → n < 4096 → (s.job n).loaded = true →
        (s.binds n ≠ 0 → exec (.jobRetire sid n) s = .next (ksOut (heardReq s) sid 2 State.ksInUse [])) ∧
        (s.binds n = 0 → ∃ t, exec (.jobRetire sid n) s = .next t ∧ t.job n = {} ∧ (∀ m, m ≠ n → t.job m = s.job m) ∧
          t.conns = s.conns)) ∧
      (∀ c n, c < 16384 → n < 4096 → (s.job n).loaded = true →
        ((s.conn c).state ≠ .opn → exec (.connBind sid c n) s = .next (ksOut (heardReq s) sid 3 State.ksNoConn [])) ∧
        ((s.conn c).state = .opn → (∀ x, s.connCtx c = some x → (s.ctx x).state = .opn) → s.img.conf = false →
          (s.conn c).retire = false → ∃ t, exec (.connBind sid c n) s = .next t ∧
            (t.conn c).kp = (if (s.conn c).kp = 0 then 1 else 0) ∧ State.phaseKey (t.conn c) (t.conn c).kp = n + 1 ∧
            (t.conn c).state = .opn ∧ (∀ j, j ≠ c → t.conn j = s.conn j) ∧ t.ctxs = s.ctxs)) ∧
      (∀ c, c < 16384 → (s.conn c).state = .opn → ∃ t, exec (.connUnbind sid c) s = .next t ∧ t.conn c =
        { s.conn c with key0 := 0, key1 := 0, kn0 := 0, kn1 := 0, retire := false } ∧ ∀ j, j ≠ c → t.conn j = s.conn j) ∧
      (∀ x, x < 1024 → exec (.ctxClose sid x) s = .next (ksOut ((heardReq s).startClose x) sid 5 State.ksOk [])) ∧
      (∀ x, x < 1024 → exec (.ctxQuery sid x) s =
        .next (ksOut (heardReq s) sid 6 State.ksOk (leBytes 8 (s.ctxStatus x).toNat))))

/-- CTX_OPEN draws a fresh key for a CLOSED enabled context and opens it, else refuses; IMAGE_TRANSFER fills the
load buffer (R411, R420, R509). -/
def Obligations.ManagementOpensAndLoads : Prop :=
  ∀ (s : State) (sid : Option Nat), MintHears s sid →
    (s.managementOk sid = false → ∀ x off data op, ∀ i ∈ [Instr.ctxOpen sid x, .imageTransfer sid off data op],
      ∃ t, exec i s = .next t ∧ t.out = s.out ++ [.spdm (sid.getD 0) "ERROR UnexpectedRequest" []] ∧
        t = { s with out := t.out, ctrs := t.ctrs }) ∧
    (s.managementOk sid = true → s.power.failed = false →
      (∀ x, x < 1024 → let may : Prop := (s.ctx x).state = .closed ∧ (s.ctxRec x).enable = true ∧ s.img.base.isSome = true
        (may → s.mint.stopped = false → ∃ t, exec (.ctxOpen sid x) s = .next t ∧ (t.ctx x).state = .opn ∧
          (t.ctx x).drained = false ∧ SMap.get 0 t.mint.ctxKeys x = s.fresh ∧ t.fresh = s.fresh + 1 ∧
          (∀ y, y ≠ x → t.ctx y = s.ctx y) ∧ SMap.get 0 t.store.keys x = s.fresh + 1 ∧
          t.store = { s.store with keys := t.store.keys }) ∧
        ((¬ may ∨ s.mint.stopped = true) → ∃ t, exec (.ctxOpen sid x) s = .next t ∧ t.ctxs = s.ctxs ∧ t.mint = s.mint ∧
          t.fresh = s.fresh)) ∧
      (∀ off data, data.length ≤ 8000 → off + data.length ≤ 0x1000000 → SMap.wf 0 s.img.buffer = true →
        ∃ t, exec (.imageTransfer sid off data 0) s = .next t ∧ dramRead t.img.buffer off data.length = data ∧
          (∀ a, a < off ∨ off + data.length ≤ a → dramGet t.img.buffer a = dramGet s.img.buffer a) ∧
          t.out = s.out ++ [.spdm (sid.getD 0) "IMAGE_TRANSFER" [0]] ∧ t.store = s.store))

/-- A context closes step by step: refused requests, ended leases, drain markers, zeroed keys, closed connections,
the scrub, and then CLOSED (R337, R359, R409, R411, R414, R416, R418, R420). -/
def Obligations.CloseSteps : Prop :=
  ∀ s : State, SMap.wf {} s.ctxs = true → SMap.wf {} s.conns = true →
    ((s.ctx (s.rfld .mtCtxSel 0 9 0)).state = .opn → ∃ t, exec .mtCtxCmdClose s = .next t ∧
      (t.ctx (s.rfld .mtCtxSel 0 9 0)).state = .closing ∧ (t.ctx (s.rfld .mtCtxSel 0 9 0)).queue = [] ∧
      t.closeStep (s.rfld .mtCtxSel 0 9 0) = 2 ∧ t.store = s.store) ∧
    ((s.ctx (s.rfld .mtCtxSel 0 9 0)).state ≠ .opn → exec .mtCtxCmdClose s = .next s) ∧
    ∀ c : Nat,
      (s.closeReady c = true → ∃ t, exec (.closeDrained c) s = .next t ∧ t.closeStep c = 3 ∧
        (SMap.wf s.idleCore s.sluice.cores = true → s.idleCore.lessee = none → t.leasesOf c = [])) ∧
      (s.closeStep c = 3 → s.dataMapped c = false → ∃ t, exec (.closeRevoked c) s = .next t ∧
        (t.close? c).map (·.step) = some 4 ∧ (t.close? c).map (·.since) = some s.hubUnits ∧
        (t.close? c).map (·.furrows) = some ((List.range 8).filter s.trained) ∧ t.store = s.store) ∧
      (∀ x, s.close? c = some x → x.step = 4 →
        (x.furrows = [] → s.pathsHeld c = [] → exec (.closeMarkersReturned c) s = .next (s.closeKeys c)) ∧
        (x.since + x.limit ≤ s.hubUnits → x.furrows ≠ [] → ∃ u : State, u.conns = s.conns ∧ u.store = s.store ∧
          u.mint.drainto = c :: s.mint.drainto ∧ u.mint.ctxKeys = s.mint.ctxKeys ∧
          exec (.drainLimitExpiry c) s = .next (State.closeKeys u c)) ∧
        (s.closeKeys c).closeStep c = 6 ∧ ((s.closeKeys c).mint.ctxKeys.any (fun e => e.1 == c)) = false ∧
        (∀ k ∈ s.boundConns c, ((s.closeKeys c).conn k).key0 = 0 ∧ ((s.closeKeys c).conn k).key1 = 0 ∧
          ((s.closeKeys c).conn k).state ≠ .opn)) ∧
      (s.closeStep c = 6 → (s.boundConns c).all (fun k => (s.conn k).state == .closed) = true →
        ∃ t, exec (.closeConnsClosed c) s = .next t ∧ t.closeStep c = 7 ∧ t = { s with mint := t.mint }) ∧
      (s.closeStep c = 7 → s.sluice.cores.all (fun e => e.2.zeroing != some c) = true →
        exec (.closeScrubDone c) s = .next ((s.scrubCtx c).endClose c) ∧
        ∀ u : State, SMap.wf {} u.ctxs = true → ((u.endClose c).ctx c).state = .closed ∧ (u.endClose c).close? c = none) ∧
      ((s.conn c).state = .closing → (s.conn c).outs = [] → ∃ t, exec (.connClosed c) s = .next t ∧
        (t.conn c).state = .closed ∧ (t.conn c).key0 = 0 ∧ (t.conn c).key1 = 0 ∧ (t.conn c).rnext = 0 ∧
        (t.conn c).held = [] ∧ ∀ j, j ≠ c → t.conn j = s.conn j)

/-- An image operation ended in ERROR: CB_STATUS says where, the failure is counted, nothing else changes. -/
def LoadFailed (s : State) (e : LoadErr) (t : State) : Prop :=
  t.img = { s.img with state := 3, err := e.err, sect := e.sect, record := e.record } ∧
  t.ctr .cbCntFail 0 = Nat.min State.ctrMax (s.ctr .cbCntFail 0 + 1) ∧ t = { s with img := t.img, ctrs := t.ctrs }

/-- An image operation fails with the first error and changes nothing else, or applies, logs or stores its image;
the buffer is read and written at ADDR (R434, R435, R436, R441, R443, Table 14-8, Table 14-12). -/
def Obligations.LoaderOperations : Prop :=
  ∀ s : State,
    (∀ e, parseImage s.variantCode s.bufferBytes = .error e → ∀ i ∈ [Instr.cbLoad, .cbStore, .cbAmend],
      ∃ t, exec i s = .next t ∧ LoadFailed s e t) ∧
    (∀ img, parseImage s.variantCode s.bufferBytes = .ok img →
      (∀ e, s.validate .load false img = .error e → ∃ t, exec .cbLoad s = .next t ∧ LoadFailed s e t) ∧
      (∀ e, s.validate .store false img = .error e → ∃ t, exec .cbStore s = .next t ∧ LoadFailed s e t) ∧
      (∀ e, s.validate .amend true img = .error e → ∃ t, exec .cbAmend s = .next t ∧ LoadFailed s e t) ∧
      (s.validate .store false img = .ok () → ∃ t, exec .cbStore s = .next t ∧ t.img = { s.img with
        stored := some img.bytes, log := [], state := 2, err := 0, sect := 0, record := 0 } ∧
        t = { s with img := t.img, power := t.power } ∧ (s.power.failed = false → t.power = s.power)) ∧
      (s.validate .load false img = .ok () → s.imageUndef img = none → ∃ t, exec .cbLoad s = .next t ∧
        t.img.base = some img.bytes ∧ t.img.amends = [] ∧ t.img.state = 2 ∧ t.img.err = 0 ∧
        (t.power.step = 5 → t.power.failed = false)) ∧
      (∀ r, s.validate .load false img = .ok () → s.imageUndef img = some r → exec .cbLoad s = .fault (.undefinedResult r)) ∧
      (∀ r, s.validate .amend true img = .ok () → s.imageUndef img = some r → exec .cbAmend s = .fault (.undefinedResult r)) ∧
      (s.validate .amend true img = .ok () → s.imageUndef img = none → ∃ t, exec .cbAmend s = .next t ∧
        t.img.amends.getLast? = some img.bytes ∧ t.img.log.getLast? = some img.bytes ∧ t.img.state = 2 ∧ t.img.err = 0)) ∧
    (∃ t, exec .cbClear s = .next t ∧ t = { s with img := { s.img with
      buffer := [], state := 2, err := 0, sect := 0, record := 0 } } ∧ ∀ a, dramGet t.img.buffer a = 0) ∧
    (SMap.risesFrom 0 s.regs.eff = true → SMap.wf 0 s.img.buffer = true → ∀ w : Word,
      ∃ t, exec (.cbData (some w)) s = .next t ∧ dramRead t.img.buffer s.bufferAddr 8 = leBytes 8 w.toNat ∧
        (∀ a, a < s.bufferAddr ∨ s.bufferAddr + 8 ≤ a → dramGet t.img.buffer a = dramGet s.img.buffer a) ∧
        t.bufferAddr = (s.bufferAddr + 8) % 0x1000000 ∧ t.out = s.out ∧ t.store = s.store) ∧
    (SMap.risesFrom 0 s.regs.eff = true → ∃ t, exec (.cbData none) s = .next t ∧
      t.out = s.out ++ [.value (wordOf (leNat (dramRead s.img.buffer s.bufferAddr 8)))] ∧
      t.bufferAddr = (s.bufferAddr + 8) % 0x1000000 ∧ t.img = s.img ∧ t.store = s.store)

/-- The commits of register groups, with their groups. -/
def groupCommits (n : Nat) : List (Instr × Group) :=
  [(.hubRetCfgCommit, .hubRet), (.hgCfgCommit, .hgCfg), (.hgCtxCommit n, .hgCtx n), (.hgGateCommit n, .hgGate n),
   (.wpCfgCommit n, .wp n), (.scCfgCommit n, .sc n), (.pgCfgCommit n, .pg n), (.pgCodeCommit, .pgCode), (.stCfgCommit n, .st n),
   (.lcCfgCommit, .lc), (.rqCfgCommit, .rq), (.rqEpochCommit, .rqEpoch), (.lkCfgCommit, .lk), (.fuCommit n, .fu n),
   (.mtCfgCommit, .mt), (.rsCfgCommit, .rs), (.rsShadowCommit n, .rsShadow n), (.brFwCommit, .brFw), (.pwCfgCommit, .pw)]

/-- A commit takes its shadows as the values in effect at once or at its moment, is refused with its bit, or does
nothing where its instance is absent (R438, R439, R302, R335, R350, R358). -/
def Obligations.CommitsTakeEffect : Prop :=
  ∀ s : State, SMap.risesFrom 0 s.regs.eff = true →
    (∀ n, ∀ p ∈ groupCommits n,
      (s.hasGroup p.2 = false → exec p.1 s = .next s) ∧
      (s.hasGroup p.2 = true →
        (∀ r, s.commitUndef p.2 = some r → exec p.1 s = .fault (.undefinedResult r)) ∧
        (s.commitUndef p.2 = none →
          (∀ r i b, s.commitRefused p.2 = some (r, i, b) → ∃ t, exec p.1 s = .next t ∧ t.rbit r i b = true ∧
            t = { s with regs := t.regs } ∧ t.regs.shadow = s.regs.shadow ∧ t.regs.cap = s.regs.cap ∧
            ∀ r' i', r'.key i' ≠ r.key i → t.reg r' i' = s.reg r' i') ∧
          (s.commitRefused p.2 = none → exec p.1 s = .next (s.commitGroup p.2))))) ∧
    (∀ n, ∀ g ∈ [Group.hubRet, .hgCfg, .sc n, .pgCode, .st n, .rq, .mt, .rs, .brFw],
      (g = .hgCfg → ∀ e ∈ s.ctxs, (s.ctx e.1).queue = []) → ∃ t : State, s.commitGroup g = t ∧
      t = { s with regs := t.regs } ∧ (∀ x ∈ g.regs, t.reg x.1 x.2 = s.shadow x.1 x.2) ∧
      ∀ r i, (∀ x ∈ g.regs, x.1.key x.2 ≠ r.key i) → t.reg r i = s.reg r i) ∧
    (∀ n, ∀ g ∈ [Group.pg n, .pw, .hgCtx n], (∀ c, g = .hgCtx c → (s.ctx c).queue ≠ []) → ∃ t : State,
      s.commitGroup g = t ∧ t = { s with regs := t.regs } ∧ t.regs.eff = s.regs.eff ∧ t.regs.shadow = s.regs.shadow ∧
      ∀ x ∈ g.regs, t.captured x.1 x.2 = some (s.shadow x.1 x.2)) ∧
    (∀ k, exec (.captureEffect (.pgCfg k)) s = .next s) ∧
    (∀ c, exec (.captureEffect (.hgCtx c)) s = .next (s.applyHgCtx c).headsCheck ∧
      (s.captured .hgBktRate c = none → s.applyHgCtx c = s) ∧
      (∀ w, s.captured .hgBktRate c = some w → (s.applyHgCtx c).reg .hgBktRate c = w ∧
        s.applyHgCtx c = { s with regs := (s.applyHgCtx c).regs, ctxs := (s.applyHgCtx c).ctxs }))

/-- FU_CONN_COMMIT opens a connection afresh, refuses one its slice or confidential mode does not allow, or begins
its close (R337, R413, R428, R431). -/
def Obligations.ConnectionsAreCommitted : Prop :=
  ∀ (s : State) (far : Option Nat), SMap.risesFrom 0 s.regs.eff = true → SMap.wf {} s.conns = true →
    ∀ c w, s.rfld .fuConnSel 0 13 0 = c → s.shadow .fuConnCfg c = w →
    (c = 0 → exec (.fuConnCommit far) s = .next s) ∧ (c ≠ 0 →
    (w.bit 0 = true →
      ((s.conn c).state = .opn ∨ (s.conn c).state = .closing → exec (.fuConnCommit far) s = .next s) ∧
      (((s.conn c).state = .closed ∨ (s.conn c).state = .failed) →
        (w.bit 5 = true → (s.sliceRec (s.sliceOf (w.fld 15 6))).furmask.testBit (w.fld 3 1) = false →
          exec (.fuConnCommit far) s = .next (s.count .cbCntRefused 0 1)) ∧
        (w.bit 5 = true → (s.sliceRec (s.sliceOf (w.fld 15 6))).furmask.testBit (w.fld 3 1) = true → w.bit 16 = false →
          s.img.conf = true → exec (.fuConnCommit far) s = .next (s.count .mtCntConfref 0 1)) ∧
        ((w.bit 5 = true → (s.sliceRec (s.sliceOf (w.fld 15 6))).furmask.testBit (w.fld 3 1) = true ∧
            (w.bit 16 = true ∨ s.img.conf = false)) →
          (∀ e ∈ s.conns, e.1 ≠ c → e.2.state = .opn → s.connFurrow e.1 = w.fld 3 1 → s.connTo e.1 ≠ w.fld 34 21) →
          s.unsent = [] → s.own = [] → ∃ t, exec (.fuConnCommit far) s = .next t ∧ (t.conn c).state = .opn ∧
            (t.conn c).rnext = 0 ∧ (t.conn c).outs = [] ∧ (t.conn c).held = [] ∧ (t.conn c).txseq = 0 ∧
            (t.conn c).key0 = (s.conn c).key0 ∧ (t.conn c).key1 = (s.conn c).key1 ∧
            t.reg .fuConnCfg c = w ∧ (∀ n, far = some n → t.routeTo c = some n) ∧ (far = none → t.img = s.img) ∧
            (∀ j, j ≠ c → t.conn j = s.conn j) ∧ t.store = s.store ∧ t.slots = s.slots))) ∧
    (w.bit 0 = false →
      ((s.conn c).state = .opn → ∃ t, exec (.fuConnCommit far) s = .next t ∧ (t.conn c).state = .closing ∧
        t.rbit .fuConnCfg c 0 = false ∧ (∀ j, j ≠ c → t.conn j = s.conn j) ∧ t.store = s.store) ∧
      ((s.conn c).state = .closing → exec (.fuConnCommit far) s = .next s) ∧
      ((s.conn c).state = .failed → ∃ t, exec (.fuConnCommit far) s = .next t ∧ (t.conn c).state = .closing ∧
        t.reg .fuConnCfg c = w ∧ t.store = s.store)))

/-- A counter read answers the sum selected and clears it; a register write has the effect of its access codes;
other sizes are answered or dropped (R13, R17, R19, R304, R362, R438, R518, R519). -/
def Obligations.RegisterAccesses : Prop :=
  ∀ s : State, SMap.risesFrom 0 s.regs.eff = true → SMap.wf 0 s.ctrs = true →
    (∀ port addr len c i, State.aligned addr len = true → ctrAt addr = some (c, i) → s.blockAbsent c.place.dims i = false →
      ∃ t, exec (.counterRead port addr len) s = .next t ∧ t = { s with ctrs := t.ctrs, out := t.out } ∧
        t.out = s.out ++ [.value (wordOf (Nat.min State.ctrMax ((s.ctrInstances c i).map (s.ctr c)).sum))] ∧
        (∀ k ∈ s.ctrInstances c i, t.ctr c k = 0) ∧
        ∀ c' k', (∀ k ∈ s.ctrInstances c i, c'.key k' ≠ c.key k) → t.ctr c' k' = s.ctr c' k') ∧
    (∀ port addr len, State.aligned addr len = false →
      exec (.counterRead port addr len) s = .next (s.emit (.hostError port 0 "UR"))) ∧
    (∀ port addr len (w : Word) r i, port < 2 → s.portUp port = true → State.aligned addr len = true → regAt addr = some (r, i) →
      (addr < 0xA80000 ∨ 0xA81008 ≤ addr) → State.highShadow addr = false →
      s.writeDiscarded r i = false →
      (State.reservedSet r w = true → exec (.registerWrite (.pf port) addr len w) s = .fault (.undefinedResult 19)) ∧
      (State.reservedSet r w = false → s.writeUndef r w = none → s.commandWrite r i w = none →
      ∃ t, exec (.registerWrite (.pf port) addr len w) s = .next t ∧ t = { s with regs := t.regs } ∧
        (r.access.rwc ≠ 0 → t.captured r (s.shadowInst r i) = s.captured r (s.shadowInst r i) ∧
          SMap.get none t.regs.shadow (r.key (s.shadowInst r i)) = some (w &&& wordOf r.access.rwc)) ∧
        ((r.access.rw ≠ 0 ∨ r.access.w1c ≠ 0) → t.reg r (s.shadowInst r i) =
          (s.reg r (s.shadowInst r i) &&& ~~~(wordOf r.access.rw) ||| w &&& wordOf r.access.rw) &&& ~~~(w &&& wordOf r.access.w1c)) ∧
        ∀ r' j, r'.key j ≠ r.key (s.shadowInst r i) → t.reg r' j = s.reg r' j)) ∧
    (∀ port addr len w, (2 ≤ port ∨ s.portUp port = false ∨ State.aligned addr len = false) →
      exec (.registerWrite (.pf port) addr len w) s = .next s) ∧
    (∀ v tee addr len w, State.isVf v = true → s.portUp (v / 1024) = true → s.vfServes v tee = false →
      exec (.registerWrite (.vf v tee) addr len w) s = .next (s.emit (.hostError (v / 1024) 0 "UR"))) ∧
    (∀ o, (s.slots.any (fun e => decide (e.2.state ≠ .free) && e.2.hdr.origin == o) = true →
        exec (.rqOriginClr o) s = .next s) ∧
      (s.slots.any (fun e => decide (e.2.state ≠ .free) && e.2.hdr.origin == o) = false → ∃ t,
        exec (.rqOriginClr o) s = .next t ∧ t = { s with origins := t.origins } ∧ (∀ x ∈ t.origins, x.node ≠ o) ∧
        ∀ x ∈ s.origins, x.node ≠ o → x ∈ t.origins)) ∧
    (∀ ctx (w : Word) tee, State.isVf (vfOfCtx ctx) = true → s.portUp (vfOfCtx ctx / 1024) = true →
      s.vfServes (vfOfCtx ctx) tee = false →
      exec (.hgVfIrq ctx w tee) s = .next (s.emit (.hostError (vfOfCtx ctx / 1024) 0 "UR"))) ∧
    (∀ ctx (w : Word) tee, State.isVf (vfOfCtx ctx) = true → s.portUp (vfOfCtx ctx / 1024) = true →
      s.vfServes (vfOfCtx ctx) tee = true → State.reservedSet .hgVfIrq w = false → ∃ t, exec (.hgVfIrq ctx w tee) s = .next t ∧ t.reg .hgVfIrq (vfOfCtx ctx) =
        s.reg .hgVfIrq (vfOfCtx ctx) &&& ~~~(wordOf 0xFFF) ||| w &&& wordOf 0xFFF ∧
      t = { s with regs := t.regs, ctrs := t.ctrs, host := t.host, out := t.out } ∧
      ∀ r j, r.key j ≠ Reg.hgVfIrq.key (vfOfCtx ctx) → t.reg r j = s.reg r j)

/-- Losing or regaining the input, a module reset and a lost PLL leave the module as chapter 17 says; flash, fuses
and silt wear survive a module reset (R449, R478, R493, R494, R495, R499, R501, R505, R512, R514). -/
def Obligations.PowerEvents : Prop :=
  ∀ s : State,
    (∀ rails step, let t := s.moduleReset rails step
      t.slots = [] ∧ t.ctxs = [] ∧ t.conns = [] ∧ t.links = [] ∧ t.store.dram = [] ∧ t.store.roots = [] ∧ t.img.base = none ∧
      t.img.stored = s.img.stored ∧ t.img.log = s.img.log ∧ t.firm.fuse = s.firm.fuse ∧ t.rel.svc = .start ∧
      t.power.rails = rails ∧ t.power.step = step ∧ t.mint.ready = false ∧ t.mint.ctxKeys = [] ∧ t.pending = s.pending ∧
      t.variant = s.variant ∧ (SMap.wf {} s.store.chans = true → ∀ ch, (t.store.chan ch).used = (s.store.chan ch).used)) ∧
    (∀ us, us < 10 → exec (.modReset us) s = .next s) ∧
    (∀ us, 10 ≤ us →
      ((s.power.rails = .on ∨ s.power.rails = .inReset ∨ s.power.rails = .commanded) →
        exec (.modReset us) s = .next (s.moduleReset .on 2)) ∧
      (s.power.rails = .overcurrent → exec (.modReset us) s = .next s.powerOn) ∧
      ((s.power.rails = .noInput ∨ s.power.rails = .overvolt) → exec (.modReset us) s = .next s) ∧
      (s.power.rails = .tripped → (∀ e ∈ s.power.temps, e.2 < 70) → exec (.modReset us) s = .next (s.moduleReset .on 2)) ∧
      (s.power.rails = .tripped → (∃ e ∈ s.power.temps, 70 ≤ e.2) → ∃ t, exec (.modReset us) s = .next t ∧
        t.power.rails = .tripped ∧ t.power.pulsed = true)) ∧
    (s.powerOn.power.rails = .on ∧ s.powerOn.power.step = 1 ∧ s.powerOn.power.ocLatch = false ∧ s.powerOn.slots = [] ∧
      s.powerOn.power.ovLatch = false ∧ (s.power.ocLatch = true → s.powerOn.rbit .pwFault 0 0 = true) ∧
      (s.power.ovLatch = true → s.powerOn.rbit .pwFault 0 1 = true)) ∧
    (s.standby = true →
      (∃ t, exec .overcurrent s = .next t ∧ t.power.rails = .overcurrent ∧ t.power.ocLatch = true ∧ t.slots = []) ∧
      (∃ t, exec .overvoltage s = .next t ∧ t.power.rails = .overvolt ∧ t.power.ovLatch = true ∧ t.slots = []) ∧
      exec .managementPllLoss s =
        .next (s.moduleReset (if s.power.rails = .tripped then .tripped else .on) 2)) ∧
    (s.standby = false → ∀ i ∈ [Instr.overcurrent, .overvoltage, .managementPllLoss], exec i s = .next s) ∧
    exec .undervoltage s = .next (s.moduleReset .noInput 1) ∧
    ((s.power.rails = .noInput ∨ s.power.rails = .overvolt) → exec .inputRise s = .next s.powerOn) ∧
    (s.power.rails ≠ .noInput → s.power.rails ≠ .overvolt → exec .inputRise s = .next s) ∧
    (s.powered = false → exec .hubPllLoss s = .next s) ∧
    (s.powered = true → SMap.risesFrom 0 s.links = true → ∃ t, exec .hubPllLoss s = .next t ∧ t.rel.svc = .out ∧
      t.power.pllHub = false ∧ t.rbit .pwFault 0 4 = true ∧ ∀ e ∈ s.links, (t.link e.1).state = .disabled) ∧
    (∀ n, (n < 256 ∨ s.standby = false) → exec (.pwrFail n) s = .next s) ∧
    (∀ n, 256 ≤ n → s.standby = true → ∃ t, exec (.pwrFail n) s = .next t ∧ (s.rel.svc ≠ .service → s.rel.cr = .none →
      t.power.pwrFail = true ∧ t.rbit .pwFault 0 3 = true ∧ t.rel = { s.rel with predFlash := s.rel.pred } ∧
      t.store = s.store)) ∧
    ((s.rel.svc ≠ .out ∨ s.powered = false) → exec .off s = .next s) ∧
    (s.rel.svc = .out → s.powered = true → ∃ t, exec .off s = .next t ∧ t.power.rails = .commanded ∧ t.store.dram = [] ∧
      t.slots = [] ∧ t.mint.metaKey = none ∧ t.img.base = s.img.base)

/-- A start-up step may end now: power is on, nothing failed, and PWR_FAIL_N has not stopped start-up. -/
def StartingUp (s : State) : Prop := s.powered = true ∧ s.power.failed = false ∧ s.power.halted = false

/-- The next step began, or PWR_FAIL_N stopped start-up (R496). -/
def Advanced (s t : State) : Prop :=
  (s.power.pwrFail = false → t.power.step = s.power.step + 1) ∧ (s.power.pwrFail = true → t.power.halted = true) ∧
  t.power.failed = s.power.failed

/-- Start-up goes step by step, a failed step holds the module in START, SERVICE asks for its conditions, and
software's resets act only where allowed (R449, R451, R490, R496, R503, R512, R513). -/
def Obligations.StartUpAndService : Prop :=
  ∀ s : State, SMap.risesFrom 0 s.regs.eff = true →
    (∀ e, (s.powered = false ∨ s.power.failed = true ∨ s.power.halted = true) → exec (.startupStepDone e) s = .next s) ∧
    (StartingUp s → ∀ e : StepEnd,
      (e.ok = false → s.power.step < 6 → ∃ t, exec (.startupStepDone e) s = .next t ∧ t.power.failed = true ∧
        t.power.step = s.power.step ∧ t.rbit .rsFault 0 3 = true ∧ t.store = s.store) ∧
      (e.ok = true →
        (s.power.step = 1 → ∃ t, exec (.startupStepDone e) s = .next t ∧ Advanced s t) ∧
        (s.power.step = 2 → s.bootOk e.bad s.firm.run = true → ∃ t, exec (.startupStepDone e) s = .next t ∧ Advanced s t ∧
          t.mint.ready = true ∧ t.mint.aliasCert = true ∧ t.firm.run = s.firm.run ∧ t.store = s.store) ∧
        (s.power.step = 2 → s.bootOk e.bad s.firm.run = false → s.bootOk e.bad s.otherSlot = true →
          ∃ t, exec (.startupStepDone e) s = .next t ∧ Advanced s t ∧ t.mint.ready = true ∧ t.firm.run = s.otherSlot ∧
            t.firm.err = 7) ∧
        (s.power.step = 2 → s.bootOk e.bad s.firm.run = false → s.bootOk e.bad s.otherSlot = false →
          ∃ t, exec (.startupStepDone e) s = .next t ∧ t.power.failed = true ∧ t.power.step = 2 ∧ t.mint = s.mint ∧
            t.firm.slot0 = {} ∧ t.firm.slot1 = {}) ∧
        (s.power.step = 3 → e.pllHub = true → e.pllStacks = 2 ^ s.stackCount - 1 → e.pllPorts = 2 ^ s.portDies - 1 →
          ∃ t, exec (.startupStepDone e) s = .next t ∧ Advanced s t ∧ t.sluice.vload = some s.running.m3 ∧
            t = { s with power := t.power, sluice := t.sluice }) ∧
        (s.power.step = 4 → s.mint.stopped = true → exec (.startupStepDone e) s = .next s) ∧
        (s.power.step = 4 → s.mint.stopped = false → ∃ t, exec (.startupStepDone e) s = .next t ∧ Advanced s t ∧ t.store.dram = [] ∧
          t.store.roots = [] ∧ t.mint.ctxKeys = [] ∧ t.power.tested = e.passed % 2 ^ s.stackCount) ∧
        (s.power.step = 5 → s.img.stored = none → ∃ t, exec (.startupStepDone e) s = .next t ∧ t.power.failed = true ∧
          t.power.step = 5 ∧ t.img.state = 3 ∧ t.rbit .rsFault 0 3 = true) ∧
        (∀ u : State, s.power.step = 5 → s.loadStored = .ok u → exec (.startupStepDone e) s = .next (u.setLoad 2 {}).nextStep) ∧
        (6 ≤ s.power.step → exec (.startupStepDone e) s = .next s))) ∧
    (s.rel.svc = .service → exec .service s = .next s) ∧
    (s.rel.svc = .start → s.svcReady = true → ∃ t, exec .service s = .next t ∧ t.rel.svc = .service ∧ t.power.step = 7 ∧
      t = { s with rel := { s.rel with svc := .service }, power := { s.power with step := 7 }, firm := t.firm }) ∧
    (s.rel.svc ≠ .service → (s.rel.svc ≠ .start ∨ s.svcReady = false) → ∃ t, exec .service s = .next t ∧
      t.rbit .brSvc 0 5 = true ∧ t = { s with regs := t.regs }) ∧
    ((s.rel.svc = .service ∨ s.rel.svc = .withdrawing) → exec .fabricReset s = .next s) ∧
    ((s.rel.svc = .start ∨ s.rel.svc = .out) → exec .fabricReset s = .next s.resetFabric ∧
      (s.mint.stopped = false → exec .memoryInitRequest s = .next s.initMemory) ∧ (s.img.base = none → s.img.amends = [] →
        s.resetFabric.slots = [] ∧ s.resetFabric.conns = [] ∧ s.resetFabric.links = [] ∧
        s.resetFabric.store.dram = s.store.dram ∧ s.initMemory.store.dram = [] ∧ s.initMemory.mint.ctxKeys = [])) ∧
    (s.mint.stopped = true → exec .memoryInitRequest s = .next s) ∧
    (s.rel.svc = .service → s.mint.stopped = false → (∀ e ∈ s.ctxs, e.2.state = .closed) → exec .memoryInitRequest s = .next s.initMemory) ∧
    (s.rel.svc = .service → (∃ e ∈ s.ctxs, e.2.state ≠ .closed) → exec .memoryInitRequest s = .next s) ∧
    (s.rel.svc = .withdrawing → exec .memoryInitRequest s = .next s) ∧
    (∀ r, s.standby = false → exec (.sensorReading r) s = .next s) ∧
    (∀ r : Sensors, s.standby = true → ∃ t, exec (.sensorReading r) s = .next t ∧ ((∀ e ∈ r.temps, e.2 ≤ 100) →
      t.mgmtMs = s.mgmtMs + 1 ∧ t.power.seconds = (s.mgmtMs + 1) / 1000 ∧ t.power.vin = r.vin % 65536 ∧
      t.power.iin = r.iin % 65536 ∧ t.power.pin = r.pin % 65536 ∧
      t.power.temps = r.temps.foldl (fun (m : List (Nat × Nat)) (e : Nat × Nat) => SMap.set 0 m e.1 e.2) [] ∧
      t.store = s.store))

/-- A datagram has arrived: what the port shows of it. -/
def arrived (s : State) (port : Nat) (g : Bool) : State :=
  { s with power := { s.power with
      mpLink := s.power.mpLink ||| 2 ^ port, mpGlobal := s.power.mpGlobal ||| (if g then 2 ^ port else 0) } }

/-- A management datagram is checked, answered once, and answered again from store; events are acknowledged and sent
again; management commands need their session (R478, R507, R508, R509, R510, R511, R516). -/
def Obligations.ManagementMessages : Prop :=
  ∀ s : State,
    (∀ port g h n m, (2 ≤ port ∨ s.standby = false) → exec (.managementDatagram port g h n m) s = .next s) ∧
    (∀ port g h n m, port < 2 → s.standby = true →
      (State.mgmtHdr h n = none →
        exec (.managementDatagram port g h n m) s = .next ((arrived s port g).count .brCntMpBad 0 1)) ∧
      (∀ x, State.mgmtHdr h n = some x →
        (x.type = 2 → ∃ t, exec (.managementDatagram port g h n m) s = .next t ∧
          t.out = s.out ++ [.mgmt port 2 0 x.mseq "DISCOVER" (leBytes 1 s.variantCode ++ leBytes 2 s.node ++
            leBytes 1 (State.svcWord s.rel.svc) ++ leBytes 8 s.running.version ++ leBytes 20 Config.devIdSerial)] ∧
          t = { arrived s port g with out := t.out, ctrs := t.ctrs }) ∧
        (∀ a, x.type = 1 → x.session ≠ 0 → (s.spdmSession x.session).isSome = true →
          (s.msession x.session).answers.find? (fun a => a.seq == x.mseq) = some a → a.req ≠ m →
          exec (.managementDatagram port g h n m) s = .fault (.undefinedResult 516)) ∧
        (∀ a, x.type = 1 → x.session ≠ 0 → (s.spdmSession x.session).isSome = true →
          (s.msession x.session).answers.find? (fun a => a.seq == x.mseq) = some a → a.req = m →
          ∃ t, exec (.managementDatagram port g h n m) s = .next t ∧
            t.out = s.out ++ a.msgs.map (fun y => .mgmt port 1 x.session x.mseq y.1 y.2) ∧
            t = { arrived s port g with out := t.out, ctrs := t.ctrs }) ∧
        (x.type = 1 → x.session ≠ 0 → (s.spdmSession x.session).isSome = true →
          (s.msession x.session).answers.find? (fun a => a.seq == x.mseq) = none →
          x.mseq + 256 < (s.msession x.session).next →
          exec (.managementDatagram port g h n m) s = .next (arrived s port g)) ∧
        (x.type ≠ 2 → x.session ≠ 0 → s.spdmSession x.session = none →
          exec (.managementDatagram port g h n m) s = .next (arrived s port g)))) ∧
    (s.standby = true →
      (∀ port q, ∃ t, exec (.discover port q) s = .next t ∧ t = { s with out := t.out } ∧ t.out = s.out ++ [.mgmt port 2 0 q "DISCOVER" s.discoverBytes]) ∧
      (∀ e, ∃ t, exec (.eventAck e) s = .next t ∧ (∀ x ∈ t.power.events, x.eseq ≠ e) ∧
        (∀ x ∈ s.power.events, x.eseq ≠ e → x ∈ t.power.events) ∧ t = { s with power := t.power } ∧ t.power.subs = s.power.subs) ∧
      (∀ e x, s.power.events.find? (fun y => y.eseq == e) = some x →
        (s.power.seconds ≤ x.since → exec (.eventResend e) s = .next s) ∧
        (x.since < s.power.seconds → 8 ≤ x.sends → ∃ t, exec (.eventResend e) s = .next t ∧
          (∀ y ∈ t.power.events, y.eseq ≠ e) ∧ t.out = s.out) ∧
        (x.since < s.power.seconds → x.sends < 8 → ∃ t, exec (.eventResend e) s = .next t ∧
          t.out = s.out ++ s.power.subs.map (fun a => .event a x.eseq x.what) ∧
          t.power.events.length = s.power.events.length)) ∧
      (∀ a d, ∃ t, exec (.dynamicAddressAssignment a d) s = .next t ∧ t.power.i3cAddr = some (a % 128) ∧
        t.power.eid = some (d % 256) ∧ t = { s with power := t.power })) ∧
    (∀ sid, MintHears s sid →
      (s.managementOk sid = false → ∀ a x n w, ∀ i ∈ [Instr.subscribe sid a, .predictiveClear sid, .registerAccess sid x n w],
        ∃ t, exec i s = .next t ∧ t.out = s.out ++ [.spdm (sid.getD 0) "ERROR UnexpectedRequest" []] ∧
          t = { s with out := t.out, ctrs := t.ctrs }) ∧
      (s.managementOk sid = true → s.power.failed = false →
        (∀ a, ∃ t, exec (.subscribe sid a) s = .next t ∧ a ∈ t.power.subs ∧ (∀ x, x ∈ t.power.subs → x = a ∨ x ∈ s.power.subs) ∧
          t = { s with power := t.power, out := t.out, ctrs := t.ctrs }) ∧
        (∃ t, exec (.predictiveClear sid) s = .next t ∧ t.rel.pred = [] ∧ t.rel.predFlash = [] ∧
          t = { s with rel := t.rel, out := t.out, ctrs := t.ctrs }) ∧
        (∀ a r i, State.aligned a 8 = true → (a < 0xA80000 ∨ 0xA81008 ≤ a) → regAt a = some (r, i) → r ≠ .cbData →
          ∃ t, exec (.registerAccess sid a 8 none) s = .next t ∧ t = { s with out := t.out, ctrs := t.ctrs } ∧
            t.out = s.out ++ [.spdm (sid.getD 0) "REGISTER_ACCESS" (leBytes 8 ((heardReq s).regRead r i).toNat)])))

/-- A write of RS_CMD.CRESET asks for a compute reset with cause COMMAND, has no effect while one runs, and every
compute reset counts toward escalation (R458). -/
def Obligations.ComputeResetsRequested : Prop :=
  ∀ s : State,
    (s.rel.cr = .none → s.rel.wanted = [] →
      exec .creset s = .next { s with rel := { s.rel with wanted := [{ cause := 5, stack := 0, pc := 0 }] } }) ∧
    (∀ p, p < 2 → s.portUp p = true → exec (.registerWrite (.pf p) 0xD00030 8 1) s = exec .creset s) ∧
    (s.rel.cr ≠ .none → exec .creset s = .next s) ∧
    (∀ w, s.rel.cr = .none → s.rel.wanted = [w] → (s.rel.svc = .start ∨ s.rel.svc = .service) → s.firm.st ≠ .reverting →
      ∃ t, exec .computeReset s = .next t ∧ t.rel.cr = .draining ∧
        t.rel.resets = (s.rel.resets ++ [s.power.seconds]).drop (s.rel.resets.length + 1 - 15) ∧
        t.rel.escalate = decide (t.rfld .rsCfg 0 3 0 ≤ t.winCount))

/-- A header whose every field fits its bits of Table 09-1. -/
def HdrFits (h : Hdr) : Prop :=
  h.gen < 2 ^ 2 ∧ h.kind < 2 ^ 6 ∧ h.ctx < 2 ^ 10 ∧ h.flags < 2 ^ 14 ∧ h.epoch < 2 ^ 16 ∧ h.status < 2 ^ 8 ∧ h.spare < 2 ^ 8 ∧
  h.origin < 2 ^ 16 ∧ h.seq < 2 ^ 48 ∧ h.conv < 2 ^ 64 ∧ h.layer < 2 ^ 8 ∧ h.kvh < 2 ^ 8 ∧ h.offset < 2 ^ 24 ∧ h.total < 2 ^ 24

/-- An RMA descriptor whose every field fits its bits of Table 10-7. -/
def DescFits (d : RmaDesc) : Prop :=
  d.op < 2 ^ 4 ∧ d.form < 2 ^ 2 ∧ d.firstpos < 2 ^ 24 ∧ d.page < 2 ^ 40 ∧ d.gen < 2 ^ 32 ∧ d.arg < 2 ^ 32 ∧ d.arg2 < 2 ^ 64

/-- A header and an RMA descriptor whose fields fit spell 32 bytes that read back as the same fields, and every 32
header bytes spell the header read from them (Table 09-1, Table 10-7). -/
def Obligations.HeadersRoundTrip : Prop :=
  (∀ h : Hdr, HdrFits h → h.toBytes.length = 32 ∧ Hdr.ofBytes h.toBytes = h) ∧
  (∀ b : Bytes, b.length = 32 → HdrFits (Hdr.ofBytes b) ∧ (Hdr.ofBytes b).toBytes = b) ∧
  (∀ d : RmaDesc, DescFits d → d.toBytes.length = 32 ∧ RmaDesc.ofBytes d.toBytes = d)

/-- Every step keeps DRAM and the image loader's buffer in canonical form: addresses strictly rising and no listed
byte 0 (R159, section 14.3). -/
def Obligations.MemoryStaysCanonical : Prop :=
  ∀ s t : State, s.memoryOk = true → step s = .next t → t.memoryOk = true
end

