-- ==== Sys2Proof/Laws/SMap.lean ====
section
/-! SUPPORT. What reading and writing a sparse table does, and that its canonical form is kept. -/

namespace Sys2Proof.SMap

variable {α : Type}

theorem get_ins_same (d : α) (m : List (Nat × α)) (i : Nat) (x : α) : get d (ins m i x) i = x := by
  induction m with
  | nil => simp [ins, get]
  | cons e t ih =>
    obtain ⟨k, v⟩ := e
    simp only [ins]
    split
    · simp_all [get]
    · split
      · simp [get]
      · simp_all [get]

theorem get_ins_ne (d : α) (m : List (Nat × α)) (i j : Nat) (x : α) (h : j ≠ i) :
    get d (ins m i x) j = get d m j := by
  induction m with
  | nil => simp [ins, get, h]
  | cons e t ih =>
    obtain ⟨k, v⟩ := e
    simp only [ins]
    split
    · rename_i hk; subst hk; simp [get, h]
    · split
      · simp [get, h]
      · simp [get, ih]

theorem get_del_ne (d : α) (m : List (Nat × α)) (i j : Nat) (h : j ≠ i) : get d (del m i) j = get d m j := by
  induction m with
  | nil => rfl
  | cons e t ih =>
    obtain ⟨k, v⟩ := e
    simp only [del]
    split
    · rename_i hk; subst hk; simp [get, h]
    · split
      · rfl
      · simp [get, ih]

/-- Below the keys of a rising table every read is the default. -/
theorem get_below (d : α) (m : List (Nat × α)) (lo i : Nat) (hm : risesFrom lo m = true) (h : i < lo) :
    get d m i = d := by
  induction m generalizing lo with
  | nil => rfl
  | cons e t ih =>
    obtain ⟨k, v⟩ := e
    simp only [risesFrom, Bool.and_eq_true, decide_eq_true_eq] at hm
    have hne : i ≠ k := by omega
    simp only [get, hne, if_false]
    exact ih (k + 1) hm.2 (by omega)

theorem get_del_same (d : α) (m : List (Nat × α)) (lo i : Nat) (hm : risesFrom lo m = true) : get d (del m i) i = d := by
  induction m generalizing lo with
  | nil => rfl
  | cons e t ih =>
    obtain ⟨k, v⟩ := e
    simp only [risesFrom, Bool.and_eq_true, decide_eq_true_eq] at hm
    simp only [del]
    split
    · rename_i hk; subst hk; exact get_below d t (i + 1) i hm.2 (by omega)
    · split
      · rename_i h1 h2
        simp only [get, h1, if_false]
        exact get_below d t (k + 1) i hm.2 (by omega)
      · rename_i h1 h2
        simp only [get, h1, if_false]
        exact ih (k + 1) hm.2

theorem rises_mono (m : List (Nat × α)) (lo lo' : Nat) (h : lo' ≤ lo) (hm : risesFrom lo m = true) :
    risesFrom lo' m = true := by
  cases m with
  | nil => rfl
  | cons e t =>
    obtain ⟨k, v⟩ := e
    simp only [risesFrom, Bool.and_eq_true, decide_eq_true_eq] at hm ⊢
    exact ⟨by omega, hm.2⟩

theorem rises_ins (m : List (Nat × α)) (lo i : Nat) (x : α) (hl : lo ≤ i) (hm : risesFrom lo m = true) :
    risesFrom lo (ins m i x) = true := by
  induction m generalizing lo with
  | nil => simp [ins, risesFrom, hl]
  | cons e t ih =>
    obtain ⟨k, v⟩ := e
    simp only [risesFrom, Bool.and_eq_true, decide_eq_true_eq] at hm
    simp only [ins]
    split
    · rename_i hk; subst hk; simp [risesFrom, hm.2, hl]
    · split
      · rename_i h1 h2
        simp only [risesFrom, Bool.and_eq_true, decide_eq_true_eq]
        exact ⟨hl, by omega, hm.2⟩
      · rename_i h1 h2
        simp only [risesFrom, Bool.and_eq_true, decide_eq_true_eq]
        exact ⟨hm.1, ih (k + 1) (by omega) hm.2⟩

theorem rises_del (m : List (Nat × α)) (lo i : Nat) (hm : risesFrom lo m = true) : risesFrom lo (del m i) = true := by
  induction m generalizing lo with
  | nil => rfl
  | cons e t ih =>
    obtain ⟨k, v⟩ := e
    have hm' := hm
    simp only [risesFrom, Bool.and_eq_true, decide_eq_true_eq] at hm'
    simp only [del]
    split
    · exact rises_mono t (k + 1) lo (by omega) hm'.2
    · split
      · exact hm
      · simp only [risesFrom, Bool.and_eq_true, decide_eq_true_eq]
        exact ⟨hm'.1, ih (k + 1) hm'.2⟩

theorem mem_ins (m : List (Nat × α)) (i : Nat) (x : α) (e : Nat × α) (h : e ∈ ins m i x) : e = (i, x) ∨ e ∈ m := by
  induction m with
  | nil => simp_all [ins]
  | cons f t ih =>
    obtain ⟨k, v⟩ := f
    simp only [ins] at h
    split at h
    · rename_i hk; subst hk
      simp only [List.mem_cons] at h ⊢
      exact h.imp id Or.inr
    · split at h
      · simp only [List.mem_cons] at h ⊢
        exact h
      · simp only [List.mem_cons] at h ⊢
        rcases h with h | h
        · exact Or.inr (Or.inl h)
        · exact (ih h).imp id Or.inr

theorem mem_del (m : List (Nat × α)) (i : Nat) (e : Nat × α) (h : e ∈ del m i) : e ∈ m := by
  induction m with
  | nil => simp_all [del]
  | cons f t ih =>
    obtain ⟨k, v⟩ := f
    simp only [del] at h
    split at h
    · exact List.mem_cons_of_mem _ h
    · split at h
      · exact h
      · simp only [List.mem_cons] at h ⊢
        exact h.imp id ih

variable [DecidableEq α]

theorem get_set_ne (d : α) (m : List (Nat × α)) (i j : Nat) (x : α) (h : j ≠ i) :
    get d (set d m i x) j = get d m j := by
  simp only [set]
  split
  · exact get_del_ne d m i j h
  · exact get_ins_ne d m i j x h

/-- As `get_set_ne`, read with a default of its own. -/
theorem get_set_ne' (d d' : α) (m : List (Nat × α)) (i j : Nat) (x : α) (h : j ≠ i) :
    get d' (set d m i x) j = get d' m j := by
  simp only [set]
  split
  · exact get_del_ne d' m i j h
  · exact get_ins_ne d' m i j x h

/-- A value other than the default reads back, whatever the table. -/
theorem get_set_of_ne (d : α) (m : List (Nat × α)) (i : Nat) (x : α) (h : x ≠ d) : get d (set d m i x) i = x := by
  simp only [set, h, if_false]
  exact get_ins_same d m i x

theorem rises_of_wf {d : α} {m : List (Nat × α)} (h : wf d m = true) : risesFrom 0 m = true := by
  simp only [wf, Bool.and_eq_true] at h
  exact h.1

/-- Any value reads back from a canonical table. -/
theorem get_set_same (d : α) (m : List (Nat × α)) (i : Nat) (x : α) (h : wf d m = true) : get d (set d m i x) i = x := by
  simp only [set]
  split
  · rename_i hx; subst hx; exact get_del_same x m 0 i (rises_of_wf h)
  · exact get_ins_same d m i x

/-- Reading after a write, in a canonical table. -/
theorem get_set (d : α) (m : List (Nat × α)) (i j : Nat) (x : α) (h : wf d m = true) :
    get d (set d m i x) j = if j = i then x else get d m j := by
  split
  · rename_i hj; subst hj; exact get_set_same d m j x h
  · rename_i hj; exact get_set_ne d m i j x hj

/-- Writing keeps the canonical form. -/
theorem wf_set (d : α) (m : List (Nat × α)) (i : Nat) (x : α) (h : wf d m = true) : wf d (set d m i x) = true := by
  simp only [wf, Bool.and_eq_true, List.all_eq_true, decide_eq_true_eq] at h ⊢
  simp only [set]
  split
  · exact ⟨rises_del m 0 i h.1, fun e he => h.2 e (mem_del m i e he)⟩
  · rename_i hx
    refine ⟨rises_ins m 0 i x (Nat.zero_le _) h.1, fun e he => ?_⟩
    rcases mem_ins m i x e he with rfl | he
    · exact hx
    · exact h.2 e he

/-- Taking an entry out keeps the canonical form. -/
theorem wf_del (d : α) (m : List (Nat × α)) (i : Nat) (h : wf d m = true) : wf d (del m i) = true := by
  simp only [wf, Bool.and_eq_true, List.all_eq_true, decide_eq_true_eq] at h ⊢
  exact ⟨rises_del m 0 i h.1, fun e he => h.2 e (mem_del m i e he)⟩

/-- Filtering keeps the canonical form. -/
theorem wf_filter (d : α) (m : List (Nat × α)) (p : Nat × α → Bool) (h : wf d m = true) :
    wf d (m.filter p) = true := by
  simp only [wf, Bool.and_eq_true, List.all_eq_true, decide_eq_true_eq] at h ⊢
  refine ⟨?_, fun e he => h.2 e (List.mem_of_mem_filter he)⟩
  have key : ∀ lo, risesFrom lo m = true → risesFrom lo (m.filter p) = true := by
    intro lo
    induction m generalizing lo with
    | nil => simp [risesFrom]
    | cons e t ih =>
      obtain ⟨k, v⟩ := e
      intro hr
      simp only [risesFrom, Bool.and_eq_true, decide_eq_true_eq] at hr
      simp only [List.filter_cons]
      have ht := ih ⟨by have := h.1; simp only [risesFrom, Bool.and_eq_true] at this; exact rises_mono t _ _ (Nat.zero_le _) this.2,
        fun e he => h.2 e (List.mem_cons_of_mem _ he)⟩ (k + 1) hr.2
      split
      · simp only [risesFrom, Bool.and_eq_true, decide_eq_true_eq]
        exact ⟨hr.1, ht⟩
      · exact rises_mono _ _ _ (by omega) ht
  exact key 0 h.1

end Sys2Proof.SMap
end

