-- ==== Sys2Proof/Laws/Memory.lean ====
section
/-! SUPPORT. The laws of DRAM: a byte written reads back, every other byte is left alone, and every operation keeps the
canonical form. -/

namespace Sys2Proof.Machine

theorem dramSet_wf (m : List Host.Cell) (a : Nat) (b : Byte) (h : Memory.wf m = true) : Memory.wf (dramSet m a b) = true :=
  SMap.wf_set 0 m a b h

theorem dramWrite_wf (m : List Host.Cell) (a : Nat) (bs : Bytes) (h : Memory.wf m = true) :
    Memory.wf (dramWrite m a bs) = true := by
  induction bs generalizing m a with
  | nil => exact h
  | cons b t ih => exact ih _ _ (dramSet_wf m a b h)

theorem dramGet_set (m : List Host.Cell) (a x : Nat) (b : Byte) (h : Memory.wf m = true) :
    dramGet (dramSet m a b) x = if x = a then b else dramGet m x :=
  SMap.get_set 0 m a x b h

theorem dramGet_set_ne (m : List Host.Cell) (a x : Nat) (b : Byte) (h : x ≠ a) :
    dramGet (dramSet m a b) x = dramGet m x := SMap.get_set_ne 0 m a x b h

/-- A byte outside the bytes written reads as before. -/
theorem dramGet_write_out (m : List Host.Cell) (a x : Nat) (bs : Bytes) (h : x < a ∨ a + bs.length ≤ x) :
    dramGet (dramWrite m a bs) x = dramGet m x := by
  induction bs generalizing m a with
  | nil => rfl
  | cons b t ih =>
    simp only [dramWrite, List.length_cons] at h ⊢
    rw [ih _ _ (by omega)]
    exact dramGet_set_ne m a x b (by omega)

/-- A byte written reads back. -/
theorem dramGet_write_in (m : List Host.Cell) (a i : Nat) (bs : Bytes) (hm : Memory.wf m = true) (h : i < bs.length) :
    dramGet (dramWrite m a bs) (a + i) = bs[i] := by
  induction bs generalizing m a i with
  | nil => simp at h
  | cons b t ih =>
    cases i with
    | zero =>
      simp only [dramWrite, Nat.add_zero, List.getElem_cons_zero]
      rw [dramGet_write_out _ _ _ _ (Or.inl (by omega)), dramGet_set m a a b hm]
      simp
    | succ j =>
      simp only [dramWrite, List.getElem_cons_succ]
      have h' : j < t.length := by simpa using h
      have := ih (dramSet m a b) (a + 1) j (dramSet_wf m a b hm) h'
      rw [← this]
      congr 1
      omega

/-- A read after a write of the same place gives the bytes written. -/
theorem dramRead_write (m : List Host.Cell) (a : Nat) (bs : Bytes) (hm : Memory.wf m = true) :
    dramRead (dramWrite m a bs) a bs.length = bs := by
  have key : ∀ n k, (hk : k + n = bs.length) → dramRead (dramWrite m a bs) (a + k) n = bs.drop k := by
    intro n
    induction n with
    | zero => intro k hk; simp only [dramRead]; exact (List.drop_eq_nil_of_le (by omega)).symm
    | succ n ih =>
      intro k hk
      simp only [dramRead]
      have hlt : k < bs.length := by omega
      rw [dramGet_write_in m a k bs hm hlt, List.drop_eq_getElem_cons hlt]
      congr 1
      have := ih (k + 1) (by omega)
      rw [← this]
      congr 1
  simpa using key bs.length 0 (by omega)

/-- A run of bytes outside the bytes written reads as before. -/
theorem dramRead_write_out (m : List Host.Cell) (a x n : Nat) (bs : Bytes) (h : x + n ≤ a ∨ a + bs.length ≤ x) :
    dramRead (dramWrite m a bs) x n = dramRead m x n := by
  induction n generalizing x with
  | zero => rfl
  | succ n ih =>
    simp only [dramRead]
    rw [dramGet_write_out m a x bs (by omega), ih (x + 1) (by omega)]

theorem Store.setErr_dram (st : Store) (w : Nat) (e : WordErr) : (st.setErr w e).dram = st.dram := rfl

theorem Store.writeWord_dram (g n : Nat) (st : Store) (w : Nat) : (st.writeWord g n w).dram = st.dram := by
  unfold Store.writeWord
  split
  · rfl
  · split <;> rfl

theorem Store.foldl_writeWord_dram (g n : Nat) (l : List Nat) (st : Store) :
    (l.foldl (Store.writeWord g n) st).dram = st.dram := by
  induction l generalizing st with
  | nil => rfl
  | cons x t ih => exact (ih _).trans (Store.writeWord_dram g n st x)

/-- What a write under a key does to DRAM. -/
theorem Store.writeUnder_dram (st : Store) (k pc a : Nat) (bs : Bytes) :
    (st.writeUnder k pc a bs).dram = dramWrite st.dram (gaddr pc a) bs := by
  simp only [Store.writeUnder]
  exact congrArg (fun m => dramWrite m (gaddr pc a) bs) (Store.foldl_writeWord_dram _ _ _ st)

theorem Store.writeUnder_wf (st : Store) (k pc a : Nat) (bs : Bytes) (h : Memory.wf st.dram = true) :
    Memory.wf (st.writeUnder k pc a bs).dram = true := by
  rw [Store.writeUnder_dram]; exact dramWrite_wf _ _ _ h

/-- What a write of the store does to DRAM: nothing under an empty key slot. -/
theorem Store.write_dram (st : Store) (pc a : Nat) (bs : Bytes) :
    (st.write pc a bs).dram = if st.noKey pc a then st.dram else dramWrite st.dram (gaddr pc a) bs := by
  simp only [Store.write, Store.noKey, beq_iff_eq]
  split
  · rfl
  · exact Store.writeUnder_dram _ _ _ _ _

theorem Store.write_wf (st : Store) (pc a : Nat) (bs : Bytes) (h : Memory.wf st.dram = true) :
    Memory.wf (st.write pc a bs).dram = true := by
  rw [Store.write_dram]
  split
  · exact h
  · exact dramWrite_wf _ _ _ h

theorem Store.zero_wf (st : Store) (pc a n : Nat) (h : Memory.wf st.dram = true) :
    Memory.wf (st.zero pc a n).dram = true := SMap.wf_filter 0 _ _ h

theorem Store.setErr_under (st : Store) (w : Nat) (e : WordErr) : (st.setErr w e).under = st.under := rfl

theorem Store.writeWord_under (g n : Nat) (st : Store) (w : Nat) : (st.writeWord g n w).under = st.under := by
  unfold Store.writeWord
  split
  · rfl
  · split <;> rfl

theorem Store.foldl_writeWord_under (g n : Nat) (l : List Nat) (st : Store) :
    (l.foldl (Store.writeWord g n) st).under = st.under := by
  induction l generalizing st with
  | nil => rfl
  | cons x t ih => exact (ih _).trans (Store.writeWord_under g n st x)

/-- A write records the key its unit of lines is under. -/
theorem Store.underAt_writeUnder (st : Store) (k pc a : Nat) (bs : Bytes) (h : SMap.wf 0 st.under = true) :
    (st.writeUnder k pc a bs).underAt pc a = k := by
  simp only [Store.writeUnder, Store.underAt, Store.setUnder, Store.foldl_writeWord_under]
  exact SMap.get_set_same 0 _ _ _ h

/-- Bytes written under a key read back under that key. -/
theorem Store.readUnder_writeUnder (st : Store) (k pc a : Nat) (bs : Bytes) (h : Memory.wf st.dram = true)
    (hu : SMap.wf 0 st.under = true) : (st.writeUnder k pc a bs).readUnder k pc a bs.length = bs := by
  simp only [Store.readUnder, Store.underAt_writeUnder st k pc a bs hu, if_true, Store.writeUnder_dram]
  exact dramRead_write _ _ _ h

theorem State.reset_memoryOk : State.reset.memoryOk = true := by decide

end Sys2Proof.Machine
end

