-- ==== Sys2Proof/Laws/PerInstr.lean ====
section
/-! SUPPORT. The name of each command in the opcode table, and that it is one of the table's names. -/

namespace Sys2Proof

/-- The mnemonics of the opcode table, twenty at a time, in its order. -/
def rowNames0 : List String :=
  ["DATA_FLIT", "IDLE_FLIT", "HELLO", "NAK", "CREDIT", "LDREP", "LDACK", "ACK_LIMIT_EXPIRY", "RETRY_TIME_EXPIRY",
   "TRAINING_COMPLETE", "TRAIN_LIMIT_EXPIRY", "BLOCK_LOCK", "BAD_BLOCK_RUN", "LANE_LOSS", "HELLO_TIMER",
   "CREDIT_TIMER", "LDREP_TIMER", "DOWN_FURROW_DISCARD", "EVENT_RECEIVE", "REASM_LIMIT_EXPIRY"]

def rowNames1 : List String :=
  ["HG_GRANT", "ACCRUAL_ADVANCE", "WAIT_LIMIT_EXPIRY", "GAP_LIMIT_EXPIRY", "ATTEND", "SCORING_ROUND_DONE",
   "STALL_LIMIT_EXPIRY", "PIPE_DESCRIPTOR", "LANE_EMIT", "PIPE_READ_UE", "MERGE_PARTIALS", "ASSAY_COMPARE",
   "APPEND", "SEAL", "HINT", "OPEN_CONV", "REBALANCE", "CLOSE_CONV", "PROMOTE", "RELAYED_RESPONSE"]

def rowNames2 : List String :=
  ["OWN_REQUEST_RESEND", "RESPONSE_SEND", "GATE_ENTRY", "RMA_RESPONSE", "RMA_GAP_EXPIRY", "RMA_TIMEOUT", "MOPEN",
   "MROWS", "MSTATE_COMMIT", "MSTATE_SEAL", "MSTATE_HINT", "MSTATE_CLOSE", "MSTATE_FREE_PAGE",
   "MSTATE_RELEASE_COPY", "MPAGE", "CODE", "PUT", "LOOKUP", "GET", "LEDGER"]

def rowNames3 : List String :=
  ["DRAIN_EPOCH", "DRAIN_CTX", "MARKER_RETURN", "RETURNED_MARKER", "ORIGIN_OPEN", "ORIGIN_CLOSE", "ACTIVATE",
   "ACTIVATION_QUIESCED", "ACTIVATION_END", "CONFIRM", "HEALTH_LIMIT_EXPIRY", "FALLBACK_END", "FIRMWARE_TRANSFER",
   "ALIAS_CERT_SIGNED", "ARM", "DISARM", "REVERT", "DISCARD", "BOOT", "SCRUB_DUE"]

def rowNames4 : List String :=
  ["REFRESH_DUE", "REFRESH_END", "BANK_GRANT", "UE_RESTORE", "RESTORE_DONE", "META_REBUILD_DONE", "SINK_START",
   "CELL_PROGRAM_DONE", "FRAME_RELEASE", "PROMOTION_DONE", "CELL_READ_FAIL", "CHANNEL_DOWN", "SEAL_PROGRAM",
   "SUMCOPY", "SCORE", "COPY_PROGRAM", "CODE_PROGRAM", "TEST", "VENDOR_QUEUE_EMPTY", "ACQUIRE"]

def rowNames5 : List String :=
  ["LEASE_RELEASE", "LEASE_ZEROED", "LOAD", "RUN", "STOP", "GRANT", "RELEASE", "DEQ", "CLEAR", "RESERVED_COMMAND",
   "ADD", "SUB", "AND", "OR", "XOR", "SHL", "SHR", "SRA", "MUL", "SLT"]

def rowNames6 : List String :=
  ["SLTU", "FADD", "FMUL", "FMAX", "FMIN", "FLT", "CVTF", "CVTI", "JR", "ADDI", "ANDI", "ORI", "XORI", "SHLI",
   "SHRI", "LUI", "LDS", "STS", "BEQ", "BNE"]

def rowNames7 : List String :=
  ["BLT", "BGE", "BLTU", "JAL", "BLD", "BST", "BURST_END", "VLD", "VST", "VWID", "VSPL", "VADD", "VMUL", "VFMA",
   "VMAX", "VMIN", "VEXP", "VRSUM", "VRMAX", "VBND"]

def rowNames8 : List String :=
  ["VCVT", "VSTN", "VXOR", "VGFMA", "VSTH", "NOP", "HALT", "FENCE", "VIEW", "KRND", "ILLEGAL", "DEBUG_HALT",
   "DEBUG_STEP", "LC_SCRUB", "SHADOW_UE", "CAM_REBUILD_DONE", "PRIVILEGED_SEARCH", "APERTURE_WRITE",
   "RESPONSE_RING_WRITE", "CQ_HEAD"]

def rowNames9 : List String :=
  ["RSP_HEAD", "MSIX_UNMASK", "WINDOW_READ", "WINDOW_WRITE", "WINDOW_EFFECT", "HP_RNG_COMMIT", "HP_VF_RING_COMMIT",
   "FLR", "FLR_COMPLETE", "PF_FLR", "PERST", "PORT_TRAINED", "IDE_FAILURE", "LOCK_INTERFACE", "SPDM_REQUEST",
   "GET_MEASUREMENTS", "END_SESSION", "HEARTBEAT_FAILURE", "JOB_INSTALL", "JOB_RETIRE"]

def rowNames10 : List String :=
  ["CONN_BIND", "CONN_UNBIND", "CTX_CLOSE", "CTX_QUERY", "MT_CTX_CMD_CLOSE", "CLOSE_DRAINED", "CLOSE_REVOKED",
   "CLOSE_MARKERS_RETURNED", "DRAIN_LIMIT_EXPIRY", "CLOSE_CONNS_CLOSED", "CLOSE_SCRUB_DONE", "CTX_OPEN", "ENTROPY",
   "CB_LOAD", "CB_STORE", "CB_AMEND", "CB_CLEAR", "CB_DATA", "HUB_RET_CFG_COMMIT", "HG_CFG_COMMIT"]

def rowNames11 : List String :=
  ["HG_CTX_COMMIT", "HG_GATE_COMMIT", "WP_CFG_COMMIT", "SC_CFG_COMMIT", "PG_CFG_COMMIT", "PG_CODE_COMMIT",
   "ST_CFG_COMMIT", "LC_CFG_COMMIT", "RQ_CFG_COMMIT", "RQ_EPOCH_COMMIT", "LK_CFG_COMMIT", "FU_COMMIT",
   "FU_CONN_COMMIT", "CONN_CLOSED", "MT_CFG_COMMIT", "RS_CFG_COMMIT", "RS_SHADOW_COMMIT", "BR_FW_COMMIT",
   "PW_CFG_COMMIT", "CAPTURE_EFFECT"]

def rowNames12 : List String :=
  ["COUNTER_READ", "HG_VF_IRQ", "RQ_ORIGIN_CLR", "REGISTER_WRITE", "CRESET", "WITHDRAW", "COMPUTE_RESET",
   "RESET_CUTOFF", "COMPUTE_RESET_QUIESCED", "COMPUTE_RESET_END", "STAGNATION_SAMPLE", "WITHDRAW_TIMEOUT",
   "WITHDRAW_OUT", "PORTDIE_DOWN", "STACK_DOWN", "RS_TAKE", "TAKEOVER_DONE", "REBUILD_DECODE", "REBUILD_RECORD",
   "LOST_ADD"]

def rowNames13 : List String :=
  ["LOST_REMOVE", "SHADOW_COMPARE", "PREDICTIVE_SAVE", "PWR_FAIL", "MOD_RESET", "OVERCURRENT", "OVERVOLTAGE",
   "INPUT_RISE", "UNDERVOLTAGE", "STARTUP_STEP_DONE", "FABRIC_RESET", "SERVICE", "OFF", "SENSOR_READING",
   "HUB_PLL_LOSS", "MANAGEMENT_DATAGRAM", "DISCOVER", "EVENT_ACK", "EVENT_RESEND", "REGISTER_ACCESS"]

def rowNames14 : List String :=
  ["SUBSCRIBE", "IMAGE_TRANSFER", "ENTROPY_RECOVERY", "SIGNATURE_COMPLETE", "CELL_READ_DONE",
   "MANAGEMENT_PLL_LOSS", "HOST_LINK_DOWN", "DYNAMIC_ADDRESS_ASSIGNMENT", "START_INTERFACE", "PREDICTIVE_CLEAR",
   "MEMORY_INIT_REQUEST"]

/-- Every mnemonic of the table. -/
def rowNames : List String :=
  rowNames0 ++ rowNames1 ++ rowNames2 ++ rowNames3 ++ rowNames4 ++ rowNames5 ++ rowNames6 ++ rowNames7 ++
  rowNames8 ++ rowNames9 ++ rowNames10 ++ rowNames11 ++ rowNames12 ++ rowNames13 ++ rowNames14

/-- The mnemonic of a command. -/
def rowName (i : Instr) : String :=
  match i with
  | .dataFlit _ _ => "DATA_FLIT"
  | .idleFlit _ _ => "IDLE_FLIT"
  | .hello _ _ => "HELLO"
  | .nak _ _ => "NAK"
  | .credit _ _ => "CREDIT"
  | .ldrep _ _ => "LDREP"
  | .ldack _ _ => "LDACK"
  | .ackLimitExpiry _ _ => "ACK_LIMIT_EXPIRY"
  | .retryTimeExpiry _ => "RETRY_TIME_EXPIRY"
  | .trainingComplete _ _ _ => "TRAINING_COMPLETE"
  | .trainLimitExpiry _ => "TRAIN_LIMIT_EXPIRY"
  | .blockLock _ _ _ => "BLOCK_LOCK"
  | .badBlockRun _ => "BAD_BLOCK_RUN"
  | .laneLoss _ => "LANE_LOSS"
  | .helloTimer _ => "HELLO_TIMER"
  | .creditTimer _ _ => "CREDIT_TIMER"
  | .ldrepTimer _ => "LDREP_TIMER"
  | .downFurrowDiscard _ => "DOWN_FURROW_DISCARD"
  | .eventReceive _ _ _ _ => "EVENT_RECEIVE"
  | .reasmLimitExpiry _ _ _ _ => "REASM_LIMIT_EXPIRY"
  | .hgGrant _ => "HG_GRANT"
  | .accrualAdvance _ => "ACCRUAL_ADVANCE"
  | .waitLimitExpiry _ => "WAIT_LIMIT_EXPIRY"
  | .gapLimitExpiry _ => "GAP_LIMIT_EXPIRY"
  | .attend _ => "ATTEND"
  | .scoringRoundDone _ => "SCORING_ROUND_DONE"
  | .stallLimitExpiry _ => "STALL_LIMIT_EXPIRY"
  | .pipeDescriptor _ => "PIPE_DESCRIPTOR"
  | .laneEmit _ _ _ => "LANE_EMIT"
  | .pipeReadUe _ _ _ => "PIPE_READ_UE"
  | .mergePartials _ => "MERGE_PARTIALS"
  | .assayCompare _ => "ASSAY_COMPARE"
  | .append _ => "APPEND"
  | .seal _ => "SEAL"
  | .hint _ => "HINT"
  | .openConv _ => "OPEN_CONV"
  | .closeConv _ => "CLOSE_CONV"
  | .promote _ => "PROMOTE"
  | .relayedResponse _ _ _ => "RELAYED_RESPONSE"
  | .ownRequestResend _ => "OWN_REQUEST_RESEND"
  | .responseSend _ => "RESPONSE_SEND"
  | .gateEntry _ _ _ _ => "GATE_ENTRY"
  | .rmaResponse _ _ _ => "RMA_RESPONSE"
  | .rmaGapExpiry _ => "RMA_GAP_EXPIRY"
  | .rmaTimeout _ => "RMA_TIMEOUT"
  | .mopen _ _ _ => "MOPEN"
  | .mrows _ _ _ => "MROWS"
  | .mstateCommit _ _ _ => "MSTATE_COMMIT"
  | .mstateSeal _ _ _ => "MSTATE_SEAL"
  | .mstateHint _ _ _ => "MSTATE_HINT"
  | .mstateClose _ _ _ => "MSTATE_CLOSE"
  | .mstateFreePage _ _ _ => "MSTATE_FREE_PAGE"
  | .mstateReleaseCopy _ _ _ => "MSTATE_RELEASE_COPY"
  | .mpage _ _ _ => "MPAGE"
  | .code _ _ _ => "CODE"
  | .put _ _ _ => "PUT"
  | .lookup _ _ _ => "LOOKUP"
  | .get _ _ _ => "GET"
  | .ledger _ _ _ => "LEDGER"
  | .drainEpoch _ _ _ => "DRAIN_EPOCH"
  | .drainCtx _ _ _ => "DRAIN_CTX"
  | .markerReturn _ => "MARKER_RETURN"
  | .returnedMarker _ _ _ => "RETURNED_MARKER"
  | .originOpen _ _ _ => "ORIGIN_OPEN"
  | .originClose _ _ _ => "ORIGIN_CLOSE"
  | .activate _ _ _ => "ACTIVATE"
  | .firmwareTransfer _ _ _ _ => "FIRMWARE_TRANSFER"
  | .aliasCertSigned _ => "ALIAS_CERT_SIGNED"
  | .scrubDue _ _ _ => "SCRUB_DUE"
  | .refreshDue _ _ => "REFRESH_DUE"
  | .refreshEnd _ _ => "REFRESH_END"
  | .bankGrant _ _ _ _ => "BANK_GRANT"
  | .ueRestore _ => "UE_RESTORE"
  | .restoreDone _ _ => "RESTORE_DONE"
  | .metaRebuildDone _ _ => "META_REBUILD_DONE"
  | .sinkStart _ => "SINK_START"
  | .cellProgramDone _ _ _ _ _ => "CELL_PROGRAM_DONE"
  | .frameRelease _ => "FRAME_RELEASE"
  | .promotionDone _ _ _ => "PROMOTION_DONE"
  | .cellReadFail _ _ => "CELL_READ_FAIL"
  | .channelDown _ => "CHANNEL_DOWN"
  | .sealProgram _ _ => "SEAL_PROGRAM"
  | .sumcopy _ _ => "SUMCOPY"
  | .score _ _ => "SCORE"
  | .copyProgram _ _ => "COPY_PROGRAM"
  | .codeProgram _ _ _ => "CODE_PROGRAM"
  | .test _ _ _ => "TEST"
  | .vendorQueueEmpty _ _ => "VENDOR_QUEUE_EMPTY"
  | .acquire _ _ => "ACQUIRE"
  | .leaseRelease _ _ => "LEASE_RELEASE"
  | .leaseZeroed _ => "LEASE_ZEROED"
  | .load _ => "LOAD"
  | .run _ => "RUN"
  | .stop _ => "STOP"
  | .grant _ => "GRANT"
  | .release _ => "RELEASE"
  | .deq _ => "DEQ"
  | .clear _ => "CLEAR"
  | .reservedCommand _ _ => "RESERVED_COMMAND"
  | .add _ => "ADD"
  | .sub _ => "SUB"
  | .and _ => "AND"
  | .or _ => "OR"
  | .xor _ => "XOR"
  | .shl _ => "SHL"
  | .shr _ => "SHR"
  | .sra _ => "SRA"
  | .mul _ => "MUL"
  | .slt _ => "SLT"
  | .sltu _ => "SLTU"
  | .fadd _ => "FADD"
  | .fmul _ => "FMUL"
  | .fmax _ => "FMAX"
  | .fmin _ => "FMIN"
  | .flt _ => "FLT"
  | .cvtf _ => "CVTF"
  | .cvti _ => "CVTI"
  | .jr _ => "JR"
  | .addi _ => "ADDI"
  | .andi _ => "ANDI"
  | .ori _ => "ORI"
  | .xori _ => "XORI"
  | .shli _ => "SHLI"
  | .shri _ => "SHRI"
  | .lui _ => "LUI"
  | .lds _ => "LDS"
  | .sts _ => "STS"
  | .beq _ => "BEQ"
  | .bne _ => "BNE"
  | .blt _ => "BLT"
  | .bge _ => "BGE"
  | .bltu _ => "BLTU"
  | .jal _ => "JAL"
  | .bld _ _ => "BLD"
  | .bst _ _ => "BST"
  | .burstEnd _ => "BURST_END"
  | .vld _ => "VLD"
  | .vst _ => "VST"
  | .vwid _ => "VWID"
  | .vspl _ => "VSPL"
  | .vadd _ => "VADD"
  | .vmul _ => "VMUL"
  | .vfma _ => "VFMA"
  | .vmax _ => "VMAX"
  | .vmin _ => "VMIN"
  | .vexp _ => "VEXP"
  | .vrsum _ => "VRSUM"
  | .vrmax _ => "VRMAX"
  | .vbnd _ => "VBND"
  | .vcvt _ => "VCVT"
  | .vstn _ => "VSTN"
  | .vxor _ => "VXOR"
  | .vgfma _ => "VGFMA"
  | .vsth _ => "VSTH"
  | .nop _ => "NOP"
  | .halt _ => "HALT"
  | .fence _ => "FENCE"
  | .view _ => "VIEW"
  | .krnd _ _ => "KRND"
  | .illegal _ => "ILLEGAL"
  | .debugHalt _ => "DEBUG_HALT"
  | .lcScrub _ _ => "LC_SCRUB"
  | .shadowUe _ _ => "SHADOW_UE"
  | .camRebuildDone _ => "CAM_REBUILD_DONE"
  | .apertureWrite _ _ _ _ => "APERTURE_WRITE"
  | .responseRingWrite _ => "RESPONSE_RING_WRITE"
  | .cqHead _ _ _ _ => "CQ_HEAD"
  | .rspHead _ _ _ => "RSP_HEAD"
  | .msixUnmask _ _ _ _ _ => "MSIX_UNMASK"
  | .windowRead _ _ _ _ _ _ _ => "WINDOW_READ"
  | .windowWrite _ _ _ _ _ _ _ => "WINDOW_WRITE"
  | .windowEffect _ _ => "WINDOW_EFFECT"
  | .hpVfRingCommit _ _ => "HP_VF_RING_COMMIT"
  | .flr _ => "FLR"
  | .flrComplete _ => "FLR_COMPLETE"
  | .pfFlr _ => "PF_FLR"
  | .perst _ => "PERST"
  | .portTrained _ _ _ _ => "PORT_TRAINED"
  | .ideFailure _ _ => "IDE_FAILURE"
  | .lockInterface _ _ => "LOCK_INTERFACE"
  | .spdmRequest _ _ _ => "SPDM_REQUEST"
  | .getMeasurements _ _ _ => "GET_MEASUREMENTS"
  | .endSession _ => "END_SESSION"
  | .heartbeatFailure _ => "HEARTBEAT_FAILURE"
  | .jobInstall _ _ _ _ => "JOB_INSTALL"
  | .jobRetire _ _ => "JOB_RETIRE"
  | .connBind _ _ _ => "CONN_BIND"
  | .connUnbind _ _ => "CONN_UNBIND"
  | .ctxClose _ _ => "CTX_CLOSE"
  | .ctxQuery _ _ => "CTX_QUERY"
  | .closeDrained _ => "CLOSE_DRAINED"
  | .closeRevoked _ => "CLOSE_REVOKED"
  | .closeMarkersReturned _ => "CLOSE_MARKERS_RETURNED"
  | .drainLimitExpiry _ => "DRAIN_LIMIT_EXPIRY"
  | .closeConnsClosed _ => "CLOSE_CONNS_CLOSED"
  | .closeScrubDone _ => "CLOSE_SCRUB_DONE"
  | .ctxOpen _ _ => "CTX_OPEN"
  | .cbData _ => "CB_DATA"
  | .hgCtxCommit _ => "HG_CTX_COMMIT"
  | .hgGateCommit _ => "HG_GATE_COMMIT"
  | .wpCfgCommit _ => "WP_CFG_COMMIT"
  | .scCfgCommit _ => "SC_CFG_COMMIT"
  | .pgCfgCommit _ => "PG_CFG_COMMIT"
  | .stCfgCommit _ => "ST_CFG_COMMIT"
  | .fuCommit _ => "FU_COMMIT"
  | .fuConnCommit _ => "FU_CONN_COMMIT"
  | .connClosed _ => "CONN_CLOSED"
  | .rsShadowCommit _ => "RS_SHADOW_COMMIT"
  | .captureEffect _ => "CAPTURE_EFFECT"
  | .counterRead _ _ _ => "COUNTER_READ"
  | .hgVfIrq _ _ _ => "HG_VF_IRQ"
  | .rqOriginClr _ => "RQ_ORIGIN_CLR"
  | .registerWrite _ _ _ _ => "REGISTER_WRITE"
  | .stagnationSample _ => "STAGNATION_SAMPLE"
  | .withdrawTimeout _ => "WITHDRAW_TIMEOUT"
  | .portdieDown _ _ => "PORTDIE_DOWN"
  | .stackDown _ _ => "STACK_DOWN"
  | .rsTake _ => "RS_TAKE"
  | .lostAdd _ => "LOST_ADD"
  | .lostRemove _ => "LOST_REMOVE"
  | .shadowCompare _ => "SHADOW_COMPARE"
  | .pwrFail _ => "PWR_FAIL"
  | .modReset _ => "MOD_RESET"
  | .startupStepDone _ => "STARTUP_STEP_DONE"
  | .sensorReading _ => "SENSOR_READING"
  | .managementDatagram _ _ _ _ _ => "MANAGEMENT_DATAGRAM"
  | .discover _ _ => "DISCOVER"
  | .eventAck _ => "EVENT_ACK"
  | .eventResend _ => "EVENT_RESEND"
  | .registerAccess _ _ _ _ => "REGISTER_ACCESS"
  | .subscribe _ _ => "SUBSCRIBE"
  | .imageTransfer _ _ _ _ => "IMAGE_TRANSFER"
  | .cellReadDone _ _ _ => "CELL_READ_DONE"
  | .hostLinkDown _ _ => "HOST_LINK_DOWN"
  | .dynamicAddressAssignment _ _ => "DYNAMIC_ADDRESS_ASSIGNMENT"
  | .startInterface _ => "START_INTERFACE"
  | .predictiveClear _ => "PREDICTIVE_CLEAR"
  | .rebalance => "REBALANCE"
  | .activationQuiesced => "ACTIVATION_QUIESCED"
  | .activationEnd => "ACTIVATION_END"
  | .confirm => "CONFIRM"
  | .healthLimitExpiry => "HEALTH_LIMIT_EXPIRY"
  | .fallbackEnd => "FALLBACK_END"
  | .arm => "ARM"
  | .disarm => "DISARM"
  | .revert => "REVERT"
  | .discard => "DISCARD"
  | .boot => "BOOT"
  | .debugStep => "DEBUG_STEP"
  | .privilegedSearch _ => "PRIVILEGED_SEARCH"
  | .hpRngCommit => "HP_RNG_COMMIT"
  | .mtCtxCmdClose => "MT_CTX_CMD_CLOSE"
  | .entropy => "ENTROPY"
  | .cbLoad => "CB_LOAD"
  | .cbStore => "CB_STORE"
  | .cbAmend => "CB_AMEND"
  | .cbClear => "CB_CLEAR"
  | .hubRetCfgCommit => "HUB_RET_CFG_COMMIT"
  | .hgCfgCommit => "HG_CFG_COMMIT"
  | .pgCodeCommit => "PG_CODE_COMMIT"
  | .lcCfgCommit => "LC_CFG_COMMIT"
  | .rqCfgCommit => "RQ_CFG_COMMIT"
  | .rqEpochCommit => "RQ_EPOCH_COMMIT"
  | .lkCfgCommit => "LK_CFG_COMMIT"
  | .mtCfgCommit => "MT_CFG_COMMIT"
  | .rsCfgCommit => "RS_CFG_COMMIT"
  | .brFwCommit => "BR_FW_COMMIT"
  | .pwCfgCommit => "PW_CFG_COMMIT"
  | .creset => "CRESET"
  | .withdraw => "WITHDRAW"
  | .computeReset => "COMPUTE_RESET"
  | .resetCutoff => "RESET_CUTOFF"
  | .computeResetQuiesced => "COMPUTE_RESET_QUIESCED"
  | .computeResetEnd => "COMPUTE_RESET_END"
  | .withdrawOut => "WITHDRAW_OUT"
  | .takeoverDone => "TAKEOVER_DONE"
  | .rebuildDecode => "REBUILD_DECODE"
  | .rebuildRecord => "REBUILD_RECORD"
  | .predictiveSave => "PREDICTIVE_SAVE"
  | .overcurrent => "OVERCURRENT"
  | .overvoltage => "OVERVOLTAGE"
  | .inputRise => "INPUT_RISE"
  | .undervoltage => "UNDERVOLTAGE"
  | .fabricReset => "FABRIC_RESET"
  | .service => "SERVICE"
  | .off => "OFF"
  | .hubPllLoss => "HUB_PLL_LOSS"
  | .entropyRecovery => "ENTROPY_RECOVERY"
  | .signatureComplete => "SIGNATURE_COMPLETE"
  | .managementPllLoss => "MANAGEMENT_PLL_LOSS"
  | .memoryInitRequest => "MEMORY_INIT_REQUEST"

namespace Laws

/-- A command's mnemonic is a row of the table. -/
def RowName.Statement (i : Instr) : Prop := ∃ n : Nat, rowNames[n]? = some (rowName i)

theorem RowName.dataFlit (link : Nat) (block : Bytes) : RowName.Statement (.dataFlit link block) := ⟨0, rfl⟩
theorem RowName.idleFlit (link : Nat) (block : Bytes) : RowName.Statement (.idleFlit link block) := ⟨1, rfl⟩
theorem RowName.hello (link : Nat) (block : Bytes) : RowName.Statement (.hello link block) := ⟨2, rfl⟩
theorem RowName.nak (link : Nat) (block : Bytes) : RowName.Statement (.nak link block) := ⟨3, rfl⟩
theorem RowName.credit (link : Nat) (block : Bytes) : RowName.Statement (.credit link block) := ⟨4, rfl⟩
theorem RowName.ldrep (link : Nat) (block : Bytes) : RowName.Statement (.ldrep link block) := ⟨5, rfl⟩
theorem RowName.ldack (link : Nat) (block : Bytes) : RowName.Statement (.ldack link block) := ⟨6, rfl⟩
theorem RowName.ackLimitExpiry (link : Nat) (nak : Bool) : RowName.Statement (.ackLimitExpiry link nak) := ⟨7, rfl⟩
theorem RowName.retryTimeExpiry (link : Nat) : RowName.Statement (.retryTimeExpiry link) := ⟨8, rfl⟩
theorem RowName.trainingComplete (link : Nat) (swap : Bool) (inv : Nat) :
    RowName.Statement (.trainingComplete link swap inv) := ⟨9, rfl⟩
theorem RowName.trainLimitExpiry (link : Nat) : RowName.Statement (.trainLimitExpiry link) := ⟨10, rfl⟩
theorem RowName.blockLock (link : Nat) (lane0 lane1 : Bytes) : RowName.Statement (.blockLock link lane0 lane1) := ⟨11, rfl⟩
theorem RowName.badBlockRun (link : Nat) : RowName.Statement (.badBlockRun link) := ⟨12, rfl⟩
theorem RowName.laneLoss (link : Nat) : RowName.Statement (.laneLoss link) := ⟨13, rfl⟩
theorem RowName.helloTimer (link : Nat) : RowName.Statement (.helloTimer link) := ⟨14, rfl⟩
theorem RowName.creditTimer (link : Nat) (stalled : Nat) : RowName.Statement (.creditTimer link stalled) := ⟨15, rfl⟩
theorem RowName.ldrepTimer (link : Nat) : RowName.Statement (.ldrepTimer link) := ⟨16, rfl⟩
theorem RowName.downFurrowDiscard (furrow : Nat) : RowName.Statement (.downFurrowDiscard furrow) := ⟨17, rfl⟩
theorem RowName.eventReceive (furrow : Nat) (code : Nat) (eseq : Nat) (arg : Word) :
    RowName.Statement (.eventReceive furrow code eseq arg) := ⟨18, rfl⟩
theorem RowName.reasmLimitExpiry (src : Src) (cls : CarrierClass) (origin : Nat) (seq : Nat) :
    RowName.Statement (.reasmLimitExpiry src cls origin seq) := ⟨19, rfl⟩
theorem RowName.hgGrant (ctx : Nat) : RowName.Statement (.hgGrant ctx) := ⟨20, rfl⟩
theorem RowName.accrualAdvance (t : Tick) : RowName.Statement (.accrualAdvance t) := ⟨21, rfl⟩
theorem RowName.waitLimitExpiry (ctx : Nat) : RowName.Statement (.waitLimitExpiry ctx) := ⟨22, rfl⟩
theorem RowName.gapLimitExpiry (origin : Nat) : RowName.Statement (.gapLimitExpiry origin) := ⟨23, rfl⟩
theorem RowName.attend (slot : Nat) : RowName.Statement (.attend slot) := ⟨24, rfl⟩
theorem RowName.scoringRoundDone (slot : Nat) : RowName.Statement (.scoringRoundDone slot) := ⟨25, rfl⟩
theorem RowName.stallLimitExpiry (slot : Nat) : RowName.Statement (.stallLimitExpiry slot) := ⟨26, rfl⟩
theorem RowName.pipeDescriptor (pipe : Nat) : RowName.Statement (.pipeDescriptor pipe) := ⟨27, rfl⟩
theorem RowName.laneEmit (pipe : Nat) (lane : Nat) (stalls : PipeStalls) :
    RowName.Statement (.laneEmit pipe lane stalls) := ⟨28, rfl⟩
theorem RowName.pipeReadUe (pipe : Nat) (lane : Nat) (addr : Nat) :
    RowName.Statement (.pipeReadUe pipe lane addr) := ⟨29, rfl⟩
theorem RowName.mergePartials (slot : Nat) : RowName.Statement (.mergePartials slot) := ⟨30, rfl⟩
theorem RowName.assayCompare (slot : Nat) : RowName.Statement (.assayCompare slot) := ⟨31, rfl⟩
theorem RowName.append (slot : Nat) : RowName.Statement (.append slot) := ⟨32, rfl⟩
theorem RowName.seal (slot : Nat) : RowName.Statement (.seal slot) := ⟨33, rfl⟩
theorem RowName.hint (slot : Nat) : RowName.Statement (.hint slot) := ⟨34, rfl⟩
theorem RowName.openConv (slot : Nat) : RowName.Statement (.openConv slot) := ⟨35, rfl⟩
theorem RowName.closeConv (slot : Nat) : RowName.Statement (.closeConv slot) := ⟨37, rfl⟩
theorem RowName.promote (slot : Nat) : RowName.Statement (.promote slot) := ⟨38, rfl⟩
theorem RowName.relayedResponse (conn : Nat) (hdr : Hdr) (body : Bytes) :
    RowName.Statement (.relayedResponse conn hdr body) := ⟨39, rfl⟩
theorem RowName.ownRequestResend (index : Nat) : RowName.Statement (.ownRequestResend index) := ⟨40, rfl⟩
theorem RowName.responseSend (slot : Nat) : RowName.Statement (.responseSend slot) := ⟨41, rfl⟩
theorem RowName.gateEntry (furrow : Nat) (closed : Nat) (guarded : Nat) (unfit : Nat) :
    RowName.Statement (.gateEntry furrow closed guarded unfit) := ⟨42, rfl⟩
theorem RowName.rmaResponse (conn : Nat) (hdr : Hdr) (body : Bytes) :
    RowName.Statement (.rmaResponse conn hdr body) := ⟨43, rfl⟩
theorem RowName.rmaGapExpiry (conn : Nat) : RowName.Statement (.rmaGapExpiry conn) := ⟨44, rfl⟩
theorem RowName.rmaTimeout (conn : Nat) : RowName.Statement (.rmaTimeout conn) := ⟨45, rfl⟩
theorem RowName.mopen (conn : Nat) (hdr : Hdr) (body : Bytes) : RowName.Statement (.mopen conn hdr body) := ⟨46, rfl⟩
theorem RowName.mrows (conn : Nat) (hdr : Hdr) (body : Bytes) : RowName.Statement (.mrows conn hdr body) := ⟨47, rfl⟩
theorem RowName.mstateCommit (conn : Nat) (hdr : Hdr) (body : Bytes) :
    RowName.Statement (.mstateCommit conn hdr body) := ⟨48, rfl⟩
theorem RowName.mstateSeal (conn : Nat) (hdr : Hdr) (body : Bytes) :
    RowName.Statement (.mstateSeal conn hdr body) := ⟨49, rfl⟩
theorem RowName.mstateHint (conn : Nat) (hdr : Hdr) (body : Bytes) :
    RowName.Statement (.mstateHint conn hdr body) := ⟨50, rfl⟩
theorem RowName.mstateClose (conn : Nat) (hdr : Hdr) (body : Bytes) :
    RowName.Statement (.mstateClose conn hdr body) := ⟨51, rfl⟩
theorem RowName.mstateFreePage (conn : Nat) (hdr : Hdr) (body : Bytes) :
    RowName.Statement (.mstateFreePage conn hdr body) := ⟨52, rfl⟩
theorem RowName.mstateReleaseCopy (conn : Nat) (hdr : Hdr) (body : Bytes) :
    RowName.Statement (.mstateReleaseCopy conn hdr body) := ⟨53, rfl⟩
theorem RowName.mpage (conn : Nat) (hdr : Hdr) (body : Bytes) : RowName.Statement (.mpage conn hdr body) := ⟨54, rfl⟩
theorem RowName.code (conn : Nat) (hdr : Hdr) (body : Bytes) : RowName.Statement (.code conn hdr body) := ⟨55, rfl⟩
theorem RowName.put (conn : Nat) (hdr : Hdr) (body : Bytes) : RowName.Statement (.put conn hdr body) := ⟨56, rfl⟩
theorem RowName.lookup (conn : Nat) (hdr : Hdr) (body : Bytes) :
    RowName.Statement (.lookup conn hdr body) := ⟨57, rfl⟩
theorem RowName.get (conn : Nat) (hdr : Hdr) (body : Bytes) : RowName.Statement (.get conn hdr body) := ⟨58, rfl⟩
theorem RowName.ledger (conn : Nat) (hdr : Hdr) (body : Bytes) :
    RowName.Statement (.ledger conn hdr body) := ⟨59, rfl⟩
theorem RowName.drainEpoch (conn : Nat) (hdr : Hdr) (body : Bytes) :
    RowName.Statement (.drainEpoch conn hdr body) := ⟨60, rfl⟩
theorem RowName.drainCtx (conn : Nat) (hdr : Hdr) (body : Bytes) :
    RowName.Statement (.drainCtx conn hdr body) := ⟨61, rfl⟩
theorem RowName.markerReturn (index : Nat) : RowName.Statement (.markerReturn index) := ⟨62, rfl⟩
theorem RowName.returnedMarker (conn : Nat) (hdr : Hdr) (body : Bytes) :
    RowName.Statement (.returnedMarker conn hdr body) := ⟨63, rfl⟩
theorem RowName.originOpen (src : Src) (hdr : Hdr) (body : Bytes) :
    RowName.Statement (.originOpen src hdr body) := ⟨64, rfl⟩
theorem RowName.originClose (src : Src) (hdr : Hdr) (body : Bytes) :
    RowName.Statement (.originClose src hdr body) := ⟨65, rfl⟩
theorem RowName.activate (conn : Nat) (hdr : Hdr) (body : Bytes) :
    RowName.Statement (.activate conn hdr body) := ⟨66, rfl⟩
theorem RowName.firmwareTransfer (data : Bytes) (first : Bool) (last : Bool) (flash : Bool) :
    RowName.Statement (.firmwareTransfer data first last flash) := ⟨72, rfl⟩
theorem RowName.aliasCertSigned (pending : Bool) : RowName.Statement (.aliasCertSigned pending) := ⟨73, rfl⟩
theorem RowName.scrubDue (core : Nat) (upsets : List (Nat × Nat)) (v : VendorIn) :
    RowName.Statement (.scrubDue core upsets v) := ⟨79, rfl⟩
theorem RowName.refreshDue (bank : Nat) (postpone : Bool) : RowName.Statement (.refreshDue bank postpone) := ⟨80, rfl⟩
theorem RowName.refreshEnd (bank : Nat) (again : Bool) : RowName.Statement (.refreshEnd bank again) := ⟨81, rfl⟩
theorem RowName.bankGrant (core : Nat) (refresh : Nat) (pipe : Nat) (other : Nat) :
    RowName.Statement (.bankGrant core refresh pipe other) := ⟨82, rfl⟩
theorem RowName.ueRestore (page : Nat) : RowName.Statement (.ueRestore page) := ⟨83, rfl⟩
theorem RowName.restoreDone (page : Nat) (decoded : Option Bytes) :
    RowName.Statement (.restoreDone page decoded) := ⟨84, rfl⟩
theorem RowName.metaRebuildDone (pc : Nat) (addr : Nat) : RowName.Statement (.metaRebuildDone pc addr) := ⟨85, rfl⟩
theorem RowName.sinkStart (pc : Nat) : RowName.Statement (.sinkStart pc) := ⟨86, rfl⟩
theorem RowName.cellProgramDone (chan : Nat) (ok : Bool) (second : Bool) (used : Nat) (spare : Nat) :
    RowName.Statement (.cellProgramDone chan ok second used spare) := ⟨87, rfl⟩
theorem RowName.frameRelease (page : Nat) : RowName.Statement (.frameRelease page) := ⟨88, rfl⟩
theorem RowName.promotionDone (chan : Nat) (bad : List Nat) (bad2 : List Nat) :
    RowName.Statement (.promotionDone chan bad bad2) := ⟨89, rfl⟩
theorem RowName.cellReadFail (chan : Nat) (second : Bool) : RowName.Statement (.cellReadFail chan second) := ⟨90, rfl⟩
theorem RowName.channelDown (chan : Nat) : RowName.Statement (.channelDown chan) := ⟨91, rfl⟩
theorem RowName.sealProgram (page : Nat) (v : VendorIn) : RowName.Statement (.sealProgram page v) := ⟨92, rfl⟩
theorem RowName.sumcopy (page : Nat) (v : VendorIn) : RowName.Statement (.sumcopy page v) := ⟨93, rfl⟩
theorem RowName.score (slot : Nat) (cores : List (Nat × VendorIn)) :
    RowName.Statement (.score slot cores) := ⟨94, rfl⟩
theorem RowName.copyProgram (page : Nat) (v : VendorIn) : RowName.Statement (.copyProgram page v) := ⟨95, rfl⟩
theorem RowName.codeProgram (page : Nat) (v : VendorIn) (other : Option Bytes) :
    RowName.Statement (.codeProgram page v other) := ⟨96, rfl⟩
theorem RowName.test (core : Nat) (defect : Bool) (v : VendorIn) :
    RowName.Statement (.test core defect v) := ⟨97, rfl⟩
theorem RowName.vendorQueueEmpty (core : Nat) (cycles : Nat) :
    RowName.Statement (.vendorQueueEmpty core cycles) := ⟨98, rfl⟩
theorem RowName.acquire (ctx : Nat) (tee : Bool) : RowName.Statement (.acquire ctx tee) := ⟨99, rfl⟩
theorem RowName.leaseRelease (ctx : Nat) (tee : Bool) : RowName.Statement (.leaseRelease ctx tee) := ⟨100, rfl⟩
theorem RowName.leaseZeroed (core : Nat) : RowName.Statement (.leaseZeroed core) := ⟨101, rfl⟩
theorem RowName.load (ctx : Nat) : RowName.Statement (.load ctx) := ⟨102, rfl⟩
theorem RowName.run (ctx : Nat) : RowName.Statement (.run ctx) := ⟨103, rfl⟩
theorem RowName.stop (ctx : Nat) : RowName.Statement (.stop ctx) := ⟨104, rfl⟩
theorem RowName.grant (ctx : Nat) : RowName.Statement (.grant ctx) := ⟨105, rfl⟩
theorem RowName.release (ctx : Nat) : RowName.Statement (.release ctx) := ⟨106, rfl⟩
theorem RowName.deq (ctx : Nat) : RowName.Statement (.deq ctx) := ⟨107, rfl⟩
theorem RowName.clear (ctx : Nat) : RowName.Statement (.clear ctx) := ⟨108, rfl⟩
theorem RowName.reservedCommand (ctx : Nat) (op : Nat) : RowName.Statement (.reservedCommand ctx op) := ⟨109, rfl⟩
theorem RowName.add (core : Nat) : RowName.Statement (.add core) := ⟨110, rfl⟩
theorem RowName.sub (core : Nat) : RowName.Statement (.sub core) := ⟨111, rfl⟩
theorem RowName.and (core : Nat) : RowName.Statement (.and core) := ⟨112, rfl⟩
theorem RowName.or (core : Nat) : RowName.Statement (.or core) := ⟨113, rfl⟩
theorem RowName.xor (core : Nat) : RowName.Statement (.xor core) := ⟨114, rfl⟩
theorem RowName.shl (core : Nat) : RowName.Statement (.shl core) := ⟨115, rfl⟩
theorem RowName.shr (core : Nat) : RowName.Statement (.shr core) := ⟨116, rfl⟩
theorem RowName.sra (core : Nat) : RowName.Statement (.sra core) := ⟨117, rfl⟩
theorem RowName.mul (core : Nat) : RowName.Statement (.mul core) := ⟨118, rfl⟩
theorem RowName.slt (core : Nat) : RowName.Statement (.slt core) := ⟨119, rfl⟩
theorem RowName.sltu (core : Nat) : RowName.Statement (.sltu core) := ⟨120, rfl⟩
theorem RowName.fadd (core : Nat) : RowName.Statement (.fadd core) := ⟨121, rfl⟩
theorem RowName.fmul (core : Nat) : RowName.Statement (.fmul core) := ⟨122, rfl⟩
theorem RowName.fmax (core : Nat) : RowName.Statement (.fmax core) := ⟨123, rfl⟩
theorem RowName.fmin (core : Nat) : RowName.Statement (.fmin core) := ⟨124, rfl⟩
theorem RowName.flt (core : Nat) : RowName.Statement (.flt core) := ⟨125, rfl⟩
theorem RowName.cvtf (core : Nat) : RowName.Statement (.cvtf core) := ⟨126, rfl⟩
theorem RowName.cvti (core : Nat) : RowName.Statement (.cvti core) := ⟨127, rfl⟩
theorem RowName.jr (core : Nat) : RowName.Statement (.jr core) := ⟨128, rfl⟩
theorem RowName.addi (core : Nat) : RowName.Statement (.addi core) := ⟨129, rfl⟩
theorem RowName.andi (core : Nat) : RowName.Statement (.andi core) := ⟨130, rfl⟩
theorem RowName.ori (core : Nat) : RowName.Statement (.ori core) := ⟨131, rfl⟩
theorem RowName.xori (core : Nat) : RowName.Statement (.xori core) := ⟨132, rfl⟩
theorem RowName.shli (core : Nat) : RowName.Statement (.shli core) := ⟨133, rfl⟩
theorem RowName.shri (core : Nat) : RowName.Statement (.shri core) := ⟨134, rfl⟩
theorem RowName.lui (core : Nat) : RowName.Statement (.lui core) := ⟨135, rfl⟩
theorem RowName.lds (core : Nat) : RowName.Statement (.lds core) := ⟨136, rfl⟩
theorem RowName.sts (core : Nat) : RowName.Statement (.sts core) := ⟨137, rfl⟩
theorem RowName.beq (core : Nat) : RowName.Statement (.beq core) := ⟨138, rfl⟩
theorem RowName.bne (core : Nat) : RowName.Statement (.bne core) := ⟨139, rfl⟩
theorem RowName.blt (core : Nat) : RowName.Statement (.blt core) := ⟨140, rfl⟩
theorem RowName.bge (core : Nat) : RowName.Statement (.bge core) := ⟨141, rfl⟩
theorem RowName.bltu (core : Nat) : RowName.Statement (.bltu core) := ⟨142, rfl⟩
theorem RowName.jal (core : Nat) : RowName.Statement (.jal core) := ⟨143, rfl⟩
theorem RowName.bld (core : Nat) (held : Bool) : RowName.Statement (.bld core held) := ⟨144, rfl⟩
theorem RowName.bst (core : Nat) (held : Bool) : RowName.Statement (.bst core held) := ⟨145, rfl⟩
theorem RowName.burstEnd (core : Nat) : RowName.Statement (.burstEnd core) := ⟨146, rfl⟩
theorem RowName.vld (core : Nat) : RowName.Statement (.vld core) := ⟨147, rfl⟩
theorem RowName.vst (core : Nat) : RowName.Statement (.vst core) := ⟨148, rfl⟩
theorem RowName.vwid (core : Nat) : RowName.Statement (.vwid core) := ⟨149, rfl⟩
theorem RowName.vspl (core : Nat) : RowName.Statement (.vspl core) := ⟨150, rfl⟩
theorem RowName.vadd (core : Nat) : RowName.Statement (.vadd core) := ⟨151, rfl⟩
theorem RowName.vmul (core : Nat) : RowName.Statement (.vmul core) := ⟨152, rfl⟩
theorem RowName.vfma (core : Nat) : RowName.Statement (.vfma core) := ⟨153, rfl⟩
theorem RowName.vmax (core : Nat) : RowName.Statement (.vmax core) := ⟨154, rfl⟩
theorem RowName.vmin (core : Nat) : RowName.Statement (.vmin core) := ⟨155, rfl⟩
theorem RowName.vexp (core : Nat) : RowName.Statement (.vexp core) := ⟨156, rfl⟩
theorem RowName.vrsum (core : Nat) : RowName.Statement (.vrsum core) := ⟨157, rfl⟩
theorem RowName.vrmax (core : Nat) : RowName.Statement (.vrmax core) := ⟨158, rfl⟩
theorem RowName.vbnd (core : Nat) : RowName.Statement (.vbnd core) := ⟨159, rfl⟩
theorem RowName.vcvt (core : Nat) : RowName.Statement (.vcvt core) := ⟨160, rfl⟩
theorem RowName.vstn (core : Nat) : RowName.Statement (.vstn core) := ⟨161, rfl⟩
theorem RowName.vxor (core : Nat) : RowName.Statement (.vxor core) := ⟨162, rfl⟩
theorem RowName.vgfma (core : Nat) : RowName.Statement (.vgfma core) := ⟨163, rfl⟩
theorem RowName.vsth (core : Nat) : RowName.Statement (.vsth core) := ⟨164, rfl⟩
theorem RowName.nop (core : Nat) : RowName.Statement (.nop core) := ⟨165, rfl⟩
theorem RowName.halt (core : Nat) : RowName.Statement (.halt core) := ⟨166, rfl⟩
theorem RowName.fence (core : Nat) : RowName.Statement (.fence core) := ⟨167, rfl⟩
theorem RowName.view (core : Nat) : RowName.Statement (.view core) := ⟨168, rfl⟩
theorem RowName.krnd (core : Nat) (vendor : Option (Nat × Nat)) : RowName.Statement (.krnd core vendor) := ⟨169, rfl⟩
theorem RowName.illegal (core : Nat) : RowName.Statement (.illegal core) := ⟨170, rfl⟩
theorem RowName.debugHalt (on : Bool) : RowName.Statement (.debugHalt on) := ⟨171, rfl⟩
theorem RowName.lcScrub (upsets : List (Nat × Bool × Nat × Nat)) (stalled : Nat) :
    RowName.Statement (.lcScrub upsets stalled) := ⟨173, rfl⟩
theorem RowName.shadowUe (index : Nat) (keys : List Nat) : RowName.Statement (.shadowUe index keys) := ⟨174, rfl⟩
theorem RowName.camRebuildDone (stalled : Nat) : RowName.Statement (.camRebuildDone stalled) := ⟨175, rfl⟩
theorem RowName.apertureWrite (vf : Nat) (off : Nat) (data : Bytes) (tee : Bool) :
    RowName.Statement (.apertureWrite vf off data tee) := ⟨177, rfl⟩
theorem RowName.responseRingWrite (vf : Nat) : RowName.Statement (.responseRingWrite vf) := ⟨178, rfl⟩
theorem RowName.cqHead (vf : Nat) (head : Nat) (arm : Bool) (tee : Bool) :
    RowName.Statement (.cqHead vf head arm tee) := ⟨179, rfl⟩
theorem RowName.rspHead (vf : Nat) (head : Nat) (tee : Bool) : RowName.Statement (.rspHead vf head tee) := ⟨180, rfl⟩
theorem RowName.msixUnmask (fn : Nat) (enable : Bool) (fmask : Bool) (bme : Bool) (vec : Option (Nat × Bool)) :
    RowName.Statement (.msixUnmask fn enable fmask bme vec) := ⟨181, rfl⟩
theorem RowName.windowRead (vf : Nat) (rid : Nat) (addr : Nat) (len : Nat) (tag : Nat) (atomic : Bool) (tee : Bool) :
    RowName.Statement (.windowRead vf rid addr len tag atomic tee) := ⟨182, rfl⟩
theorem RowName.windowWrite (vf : Nat) (rid : Nat) (addr : Nat) (data : Bytes) (enables : List Bool) (poisoned : Bool) (tee : Bool) :
    RowName.Statement (.windowWrite vf rid addr data enables poisoned tee) := ⟨183, rfl⟩
theorem RowName.windowEffect (index : Nat) (bad : List Nat) :
    RowName.Statement (.windowEffect index bad) := ⟨184, rfl⟩
theorem RowName.hpVfRingCommit (vf : Nat) (tee : Bool) : RowName.Statement (.hpVfRingCommit vf tee) := ⟨186, rfl⟩
theorem RowName.flr (vf : Nat) : RowName.Statement (.flr vf) := ⟨187, rfl⟩
theorem RowName.flrComplete (vf : Nat) : RowName.Statement (.flrComplete vf) := ⟨188, rfl⟩
theorem RowName.pfFlr (port : Nat) : RowName.Statement (.pfFlr port) := ⟨189, rfl⟩
theorem RowName.perst (port : Nat) : RowName.Statement (.perst port) := ⟨190, rfl⟩
theorem RowName.portTrained (port : Nat) (width : Nat) (rate : Nat) (flit : Bool) :
    RowName.Statement (.portTrained port width rate flit) := ⟨191, rfl⟩
theorem RowName.ideFailure (port : Nat) (stream : Option Nat) :
    RowName.Statement (.ideFailure port stream) := ⟨192, rfl⟩
theorem RowName.lockInterface (vf : Nat) (stream : Option Nat) :
    RowName.Statement (.lockInterface vf stream) := ⟨193, rfl⟩
theorem RowName.spdmRequest (via : SpdmVia) (session : Option Nat) (msg : SpdmMsg) :
    RowName.Statement (.spdmRequest via session msg) := ⟨194, rfl⟩
theorem RowName.getMeasurements (session : Option Nat) (index : Nat) (sign : Bool) :
    RowName.Statement (.getMeasurements session index sign) := ⟨195, rfl⟩
theorem RowName.endSession (session : Nat) : RowName.Statement (.endSession session) := ⟨196, rfl⟩
theorem RowName.heartbeatFailure (session : Nat) : RowName.Statement (.heartbeatFailure session) := ⟨197, rfl⟩
theorem RowName.jobInstall (session : Option Nat) (slot : Nat) (id : Nat) (key : Bytes) :
    RowName.Statement (.jobInstall session slot id key) := ⟨198, rfl⟩
theorem RowName.jobRetire (session : Option Nat) (slot : Nat) :
    RowName.Statement (.jobRetire session slot) := ⟨199, rfl⟩
theorem RowName.connBind (session : Option Nat) (conn : Nat) (slot : Nat) :
    RowName.Statement (.connBind session conn slot) := ⟨200, rfl⟩
theorem RowName.connUnbind (session : Option Nat) (conn : Nat) :
    RowName.Statement (.connUnbind session conn) := ⟨201, rfl⟩
theorem RowName.ctxClose (session : Option Nat) (ctx : Nat) : RowName.Statement (.ctxClose session ctx) := ⟨202, rfl⟩
theorem RowName.ctxQuery (session : Option Nat) (ctx : Nat) : RowName.Statement (.ctxQuery session ctx) := ⟨203, rfl⟩
theorem RowName.closeDrained (ctx : Nat) : RowName.Statement (.closeDrained ctx) := ⟨205, rfl⟩
theorem RowName.closeRevoked (ctx : Nat) : RowName.Statement (.closeRevoked ctx) := ⟨206, rfl⟩
theorem RowName.closeMarkersReturned (ctx : Nat) : RowName.Statement (.closeMarkersReturned ctx) := ⟨207, rfl⟩
theorem RowName.drainLimitExpiry (ctx : Nat) : RowName.Statement (.drainLimitExpiry ctx) := ⟨208, rfl⟩
theorem RowName.closeConnsClosed (ctx : Nat) : RowName.Statement (.closeConnsClosed ctx) := ⟨209, rfl⟩
theorem RowName.closeScrubDone (ctx : Nat) : RowName.Statement (.closeScrubDone ctx) := ⟨210, rfl⟩
theorem RowName.ctxOpen (session : Option Nat) (ctx : Nat) : RowName.Statement (.ctxOpen session ctx) := ⟨211, rfl⟩
theorem RowName.cbData (write : Option Word) : RowName.Statement (.cbData write) := ⟨217, rfl⟩
theorem RowName.hgCtxCommit (ctx : Nat) : RowName.Statement (.hgCtxCommit ctx) := ⟨220, rfl⟩
theorem RowName.hgGateCommit (furrow : Nat) : RowName.Statement (.hgGateCommit furrow) := ⟨221, rfl⟩
theorem RowName.wpCfgCommit (stack : Nat) : RowName.Statement (.wpCfgCommit stack) := ⟨222, rfl⟩
theorem RowName.scCfgCommit (stack : Nat) : RowName.Statement (.scCfgCommit stack) := ⟨223, rfl⟩
theorem RowName.pgCfgCommit (stack : Nat) : RowName.Statement (.pgCfgCommit stack) := ⟨224, rfl⟩
theorem RowName.stCfgCommit (die : Nat) : RowName.Statement (.stCfgCommit die) := ⟨226, rfl⟩
theorem RowName.fuCommit (furrow : Nat) : RowName.Statement (.fuCommit furrow) := ⟨231, rfl⟩
theorem RowName.fuConnCommit (far : Option Nat) : RowName.Statement (.fuConnCommit far) := ⟨232, rfl⟩
theorem RowName.connClosed (conn : Nat) : RowName.Statement (.connClosed conn) := ⟨233, rfl⟩
theorem RowName.rsShadowCommit (slice : Nat) : RowName.Statement (.rsShadowCommit slice) := ⟨236, rfl⟩
theorem RowName.captureEffect (group : CapGroup) : RowName.Statement (.captureEffect group) := ⟨239, rfl⟩
theorem RowName.counterRead (port : Nat) (addr : Nat) (len : Nat) :
    RowName.Statement (.counterRead port addr len) := ⟨240, rfl⟩
theorem RowName.hgVfIrq (ctx : Nat) (value : Word) (tee : Bool) : RowName.Statement (.hgVfIrq ctx value tee) := ⟨241, rfl⟩
theorem RowName.rqOriginClr (origin : Nat) : RowName.Statement (.rqOriginClr origin) := ⟨242, rfl⟩
theorem RowName.registerWrite (space : RegSpace) (addr : Nat) (len : Nat) (value : Word) :
    RowName.Statement (.registerWrite space addr len value) := ⟨243, rfl⟩
theorem RowName.stagnationSample (edges : List WaitEdge) : RowName.Statement (.stagnationSample edges) := ⟨250, rfl⟩
theorem RowName.withdrawTimeout (slot : Nat) : RowName.Statement (.withdrawTimeout slot) := ⟨251, rfl⟩
theorem RowName.portdieDown (die : Nat) (pll : Bool) : RowName.Statement (.portdieDown die pll) := ⟨253, rfl⟩
theorem RowName.stackDown (stack : Nat) (pll : Bool) : RowName.Statement (.stackDown stack pll) := ⟨254, rfl⟩
theorem RowName.rsTake (ctx : Nat) : RowName.Statement (.rsTake ctx) := ⟨255, rfl⟩
theorem RowName.lostAdd (ctx : Nat) : RowName.Statement (.lostAdd ctx) := ⟨259, rfl⟩
theorem RowName.lostRemove (ctx : Nat) : RowName.Statement (.lostRemove ctx) := ⟨260, rfl⟩
theorem RowName.shadowCompare (slice : Nat) : RowName.Statement (.shadowCompare slice) := ⟨261, rfl⟩
theorem RowName.pwrFail (cycles : Nat) : RowName.Statement (.pwrFail cycles) := ⟨263, rfl⟩
theorem RowName.modReset (us : Nat) : RowName.Statement (.modReset us) := ⟨264, rfl⟩
theorem RowName.startupStepDone (e : StepEnd) : RowName.Statement (.startupStepDone e) := ⟨269, rfl⟩
theorem RowName.sensorReading (r : Sensors) : RowName.Statement (.sensorReading r) := ⟨273, rfl⟩
theorem RowName.managementDatagram (port : Nat) (atGlobal : Bool) (hdr : Bytes) (len : Nat) (msg : MgmtMsg) :
    RowName.Statement (.managementDatagram port atGlobal hdr len msg) := ⟨275, rfl⟩
theorem RowName.discover (port : Nat) (mseq : Nat) : RowName.Statement (.discover port mseq) := ⟨276, rfl⟩
theorem RowName.eventAck (eseq : Nat) : RowName.Statement (.eventAck eseq) := ⟨277, rfl⟩
theorem RowName.eventResend (eseq : Nat) : RowName.Statement (.eventResend eseq) := ⟨278, rfl⟩
theorem RowName.registerAccess (session : Option Nat) (addr : Nat) (len : Nat) (write : Option Word) :
    RowName.Statement (.registerAccess session addr len write) := ⟨279, rfl⟩
theorem RowName.subscribe (session : Option Nat) (addr : Bytes) :
    RowName.Statement (.subscribe session addr) := ⟨280, rfl⟩
theorem RowName.imageTransfer (session : Option Nat) (off : Nat) (data : Bytes) (op : Nat) :
    RowName.Statement (.imageTransfer session off data op) := ⟨281, rfl⟩
theorem RowName.cellReadDone (chan : Nat) (bad : List Nat) (bad2 : List Nat) :
    RowName.Statement (.cellReadDone chan bad bad2) := ⟨284, rfl⟩
theorem RowName.hostLinkDown (port : Nat) (refclk : Bool) : RowName.Statement (.hostLinkDown port refclk) := ⟨286, rfl⟩
theorem RowName.dynamicAddressAssignment (addr : Nat) (eid : Nat) :
    RowName.Statement (.dynamicAddressAssignment addr eid) := ⟨287, rfl⟩
theorem RowName.startInterface (vf : Nat) : RowName.Statement (.startInterface vf) := ⟨288, rfl⟩
theorem RowName.predictiveClear (session : Option Nat) : RowName.Statement (.predictiveClear session) := ⟨289, rfl⟩
theorem RowName.rebalance : RowName.Statement (.rebalance) := ⟨36, rfl⟩
theorem RowName.activationQuiesced : RowName.Statement (.activationQuiesced) := ⟨67, rfl⟩
theorem RowName.activationEnd : RowName.Statement (.activationEnd) := ⟨68, rfl⟩
theorem RowName.confirm : RowName.Statement (.confirm) := ⟨69, rfl⟩
theorem RowName.healthLimitExpiry : RowName.Statement (.healthLimitExpiry) := ⟨70, rfl⟩
theorem RowName.fallbackEnd : RowName.Statement (.fallbackEnd) := ⟨71, rfl⟩
theorem RowName.arm : RowName.Statement (.arm) := ⟨74, rfl⟩
theorem RowName.disarm : RowName.Statement (.disarm) := ⟨75, rfl⟩
theorem RowName.revert : RowName.Statement (.revert) := ⟨76, rfl⟩
theorem RowName.discard : RowName.Statement (.discard) := ⟨77, rfl⟩
theorem RowName.boot : RowName.Statement (.boot) := ⟨78, rfl⟩
theorem RowName.debugStep : RowName.Statement (.debugStep) := ⟨172, rfl⟩
theorem RowName.privilegedSearch (mid : Option Nat) : RowName.Statement (.privilegedSearch mid) := ⟨176, rfl⟩
theorem RowName.hpRngCommit : RowName.Statement (.hpRngCommit) := ⟨185, rfl⟩
theorem RowName.mtCtxCmdClose : RowName.Statement (.mtCtxCmdClose) := ⟨204, rfl⟩
theorem RowName.entropy : RowName.Statement (.entropy) := ⟨212, rfl⟩
theorem RowName.cbLoad : RowName.Statement (.cbLoad) := ⟨213, rfl⟩
theorem RowName.cbStore : RowName.Statement (.cbStore) := ⟨214, rfl⟩
theorem RowName.cbAmend : RowName.Statement (.cbAmend) := ⟨215, rfl⟩
theorem RowName.cbClear : RowName.Statement (.cbClear) := ⟨216, rfl⟩
theorem RowName.hubRetCfgCommit : RowName.Statement (.hubRetCfgCommit) := ⟨218, rfl⟩
theorem RowName.hgCfgCommit : RowName.Statement (.hgCfgCommit) := ⟨219, rfl⟩
theorem RowName.pgCodeCommit : RowName.Statement (.pgCodeCommit) := ⟨225, rfl⟩
theorem RowName.lcCfgCommit : RowName.Statement (.lcCfgCommit) := ⟨227, rfl⟩
theorem RowName.rqCfgCommit : RowName.Statement (.rqCfgCommit) := ⟨228, rfl⟩
theorem RowName.rqEpochCommit : RowName.Statement (.rqEpochCommit) := ⟨229, rfl⟩
theorem RowName.lkCfgCommit : RowName.Statement (.lkCfgCommit) := ⟨230, rfl⟩
theorem RowName.mtCfgCommit : RowName.Statement (.mtCfgCommit) := ⟨234, rfl⟩
theorem RowName.rsCfgCommit : RowName.Statement (.rsCfgCommit) := ⟨235, rfl⟩
theorem RowName.brFwCommit : RowName.Statement (.brFwCommit) := ⟨237, rfl⟩
theorem RowName.pwCfgCommit : RowName.Statement (.pwCfgCommit) := ⟨238, rfl⟩
theorem RowName.creset : RowName.Statement (.creset) := ⟨244, rfl⟩
theorem RowName.withdraw : RowName.Statement (.withdraw) := ⟨245, rfl⟩
theorem RowName.computeReset : RowName.Statement (.computeReset) := ⟨246, rfl⟩
theorem RowName.resetCutoff : RowName.Statement (.resetCutoff) := ⟨247, rfl⟩
theorem RowName.computeResetQuiesced : RowName.Statement (.computeResetQuiesced) := ⟨248, rfl⟩
theorem RowName.computeResetEnd : RowName.Statement (.computeResetEnd) := ⟨249, rfl⟩
theorem RowName.withdrawOut : RowName.Statement (.withdrawOut) := ⟨252, rfl⟩
theorem RowName.takeoverDone : RowName.Statement (.takeoverDone) := ⟨256, rfl⟩
theorem RowName.rebuildDecode : RowName.Statement (.rebuildDecode) := ⟨257, rfl⟩
theorem RowName.rebuildRecord : RowName.Statement (.rebuildRecord) := ⟨258, rfl⟩
theorem RowName.predictiveSave : RowName.Statement (.predictiveSave) := ⟨262, rfl⟩
theorem RowName.overcurrent : RowName.Statement (.overcurrent) := ⟨265, rfl⟩
theorem RowName.overvoltage : RowName.Statement (.overvoltage) := ⟨266, rfl⟩
theorem RowName.inputRise : RowName.Statement (.inputRise) := ⟨267, rfl⟩
theorem RowName.undervoltage : RowName.Statement (.undervoltage) := ⟨268, rfl⟩
theorem RowName.fabricReset : RowName.Statement (.fabricReset) := ⟨270, rfl⟩
theorem RowName.service : RowName.Statement (.service) := ⟨271, rfl⟩
theorem RowName.off : RowName.Statement (.off) := ⟨272, rfl⟩
theorem RowName.hubPllLoss : RowName.Statement (.hubPllLoss) := ⟨274, rfl⟩
theorem RowName.entropyRecovery : RowName.Statement (.entropyRecovery) := ⟨282, rfl⟩
theorem RowName.signatureComplete : RowName.Statement (.signatureComplete) := ⟨283, rfl⟩
theorem RowName.managementPllLoss : RowName.Statement (.managementPllLoss) := ⟨285, rfl⟩
theorem RowName.memoryInitRequest : RowName.Statement (.memoryInitRequest) := ⟨290, rfl⟩

end Laws

end Sys2Proof
end

