-- ==== Sys2Proof/Laws/State.lean ====
section
/-! SUPPORT. What each plain update of the state leaves alone, field by field, and what it reads back. -/

namespace Sys2Proof.Machine.State

/-! emit writes out alone. -/

@[simp] theorem emit_variant (s : State) (o : Out) : (s.emit o).variant = s.variant := rfl
@[simp] theorem emit_regs (s : State) (o : Out) : (s.emit o).regs = s.regs := rfl
@[simp] theorem emit_ctrs (s : State) (o : Out) : (s.emit o).ctrs = s.ctrs := rfl
@[simp] theorem emit_hubUnits (s : State) (o : Out) : (s.emit o).hubUnits = s.hubUnits := rfl
@[simp] theorem emit_mgmtMs (s : State) (o : Out) : (s.emit o).mgmtMs = s.mgmtMs := rfl
@[simp] theorem emit_fresh (s : State) (o : Out) : (s.emit o).fresh = s.fresh := rfl
@[simp] theorem emit_pending (s : State) (o : Out) : (s.emit o).pending = s.pending := rfl
@[simp] theorem emit_undef (s : State) (o : Out) : (s.emit o).undef = s.undef := rfl
@[simp] theorem emit_store (s : State) (o : Out) : (s.emit o).store = s.store := rfl
@[simp] theorem emit_cam (s : State) (o : Out) : (s.emit o).cam = s.cam := rfl
@[simp] theorem emit_links (s : State) (o : Out) : (s.emit o).links = s.links := rfl
@[simp] theorem emit_furrows (s : State) (o : Out) : (s.emit o).furrows = s.furrows := rfl
@[simp] theorem emit_conns (s : State) (o : Out) : (s.emit o).conns = s.conns := rfl
@[simp] theorem emit_reasm (s : State) (o : Out) : (s.emit o).reasm = s.reasm := rfl
@[simp] theorem emit_slots (s : State) (o : Out) : (s.emit o).slots = s.slots := rfl
@[simp] theorem emit_ctxs (s : State) (o : Out) : (s.emit o).ctxs = s.ctxs := rfl
@[simp] theorem emit_turn (s : State) (o : Out) : (s.emit o).turn = s.turn := rfl
@[simp] theorem emit_origins (s : State) (o : Out) : (s.emit o).origins = s.origins := rfl
@[simp] theorem emit_nextEntry (s : State) (o : Out) : (s.emit o).nextEntry = s.nextEntry := rfl
@[simp] theorem emit_nextAdmit (s : State) (o : Out) : (s.emit o).nextAdmit = s.nextAdmit := rfl
@[simp] theorem emit_held (s : State) (o : Out) : (s.emit o).held = s.held := rfl
@[simp] theorem emit_sentMarkers (s : State) (o : Out) : (s.emit o).sentMarkers = s.sentMarkers := rfl
@[simp] theorem emit_dests (s : State) (o : Out) : (s.emit o).dests = s.dests := rfl
@[simp] theorem emit_own (s : State) (o : Out) : (s.emit o).own = s.own := rfl
@[simp] theorem emit_unsent (s : State) (o : Out) : (s.emit o).unsent = s.unsent := rfl
@[simp] theorem emit_img (s : State) (o : Out) : (s.emit o).img = s.img := rfl
@[simp] theorem emit_attn (s : State) (o : Out) : (s.emit o).attn = s.attn := rfl
@[simp] theorem emit_sluice (s : State) (o : Out) : (s.emit o).sluice = s.sluice := rfl
@[simp] theorem emit_host (s : State) (o : Out) : (s.emit o).host = s.host := rfl
@[simp] theorem emit_mint (s : State) (o : Out) : (s.emit o).mint = s.mint := rfl
@[simp] theorem emit_rel (s : State) (o : Out) : (s.emit o).rel = s.rel := rfl
@[simp] theorem emit_firm (s : State) (o : Out) : (s.emit o).firm = s.firm := rfl
@[simp] theorem emit_power (s : State) (o : Out) : (s.emit o).power = s.power := rfl

/-! tick writes fresh alone. -/

@[simp] theorem tick_variant (s : State) : s.tick.variant = s.variant := rfl
@[simp] theorem tick_regs (s : State) : s.tick.regs = s.regs := rfl
@[simp] theorem tick_ctrs (s : State) : s.tick.ctrs = s.ctrs := rfl
@[simp] theorem tick_hubUnits (s : State) : s.tick.hubUnits = s.hubUnits := rfl
@[simp] theorem tick_mgmtMs (s : State) : s.tick.mgmtMs = s.mgmtMs := rfl
@[simp] theorem tick_out (s : State) : s.tick.out = s.out := rfl
@[simp] theorem tick_pending (s : State) : s.tick.pending = s.pending := rfl
@[simp] theorem tick_undef (s : State) : s.tick.undef = s.undef := rfl
@[simp] theorem tick_store (s : State) : s.tick.store = s.store := rfl
@[simp] theorem tick_cam (s : State) : s.tick.cam = s.cam := rfl
@[simp] theorem tick_links (s : State) : s.tick.links = s.links := rfl
@[simp] theorem tick_furrows (s : State) : s.tick.furrows = s.furrows := rfl
@[simp] theorem tick_conns (s : State) : s.tick.conns = s.conns := rfl
@[simp] theorem tick_reasm (s : State) : s.tick.reasm = s.reasm := rfl
@[simp] theorem tick_slots (s : State) : s.tick.slots = s.slots := rfl
@[simp] theorem tick_ctxs (s : State) : s.tick.ctxs = s.ctxs := rfl
@[simp] theorem tick_turn (s : State) : s.tick.turn = s.turn := rfl
@[simp] theorem tick_origins (s : State) : s.tick.origins = s.origins := rfl
@[simp] theorem tick_nextEntry (s : State) : s.tick.nextEntry = s.nextEntry := rfl
@[simp] theorem tick_nextAdmit (s : State) : s.tick.nextAdmit = s.nextAdmit := rfl
@[simp] theorem tick_held (s : State) : s.tick.held = s.held := rfl
@[simp] theorem tick_sentMarkers (s : State) : s.tick.sentMarkers = s.sentMarkers := rfl
@[simp] theorem tick_dests (s : State) : s.tick.dests = s.dests := rfl
@[simp] theorem tick_own (s : State) : s.tick.own = s.own := rfl
@[simp] theorem tick_unsent (s : State) : s.tick.unsent = s.unsent := rfl
@[simp] theorem tick_img (s : State) : s.tick.img = s.img := rfl
@[simp] theorem tick_attn (s : State) : s.tick.attn = s.attn := rfl
@[simp] theorem tick_sluice (s : State) : s.tick.sluice = s.sluice := rfl
@[simp] theorem tick_host (s : State) : s.tick.host = s.host := rfl
@[simp] theorem tick_mint (s : State) : s.tick.mint = s.mint := rfl
@[simp] theorem tick_rel (s : State) : s.tick.rel = s.rel := rfl
@[simp] theorem tick_firm (s : State) : s.tick.firm = s.firm := rfl
@[simp] theorem tick_power (s : State) : s.tick.power = s.power := rfl

/-! setReg writes regs alone. -/

@[simp] theorem setReg_variant (s : State) (r : Reg) (i : Nat) (w : Word) : (s.setReg r i w).variant = s.variant := rfl
@[simp] theorem setReg_ctrs (s : State) (r : Reg) (i : Nat) (w : Word) : (s.setReg r i w).ctrs = s.ctrs := rfl
@[simp] theorem setReg_hubUnits (s : State) (r : Reg) (i : Nat) (w : Word) : (s.setReg r i w).hubUnits = s.hubUnits := rfl
@[simp] theorem setReg_mgmtMs (s : State) (r : Reg) (i : Nat) (w : Word) : (s.setReg r i w).mgmtMs = s.mgmtMs := rfl
@[simp] theorem setReg_fresh (s : State) (r : Reg) (i : Nat) (w : Word) : (s.setReg r i w).fresh = s.fresh := rfl
@[simp] theorem setReg_out (s : State) (r : Reg) (i : Nat) (w : Word) : (s.setReg r i w).out = s.out := rfl
@[simp] theorem setReg_pending (s : State) (r : Reg) (i : Nat) (w : Word) : (s.setReg r i w).pending = s.pending := rfl
@[simp] theorem setReg_undef (s : State) (r : Reg) (i : Nat) (w : Word) : (s.setReg r i w).undef = s.undef := rfl
@[simp] theorem setReg_store (s : State) (r : Reg) (i : Nat) (w : Word) : (s.setReg r i w).store = s.store := rfl
@[simp] theorem setReg_cam (s : State) (r : Reg) (i : Nat) (w : Word) : (s.setReg r i w).cam = s.cam := rfl
@[simp] theorem setReg_links (s : State) (r : Reg) (i : Nat) (w : Word) : (s.setReg r i w).links = s.links := rfl
@[simp] theorem setReg_furrows (s : State) (r : Reg) (i : Nat) (w : Word) : (s.setReg r i w).furrows = s.furrows := rfl
@[simp] theorem setReg_conns (s : State) (r : Reg) (i : Nat) (w : Word) : (s.setReg r i w).conns = s.conns := rfl
@[simp] theorem setReg_reasm (s : State) (r : Reg) (i : Nat) (w : Word) : (s.setReg r i w).reasm = s.reasm := rfl
@[simp] theorem setReg_slots (s : State) (r : Reg) (i : Nat) (w : Word) : (s.setReg r i w).slots = s.slots := rfl
@[simp] theorem setReg_ctxs (s : State) (r : Reg) (i : Nat) (w : Word) : (s.setReg r i w).ctxs = s.ctxs := rfl
@[simp] theorem setReg_turn (s : State) (r : Reg) (i : Nat) (w : Word) : (s.setReg r i w).turn = s.turn := rfl
@[simp] theorem setReg_origins (s : State) (r : Reg) (i : Nat) (w : Word) : (s.setReg r i w).origins = s.origins := rfl
@[simp] theorem setReg_nextEntry (s : State) (r : Reg) (i : Nat) (w : Word) : (s.setReg r i w).nextEntry = s.nextEntry := rfl
@[simp] theorem setReg_nextAdmit (s : State) (r : Reg) (i : Nat) (w : Word) : (s.setReg r i w).nextAdmit = s.nextAdmit := rfl
@[simp] theorem setReg_held (s : State) (r : Reg) (i : Nat) (w : Word) : (s.setReg r i w).held = s.held := rfl
@[simp] theorem setReg_sentMarkers (s : State) (r : Reg) (i : Nat) (w : Word) : (s.setReg r i w).sentMarkers = s.sentMarkers := rfl
@[simp] theorem setReg_dests (s : State) (r : Reg) (i : Nat) (w : Word) : (s.setReg r i w).dests = s.dests := rfl
@[simp] theorem setReg_own (s : State) (r : Reg) (i : Nat) (w : Word) : (s.setReg r i w).own = s.own := rfl
@[simp] theorem setReg_unsent (s : State) (r : Reg) (i : Nat) (w : Word) : (s.setReg r i w).unsent = s.unsent := rfl
@[simp] theorem setReg_img (s : State) (r : Reg) (i : Nat) (w : Word) : (s.setReg r i w).img = s.img := rfl
@[simp] theorem setReg_attn (s : State) (r : Reg) (i : Nat) (w : Word) : (s.setReg r i w).attn = s.attn := rfl
@[simp] theorem setReg_sluice (s : State) (r : Reg) (i : Nat) (w : Word) : (s.setReg r i w).sluice = s.sluice := rfl
@[simp] theorem setReg_host (s : State) (r : Reg) (i : Nat) (w : Word) : (s.setReg r i w).host = s.host := rfl
@[simp] theorem setReg_mint (s : State) (r : Reg) (i : Nat) (w : Word) : (s.setReg r i w).mint = s.mint := rfl
@[simp] theorem setReg_rel (s : State) (r : Reg) (i : Nat) (w : Word) : (s.setReg r i w).rel = s.rel := rfl
@[simp] theorem setReg_firm (s : State) (r : Reg) (i : Nat) (w : Word) : (s.setReg r i w).firm = s.firm := rfl
@[simp] theorem setReg_power (s : State) (r : Reg) (i : Nat) (w : Word) : (s.setReg r i w).power = s.power := rfl

/-! setFld writes regs alone. -/

@[simp] theorem setFld_variant (s : State) (r : Reg) (i hi lo v : Nat) : (s.setFld r i hi lo v).variant = s.variant := rfl
@[simp] theorem setFld_ctrs (s : State) (r : Reg) (i hi lo v : Nat) : (s.setFld r i hi lo v).ctrs = s.ctrs := rfl
@[simp] theorem setFld_hubUnits (s : State) (r : Reg) (i hi lo v : Nat) : (s.setFld r i hi lo v).hubUnits = s.hubUnits := rfl
@[simp] theorem setFld_mgmtMs (s : State) (r : Reg) (i hi lo v : Nat) : (s.setFld r i hi lo v).mgmtMs = s.mgmtMs := rfl
@[simp] theorem setFld_fresh (s : State) (r : Reg) (i hi lo v : Nat) : (s.setFld r i hi lo v).fresh = s.fresh := rfl
@[simp] theorem setFld_out (s : State) (r : Reg) (i hi lo v : Nat) : (s.setFld r i hi lo v).out = s.out := rfl
@[simp] theorem setFld_pending (s : State) (r : Reg) (i hi lo v : Nat) : (s.setFld r i hi lo v).pending = s.pending := rfl
@[simp] theorem setFld_undef (s : State) (r : Reg) (i hi lo v : Nat) : (s.setFld r i hi lo v).undef = s.undef := rfl
@[simp] theorem setFld_store (s : State) (r : Reg) (i hi lo v : Nat) : (s.setFld r i hi lo v).store = s.store := rfl
@[simp] theorem setFld_cam (s : State) (r : Reg) (i hi lo v : Nat) : (s.setFld r i hi lo v).cam = s.cam := rfl
@[simp] theorem setFld_links (s : State) (r : Reg) (i hi lo v : Nat) : (s.setFld r i hi lo v).links = s.links := rfl
@[simp] theorem setFld_furrows (s : State) (r : Reg) (i hi lo v : Nat) : (s.setFld r i hi lo v).furrows = s.furrows := rfl
@[simp] theorem setFld_conns (s : State) (r : Reg) (i hi lo v : Nat) : (s.setFld r i hi lo v).conns = s.conns := rfl
@[simp] theorem setFld_reasm (s : State) (r : Reg) (i hi lo v : Nat) : (s.setFld r i hi lo v).reasm = s.reasm := rfl
@[simp] theorem setFld_slots (s : State) (r : Reg) (i hi lo v : Nat) : (s.setFld r i hi lo v).slots = s.slots := rfl
@[simp] theorem setFld_ctxs (s : State) (r : Reg) (i hi lo v : Nat) : (s.setFld r i hi lo v).ctxs = s.ctxs := rfl
@[simp] theorem setFld_turn (s : State) (r : Reg) (i hi lo v : Nat) : (s.setFld r i hi lo v).turn = s.turn := rfl
@[simp] theorem setFld_origins (s : State) (r : Reg) (i hi lo v : Nat) : (s.setFld r i hi lo v).origins = s.origins := rfl
@[simp] theorem setFld_nextEntry (s : State) (r : Reg) (i hi lo v : Nat) : (s.setFld r i hi lo v).nextEntry = s.nextEntry := rfl
@[simp] theorem setFld_nextAdmit (s : State) (r : Reg) (i hi lo v : Nat) : (s.setFld r i hi lo v).nextAdmit = s.nextAdmit := rfl
@[simp] theorem setFld_held (s : State) (r : Reg) (i hi lo v : Nat) : (s.setFld r i hi lo v).held = s.held := rfl
@[simp] theorem setFld_sentMarkers (s : State) (r : Reg) (i hi lo v : Nat) : (s.setFld r i hi lo v).sentMarkers = s.sentMarkers := rfl
@[simp] theorem setFld_dests (s : State) (r : Reg) (i hi lo v : Nat) : (s.setFld r i hi lo v).dests = s.dests := rfl
@[simp] theorem setFld_own (s : State) (r : Reg) (i hi lo v : Nat) : (s.setFld r i hi lo v).own = s.own := rfl
@[simp] theorem setFld_unsent (s : State) (r : Reg) (i hi lo v : Nat) : (s.setFld r i hi lo v).unsent = s.unsent := rfl
@[simp] theorem setFld_img (s : State) (r : Reg) (i hi lo v : Nat) : (s.setFld r i hi lo v).img = s.img := rfl
@[simp] theorem setFld_attn (s : State) (r : Reg) (i hi lo v : Nat) : (s.setFld r i hi lo v).attn = s.attn := rfl
@[simp] theorem setFld_sluice (s : State) (r : Reg) (i hi lo v : Nat) : (s.setFld r i hi lo v).sluice = s.sluice := rfl
@[simp] theorem setFld_host (s : State) (r : Reg) (i hi lo v : Nat) : (s.setFld r i hi lo v).host = s.host := rfl
@[simp] theorem setFld_mint (s : State) (r : Reg) (i hi lo v : Nat) : (s.setFld r i hi lo v).mint = s.mint := rfl
@[simp] theorem setFld_rel (s : State) (r : Reg) (i hi lo v : Nat) : (s.setFld r i hi lo v).rel = s.rel := rfl
@[simp] theorem setFld_firm (s : State) (r : Reg) (i hi lo v : Nat) : (s.setFld r i hi lo v).firm = s.firm := rfl
@[simp] theorem setFld_power (s : State) (r : Reg) (i hi lo v : Nat) : (s.setFld r i hi lo v).power = s.power := rfl

/-! setBit writes regs alone. -/

@[simp] theorem setBit_variant (s : State) (r : Reg) (i b : Nat) : (s.setBit r i b).variant = s.variant := rfl
@[simp] theorem setBit_ctrs (s : State) (r : Reg) (i b : Nat) : (s.setBit r i b).ctrs = s.ctrs := rfl
@[simp] theorem setBit_hubUnits (s : State) (r : Reg) (i b : Nat) : (s.setBit r i b).hubUnits = s.hubUnits := rfl
@[simp] theorem setBit_mgmtMs (s : State) (r : Reg) (i b : Nat) : (s.setBit r i b).mgmtMs = s.mgmtMs := rfl
@[simp] theorem setBit_fresh (s : State) (r : Reg) (i b : Nat) : (s.setBit r i b).fresh = s.fresh := rfl
@[simp] theorem setBit_out (s : State) (r : Reg) (i b : Nat) : (s.setBit r i b).out = s.out := rfl
@[simp] theorem setBit_pending (s : State) (r : Reg) (i b : Nat) : (s.setBit r i b).pending = s.pending := rfl
@[simp] theorem setBit_undef (s : State) (r : Reg) (i b : Nat) : (s.setBit r i b).undef = s.undef := rfl
@[simp] theorem setBit_store (s : State) (r : Reg) (i b : Nat) : (s.setBit r i b).store = s.store := rfl
@[simp] theorem setBit_cam (s : State) (r : Reg) (i b : Nat) : (s.setBit r i b).cam = s.cam := rfl
@[simp] theorem setBit_links (s : State) (r : Reg) (i b : Nat) : (s.setBit r i b).links = s.links := rfl
@[simp] theorem setBit_furrows (s : State) (r : Reg) (i b : Nat) : (s.setBit r i b).furrows = s.furrows := rfl
@[simp] theorem setBit_conns (s : State) (r : Reg) (i b : Nat) : (s.setBit r i b).conns = s.conns := rfl
@[simp] theorem setBit_reasm (s : State) (r : Reg) (i b : Nat) : (s.setBit r i b).reasm = s.reasm := rfl
@[simp] theorem setBit_slots (s : State) (r : Reg) (i b : Nat) : (s.setBit r i b).slots = s.slots := rfl
@[simp] theorem setBit_ctxs (s : State) (r : Reg) (i b : Nat) : (s.setBit r i b).ctxs = s.ctxs := rfl
@[simp] theorem setBit_turn (s : State) (r : Reg) (i b : Nat) : (s.setBit r i b).turn = s.turn := rfl
@[simp] theorem setBit_origins (s : State) (r : Reg) (i b : Nat) : (s.setBit r i b).origins = s.origins := rfl
@[simp] theorem setBit_nextEntry (s : State) (r : Reg) (i b : Nat) : (s.setBit r i b).nextEntry = s.nextEntry := rfl
@[simp] theorem setBit_nextAdmit (s : State) (r : Reg) (i b : Nat) : (s.setBit r i b).nextAdmit = s.nextAdmit := rfl
@[simp] theorem setBit_held (s : State) (r : Reg) (i b : Nat) : (s.setBit r i b).held = s.held := rfl
@[simp] theorem setBit_sentMarkers (s : State) (r : Reg) (i b : Nat) : (s.setBit r i b).sentMarkers = s.sentMarkers := rfl
@[simp] theorem setBit_dests (s : State) (r : Reg) (i b : Nat) : (s.setBit r i b).dests = s.dests := rfl
@[simp] theorem setBit_own (s : State) (r : Reg) (i b : Nat) : (s.setBit r i b).own = s.own := rfl
@[simp] theorem setBit_unsent (s : State) (r : Reg) (i b : Nat) : (s.setBit r i b).unsent = s.unsent := rfl
@[simp] theorem setBit_img (s : State) (r : Reg) (i b : Nat) : (s.setBit r i b).img = s.img := rfl
@[simp] theorem setBit_attn (s : State) (r : Reg) (i b : Nat) : (s.setBit r i b).attn = s.attn := rfl
@[simp] theorem setBit_sluice (s : State) (r : Reg) (i b : Nat) : (s.setBit r i b).sluice = s.sluice := rfl
@[simp] theorem setBit_host (s : State) (r : Reg) (i b : Nat) : (s.setBit r i b).host = s.host := rfl
@[simp] theorem setBit_mint (s : State) (r : Reg) (i b : Nat) : (s.setBit r i b).mint = s.mint := rfl
@[simp] theorem setBit_rel (s : State) (r : Reg) (i b : Nat) : (s.setBit r i b).rel = s.rel := rfl
@[simp] theorem setBit_firm (s : State) (r : Reg) (i b : Nat) : (s.setBit r i b).firm = s.firm := rfl
@[simp] theorem setBit_power (s : State) (r : Reg) (i b : Nat) : (s.setBit r i b).power = s.power := rfl

/-! setShadow writes regs alone. -/

@[simp] theorem setShadow_variant (s : State) (r : Reg) (i : Nat) (w : Word) : (s.setShadow r i w).variant = s.variant := rfl
@[simp] theorem setShadow_ctrs (s : State) (r : Reg) (i : Nat) (w : Word) : (s.setShadow r i w).ctrs = s.ctrs := rfl
@[simp] theorem setShadow_hubUnits (s : State) (r : Reg) (i : Nat) (w : Word) : (s.setShadow r i w).hubUnits = s.hubUnits := rfl
@[simp] theorem setShadow_mgmtMs (s : State) (r : Reg) (i : Nat) (w : Word) : (s.setShadow r i w).mgmtMs = s.mgmtMs := rfl
@[simp] theorem setShadow_fresh (s : State) (r : Reg) (i : Nat) (w : Word) : (s.setShadow r i w).fresh = s.fresh := rfl
@[simp] theorem setShadow_out (s : State) (r : Reg) (i : Nat) (w : Word) : (s.setShadow r i w).out = s.out := rfl
@[simp] theorem setShadow_pending (s : State) (r : Reg) (i : Nat) (w : Word) : (s.setShadow r i w).pending = s.pending := rfl
@[simp] theorem setShadow_undef (s : State) (r : Reg) (i : Nat) (w : Word) : (s.setShadow r i w).undef = s.undef := rfl
@[simp] theorem setShadow_store (s : State) (r : Reg) (i : Nat) (w : Word) : (s.setShadow r i w).store = s.store := rfl
@[simp] theorem setShadow_cam (s : State) (r : Reg) (i : Nat) (w : Word) : (s.setShadow r i w).cam = s.cam := rfl
@[simp] theorem setShadow_links (s : State) (r : Reg) (i : Nat) (w : Word) : (s.setShadow r i w).links = s.links := rfl
@[simp] theorem setShadow_furrows (s : State) (r : Reg) (i : Nat) (w : Word) : (s.setShadow r i w).furrows = s.furrows := rfl
@[simp] theorem setShadow_conns (s : State) (r : Reg) (i : Nat) (w : Word) : (s.setShadow r i w).conns = s.conns := rfl
@[simp] theorem setShadow_reasm (s : State) (r : Reg) (i : Nat) (w : Word) : (s.setShadow r i w).reasm = s.reasm := rfl
@[simp] theorem setShadow_slots (s : State) (r : Reg) (i : Nat) (w : Word) : (s.setShadow r i w).slots = s.slots := rfl
@[simp] theorem setShadow_ctxs (s : State) (r : Reg) (i : Nat) (w : Word) : (s.setShadow r i w).ctxs = s.ctxs := rfl
@[simp] theorem setShadow_turn (s : State) (r : Reg) (i : Nat) (w : Word) : (s.setShadow r i w).turn = s.turn := rfl
@[simp] theorem setShadow_origins (s : State) (r : Reg) (i : Nat) (w : Word) : (s.setShadow r i w).origins = s.origins := rfl
@[simp] theorem setShadow_nextEntry (s : State) (r : Reg) (i : Nat) (w : Word) : (s.setShadow r i w).nextEntry = s.nextEntry := rfl
@[simp] theorem setShadow_nextAdmit (s : State) (r : Reg) (i : Nat) (w : Word) : (s.setShadow r i w).nextAdmit = s.nextAdmit := rfl
@[simp] theorem setShadow_held (s : State) (r : Reg) (i : Nat) (w : Word) : (s.setShadow r i w).held = s.held := rfl
@[simp] theorem setShadow_sentMarkers (s : State) (r : Reg) (i : Nat) (w : Word) : (s.setShadow r i w).sentMarkers = s.sentMarkers := rfl
@[simp] theorem setShadow_dests (s : State) (r : Reg) (i : Nat) (w : Word) : (s.setShadow r i w).dests = s.dests := rfl
@[simp] theorem setShadow_own (s : State) (r : Reg) (i : Nat) (w : Word) : (s.setShadow r i w).own = s.own := rfl
@[simp] theorem setShadow_unsent (s : State) (r : Reg) (i : Nat) (w : Word) : (s.setShadow r i w).unsent = s.unsent := rfl
@[simp] theorem setShadow_img (s : State) (r : Reg) (i : Nat) (w : Word) : (s.setShadow r i w).img = s.img := rfl
@[simp] theorem setShadow_attn (s : State) (r : Reg) (i : Nat) (w : Word) : (s.setShadow r i w).attn = s.attn := rfl
@[simp] theorem setShadow_sluice (s : State) (r : Reg) (i : Nat) (w : Word) : (s.setShadow r i w).sluice = s.sluice := rfl
@[simp] theorem setShadow_host (s : State) (r : Reg) (i : Nat) (w : Word) : (s.setShadow r i w).host = s.host := rfl
@[simp] theorem setShadow_mint (s : State) (r : Reg) (i : Nat) (w : Word) : (s.setShadow r i w).mint = s.mint := rfl
@[simp] theorem setShadow_rel (s : State) (r : Reg) (i : Nat) (w : Word) : (s.setShadow r i w).rel = s.rel := rfl
@[simp] theorem setShadow_firm (s : State) (r : Reg) (i : Nat) (w : Word) : (s.setShadow r i w).firm = s.firm := rfl
@[simp] theorem setShadow_power (s : State) (r : Reg) (i : Nat) (w : Word) : (s.setShadow r i w).power = s.power := rfl

/-! count writes ctrs alone. -/

@[simp] theorem count_variant (s : State) (c : Ctr) (i n : Nat) : (s.count c i n).variant = s.variant := rfl
@[simp] theorem count_regs (s : State) (c : Ctr) (i n : Nat) : (s.count c i n).regs = s.regs := rfl
@[simp] theorem count_hubUnits (s : State) (c : Ctr) (i n : Nat) : (s.count c i n).hubUnits = s.hubUnits := rfl
@[simp] theorem count_mgmtMs (s : State) (c : Ctr) (i n : Nat) : (s.count c i n).mgmtMs = s.mgmtMs := rfl
@[simp] theorem count_fresh (s : State) (c : Ctr) (i n : Nat) : (s.count c i n).fresh = s.fresh := rfl
@[simp] theorem count_out (s : State) (c : Ctr) (i n : Nat) : (s.count c i n).out = s.out := rfl
@[simp] theorem count_pending (s : State) (c : Ctr) (i n : Nat) : (s.count c i n).pending = s.pending := rfl
@[simp] theorem count_undef (s : State) (c : Ctr) (i n : Nat) : (s.count c i n).undef = s.undef := rfl
@[simp] theorem count_store (s : State) (c : Ctr) (i n : Nat) : (s.count c i n).store = s.store := rfl
@[simp] theorem count_cam (s : State) (c : Ctr) (i n : Nat) : (s.count c i n).cam = s.cam := rfl
@[simp] theorem count_links (s : State) (c : Ctr) (i n : Nat) : (s.count c i n).links = s.links := rfl
@[simp] theorem count_furrows (s : State) (c : Ctr) (i n : Nat) : (s.count c i n).furrows = s.furrows := rfl
@[simp] theorem count_conns (s : State) (c : Ctr) (i n : Nat) : (s.count c i n).conns = s.conns := rfl
@[simp] theorem count_reasm (s : State) (c : Ctr) (i n : Nat) : (s.count c i n).reasm = s.reasm := rfl
@[simp] theorem count_slots (s : State) (c : Ctr) (i n : Nat) : (s.count c i n).slots = s.slots := rfl
@[simp] theorem count_ctxs (s : State) (c : Ctr) (i n : Nat) : (s.count c i n).ctxs = s.ctxs := rfl
@[simp] theorem count_turn (s : State) (c : Ctr) (i n : Nat) : (s.count c i n).turn = s.turn := rfl
@[simp] theorem count_origins (s : State) (c : Ctr) (i n : Nat) : (s.count c i n).origins = s.origins := rfl
@[simp] theorem count_nextEntry (s : State) (c : Ctr) (i n : Nat) : (s.count c i n).nextEntry = s.nextEntry := rfl
@[simp] theorem count_nextAdmit (s : State) (c : Ctr) (i n : Nat) : (s.count c i n).nextAdmit = s.nextAdmit := rfl
@[simp] theorem count_held (s : State) (c : Ctr) (i n : Nat) : (s.count c i n).held = s.held := rfl
@[simp] theorem count_sentMarkers (s : State) (c : Ctr) (i n : Nat) : (s.count c i n).sentMarkers = s.sentMarkers := rfl
@[simp] theorem count_dests (s : State) (c : Ctr) (i n : Nat) : (s.count c i n).dests = s.dests := rfl
@[simp] theorem count_own (s : State) (c : Ctr) (i n : Nat) : (s.count c i n).own = s.own := rfl
@[simp] theorem count_unsent (s : State) (c : Ctr) (i n : Nat) : (s.count c i n).unsent = s.unsent := rfl
@[simp] theorem count_img (s : State) (c : Ctr) (i n : Nat) : (s.count c i n).img = s.img := rfl
@[simp] theorem count_attn (s : State) (c : Ctr) (i n : Nat) : (s.count c i n).attn = s.attn := rfl
@[simp] theorem count_sluice (s : State) (c : Ctr) (i n : Nat) : (s.count c i n).sluice = s.sluice := rfl
@[simp] theorem count_host (s : State) (c : Ctr) (i n : Nat) : (s.count c i n).host = s.host := rfl
@[simp] theorem count_mint (s : State) (c : Ctr) (i n : Nat) : (s.count c i n).mint = s.mint := rfl
@[simp] theorem count_rel (s : State) (c : Ctr) (i n : Nat) : (s.count c i n).rel = s.rel := rfl
@[simp] theorem count_firm (s : State) (c : Ctr) (i n : Nat) : (s.count c i n).firm = s.firm := rfl
@[simp] theorem count_power (s : State) (c : Ctr) (i n : Nat) : (s.count c i n).power = s.power := rfl

/-! clearCtr writes ctrs alone. -/

@[simp] theorem clearCtr_variant (s : State) (c : Ctr) (i : Nat) : (s.clearCtr c i).variant = s.variant := rfl
@[simp] theorem clearCtr_regs (s : State) (c : Ctr) (i : Nat) : (s.clearCtr c i).regs = s.regs := rfl
@[simp] theorem clearCtr_hubUnits (s : State) (c : Ctr) (i : Nat) : (s.clearCtr c i).hubUnits = s.hubUnits := rfl
@[simp] theorem clearCtr_mgmtMs (s : State) (c : Ctr) (i : Nat) : (s.clearCtr c i).mgmtMs = s.mgmtMs := rfl
@[simp] theorem clearCtr_fresh (s : State) (c : Ctr) (i : Nat) : (s.clearCtr c i).fresh = s.fresh := rfl
@[simp] theorem clearCtr_out (s : State) (c : Ctr) (i : Nat) : (s.clearCtr c i).out = s.out := rfl
@[simp] theorem clearCtr_pending (s : State) (c : Ctr) (i : Nat) : (s.clearCtr c i).pending = s.pending := rfl
@[simp] theorem clearCtr_undef (s : State) (c : Ctr) (i : Nat) : (s.clearCtr c i).undef = s.undef := rfl
@[simp] theorem clearCtr_store (s : State) (c : Ctr) (i : Nat) : (s.clearCtr c i).store = s.store := rfl
@[simp] theorem clearCtr_cam (s : State) (c : Ctr) (i : Nat) : (s.clearCtr c i).cam = s.cam := rfl
@[simp] theorem clearCtr_links (s : State) (c : Ctr) (i : Nat) : (s.clearCtr c i).links = s.links := rfl
@[simp] theorem clearCtr_furrows (s : State) (c : Ctr) (i : Nat) : (s.clearCtr c i).furrows = s.furrows := rfl
@[simp] theorem clearCtr_conns (s : State) (c : Ctr) (i : Nat) : (s.clearCtr c i).conns = s.conns := rfl
@[simp] theorem clearCtr_reasm (s : State) (c : Ctr) (i : Nat) : (s.clearCtr c i).reasm = s.reasm := rfl
@[simp] theorem clearCtr_slots (s : State) (c : Ctr) (i : Nat) : (s.clearCtr c i).slots = s.slots := rfl
@[simp] theorem clearCtr_ctxs (s : State) (c : Ctr) (i : Nat) : (s.clearCtr c i).ctxs = s.ctxs := rfl
@[simp] theorem clearCtr_turn (s : State) (c : Ctr) (i : Nat) : (s.clearCtr c i).turn = s.turn := rfl
@[simp] theorem clearCtr_origins (s : State) (c : Ctr) (i : Nat) : (s.clearCtr c i).origins = s.origins := rfl
@[simp] theorem clearCtr_nextEntry (s : State) (c : Ctr) (i : Nat) : (s.clearCtr c i).nextEntry = s.nextEntry := rfl
@[simp] theorem clearCtr_nextAdmit (s : State) (c : Ctr) (i : Nat) : (s.clearCtr c i).nextAdmit = s.nextAdmit := rfl
@[simp] theorem clearCtr_held (s : State) (c : Ctr) (i : Nat) : (s.clearCtr c i).held = s.held := rfl
@[simp] theorem clearCtr_sentMarkers (s : State) (c : Ctr) (i : Nat) : (s.clearCtr c i).sentMarkers = s.sentMarkers := rfl
@[simp] theorem clearCtr_dests (s : State) (c : Ctr) (i : Nat) : (s.clearCtr c i).dests = s.dests := rfl
@[simp] theorem clearCtr_own (s : State) (c : Ctr) (i : Nat) : (s.clearCtr c i).own = s.own := rfl
@[simp] theorem clearCtr_unsent (s : State) (c : Ctr) (i : Nat) : (s.clearCtr c i).unsent = s.unsent := rfl
@[simp] theorem clearCtr_img (s : State) (c : Ctr) (i : Nat) : (s.clearCtr c i).img = s.img := rfl
@[simp] theorem clearCtr_attn (s : State) (c : Ctr) (i : Nat) : (s.clearCtr c i).attn = s.attn := rfl
@[simp] theorem clearCtr_sluice (s : State) (c : Ctr) (i : Nat) : (s.clearCtr c i).sluice = s.sluice := rfl
@[simp] theorem clearCtr_host (s : State) (c : Ctr) (i : Nat) : (s.clearCtr c i).host = s.host := rfl
@[simp] theorem clearCtr_mint (s : State) (c : Ctr) (i : Nat) : (s.clearCtr c i).mint = s.mint := rfl
@[simp] theorem clearCtr_rel (s : State) (c : Ctr) (i : Nat) : (s.clearCtr c i).rel = s.rel := rfl
@[simp] theorem clearCtr_firm (s : State) (c : Ctr) (i : Nat) : (s.clearCtr c i).firm = s.firm := rfl
@[simp] theorem clearCtr_power (s : State) (c : Ctr) (i : Nat) : (s.clearCtr c i).power = s.power := rfl

/-! setCtx writes ctxs alone. -/

@[simp] theorem setCtx_variant (s : State) (c : Nat) (x : CtxGate) : (s.setCtx c x).variant = s.variant := rfl
@[simp] theorem setCtx_regs (s : State) (c : Nat) (x : CtxGate) : (s.setCtx c x).regs = s.regs := rfl
@[simp] theorem setCtx_ctrs (s : State) (c : Nat) (x : CtxGate) : (s.setCtx c x).ctrs = s.ctrs := rfl
@[simp] theorem setCtx_hubUnits (s : State) (c : Nat) (x : CtxGate) : (s.setCtx c x).hubUnits = s.hubUnits := rfl
@[simp] theorem setCtx_mgmtMs (s : State) (c : Nat) (x : CtxGate) : (s.setCtx c x).mgmtMs = s.mgmtMs := rfl
@[simp] theorem setCtx_fresh (s : State) (c : Nat) (x : CtxGate) : (s.setCtx c x).fresh = s.fresh := rfl
@[simp] theorem setCtx_out (s : State) (c : Nat) (x : CtxGate) : (s.setCtx c x).out = s.out := rfl
@[simp] theorem setCtx_pending (s : State) (c : Nat) (x : CtxGate) : (s.setCtx c x).pending = s.pending := rfl
@[simp] theorem setCtx_undef (s : State) (c : Nat) (x : CtxGate) : (s.setCtx c x).undef = s.undef := rfl
@[simp] theorem setCtx_store (s : State) (c : Nat) (x : CtxGate) : (s.setCtx c x).store = s.store := rfl
@[simp] theorem setCtx_cam (s : State) (c : Nat) (x : CtxGate) : (s.setCtx c x).cam = s.cam := rfl
@[simp] theorem setCtx_links (s : State) (c : Nat) (x : CtxGate) : (s.setCtx c x).links = s.links := rfl
@[simp] theorem setCtx_furrows (s : State) (c : Nat) (x : CtxGate) : (s.setCtx c x).furrows = s.furrows := rfl
@[simp] theorem setCtx_conns (s : State) (c : Nat) (x : CtxGate) : (s.setCtx c x).conns = s.conns := rfl
@[simp] theorem setCtx_reasm (s : State) (c : Nat) (x : CtxGate) : (s.setCtx c x).reasm = s.reasm := rfl
@[simp] theorem setCtx_slots (s : State) (c : Nat) (x : CtxGate) : (s.setCtx c x).slots = s.slots := rfl
@[simp] theorem setCtx_turn (s : State) (c : Nat) (x : CtxGate) : (s.setCtx c x).turn = s.turn := rfl
@[simp] theorem setCtx_origins (s : State) (c : Nat) (x : CtxGate) : (s.setCtx c x).origins = s.origins := rfl
@[simp] theorem setCtx_nextEntry (s : State) (c : Nat) (x : CtxGate) : (s.setCtx c x).nextEntry = s.nextEntry := rfl
@[simp] theorem setCtx_nextAdmit (s : State) (c : Nat) (x : CtxGate) : (s.setCtx c x).nextAdmit = s.nextAdmit := rfl
@[simp] theorem setCtx_held (s : State) (c : Nat) (x : CtxGate) : (s.setCtx c x).held = s.held := rfl
@[simp] theorem setCtx_sentMarkers (s : State) (c : Nat) (x : CtxGate) : (s.setCtx c x).sentMarkers = s.sentMarkers := rfl
@[simp] theorem setCtx_dests (s : State) (c : Nat) (x : CtxGate) : (s.setCtx c x).dests = s.dests := rfl
@[simp] theorem setCtx_own (s : State) (c : Nat) (x : CtxGate) : (s.setCtx c x).own = s.own := rfl
@[simp] theorem setCtx_unsent (s : State) (c : Nat) (x : CtxGate) : (s.setCtx c x).unsent = s.unsent := rfl
@[simp] theorem setCtx_img (s : State) (c : Nat) (x : CtxGate) : (s.setCtx c x).img = s.img := rfl
@[simp] theorem setCtx_attn (s : State) (c : Nat) (x : CtxGate) : (s.setCtx c x).attn = s.attn := rfl
@[simp] theorem setCtx_sluice (s : State) (c : Nat) (x : CtxGate) : (s.setCtx c x).sluice = s.sluice := rfl
@[simp] theorem setCtx_host (s : State) (c : Nat) (x : CtxGate) : (s.setCtx c x).host = s.host := rfl
@[simp] theorem setCtx_mint (s : State) (c : Nat) (x : CtxGate) : (s.setCtx c x).mint = s.mint := rfl
@[simp] theorem setCtx_rel (s : State) (c : Nat) (x : CtxGate) : (s.setCtx c x).rel = s.rel := rfl
@[simp] theorem setCtx_firm (s : State) (c : Nat) (x : CtxGate) : (s.setCtx c x).firm = s.firm := rfl
@[simp] theorem setCtx_power (s : State) (c : Nat) (x : CtxGate) : (s.setCtx c x).power = s.power := rfl

/-! updCtx writes ctxs alone. -/

@[simp] theorem updCtx_variant (s : State) (c : Nat) (g : CtxGate → CtxGate) : (s.updCtx c g).variant = s.variant := rfl
@[simp] theorem updCtx_regs (s : State) (c : Nat) (g : CtxGate → CtxGate) : (s.updCtx c g).regs = s.regs := rfl
@[simp] theorem updCtx_ctrs (s : State) (c : Nat) (g : CtxGate → CtxGate) : (s.updCtx c g).ctrs = s.ctrs := rfl
@[simp] theorem updCtx_hubUnits (s : State) (c : Nat) (g : CtxGate → CtxGate) : (s.updCtx c g).hubUnits = s.hubUnits := rfl
@[simp] theorem updCtx_mgmtMs (s : State) (c : Nat) (g : CtxGate → CtxGate) : (s.updCtx c g).mgmtMs = s.mgmtMs := rfl
@[simp] theorem updCtx_fresh (s : State) (c : Nat) (g : CtxGate → CtxGate) : (s.updCtx c g).fresh = s.fresh := rfl
@[simp] theorem updCtx_out (s : State) (c : Nat) (g : CtxGate → CtxGate) : (s.updCtx c g).out = s.out := rfl
@[simp] theorem updCtx_pending (s : State) (c : Nat) (g : CtxGate → CtxGate) : (s.updCtx c g).pending = s.pending := rfl
@[simp] theorem updCtx_undef (s : State) (c : Nat) (g : CtxGate → CtxGate) : (s.updCtx c g).undef = s.undef := rfl
@[simp] theorem updCtx_store (s : State) (c : Nat) (g : CtxGate → CtxGate) : (s.updCtx c g).store = s.store := rfl
@[simp] theorem updCtx_cam (s : State) (c : Nat) (g : CtxGate → CtxGate) : (s.updCtx c g).cam = s.cam := rfl
@[simp] theorem updCtx_links (s : State) (c : Nat) (g : CtxGate → CtxGate) : (s.updCtx c g).links = s.links := rfl
@[simp] theorem updCtx_furrows (s : State) (c : Nat) (g : CtxGate → CtxGate) : (s.updCtx c g).furrows = s.furrows := rfl
@[simp] theorem updCtx_conns (s : State) (c : Nat) (g : CtxGate → CtxGate) : (s.updCtx c g).conns = s.conns := rfl
@[simp] theorem updCtx_reasm (s : State) (c : Nat) (g : CtxGate → CtxGate) : (s.updCtx c g).reasm = s.reasm := rfl
@[simp] theorem updCtx_slots (s : State) (c : Nat) (g : CtxGate → CtxGate) : (s.updCtx c g).slots = s.slots := rfl
@[simp] theorem updCtx_turn (s : State) (c : Nat) (g : CtxGate → CtxGate) : (s.updCtx c g).turn = s.turn := rfl
@[simp] theorem updCtx_origins (s : State) (c : Nat) (g : CtxGate → CtxGate) : (s.updCtx c g).origins = s.origins := rfl
@[simp] theorem updCtx_nextEntry (s : State) (c : Nat) (g : CtxGate → CtxGate) : (s.updCtx c g).nextEntry = s.nextEntry := rfl
@[simp] theorem updCtx_nextAdmit (s : State) (c : Nat) (g : CtxGate → CtxGate) : (s.updCtx c g).nextAdmit = s.nextAdmit := rfl
@[simp] theorem updCtx_held (s : State) (c : Nat) (g : CtxGate → CtxGate) : (s.updCtx c g).held = s.held := rfl
@[simp] theorem updCtx_sentMarkers (s : State) (c : Nat) (g : CtxGate → CtxGate) : (s.updCtx c g).sentMarkers = s.sentMarkers := rfl
@[simp] theorem updCtx_dests (s : State) (c : Nat) (g : CtxGate → CtxGate) : (s.updCtx c g).dests = s.dests := rfl
@[simp] theorem updCtx_own (s : State) (c : Nat) (g : CtxGate → CtxGate) : (s.updCtx c g).own = s.own := rfl
@[simp] theorem updCtx_unsent (s : State) (c : Nat) (g : CtxGate → CtxGate) : (s.updCtx c g).unsent = s.unsent := rfl
@[simp] theorem updCtx_img (s : State) (c : Nat) (g : CtxGate → CtxGate) : (s.updCtx c g).img = s.img := rfl
@[simp] theorem updCtx_attn (s : State) (c : Nat) (g : CtxGate → CtxGate) : (s.updCtx c g).attn = s.attn := rfl
@[simp] theorem updCtx_sluice (s : State) (c : Nat) (g : CtxGate → CtxGate) : (s.updCtx c g).sluice = s.sluice := rfl
@[simp] theorem updCtx_host (s : State) (c : Nat) (g : CtxGate → CtxGate) : (s.updCtx c g).host = s.host := rfl
@[simp] theorem updCtx_mint (s : State) (c : Nat) (g : CtxGate → CtxGate) : (s.updCtx c g).mint = s.mint := rfl
@[simp] theorem updCtx_rel (s : State) (c : Nat) (g : CtxGate → CtxGate) : (s.updCtx c g).rel = s.rel := rfl
@[simp] theorem updCtx_firm (s : State) (c : Nat) (g : CtxGate → CtxGate) : (s.updCtx c g).firm = s.firm := rfl
@[simp] theorem updCtx_power (s : State) (c : Nat) (g : CtxGate → CtxGate) : (s.updCtx c g).power = s.power := rfl

/-! setSlot writes slots alone. -/

@[simp] theorem setSlot_variant (s : State) (n : Nat) (x : Slot) : (s.setSlot n x).variant = s.variant := rfl
@[simp] theorem setSlot_regs (s : State) (n : Nat) (x : Slot) : (s.setSlot n x).regs = s.regs := rfl
@[simp] theorem setSlot_ctrs (s : State) (n : Nat) (x : Slot) : (s.setSlot n x).ctrs = s.ctrs := rfl
@[simp] theorem setSlot_hubUnits (s : State) (n : Nat) (x : Slot) : (s.setSlot n x).hubUnits = s.hubUnits := rfl
@[simp] theorem setSlot_mgmtMs (s : State) (n : Nat) (x : Slot) : (s.setSlot n x).mgmtMs = s.mgmtMs := rfl
@[simp] theorem setSlot_fresh (s : State) (n : Nat) (x : Slot) : (s.setSlot n x).fresh = s.fresh := rfl
@[simp] theorem setSlot_out (s : State) (n : Nat) (x : Slot) : (s.setSlot n x).out = s.out := rfl
@[simp] theorem setSlot_pending (s : State) (n : Nat) (x : Slot) : (s.setSlot n x).pending = s.pending := rfl
@[simp] theorem setSlot_undef (s : State) (n : Nat) (x : Slot) : (s.setSlot n x).undef = s.undef := rfl
@[simp] theorem setSlot_store (s : State) (n : Nat) (x : Slot) : (s.setSlot n x).store = s.store := rfl
@[simp] theorem setSlot_cam (s : State) (n : Nat) (x : Slot) : (s.setSlot n x).cam = s.cam := rfl
@[simp] theorem setSlot_links (s : State) (n : Nat) (x : Slot) : (s.setSlot n x).links = s.links := rfl
@[simp] theorem setSlot_furrows (s : State) (n : Nat) (x : Slot) : (s.setSlot n x).furrows = s.furrows := rfl
@[simp] theorem setSlot_conns (s : State) (n : Nat) (x : Slot) : (s.setSlot n x).conns = s.conns := rfl
@[simp] theorem setSlot_reasm (s : State) (n : Nat) (x : Slot) : (s.setSlot n x).reasm = s.reasm := rfl
@[simp] theorem setSlot_ctxs (s : State) (n : Nat) (x : Slot) : (s.setSlot n x).ctxs = s.ctxs := rfl
@[simp] theorem setSlot_turn (s : State) (n : Nat) (x : Slot) : (s.setSlot n x).turn = s.turn := rfl
@[simp] theorem setSlot_origins (s : State) (n : Nat) (x : Slot) : (s.setSlot n x).origins = s.origins := rfl
@[simp] theorem setSlot_nextEntry (s : State) (n : Nat) (x : Slot) : (s.setSlot n x).nextEntry = s.nextEntry := rfl
@[simp] theorem setSlot_nextAdmit (s : State) (n : Nat) (x : Slot) : (s.setSlot n x).nextAdmit = s.nextAdmit := rfl
@[simp] theorem setSlot_held (s : State) (n : Nat) (x : Slot) : (s.setSlot n x).held = s.held := rfl
@[simp] theorem setSlot_sentMarkers (s : State) (n : Nat) (x : Slot) : (s.setSlot n x).sentMarkers = s.sentMarkers := rfl
@[simp] theorem setSlot_dests (s : State) (n : Nat) (x : Slot) : (s.setSlot n x).dests = s.dests := rfl
@[simp] theorem setSlot_own (s : State) (n : Nat) (x : Slot) : (s.setSlot n x).own = s.own := rfl
@[simp] theorem setSlot_unsent (s : State) (n : Nat) (x : Slot) : (s.setSlot n x).unsent = s.unsent := rfl
@[simp] theorem setSlot_img (s : State) (n : Nat) (x : Slot) : (s.setSlot n x).img = s.img := rfl
@[simp] theorem setSlot_attn (s : State) (n : Nat) (x : Slot) : (s.setSlot n x).attn = s.attn := rfl
@[simp] theorem setSlot_sluice (s : State) (n : Nat) (x : Slot) : (s.setSlot n x).sluice = s.sluice := rfl
@[simp] theorem setSlot_host (s : State) (n : Nat) (x : Slot) : (s.setSlot n x).host = s.host := rfl
@[simp] theorem setSlot_mint (s : State) (n : Nat) (x : Slot) : (s.setSlot n x).mint = s.mint := rfl
@[simp] theorem setSlot_rel (s : State) (n : Nat) (x : Slot) : (s.setSlot n x).rel = s.rel := rfl
@[simp] theorem setSlot_firm (s : State) (n : Nat) (x : Slot) : (s.setSlot n x).firm = s.firm := rfl
@[simp] theorem setSlot_power (s : State) (n : Nat) (x : Slot) : (s.setSlot n x).power = s.power := rfl

/-! updSlot writes slots alone. -/

@[simp] theorem updSlot_variant (s : State) (n : Nat) (g : Slot → Slot) : (s.updSlot n g).variant = s.variant := rfl
@[simp] theorem updSlot_regs (s : State) (n : Nat) (g : Slot → Slot) : (s.updSlot n g).regs = s.regs := rfl
@[simp] theorem updSlot_ctrs (s : State) (n : Nat) (g : Slot → Slot) : (s.updSlot n g).ctrs = s.ctrs := rfl
@[simp] theorem updSlot_hubUnits (s : State) (n : Nat) (g : Slot → Slot) : (s.updSlot n g).hubUnits = s.hubUnits := rfl
@[simp] theorem updSlot_mgmtMs (s : State) (n : Nat) (g : Slot → Slot) : (s.updSlot n g).mgmtMs = s.mgmtMs := rfl
@[simp] theorem updSlot_fresh (s : State) (n : Nat) (g : Slot → Slot) : (s.updSlot n g).fresh = s.fresh := rfl
@[simp] theorem updSlot_out (s : State) (n : Nat) (g : Slot → Slot) : (s.updSlot n g).out = s.out := rfl
@[simp] theorem updSlot_pending (s : State) (n : Nat) (g : Slot → Slot) : (s.updSlot n g).pending = s.pending := rfl
@[simp] theorem updSlot_undef (s : State) (n : Nat) (g : Slot → Slot) : (s.updSlot n g).undef = s.undef := rfl
@[simp] theorem updSlot_store (s : State) (n : Nat) (g : Slot → Slot) : (s.updSlot n g).store = s.store := rfl
@[simp] theorem updSlot_cam (s : State) (n : Nat) (g : Slot → Slot) : (s.updSlot n g).cam = s.cam := rfl
@[simp] theorem updSlot_links (s : State) (n : Nat) (g : Slot → Slot) : (s.updSlot n g).links = s.links := rfl
@[simp] theorem updSlot_furrows (s : State) (n : Nat) (g : Slot → Slot) : (s.updSlot n g).furrows = s.furrows := rfl
@[simp] theorem updSlot_conns (s : State) (n : Nat) (g : Slot → Slot) : (s.updSlot n g).conns = s.conns := rfl
@[simp] theorem updSlot_reasm (s : State) (n : Nat) (g : Slot → Slot) : (s.updSlot n g).reasm = s.reasm := rfl
@[simp] theorem updSlot_ctxs (s : State) (n : Nat) (g : Slot → Slot) : (s.updSlot n g).ctxs = s.ctxs := rfl
@[simp] theorem updSlot_turn (s : State) (n : Nat) (g : Slot → Slot) : (s.updSlot n g).turn = s.turn := rfl
@[simp] theorem updSlot_origins (s : State) (n : Nat) (g : Slot → Slot) : (s.updSlot n g).origins = s.origins := rfl
@[simp] theorem updSlot_nextEntry (s : State) (n : Nat) (g : Slot → Slot) : (s.updSlot n g).nextEntry = s.nextEntry := rfl
@[simp] theorem updSlot_nextAdmit (s : State) (n : Nat) (g : Slot → Slot) : (s.updSlot n g).nextAdmit = s.nextAdmit := rfl
@[simp] theorem updSlot_held (s : State) (n : Nat) (g : Slot → Slot) : (s.updSlot n g).held = s.held := rfl
@[simp] theorem updSlot_sentMarkers (s : State) (n : Nat) (g : Slot → Slot) : (s.updSlot n g).sentMarkers = s.sentMarkers := rfl
@[simp] theorem updSlot_dests (s : State) (n : Nat) (g : Slot → Slot) : (s.updSlot n g).dests = s.dests := rfl
@[simp] theorem updSlot_own (s : State) (n : Nat) (g : Slot → Slot) : (s.updSlot n g).own = s.own := rfl
@[simp] theorem updSlot_unsent (s : State) (n : Nat) (g : Slot → Slot) : (s.updSlot n g).unsent = s.unsent := rfl
@[simp] theorem updSlot_img (s : State) (n : Nat) (g : Slot → Slot) : (s.updSlot n g).img = s.img := rfl
@[simp] theorem updSlot_attn (s : State) (n : Nat) (g : Slot → Slot) : (s.updSlot n g).attn = s.attn := rfl
@[simp] theorem updSlot_sluice (s : State) (n : Nat) (g : Slot → Slot) : (s.updSlot n g).sluice = s.sluice := rfl
@[simp] theorem updSlot_host (s : State) (n : Nat) (g : Slot → Slot) : (s.updSlot n g).host = s.host := rfl
@[simp] theorem updSlot_mint (s : State) (n : Nat) (g : Slot → Slot) : (s.updSlot n g).mint = s.mint := rfl
@[simp] theorem updSlot_rel (s : State) (n : Nat) (g : Slot → Slot) : (s.updSlot n g).rel = s.rel := rfl
@[simp] theorem updSlot_firm (s : State) (n : Nat) (g : Slot → Slot) : (s.updSlot n g).firm = s.firm := rfl
@[simp] theorem updSlot_power (s : State) (n : Nat) (g : Slot → Slot) : (s.updSlot n g).power = s.power := rfl

/-! setLink writes links alone. -/

@[simp] theorem setLink_variant (s : State) (l : Nat) (x : Link) : (s.setLink l x).variant = s.variant := rfl
@[simp] theorem setLink_regs (s : State) (l : Nat) (x : Link) : (s.setLink l x).regs = s.regs := rfl
@[simp] theorem setLink_ctrs (s : State) (l : Nat) (x : Link) : (s.setLink l x).ctrs = s.ctrs := rfl
@[simp] theorem setLink_hubUnits (s : State) (l : Nat) (x : Link) : (s.setLink l x).hubUnits = s.hubUnits := rfl
@[simp] theorem setLink_mgmtMs (s : State) (l : Nat) (x : Link) : (s.setLink l x).mgmtMs = s.mgmtMs := rfl
@[simp] theorem setLink_fresh (s : State) (l : Nat) (x : Link) : (s.setLink l x).fresh = s.fresh := rfl
@[simp] theorem setLink_out (s : State) (l : Nat) (x : Link) : (s.setLink l x).out = s.out := rfl
@[simp] theorem setLink_pending (s : State) (l : Nat) (x : Link) : (s.setLink l x).pending = s.pending := rfl
@[simp] theorem setLink_undef (s : State) (l : Nat) (x : Link) : (s.setLink l x).undef = s.undef := rfl
@[simp] theorem setLink_store (s : State) (l : Nat) (x : Link) : (s.setLink l x).store = s.store := rfl
@[simp] theorem setLink_cam (s : State) (l : Nat) (x : Link) : (s.setLink l x).cam = s.cam := rfl
@[simp] theorem setLink_furrows (s : State) (l : Nat) (x : Link) : (s.setLink l x).furrows = s.furrows := rfl
@[simp] theorem setLink_conns (s : State) (l : Nat) (x : Link) : (s.setLink l x).conns = s.conns := rfl
@[simp] theorem setLink_reasm (s : State) (l : Nat) (x : Link) : (s.setLink l x).reasm = s.reasm := rfl
@[simp] theorem setLink_slots (s : State) (l : Nat) (x : Link) : (s.setLink l x).slots = s.slots := rfl
@[simp] theorem setLink_ctxs (s : State) (l : Nat) (x : Link) : (s.setLink l x).ctxs = s.ctxs := rfl
@[simp] theorem setLink_turn (s : State) (l : Nat) (x : Link) : (s.setLink l x).turn = s.turn := rfl
@[simp] theorem setLink_origins (s : State) (l : Nat) (x : Link) : (s.setLink l x).origins = s.origins := rfl
@[simp] theorem setLink_nextEntry (s : State) (l : Nat) (x : Link) : (s.setLink l x).nextEntry = s.nextEntry := rfl
@[simp] theorem setLink_nextAdmit (s : State) (l : Nat) (x : Link) : (s.setLink l x).nextAdmit = s.nextAdmit := rfl
@[simp] theorem setLink_held (s : State) (l : Nat) (x : Link) : (s.setLink l x).held = s.held := rfl
@[simp] theorem setLink_sentMarkers (s : State) (l : Nat) (x : Link) : (s.setLink l x).sentMarkers = s.sentMarkers := rfl
@[simp] theorem setLink_dests (s : State) (l : Nat) (x : Link) : (s.setLink l x).dests = s.dests := rfl
@[simp] theorem setLink_own (s : State) (l : Nat) (x : Link) : (s.setLink l x).own = s.own := rfl
@[simp] theorem setLink_unsent (s : State) (l : Nat) (x : Link) : (s.setLink l x).unsent = s.unsent := rfl
@[simp] theorem setLink_img (s : State) (l : Nat) (x : Link) : (s.setLink l x).img = s.img := rfl
@[simp] theorem setLink_attn (s : State) (l : Nat) (x : Link) : (s.setLink l x).attn = s.attn := rfl
@[simp] theorem setLink_sluice (s : State) (l : Nat) (x : Link) : (s.setLink l x).sluice = s.sluice := rfl
@[simp] theorem setLink_host (s : State) (l : Nat) (x : Link) : (s.setLink l x).host = s.host := rfl
@[simp] theorem setLink_mint (s : State) (l : Nat) (x : Link) : (s.setLink l x).mint = s.mint := rfl
@[simp] theorem setLink_rel (s : State) (l : Nat) (x : Link) : (s.setLink l x).rel = s.rel := rfl
@[simp] theorem setLink_firm (s : State) (l : Nat) (x : Link) : (s.setLink l x).firm = s.firm := rfl
@[simp] theorem setLink_power (s : State) (l : Nat) (x : Link) : (s.setLink l x).power = s.power := rfl

/-! updLink writes links alone. -/

@[simp] theorem updLink_variant (s : State) (l : Nat) (g : Link → Link) : (s.updLink l g).variant = s.variant := rfl
@[simp] theorem updLink_regs (s : State) (l : Nat) (g : Link → Link) : (s.updLink l g).regs = s.regs := rfl
@[simp] theorem updLink_ctrs (s : State) (l : Nat) (g : Link → Link) : (s.updLink l g).ctrs = s.ctrs := rfl
@[simp] theorem updLink_hubUnits (s : State) (l : Nat) (g : Link → Link) : (s.updLink l g).hubUnits = s.hubUnits := rfl
@[simp] theorem updLink_mgmtMs (s : State) (l : Nat) (g : Link → Link) : (s.updLink l g).mgmtMs = s.mgmtMs := rfl
@[simp] theorem updLink_fresh (s : State) (l : Nat) (g : Link → Link) : (s.updLink l g).fresh = s.fresh := rfl
@[simp] theorem updLink_out (s : State) (l : Nat) (g : Link → Link) : (s.updLink l g).out = s.out := rfl
@[simp] theorem updLink_pending (s : State) (l : Nat) (g : Link → Link) : (s.updLink l g).pending = s.pending := rfl
@[simp] theorem updLink_undef (s : State) (l : Nat) (g : Link → Link) : (s.updLink l g).undef = s.undef := rfl
@[simp] theorem updLink_store (s : State) (l : Nat) (g : Link → Link) : (s.updLink l g).store = s.store := rfl
@[simp] theorem updLink_cam (s : State) (l : Nat) (g : Link → Link) : (s.updLink l g).cam = s.cam := rfl
@[simp] theorem updLink_furrows (s : State) (l : Nat) (g : Link → Link) : (s.updLink l g).furrows = s.furrows := rfl
@[simp] theorem updLink_conns (s : State) (l : Nat) (g : Link → Link) : (s.updLink l g).conns = s.conns := rfl
@[simp] theorem updLink_reasm (s : State) (l : Nat) (g : Link → Link) : (s.updLink l g).reasm = s.reasm := rfl
@[simp] theorem updLink_slots (s : State) (l : Nat) (g : Link → Link) : (s.updLink l g).slots = s.slots := rfl
@[simp] theorem updLink_ctxs (s : State) (l : Nat) (g : Link → Link) : (s.updLink l g).ctxs = s.ctxs := rfl
@[simp] theorem updLink_turn (s : State) (l : Nat) (g : Link → Link) : (s.updLink l g).turn = s.turn := rfl
@[simp] theorem updLink_origins (s : State) (l : Nat) (g : Link → Link) : (s.updLink l g).origins = s.origins := rfl
@[simp] theorem updLink_nextEntry (s : State) (l : Nat) (g : Link → Link) : (s.updLink l g).nextEntry = s.nextEntry := rfl
@[simp] theorem updLink_nextAdmit (s : State) (l : Nat) (g : Link → Link) : (s.updLink l g).nextAdmit = s.nextAdmit := rfl
@[simp] theorem updLink_held (s : State) (l : Nat) (g : Link → Link) : (s.updLink l g).held = s.held := rfl
@[simp] theorem updLink_sentMarkers (s : State) (l : Nat) (g : Link → Link) : (s.updLink l g).sentMarkers = s.sentMarkers := rfl
@[simp] theorem updLink_dests (s : State) (l : Nat) (g : Link → Link) : (s.updLink l g).dests = s.dests := rfl
@[simp] theorem updLink_own (s : State) (l : Nat) (g : Link → Link) : (s.updLink l g).own = s.own := rfl
@[simp] theorem updLink_unsent (s : State) (l : Nat) (g : Link → Link) : (s.updLink l g).unsent = s.unsent := rfl
@[simp] theorem updLink_img (s : State) (l : Nat) (g : Link → Link) : (s.updLink l g).img = s.img := rfl
@[simp] theorem updLink_attn (s : State) (l : Nat) (g : Link → Link) : (s.updLink l g).attn = s.attn := rfl
@[simp] theorem updLink_sluice (s : State) (l : Nat) (g : Link → Link) : (s.updLink l g).sluice = s.sluice := rfl
@[simp] theorem updLink_host (s : State) (l : Nat) (g : Link → Link) : (s.updLink l g).host = s.host := rfl
@[simp] theorem updLink_mint (s : State) (l : Nat) (g : Link → Link) : (s.updLink l g).mint = s.mint := rfl
@[simp] theorem updLink_rel (s : State) (l : Nat) (g : Link → Link) : (s.updLink l g).rel = s.rel := rfl
@[simp] theorem updLink_firm (s : State) (l : Nat) (g : Link → Link) : (s.updLink l g).firm = s.firm := rfl
@[simp] theorem updLink_power (s : State) (l : Nat) (g : Link → Link) : (s.updLink l g).power = s.power := rfl

/-! setFurrow writes furrows alone. -/

@[simp] theorem setFurrow_variant (s : State) (f : Nat) (x : Furrow) : (s.setFurrow f x).variant = s.variant := rfl
@[simp] theorem setFurrow_regs (s : State) (f : Nat) (x : Furrow) : (s.setFurrow f x).regs = s.regs := rfl
@[simp] theorem setFurrow_ctrs (s : State) (f : Nat) (x : Furrow) : (s.setFurrow f x).ctrs = s.ctrs := rfl
@[simp] theorem setFurrow_hubUnits (s : State) (f : Nat) (x : Furrow) : (s.setFurrow f x).hubUnits = s.hubUnits := rfl
@[simp] theorem setFurrow_mgmtMs (s : State) (f : Nat) (x : Furrow) : (s.setFurrow f x).mgmtMs = s.mgmtMs := rfl
@[simp] theorem setFurrow_fresh (s : State) (f : Nat) (x : Furrow) : (s.setFurrow f x).fresh = s.fresh := rfl
@[simp] theorem setFurrow_out (s : State) (f : Nat) (x : Furrow) : (s.setFurrow f x).out = s.out := rfl
@[simp] theorem setFurrow_pending (s : State) (f : Nat) (x : Furrow) : (s.setFurrow f x).pending = s.pending := rfl
@[simp] theorem setFurrow_undef (s : State) (f : Nat) (x : Furrow) : (s.setFurrow f x).undef = s.undef := rfl
@[simp] theorem setFurrow_store (s : State) (f : Nat) (x : Furrow) : (s.setFurrow f x).store = s.store := rfl
@[simp] theorem setFurrow_cam (s : State) (f : Nat) (x : Furrow) : (s.setFurrow f x).cam = s.cam := rfl
@[simp] theorem setFurrow_links (s : State) (f : Nat) (x : Furrow) : (s.setFurrow f x).links = s.links := rfl
@[simp] theorem setFurrow_conns (s : State) (f : Nat) (x : Furrow) : (s.setFurrow f x).conns = s.conns := rfl
@[simp] theorem setFurrow_reasm (s : State) (f : Nat) (x : Furrow) : (s.setFurrow f x).reasm = s.reasm := rfl
@[simp] theorem setFurrow_slots (s : State) (f : Nat) (x : Furrow) : (s.setFurrow f x).slots = s.slots := rfl
@[simp] theorem setFurrow_ctxs (s : State) (f : Nat) (x : Furrow) : (s.setFurrow f x).ctxs = s.ctxs := rfl
@[simp] theorem setFurrow_turn (s : State) (f : Nat) (x : Furrow) : (s.setFurrow f x).turn = s.turn := rfl
@[simp] theorem setFurrow_origins (s : State) (f : Nat) (x : Furrow) : (s.setFurrow f x).origins = s.origins := rfl
@[simp] theorem setFurrow_nextEntry (s : State) (f : Nat) (x : Furrow) : (s.setFurrow f x).nextEntry = s.nextEntry := rfl
@[simp] theorem setFurrow_nextAdmit (s : State) (f : Nat) (x : Furrow) : (s.setFurrow f x).nextAdmit = s.nextAdmit := rfl
@[simp] theorem setFurrow_held (s : State) (f : Nat) (x : Furrow) : (s.setFurrow f x).held = s.held := rfl
@[simp] theorem setFurrow_sentMarkers (s : State) (f : Nat) (x : Furrow) : (s.setFurrow f x).sentMarkers = s.sentMarkers := rfl
@[simp] theorem setFurrow_dests (s : State) (f : Nat) (x : Furrow) : (s.setFurrow f x).dests = s.dests := rfl
@[simp] theorem setFurrow_own (s : State) (f : Nat) (x : Furrow) : (s.setFurrow f x).own = s.own := rfl
@[simp] theorem setFurrow_unsent (s : State) (f : Nat) (x : Furrow) : (s.setFurrow f x).unsent = s.unsent := rfl
@[simp] theorem setFurrow_img (s : State) (f : Nat) (x : Furrow) : (s.setFurrow f x).img = s.img := rfl
@[simp] theorem setFurrow_attn (s : State) (f : Nat) (x : Furrow) : (s.setFurrow f x).attn = s.attn := rfl
@[simp] theorem setFurrow_sluice (s : State) (f : Nat) (x : Furrow) : (s.setFurrow f x).sluice = s.sluice := rfl
@[simp] theorem setFurrow_host (s : State) (f : Nat) (x : Furrow) : (s.setFurrow f x).host = s.host := rfl
@[simp] theorem setFurrow_mint (s : State) (f : Nat) (x : Furrow) : (s.setFurrow f x).mint = s.mint := rfl
@[simp] theorem setFurrow_rel (s : State) (f : Nat) (x : Furrow) : (s.setFurrow f x).rel = s.rel := rfl
@[simp] theorem setFurrow_firm (s : State) (f : Nat) (x : Furrow) : (s.setFurrow f x).firm = s.firm := rfl
@[simp] theorem setFurrow_power (s : State) (f : Nat) (x : Furrow) : (s.setFurrow f x).power = s.power := rfl

/-! updFurrow writes furrows alone. -/

@[simp] theorem updFurrow_variant (s : State) (f : Nat) (g : Furrow → Furrow) : (s.updFurrow f g).variant = s.variant := rfl
@[simp] theorem updFurrow_regs (s : State) (f : Nat) (g : Furrow → Furrow) : (s.updFurrow f g).regs = s.regs := rfl
@[simp] theorem updFurrow_ctrs (s : State) (f : Nat) (g : Furrow → Furrow) : (s.updFurrow f g).ctrs = s.ctrs := rfl
@[simp] theorem updFurrow_hubUnits (s : State) (f : Nat) (g : Furrow → Furrow) : (s.updFurrow f g).hubUnits = s.hubUnits := rfl
@[simp] theorem updFurrow_mgmtMs (s : State) (f : Nat) (g : Furrow → Furrow) : (s.updFurrow f g).mgmtMs = s.mgmtMs := rfl
@[simp] theorem updFurrow_fresh (s : State) (f : Nat) (g : Furrow → Furrow) : (s.updFurrow f g).fresh = s.fresh := rfl
@[simp] theorem updFurrow_out (s : State) (f : Nat) (g : Furrow → Furrow) : (s.updFurrow f g).out = s.out := rfl
@[simp] theorem updFurrow_pending (s : State) (f : Nat) (g : Furrow → Furrow) : (s.updFurrow f g).pending = s.pending := rfl
@[simp] theorem updFurrow_undef (s : State) (f : Nat) (g : Furrow → Furrow) : (s.updFurrow f g).undef = s.undef := rfl
@[simp] theorem updFurrow_store (s : State) (f : Nat) (g : Furrow → Furrow) : (s.updFurrow f g).store = s.store := rfl
@[simp] theorem updFurrow_cam (s : State) (f : Nat) (g : Furrow → Furrow) : (s.updFurrow f g).cam = s.cam := rfl
@[simp] theorem updFurrow_links (s : State) (f : Nat) (g : Furrow → Furrow) : (s.updFurrow f g).links = s.links := rfl
@[simp] theorem updFurrow_conns (s : State) (f : Nat) (g : Furrow → Furrow) : (s.updFurrow f g).conns = s.conns := rfl
@[simp] theorem updFurrow_reasm (s : State) (f : Nat) (g : Furrow → Furrow) : (s.updFurrow f g).reasm = s.reasm := rfl
@[simp] theorem updFurrow_slots (s : State) (f : Nat) (g : Furrow → Furrow) : (s.updFurrow f g).slots = s.slots := rfl
@[simp] theorem updFurrow_ctxs (s : State) (f : Nat) (g : Furrow → Furrow) : (s.updFurrow f g).ctxs = s.ctxs := rfl
@[simp] theorem updFurrow_turn (s : State) (f : Nat) (g : Furrow → Furrow) : (s.updFurrow f g).turn = s.turn := rfl
@[simp] theorem updFurrow_origins (s : State) (f : Nat) (g : Furrow → Furrow) : (s.updFurrow f g).origins = s.origins := rfl
@[simp] theorem updFurrow_nextEntry (s : State) (f : Nat) (g : Furrow → Furrow) : (s.updFurrow f g).nextEntry = s.nextEntry := rfl
@[simp] theorem updFurrow_nextAdmit (s : State) (f : Nat) (g : Furrow → Furrow) : (s.updFurrow f g).nextAdmit = s.nextAdmit := rfl
@[simp] theorem updFurrow_held (s : State) (f : Nat) (g : Furrow → Furrow) : (s.updFurrow f g).held = s.held := rfl
@[simp] theorem updFurrow_sentMarkers (s : State) (f : Nat) (g : Furrow → Furrow) : (s.updFurrow f g).sentMarkers = s.sentMarkers := rfl
@[simp] theorem updFurrow_dests (s : State) (f : Nat) (g : Furrow → Furrow) : (s.updFurrow f g).dests = s.dests := rfl
@[simp] theorem updFurrow_own (s : State) (f : Nat) (g : Furrow → Furrow) : (s.updFurrow f g).own = s.own := rfl
@[simp] theorem updFurrow_unsent (s : State) (f : Nat) (g : Furrow → Furrow) : (s.updFurrow f g).unsent = s.unsent := rfl
@[simp] theorem updFurrow_img (s : State) (f : Nat) (g : Furrow → Furrow) : (s.updFurrow f g).img = s.img := rfl
@[simp] theorem updFurrow_attn (s : State) (f : Nat) (g : Furrow → Furrow) : (s.updFurrow f g).attn = s.attn := rfl
@[simp] theorem updFurrow_sluice (s : State) (f : Nat) (g : Furrow → Furrow) : (s.updFurrow f g).sluice = s.sluice := rfl
@[simp] theorem updFurrow_host (s : State) (f : Nat) (g : Furrow → Furrow) : (s.updFurrow f g).host = s.host := rfl
@[simp] theorem updFurrow_mint (s : State) (f : Nat) (g : Furrow → Furrow) : (s.updFurrow f g).mint = s.mint := rfl
@[simp] theorem updFurrow_rel (s : State) (f : Nat) (g : Furrow → Furrow) : (s.updFurrow f g).rel = s.rel := rfl
@[simp] theorem updFurrow_firm (s : State) (f : Nat) (g : Furrow → Furrow) : (s.updFurrow f g).firm = s.firm := rfl
@[simp] theorem updFurrow_power (s : State) (f : Nat) (g : Furrow → Furrow) : (s.updFurrow f g).power = s.power := rfl

/-! setConn writes conns alone. -/

@[simp] theorem setConn_variant (s : State) (c : Nat) (x : Conn) : (s.setConn c x).variant = s.variant := rfl
@[simp] theorem setConn_regs (s : State) (c : Nat) (x : Conn) : (s.setConn c x).regs = s.regs := rfl
@[simp] theorem setConn_ctrs (s : State) (c : Nat) (x : Conn) : (s.setConn c x).ctrs = s.ctrs := rfl
@[simp] theorem setConn_hubUnits (s : State) (c : Nat) (x : Conn) : (s.setConn c x).hubUnits = s.hubUnits := rfl
@[simp] theorem setConn_mgmtMs (s : State) (c : Nat) (x : Conn) : (s.setConn c x).mgmtMs = s.mgmtMs := rfl
@[simp] theorem setConn_fresh (s : State) (c : Nat) (x : Conn) : (s.setConn c x).fresh = s.fresh := rfl
@[simp] theorem setConn_out (s : State) (c : Nat) (x : Conn) : (s.setConn c x).out = s.out := rfl
@[simp] theorem setConn_pending (s : State) (c : Nat) (x : Conn) : (s.setConn c x).pending = s.pending := rfl
@[simp] theorem setConn_undef (s : State) (c : Nat) (x : Conn) : (s.setConn c x).undef = s.undef := rfl
@[simp] theorem setConn_store (s : State) (c : Nat) (x : Conn) : (s.setConn c x).store = s.store := rfl
@[simp] theorem setConn_cam (s : State) (c : Nat) (x : Conn) : (s.setConn c x).cam = s.cam := rfl
@[simp] theorem setConn_links (s : State) (c : Nat) (x : Conn) : (s.setConn c x).links = s.links := rfl
@[simp] theorem setConn_furrows (s : State) (c : Nat) (x : Conn) : (s.setConn c x).furrows = s.furrows := rfl
@[simp] theorem setConn_reasm (s : State) (c : Nat) (x : Conn) : (s.setConn c x).reasm = s.reasm := rfl
@[simp] theorem setConn_slots (s : State) (c : Nat) (x : Conn) : (s.setConn c x).slots = s.slots := rfl
@[simp] theorem setConn_ctxs (s : State) (c : Nat) (x : Conn) : (s.setConn c x).ctxs = s.ctxs := rfl
@[simp] theorem setConn_turn (s : State) (c : Nat) (x : Conn) : (s.setConn c x).turn = s.turn := rfl
@[simp] theorem setConn_origins (s : State) (c : Nat) (x : Conn) : (s.setConn c x).origins = s.origins := rfl
@[simp] theorem setConn_nextEntry (s : State) (c : Nat) (x : Conn) : (s.setConn c x).nextEntry = s.nextEntry := rfl
@[simp] theorem setConn_nextAdmit (s : State) (c : Nat) (x : Conn) : (s.setConn c x).nextAdmit = s.nextAdmit := rfl
@[simp] theorem setConn_held (s : State) (c : Nat) (x : Conn) : (s.setConn c x).held = s.held := rfl
@[simp] theorem setConn_sentMarkers (s : State) (c : Nat) (x : Conn) : (s.setConn c x).sentMarkers = s.sentMarkers := rfl
@[simp] theorem setConn_dests (s : State) (c : Nat) (x : Conn) : (s.setConn c x).dests = s.dests := rfl
@[simp] theorem setConn_own (s : State) (c : Nat) (x : Conn) : (s.setConn c x).own = s.own := rfl
@[simp] theorem setConn_unsent (s : State) (c : Nat) (x : Conn) : (s.setConn c x).unsent = s.unsent := rfl
@[simp] theorem setConn_img (s : State) (c : Nat) (x : Conn) : (s.setConn c x).img = s.img := rfl
@[simp] theorem setConn_attn (s : State) (c : Nat) (x : Conn) : (s.setConn c x).attn = s.attn := rfl
@[simp] theorem setConn_sluice (s : State) (c : Nat) (x : Conn) : (s.setConn c x).sluice = s.sluice := rfl
@[simp] theorem setConn_host (s : State) (c : Nat) (x : Conn) : (s.setConn c x).host = s.host := rfl
@[simp] theorem setConn_mint (s : State) (c : Nat) (x : Conn) : (s.setConn c x).mint = s.mint := rfl
@[simp] theorem setConn_rel (s : State) (c : Nat) (x : Conn) : (s.setConn c x).rel = s.rel := rfl
@[simp] theorem setConn_firm (s : State) (c : Nat) (x : Conn) : (s.setConn c x).firm = s.firm := rfl
@[simp] theorem setConn_power (s : State) (c : Nat) (x : Conn) : (s.setConn c x).power = s.power := rfl

/-! updConn writes conns alone. -/

@[simp] theorem updConn_variant (s : State) (c : Nat) (g : Conn → Conn) : (s.updConn c g).variant = s.variant := rfl
@[simp] theorem updConn_regs (s : State) (c : Nat) (g : Conn → Conn) : (s.updConn c g).regs = s.regs := rfl
@[simp] theorem updConn_ctrs (s : State) (c : Nat) (g : Conn → Conn) : (s.updConn c g).ctrs = s.ctrs := rfl
@[simp] theorem updConn_hubUnits (s : State) (c : Nat) (g : Conn → Conn) : (s.updConn c g).hubUnits = s.hubUnits := rfl
@[simp] theorem updConn_mgmtMs (s : State) (c : Nat) (g : Conn → Conn) : (s.updConn c g).mgmtMs = s.mgmtMs := rfl
@[simp] theorem updConn_fresh (s : State) (c : Nat) (g : Conn → Conn) : (s.updConn c g).fresh = s.fresh := rfl
@[simp] theorem updConn_out (s : State) (c : Nat) (g : Conn → Conn) : (s.updConn c g).out = s.out := rfl
@[simp] theorem updConn_pending (s : State) (c : Nat) (g : Conn → Conn) : (s.updConn c g).pending = s.pending := rfl
@[simp] theorem updConn_undef (s : State) (c : Nat) (g : Conn → Conn) : (s.updConn c g).undef = s.undef := rfl
@[simp] theorem updConn_store (s : State) (c : Nat) (g : Conn → Conn) : (s.updConn c g).store = s.store := rfl
@[simp] theorem updConn_cam (s : State) (c : Nat) (g : Conn → Conn) : (s.updConn c g).cam = s.cam := rfl
@[simp] theorem updConn_links (s : State) (c : Nat) (g : Conn → Conn) : (s.updConn c g).links = s.links := rfl
@[simp] theorem updConn_furrows (s : State) (c : Nat) (g : Conn → Conn) : (s.updConn c g).furrows = s.furrows := rfl
@[simp] theorem updConn_reasm (s : State) (c : Nat) (g : Conn → Conn) : (s.updConn c g).reasm = s.reasm := rfl
@[simp] theorem updConn_slots (s : State) (c : Nat) (g : Conn → Conn) : (s.updConn c g).slots = s.slots := rfl
@[simp] theorem updConn_ctxs (s : State) (c : Nat) (g : Conn → Conn) : (s.updConn c g).ctxs = s.ctxs := rfl
@[simp] theorem updConn_turn (s : State) (c : Nat) (g : Conn → Conn) : (s.updConn c g).turn = s.turn := rfl
@[simp] theorem updConn_origins (s : State) (c : Nat) (g : Conn → Conn) : (s.updConn c g).origins = s.origins := rfl
@[simp] theorem updConn_nextEntry (s : State) (c : Nat) (g : Conn → Conn) : (s.updConn c g).nextEntry = s.nextEntry := rfl
@[simp] theorem updConn_nextAdmit (s : State) (c : Nat) (g : Conn → Conn) : (s.updConn c g).nextAdmit = s.nextAdmit := rfl
@[simp] theorem updConn_held (s : State) (c : Nat) (g : Conn → Conn) : (s.updConn c g).held = s.held := rfl
@[simp] theorem updConn_sentMarkers (s : State) (c : Nat) (g : Conn → Conn) : (s.updConn c g).sentMarkers = s.sentMarkers := rfl
@[simp] theorem updConn_dests (s : State) (c : Nat) (g : Conn → Conn) : (s.updConn c g).dests = s.dests := rfl
@[simp] theorem updConn_own (s : State) (c : Nat) (g : Conn → Conn) : (s.updConn c g).own = s.own := rfl
@[simp] theorem updConn_unsent (s : State) (c : Nat) (g : Conn → Conn) : (s.updConn c g).unsent = s.unsent := rfl
@[simp] theorem updConn_img (s : State) (c : Nat) (g : Conn → Conn) : (s.updConn c g).img = s.img := rfl
@[simp] theorem updConn_attn (s : State) (c : Nat) (g : Conn → Conn) : (s.updConn c g).attn = s.attn := rfl
@[simp] theorem updConn_sluice (s : State) (c : Nat) (g : Conn → Conn) : (s.updConn c g).sluice = s.sluice := rfl
@[simp] theorem updConn_host (s : State) (c : Nat) (g : Conn → Conn) : (s.updConn c g).host = s.host := rfl
@[simp] theorem updConn_mint (s : State) (c : Nat) (g : Conn → Conn) : (s.updConn c g).mint = s.mint := rfl
@[simp] theorem updConn_rel (s : State) (c : Nat) (g : Conn → Conn) : (s.updConn c g).rel = s.rel := rfl
@[simp] theorem updConn_firm (s : State) (c : Nat) (g : Conn → Conn) : (s.updConn c g).firm = s.firm := rfl
@[simp] theorem updConn_power (s : State) (c : Nat) (g : Conn → Conn) : (s.updConn c g).power = s.power := rfl

/-! updStore writes store alone. -/

@[simp] theorem updStore_variant (s : State) (g : Store → Store) : (s.updStore g).variant = s.variant := rfl
@[simp] theorem updStore_regs (s : State) (g : Store → Store) : (s.updStore g).regs = s.regs := rfl
@[simp] theorem updStore_ctrs (s : State) (g : Store → Store) : (s.updStore g).ctrs = s.ctrs := rfl
@[simp] theorem updStore_hubUnits (s : State) (g : Store → Store) : (s.updStore g).hubUnits = s.hubUnits := rfl
@[simp] theorem updStore_mgmtMs (s : State) (g : Store → Store) : (s.updStore g).mgmtMs = s.mgmtMs := rfl
@[simp] theorem updStore_fresh (s : State) (g : Store → Store) : (s.updStore g).fresh = s.fresh := rfl
@[simp] theorem updStore_out (s : State) (g : Store → Store) : (s.updStore g).out = s.out := rfl
@[simp] theorem updStore_pending (s : State) (g : Store → Store) : (s.updStore g).pending = s.pending := rfl
@[simp] theorem updStore_undef (s : State) (g : Store → Store) : (s.updStore g).undef = s.undef := rfl
@[simp] theorem updStore_cam (s : State) (g : Store → Store) : (s.updStore g).cam = s.cam := rfl
@[simp] theorem updStore_links (s : State) (g : Store → Store) : (s.updStore g).links = s.links := rfl
@[simp] theorem updStore_furrows (s : State) (g : Store → Store) : (s.updStore g).furrows = s.furrows := rfl
@[simp] theorem updStore_conns (s : State) (g : Store → Store) : (s.updStore g).conns = s.conns := rfl
@[simp] theorem updStore_reasm (s : State) (g : Store → Store) : (s.updStore g).reasm = s.reasm := rfl
@[simp] theorem updStore_slots (s : State) (g : Store → Store) : (s.updStore g).slots = s.slots := rfl
@[simp] theorem updStore_ctxs (s : State) (g : Store → Store) : (s.updStore g).ctxs = s.ctxs := rfl
@[simp] theorem updStore_turn (s : State) (g : Store → Store) : (s.updStore g).turn = s.turn := rfl
@[simp] theorem updStore_origins (s : State) (g : Store → Store) : (s.updStore g).origins = s.origins := rfl
@[simp] theorem updStore_nextEntry (s : State) (g : Store → Store) : (s.updStore g).nextEntry = s.nextEntry := rfl
@[simp] theorem updStore_nextAdmit (s : State) (g : Store → Store) : (s.updStore g).nextAdmit = s.nextAdmit := rfl
@[simp] theorem updStore_held (s : State) (g : Store → Store) : (s.updStore g).held = s.held := rfl
@[simp] theorem updStore_sentMarkers (s : State) (g : Store → Store) : (s.updStore g).sentMarkers = s.sentMarkers := rfl
@[simp] theorem updStore_dests (s : State) (g : Store → Store) : (s.updStore g).dests = s.dests := rfl
@[simp] theorem updStore_own (s : State) (g : Store → Store) : (s.updStore g).own = s.own := rfl
@[simp] theorem updStore_unsent (s : State) (g : Store → Store) : (s.updStore g).unsent = s.unsent := rfl
@[simp] theorem updStore_img (s : State) (g : Store → Store) : (s.updStore g).img = s.img := rfl
@[simp] theorem updStore_attn (s : State) (g : Store → Store) : (s.updStore g).attn = s.attn := rfl
@[simp] theorem updStore_sluice (s : State) (g : Store → Store) : (s.updStore g).sluice = s.sluice := rfl
@[simp] theorem updStore_host (s : State) (g : Store → Store) : (s.updStore g).host = s.host := rfl
@[simp] theorem updStore_mint (s : State) (g : Store → Store) : (s.updStore g).mint = s.mint := rfl
@[simp] theorem updStore_rel (s : State) (g : Store → Store) : (s.updStore g).rel = s.rel := rfl
@[simp] theorem updStore_firm (s : State) (g : Store → Store) : (s.updStore g).firm = s.firm := rfl
@[simp] theorem updStore_power (s : State) (g : Store → Store) : (s.updStore g).power = s.power := rfl

/-! setCore writes sluice alone. -/

@[simp] theorem setCore_variant (s : State) (c : Nat) (k : Core) : (s.setCore c k).variant = s.variant := rfl
@[simp] theorem setCore_regs (s : State) (c : Nat) (k : Core) : (s.setCore c k).regs = s.regs := rfl
@[simp] theorem setCore_ctrs (s : State) (c : Nat) (k : Core) : (s.setCore c k).ctrs = s.ctrs := rfl
@[simp] theorem setCore_hubUnits (s : State) (c : Nat) (k : Core) : (s.setCore c k).hubUnits = s.hubUnits := rfl
@[simp] theorem setCore_mgmtMs (s : State) (c : Nat) (k : Core) : (s.setCore c k).mgmtMs = s.mgmtMs := rfl
@[simp] theorem setCore_fresh (s : State) (c : Nat) (k : Core) : (s.setCore c k).fresh = s.fresh := rfl
@[simp] theorem setCore_out (s : State) (c : Nat) (k : Core) : (s.setCore c k).out = s.out := rfl
@[simp] theorem setCore_pending (s : State) (c : Nat) (k : Core) : (s.setCore c k).pending = s.pending := rfl
@[simp] theorem setCore_undef (s : State) (c : Nat) (k : Core) : (s.setCore c k).undef = s.undef := rfl
@[simp] theorem setCore_store (s : State) (c : Nat) (k : Core) : (s.setCore c k).store = s.store := rfl
@[simp] theorem setCore_cam (s : State) (c : Nat) (k : Core) : (s.setCore c k).cam = s.cam := rfl
@[simp] theorem setCore_links (s : State) (c : Nat) (k : Core) : (s.setCore c k).links = s.links := rfl
@[simp] theorem setCore_furrows (s : State) (c : Nat) (k : Core) : (s.setCore c k).furrows = s.furrows := rfl
@[simp] theorem setCore_conns (s : State) (c : Nat) (k : Core) : (s.setCore c k).conns = s.conns := rfl
@[simp] theorem setCore_reasm (s : State) (c : Nat) (k : Core) : (s.setCore c k).reasm = s.reasm := rfl
@[simp] theorem setCore_slots (s : State) (c : Nat) (k : Core) : (s.setCore c k).slots = s.slots := rfl
@[simp] theorem setCore_ctxs (s : State) (c : Nat) (k : Core) : (s.setCore c k).ctxs = s.ctxs := rfl
@[simp] theorem setCore_turn (s : State) (c : Nat) (k : Core) : (s.setCore c k).turn = s.turn := rfl
@[simp] theorem setCore_origins (s : State) (c : Nat) (k : Core) : (s.setCore c k).origins = s.origins := rfl
@[simp] theorem setCore_nextEntry (s : State) (c : Nat) (k : Core) : (s.setCore c k).nextEntry = s.nextEntry := rfl
@[simp] theorem setCore_nextAdmit (s : State) (c : Nat) (k : Core) : (s.setCore c k).nextAdmit = s.nextAdmit := rfl
@[simp] theorem setCore_held (s : State) (c : Nat) (k : Core) : (s.setCore c k).held = s.held := rfl
@[simp] theorem setCore_sentMarkers (s : State) (c : Nat) (k : Core) : (s.setCore c k).sentMarkers = s.sentMarkers := rfl
@[simp] theorem setCore_dests (s : State) (c : Nat) (k : Core) : (s.setCore c k).dests = s.dests := rfl
@[simp] theorem setCore_own (s : State) (c : Nat) (k : Core) : (s.setCore c k).own = s.own := rfl
@[simp] theorem setCore_unsent (s : State) (c : Nat) (k : Core) : (s.setCore c k).unsent = s.unsent := rfl
@[simp] theorem setCore_img (s : State) (c : Nat) (k : Core) : (s.setCore c k).img = s.img := rfl
@[simp] theorem setCore_attn (s : State) (c : Nat) (k : Core) : (s.setCore c k).attn = s.attn := rfl
@[simp] theorem setCore_host (s : State) (c : Nat) (k : Core) : (s.setCore c k).host = s.host := rfl
@[simp] theorem setCore_mint (s : State) (c : Nat) (k : Core) : (s.setCore c k).mint = s.mint := rfl
@[simp] theorem setCore_rel (s : State) (c : Nat) (k : Core) : (s.setCore c k).rel = s.rel := rfl
@[simp] theorem setCore_firm (s : State) (c : Nat) (k : Core) : (s.setCore c k).firm = s.firm := rfl
@[simp] theorem setCore_power (s : State) (c : Nat) (k : Core) : (s.setCore c k).power = s.power := rfl

/-! updCore writes sluice alone. -/

@[simp] theorem updCore_variant (s : State) (c : Nat) (g : Core → Core) : (s.updCore c g).variant = s.variant := rfl
@[simp] theorem updCore_regs (s : State) (c : Nat) (g : Core → Core) : (s.updCore c g).regs = s.regs := rfl
@[simp] theorem updCore_ctrs (s : State) (c : Nat) (g : Core → Core) : (s.updCore c g).ctrs = s.ctrs := rfl
@[simp] theorem updCore_hubUnits (s : State) (c : Nat) (g : Core → Core) : (s.updCore c g).hubUnits = s.hubUnits := rfl
@[simp] theorem updCore_mgmtMs (s : State) (c : Nat) (g : Core → Core) : (s.updCore c g).mgmtMs = s.mgmtMs := rfl
@[simp] theorem updCore_fresh (s : State) (c : Nat) (g : Core → Core) : (s.updCore c g).fresh = s.fresh := rfl
@[simp] theorem updCore_out (s : State) (c : Nat) (g : Core → Core) : (s.updCore c g).out = s.out := rfl
@[simp] theorem updCore_pending (s : State) (c : Nat) (g : Core → Core) : (s.updCore c g).pending = s.pending := rfl
@[simp] theorem updCore_undef (s : State) (c : Nat) (g : Core → Core) : (s.updCore c g).undef = s.undef := rfl
@[simp] theorem updCore_store (s : State) (c : Nat) (g : Core → Core) : (s.updCore c g).store = s.store := rfl
@[simp] theorem updCore_cam (s : State) (c : Nat) (g : Core → Core) : (s.updCore c g).cam = s.cam := rfl
@[simp] theorem updCore_links (s : State) (c : Nat) (g : Core → Core) : (s.updCore c g).links = s.links := rfl
@[simp] theorem updCore_furrows (s : State) (c : Nat) (g : Core → Core) : (s.updCore c g).furrows = s.furrows := rfl
@[simp] theorem updCore_conns (s : State) (c : Nat) (g : Core → Core) : (s.updCore c g).conns = s.conns := rfl
@[simp] theorem updCore_reasm (s : State) (c : Nat) (g : Core → Core) : (s.updCore c g).reasm = s.reasm := rfl
@[simp] theorem updCore_slots (s : State) (c : Nat) (g : Core → Core) : (s.updCore c g).slots = s.slots := rfl
@[simp] theorem updCore_ctxs (s : State) (c : Nat) (g : Core → Core) : (s.updCore c g).ctxs = s.ctxs := rfl
@[simp] theorem updCore_turn (s : State) (c : Nat) (g : Core → Core) : (s.updCore c g).turn = s.turn := rfl
@[simp] theorem updCore_origins (s : State) (c : Nat) (g : Core → Core) : (s.updCore c g).origins = s.origins := rfl
@[simp] theorem updCore_nextEntry (s : State) (c : Nat) (g : Core → Core) : (s.updCore c g).nextEntry = s.nextEntry := rfl
@[simp] theorem updCore_nextAdmit (s : State) (c : Nat) (g : Core → Core) : (s.updCore c g).nextAdmit = s.nextAdmit := rfl
@[simp] theorem updCore_held (s : State) (c : Nat) (g : Core → Core) : (s.updCore c g).held = s.held := rfl
@[simp] theorem updCore_sentMarkers (s : State) (c : Nat) (g : Core → Core) : (s.updCore c g).sentMarkers = s.sentMarkers := rfl
@[simp] theorem updCore_dests (s : State) (c : Nat) (g : Core → Core) : (s.updCore c g).dests = s.dests := rfl
@[simp] theorem updCore_own (s : State) (c : Nat) (g : Core → Core) : (s.updCore c g).own = s.own := rfl
@[simp] theorem updCore_unsent (s : State) (c : Nat) (g : Core → Core) : (s.updCore c g).unsent = s.unsent := rfl
@[simp] theorem updCore_img (s : State) (c : Nat) (g : Core → Core) : (s.updCore c g).img = s.img := rfl
@[simp] theorem updCore_attn (s : State) (c : Nat) (g : Core → Core) : (s.updCore c g).attn = s.attn := rfl
@[simp] theorem updCore_host (s : State) (c : Nat) (g : Core → Core) : (s.updCore c g).host = s.host := rfl
@[simp] theorem updCore_mint (s : State) (c : Nat) (g : Core → Core) : (s.updCore c g).mint = s.mint := rfl
@[simp] theorem updCore_rel (s : State) (c : Nat) (g : Core → Core) : (s.updCore c g).rel = s.rel := rfl
@[simp] theorem updCore_firm (s : State) (c : Nat) (g : Core → Core) : (s.updCore c g).firm = s.firm := rfl
@[simp] theorem updCore_power (s : State) (c : Nat) (g : Core → Core) : (s.updCore c g).power = s.power := rfl

/-! setVendor writes sluice alone. -/

@[simp] theorem setVendor_variant (s : State) (c : Nat) (v : Vendor) : (s.setVendor c v).variant = s.variant := rfl
@[simp] theorem setVendor_regs (s : State) (c : Nat) (v : Vendor) : (s.setVendor c v).regs = s.regs := rfl
@[simp] theorem setVendor_ctrs (s : State) (c : Nat) (v : Vendor) : (s.setVendor c v).ctrs = s.ctrs := rfl
@[simp] theorem setVendor_hubUnits (s : State) (c : Nat) (v : Vendor) : (s.setVendor c v).hubUnits = s.hubUnits := rfl
@[simp] theorem setVendor_mgmtMs (s : State) (c : Nat) (v : Vendor) : (s.setVendor c v).mgmtMs = s.mgmtMs := rfl
@[simp] theorem setVendor_fresh (s : State) (c : Nat) (v : Vendor) : (s.setVendor c v).fresh = s.fresh := rfl
@[simp] theorem setVendor_out (s : State) (c : Nat) (v : Vendor) : (s.setVendor c v).out = s.out := rfl
@[simp] theorem setVendor_pending (s : State) (c : Nat) (v : Vendor) : (s.setVendor c v).pending = s.pending := rfl
@[simp] theorem setVendor_undef (s : State) (c : Nat) (v : Vendor) : (s.setVendor c v).undef = s.undef := rfl
@[simp] theorem setVendor_store (s : State) (c : Nat) (v : Vendor) : (s.setVendor c v).store = s.store := rfl
@[simp] theorem setVendor_cam (s : State) (c : Nat) (v : Vendor) : (s.setVendor c v).cam = s.cam := rfl
@[simp] theorem setVendor_links (s : State) (c : Nat) (v : Vendor) : (s.setVendor c v).links = s.links := rfl
@[simp] theorem setVendor_furrows (s : State) (c : Nat) (v : Vendor) : (s.setVendor c v).furrows = s.furrows := rfl
@[simp] theorem setVendor_conns (s : State) (c : Nat) (v : Vendor) : (s.setVendor c v).conns = s.conns := rfl
@[simp] theorem setVendor_reasm (s : State) (c : Nat) (v : Vendor) : (s.setVendor c v).reasm = s.reasm := rfl
@[simp] theorem setVendor_slots (s : State) (c : Nat) (v : Vendor) : (s.setVendor c v).slots = s.slots := rfl
@[simp] theorem setVendor_ctxs (s : State) (c : Nat) (v : Vendor) : (s.setVendor c v).ctxs = s.ctxs := rfl
@[simp] theorem setVendor_turn (s : State) (c : Nat) (v : Vendor) : (s.setVendor c v).turn = s.turn := rfl
@[simp] theorem setVendor_origins (s : State) (c : Nat) (v : Vendor) : (s.setVendor c v).origins = s.origins := rfl
@[simp] theorem setVendor_nextEntry (s : State) (c : Nat) (v : Vendor) : (s.setVendor c v).nextEntry = s.nextEntry := rfl
@[simp] theorem setVendor_nextAdmit (s : State) (c : Nat) (v : Vendor) : (s.setVendor c v).nextAdmit = s.nextAdmit := rfl
@[simp] theorem setVendor_held (s : State) (c : Nat) (v : Vendor) : (s.setVendor c v).held = s.held := rfl
@[simp] theorem setVendor_sentMarkers (s : State) (c : Nat) (v : Vendor) : (s.setVendor c v).sentMarkers = s.sentMarkers := rfl
@[simp] theorem setVendor_dests (s : State) (c : Nat) (v : Vendor) : (s.setVendor c v).dests = s.dests := rfl
@[simp] theorem setVendor_own (s : State) (c : Nat) (v : Vendor) : (s.setVendor c v).own = s.own := rfl
@[simp] theorem setVendor_unsent (s : State) (c : Nat) (v : Vendor) : (s.setVendor c v).unsent = s.unsent := rfl
@[simp] theorem setVendor_img (s : State) (c : Nat) (v : Vendor) : (s.setVendor c v).img = s.img := rfl
@[simp] theorem setVendor_attn (s : State) (c : Nat) (v : Vendor) : (s.setVendor c v).attn = s.attn := rfl
@[simp] theorem setVendor_host (s : State) (c : Nat) (v : Vendor) : (s.setVendor c v).host = s.host := rfl
@[simp] theorem setVendor_mint (s : State) (c : Nat) (v : Vendor) : (s.setVendor c v).mint = s.mint := rfl
@[simp] theorem setVendor_rel (s : State) (c : Nat) (v : Vendor) : (s.setVendor c v).rel = s.rel := rfl
@[simp] theorem setVendor_firm (s : State) (c : Nat) (v : Vendor) : (s.setVendor c v).firm = s.firm := rfl
@[simp] theorem setVendor_power (s : State) (c : Nat) (v : Vendor) : (s.setVendor c v).power = s.power := rfl

/-! updVendor writes sluice alone. -/

@[simp] theorem updVendor_variant (s : State) (c : Nat) (g : Vendor → Vendor) : (s.updVendor c g).variant = s.variant := rfl
@[simp] theorem updVendor_regs (s : State) (c : Nat) (g : Vendor → Vendor) : (s.updVendor c g).regs = s.regs := rfl
@[simp] theorem updVendor_ctrs (s : State) (c : Nat) (g : Vendor → Vendor) : (s.updVendor c g).ctrs = s.ctrs := rfl
@[simp] theorem updVendor_hubUnits (s : State) (c : Nat) (g : Vendor → Vendor) : (s.updVendor c g).hubUnits = s.hubUnits := rfl
@[simp] theorem updVendor_mgmtMs (s : State) (c : Nat) (g : Vendor → Vendor) : (s.updVendor c g).mgmtMs = s.mgmtMs := rfl
@[simp] theorem updVendor_fresh (s : State) (c : Nat) (g : Vendor → Vendor) : (s.updVendor c g).fresh = s.fresh := rfl
@[simp] theorem updVendor_out (s : State) (c : Nat) (g : Vendor → Vendor) : (s.updVendor c g).out = s.out := rfl
@[simp] theorem updVendor_pending (s : State) (c : Nat) (g : Vendor → Vendor) : (s.updVendor c g).pending = s.pending := rfl
@[simp] theorem updVendor_undef (s : State) (c : Nat) (g : Vendor → Vendor) : (s.updVendor c g).undef = s.undef := rfl
@[simp] theorem updVendor_store (s : State) (c : Nat) (g : Vendor → Vendor) : (s.updVendor c g).store = s.store := rfl
@[simp] theorem updVendor_cam (s : State) (c : Nat) (g : Vendor → Vendor) : (s.updVendor c g).cam = s.cam := rfl
@[simp] theorem updVendor_links (s : State) (c : Nat) (g : Vendor → Vendor) : (s.updVendor c g).links = s.links := rfl
@[simp] theorem updVendor_furrows (s : State) (c : Nat) (g : Vendor → Vendor) : (s.updVendor c g).furrows = s.furrows := rfl
@[simp] theorem updVendor_conns (s : State) (c : Nat) (g : Vendor → Vendor) : (s.updVendor c g).conns = s.conns := rfl
@[simp] theorem updVendor_reasm (s : State) (c : Nat) (g : Vendor → Vendor) : (s.updVendor c g).reasm = s.reasm := rfl
@[simp] theorem updVendor_slots (s : State) (c : Nat) (g : Vendor → Vendor) : (s.updVendor c g).slots = s.slots := rfl
@[simp] theorem updVendor_ctxs (s : State) (c : Nat) (g : Vendor → Vendor) : (s.updVendor c g).ctxs = s.ctxs := rfl
@[simp] theorem updVendor_turn (s : State) (c : Nat) (g : Vendor → Vendor) : (s.updVendor c g).turn = s.turn := rfl
@[simp] theorem updVendor_origins (s : State) (c : Nat) (g : Vendor → Vendor) : (s.updVendor c g).origins = s.origins := rfl
@[simp] theorem updVendor_nextEntry (s : State) (c : Nat) (g : Vendor → Vendor) : (s.updVendor c g).nextEntry = s.nextEntry := rfl
@[simp] theorem updVendor_nextAdmit (s : State) (c : Nat) (g : Vendor → Vendor) : (s.updVendor c g).nextAdmit = s.nextAdmit := rfl
@[simp] theorem updVendor_held (s : State) (c : Nat) (g : Vendor → Vendor) : (s.updVendor c g).held = s.held := rfl
@[simp] theorem updVendor_sentMarkers (s : State) (c : Nat) (g : Vendor → Vendor) : (s.updVendor c g).sentMarkers = s.sentMarkers := rfl
@[simp] theorem updVendor_dests (s : State) (c : Nat) (g : Vendor → Vendor) : (s.updVendor c g).dests = s.dests := rfl
@[simp] theorem updVendor_own (s : State) (c : Nat) (g : Vendor → Vendor) : (s.updVendor c g).own = s.own := rfl
@[simp] theorem updVendor_unsent (s : State) (c : Nat) (g : Vendor → Vendor) : (s.updVendor c g).unsent = s.unsent := rfl
@[simp] theorem updVendor_img (s : State) (c : Nat) (g : Vendor → Vendor) : (s.updVendor c g).img = s.img := rfl
@[simp] theorem updVendor_attn (s : State) (c : Nat) (g : Vendor → Vendor) : (s.updVendor c g).attn = s.attn := rfl
@[simp] theorem updVendor_host (s : State) (c : Nat) (g : Vendor → Vendor) : (s.updVendor c g).host = s.host := rfl
@[simp] theorem updVendor_mint (s : State) (c : Nat) (g : Vendor → Vendor) : (s.updVendor c g).mint = s.mint := rfl
@[simp] theorem updVendor_rel (s : State) (c : Nat) (g : Vendor → Vendor) : (s.updVendor c g).rel = s.rel := rfl
@[simp] theorem updVendor_firm (s : State) (c : Nat) (g : Vendor → Vendor) : (s.updVendor c g).firm = s.firm := rfl
@[simp] theorem updVendor_power (s : State) (c : Nat) (g : Vendor → Vendor) : (s.updVendor c g).power = s.power := rfl

/-! pred writes rel alone. -/

@[simp] theorem pred_variant (s : State) (c i e n : Nat) : (s.pred c i e n).variant = s.variant := rfl
@[simp] theorem pred_regs (s : State) (c i e n : Nat) : (s.pred c i e n).regs = s.regs := rfl
@[simp] theorem pred_ctrs (s : State) (c i e n : Nat) : (s.pred c i e n).ctrs = s.ctrs := rfl
@[simp] theorem pred_hubUnits (s : State) (c i e n : Nat) : (s.pred c i e n).hubUnits = s.hubUnits := rfl
@[simp] theorem pred_mgmtMs (s : State) (c i e n : Nat) : (s.pred c i e n).mgmtMs = s.mgmtMs := rfl
@[simp] theorem pred_fresh (s : State) (c i e n : Nat) : (s.pred c i e n).fresh = s.fresh := rfl
@[simp] theorem pred_out (s : State) (c i e n : Nat) : (s.pred c i e n).out = s.out := rfl
@[simp] theorem pred_pending (s : State) (c i e n : Nat) : (s.pred c i e n).pending = s.pending := rfl
@[simp] theorem pred_undef (s : State) (c i e n : Nat) : (s.pred c i e n).undef = s.undef := rfl
@[simp] theorem pred_store (s : State) (c i e n : Nat) : (s.pred c i e n).store = s.store := rfl
@[simp] theorem pred_cam (s : State) (c i e n : Nat) : (s.pred c i e n).cam = s.cam := rfl
@[simp] theorem pred_links (s : State) (c i e n : Nat) : (s.pred c i e n).links = s.links := rfl
@[simp] theorem pred_furrows (s : State) (c i e n : Nat) : (s.pred c i e n).furrows = s.furrows := rfl
@[simp] theorem pred_conns (s : State) (c i e n : Nat) : (s.pred c i e n).conns = s.conns := rfl
@[simp] theorem pred_reasm (s : State) (c i e n : Nat) : (s.pred c i e n).reasm = s.reasm := rfl
@[simp] theorem pred_slots (s : State) (c i e n : Nat) : (s.pred c i e n).slots = s.slots := rfl
@[simp] theorem pred_ctxs (s : State) (c i e n : Nat) : (s.pred c i e n).ctxs = s.ctxs := rfl
@[simp] theorem pred_turn (s : State) (c i e n : Nat) : (s.pred c i e n).turn = s.turn := rfl
@[simp] theorem pred_origins (s : State) (c i e n : Nat) : (s.pred c i e n).origins = s.origins := rfl
@[simp] theorem pred_nextEntry (s : State) (c i e n : Nat) : (s.pred c i e n).nextEntry = s.nextEntry := rfl
@[simp] theorem pred_nextAdmit (s : State) (c i e n : Nat) : (s.pred c i e n).nextAdmit = s.nextAdmit := rfl
@[simp] theorem pred_held (s : State) (c i e n : Nat) : (s.pred c i e n).held = s.held := rfl
@[simp] theorem pred_sentMarkers (s : State) (c i e n : Nat) : (s.pred c i e n).sentMarkers = s.sentMarkers := rfl
@[simp] theorem pred_dests (s : State) (c i e n : Nat) : (s.pred c i e n).dests = s.dests := rfl
@[simp] theorem pred_own (s : State) (c i e n : Nat) : (s.pred c i e n).own = s.own := rfl
@[simp] theorem pred_unsent (s : State) (c i e n : Nat) : (s.pred c i e n).unsent = s.unsent := rfl
@[simp] theorem pred_img (s : State) (c i e n : Nat) : (s.pred c i e n).img = s.img := rfl
@[simp] theorem pred_attn (s : State) (c i e n : Nat) : (s.pred c i e n).attn = s.attn := rfl
@[simp] theorem pred_sluice (s : State) (c i e n : Nat) : (s.pred c i e n).sluice = s.sluice := rfl
@[simp] theorem pred_host (s : State) (c i e n : Nat) : (s.pred c i e n).host = s.host := rfl
@[simp] theorem pred_mint (s : State) (c i e n : Nat) : (s.pred c i e n).mint = s.mint := rfl
@[simp] theorem pred_firm (s : State) (c i e n : Nat) : (s.pred c i e n).firm = s.firm := rfl
@[simp] theorem pred_power (s : State) (c i e n : Nat) : (s.pred c i e n).power = s.power := rfl

/-! setVf writes host alone. -/

@[simp] theorem setVf_variant (s : State) (v : Nat) (x : Vf) : (s.setVf v x).variant = s.variant := rfl
@[simp] theorem setVf_regs (s : State) (v : Nat) (x : Vf) : (s.setVf v x).regs = s.regs := rfl
@[simp] theorem setVf_ctrs (s : State) (v : Nat) (x : Vf) : (s.setVf v x).ctrs = s.ctrs := rfl
@[simp] theorem setVf_hubUnits (s : State) (v : Nat) (x : Vf) : (s.setVf v x).hubUnits = s.hubUnits := rfl
@[simp] theorem setVf_mgmtMs (s : State) (v : Nat) (x : Vf) : (s.setVf v x).mgmtMs = s.mgmtMs := rfl
@[simp] theorem setVf_fresh (s : State) (v : Nat) (x : Vf) : (s.setVf v x).fresh = s.fresh := rfl
@[simp] theorem setVf_out (s : State) (v : Nat) (x : Vf) : (s.setVf v x).out = s.out := rfl
@[simp] theorem setVf_pending (s : State) (v : Nat) (x : Vf) : (s.setVf v x).pending = s.pending := rfl
@[simp] theorem setVf_undef (s : State) (v : Nat) (x : Vf) : (s.setVf v x).undef = s.undef := rfl
@[simp] theorem setVf_store (s : State) (v : Nat) (x : Vf) : (s.setVf v x).store = s.store := rfl
@[simp] theorem setVf_cam (s : State) (v : Nat) (x : Vf) : (s.setVf v x).cam = s.cam := rfl
@[simp] theorem setVf_links (s : State) (v : Nat) (x : Vf) : (s.setVf v x).links = s.links := rfl
@[simp] theorem setVf_furrows (s : State) (v : Nat) (x : Vf) : (s.setVf v x).furrows = s.furrows := rfl
@[simp] theorem setVf_conns (s : State) (v : Nat) (x : Vf) : (s.setVf v x).conns = s.conns := rfl
@[simp] theorem setVf_reasm (s : State) (v : Nat) (x : Vf) : (s.setVf v x).reasm = s.reasm := rfl
@[simp] theorem setVf_slots (s : State) (v : Nat) (x : Vf) : (s.setVf v x).slots = s.slots := rfl
@[simp] theorem setVf_ctxs (s : State) (v : Nat) (x : Vf) : (s.setVf v x).ctxs = s.ctxs := rfl
@[simp] theorem setVf_turn (s : State) (v : Nat) (x : Vf) : (s.setVf v x).turn = s.turn := rfl
@[simp] theorem setVf_origins (s : State) (v : Nat) (x : Vf) : (s.setVf v x).origins = s.origins := rfl
@[simp] theorem setVf_nextEntry (s : State) (v : Nat) (x : Vf) : (s.setVf v x).nextEntry = s.nextEntry := rfl
@[simp] theorem setVf_nextAdmit (s : State) (v : Nat) (x : Vf) : (s.setVf v x).nextAdmit = s.nextAdmit := rfl
@[simp] theorem setVf_held (s : State) (v : Nat) (x : Vf) : (s.setVf v x).held = s.held := rfl
@[simp] theorem setVf_sentMarkers (s : State) (v : Nat) (x : Vf) : (s.setVf v x).sentMarkers = s.sentMarkers := rfl
@[simp] theorem setVf_dests (s : State) (v : Nat) (x : Vf) : (s.setVf v x).dests = s.dests := rfl
@[simp] theorem setVf_own (s : State) (v : Nat) (x : Vf) : (s.setVf v x).own = s.own := rfl
@[simp] theorem setVf_unsent (s : State) (v : Nat) (x : Vf) : (s.setVf v x).unsent = s.unsent := rfl
@[simp] theorem setVf_img (s : State) (v : Nat) (x : Vf) : (s.setVf v x).img = s.img := rfl
@[simp] theorem setVf_attn (s : State) (v : Nat) (x : Vf) : (s.setVf v x).attn = s.attn := rfl
@[simp] theorem setVf_sluice (s : State) (v : Nat) (x : Vf) : (s.setVf v x).sluice = s.sluice := rfl
@[simp] theorem setVf_mint (s : State) (v : Nat) (x : Vf) : (s.setVf v x).mint = s.mint := rfl
@[simp] theorem setVf_rel (s : State) (v : Nat) (x : Vf) : (s.setVf v x).rel = s.rel := rfl
@[simp] theorem setVf_firm (s : State) (v : Nat) (x : Vf) : (s.setVf v x).firm = s.firm := rfl
@[simp] theorem setVf_power (s : State) (v : Nat) (x : Vf) : (s.setVf v x).power = s.power := rfl

/-! updVf writes host alone. -/

@[simp] theorem updVf_variant (s : State) (v : Nat) (g : Vf → Vf) : (s.updVf v g).variant = s.variant := rfl
@[simp] theorem updVf_regs (s : State) (v : Nat) (g : Vf → Vf) : (s.updVf v g).regs = s.regs := rfl
@[simp] theorem updVf_ctrs (s : State) (v : Nat) (g : Vf → Vf) : (s.updVf v g).ctrs = s.ctrs := rfl
@[simp] theorem updVf_hubUnits (s : State) (v : Nat) (g : Vf → Vf) : (s.updVf v g).hubUnits = s.hubUnits := rfl
@[simp] theorem updVf_mgmtMs (s : State) (v : Nat) (g : Vf → Vf) : (s.updVf v g).mgmtMs = s.mgmtMs := rfl
@[simp] theorem updVf_fresh (s : State) (v : Nat) (g : Vf → Vf) : (s.updVf v g).fresh = s.fresh := rfl
@[simp] theorem updVf_out (s : State) (v : Nat) (g : Vf → Vf) : (s.updVf v g).out = s.out := rfl
@[simp] theorem updVf_pending (s : State) (v : Nat) (g : Vf → Vf) : (s.updVf v g).pending = s.pending := rfl
@[simp] theorem updVf_undef (s : State) (v : Nat) (g : Vf → Vf) : (s.updVf v g).undef = s.undef := rfl
@[simp] theorem updVf_store (s : State) (v : Nat) (g : Vf → Vf) : (s.updVf v g).store = s.store := rfl
@[simp] theorem updVf_cam (s : State) (v : Nat) (g : Vf → Vf) : (s.updVf v g).cam = s.cam := rfl
@[simp] theorem updVf_links (s : State) (v : Nat) (g : Vf → Vf) : (s.updVf v g).links = s.links := rfl
@[simp] theorem updVf_furrows (s : State) (v : Nat) (g : Vf → Vf) : (s.updVf v g).furrows = s.furrows := rfl
@[simp] theorem updVf_conns (s : State) (v : Nat) (g : Vf → Vf) : (s.updVf v g).conns = s.conns := rfl
@[simp] theorem updVf_reasm (s : State) (v : Nat) (g : Vf → Vf) : (s.updVf v g).reasm = s.reasm := rfl
@[simp] theorem updVf_slots (s : State) (v : Nat) (g : Vf → Vf) : (s.updVf v g).slots = s.slots := rfl
@[simp] theorem updVf_ctxs (s : State) (v : Nat) (g : Vf → Vf) : (s.updVf v g).ctxs = s.ctxs := rfl
@[simp] theorem updVf_turn (s : State) (v : Nat) (g : Vf → Vf) : (s.updVf v g).turn = s.turn := rfl
@[simp] theorem updVf_origins (s : State) (v : Nat) (g : Vf → Vf) : (s.updVf v g).origins = s.origins := rfl
@[simp] theorem updVf_nextEntry (s : State) (v : Nat) (g : Vf → Vf) : (s.updVf v g).nextEntry = s.nextEntry := rfl
@[simp] theorem updVf_nextAdmit (s : State) (v : Nat) (g : Vf → Vf) : (s.updVf v g).nextAdmit = s.nextAdmit := rfl
@[simp] theorem updVf_held (s : State) (v : Nat) (g : Vf → Vf) : (s.updVf v g).held = s.held := rfl
@[simp] theorem updVf_sentMarkers (s : State) (v : Nat) (g : Vf → Vf) : (s.updVf v g).sentMarkers = s.sentMarkers := rfl
@[simp] theorem updVf_dests (s : State) (v : Nat) (g : Vf → Vf) : (s.updVf v g).dests = s.dests := rfl
@[simp] theorem updVf_own (s : State) (v : Nat) (g : Vf → Vf) : (s.updVf v g).own = s.own := rfl
@[simp] theorem updVf_unsent (s : State) (v : Nat) (g : Vf → Vf) : (s.updVf v g).unsent = s.unsent := rfl
@[simp] theorem updVf_img (s : State) (v : Nat) (g : Vf → Vf) : (s.updVf v g).img = s.img := rfl
@[simp] theorem updVf_attn (s : State) (v : Nat) (g : Vf → Vf) : (s.updVf v g).attn = s.attn := rfl
@[simp] theorem updVf_sluice (s : State) (v : Nat) (g : Vf → Vf) : (s.updVf v g).sluice = s.sluice := rfl
@[simp] theorem updVf_mint (s : State) (v : Nat) (g : Vf → Vf) : (s.updVf v g).mint = s.mint := rfl
@[simp] theorem updVf_rel (s : State) (v : Nat) (g : Vf → Vf) : (s.updVf v g).rel = s.rel := rfl
@[simp] theorem updVf_firm (s : State) (v : Nat) (g : Vf → Vf) : (s.updVf v g).firm = s.firm := rfl
@[simp] theorem updVf_power (s : State) (v : Nat) (g : Vf → Vf) : (s.updVf v g).power = s.power := rfl

/-! setRange writes host alone. -/

@[simp] theorem setRange_variant (s : State) (e : Nat) (x : HRange) : (s.setRange e x).variant = s.variant := rfl
@[simp] theorem setRange_regs (s : State) (e : Nat) (x : HRange) : (s.setRange e x).regs = s.regs := rfl
@[simp] theorem setRange_ctrs (s : State) (e : Nat) (x : HRange) : (s.setRange e x).ctrs = s.ctrs := rfl
@[simp] theorem setRange_hubUnits (s : State) (e : Nat) (x : HRange) : (s.setRange e x).hubUnits = s.hubUnits := rfl
@[simp] theorem setRange_mgmtMs (s : State) (e : Nat) (x : HRange) : (s.setRange e x).mgmtMs = s.mgmtMs := rfl
@[simp] theorem setRange_fresh (s : State) (e : Nat) (x : HRange) : (s.setRange e x).fresh = s.fresh := rfl
@[simp] theorem setRange_out (s : State) (e : Nat) (x : HRange) : (s.setRange e x).out = s.out := rfl
@[simp] theorem setRange_pending (s : State) (e : Nat) (x : HRange) : (s.setRange e x).pending = s.pending := rfl
@[simp] theorem setRange_undef (s : State) (e : Nat) (x : HRange) : (s.setRange e x).undef = s.undef := rfl
@[simp] theorem setRange_store (s : State) (e : Nat) (x : HRange) : (s.setRange e x).store = s.store := rfl
@[simp] theorem setRange_cam (s : State) (e : Nat) (x : HRange) : (s.setRange e x).cam = s.cam := rfl
@[simp] theorem setRange_links (s : State) (e : Nat) (x : HRange) : (s.setRange e x).links = s.links := rfl
@[simp] theorem setRange_furrows (s : State) (e : Nat) (x : HRange) : (s.setRange e x).furrows = s.furrows := rfl
@[simp] theorem setRange_conns (s : State) (e : Nat) (x : HRange) : (s.setRange e x).conns = s.conns := rfl
@[simp] theorem setRange_reasm (s : State) (e : Nat) (x : HRange) : (s.setRange e x).reasm = s.reasm := rfl
@[simp] theorem setRange_slots (s : State) (e : Nat) (x : HRange) : (s.setRange e x).slots = s.slots := rfl
@[simp] theorem setRange_ctxs (s : State) (e : Nat) (x : HRange) : (s.setRange e x).ctxs = s.ctxs := rfl
@[simp] theorem setRange_turn (s : State) (e : Nat) (x : HRange) : (s.setRange e x).turn = s.turn := rfl
@[simp] theorem setRange_origins (s : State) (e : Nat) (x : HRange) : (s.setRange e x).origins = s.origins := rfl
@[simp] theorem setRange_nextEntry (s : State) (e : Nat) (x : HRange) : (s.setRange e x).nextEntry = s.nextEntry := rfl
@[simp] theorem setRange_nextAdmit (s : State) (e : Nat) (x : HRange) : (s.setRange e x).nextAdmit = s.nextAdmit := rfl
@[simp] theorem setRange_held (s : State) (e : Nat) (x : HRange) : (s.setRange e x).held = s.held := rfl
@[simp] theorem setRange_sentMarkers (s : State) (e : Nat) (x : HRange) : (s.setRange e x).sentMarkers = s.sentMarkers := rfl
@[simp] theorem setRange_dests (s : State) (e : Nat) (x : HRange) : (s.setRange e x).dests = s.dests := rfl
@[simp] theorem setRange_own (s : State) (e : Nat) (x : HRange) : (s.setRange e x).own = s.own := rfl
@[simp] theorem setRange_unsent (s : State) (e : Nat) (x : HRange) : (s.setRange e x).unsent = s.unsent := rfl
@[simp] theorem setRange_img (s : State) (e : Nat) (x : HRange) : (s.setRange e x).img = s.img := rfl
@[simp] theorem setRange_attn (s : State) (e : Nat) (x : HRange) : (s.setRange e x).attn = s.attn := rfl
@[simp] theorem setRange_sluice (s : State) (e : Nat) (x : HRange) : (s.setRange e x).sluice = s.sluice := rfl
@[simp] theorem setRange_mint (s : State) (e : Nat) (x : HRange) : (s.setRange e x).mint = s.mint := rfl
@[simp] theorem setRange_rel (s : State) (e : Nat) (x : HRange) : (s.setRange e x).rel = s.rel := rfl
@[simp] theorem setRange_firm (s : State) (e : Nat) (x : HRange) : (s.setRange e x).firm = s.firm := rfl
@[simp] theorem setRange_power (s : State) (e : Nat) (x : HRange) : (s.setRange e x).power = s.power := rfl

/-! updRange writes host alone. -/

@[simp] theorem updRange_variant (s : State) (e : Nat) (g : HRange → HRange) : (s.updRange e g).variant = s.variant := rfl
@[simp] theorem updRange_regs (s : State) (e : Nat) (g : HRange → HRange) : (s.updRange e g).regs = s.regs := rfl
@[simp] theorem updRange_ctrs (s : State) (e : Nat) (g : HRange → HRange) : (s.updRange e g).ctrs = s.ctrs := rfl
@[simp] theorem updRange_hubUnits (s : State) (e : Nat) (g : HRange → HRange) : (s.updRange e g).hubUnits = s.hubUnits := rfl
@[simp] theorem updRange_mgmtMs (s : State) (e : Nat) (g : HRange → HRange) : (s.updRange e g).mgmtMs = s.mgmtMs := rfl
@[simp] theorem updRange_fresh (s : State) (e : Nat) (g : HRange → HRange) : (s.updRange e g).fresh = s.fresh := rfl
@[simp] theorem updRange_out (s : State) (e : Nat) (g : HRange → HRange) : (s.updRange e g).out = s.out := rfl
@[simp] theorem updRange_pending (s : State) (e : Nat) (g : HRange → HRange) : (s.updRange e g).pending = s.pending := rfl
@[simp] theorem updRange_undef (s : State) (e : Nat) (g : HRange → HRange) : (s.updRange e g).undef = s.undef := rfl
@[simp] theorem updRange_store (s : State) (e : Nat) (g : HRange → HRange) : (s.updRange e g).store = s.store := rfl
@[simp] theorem updRange_cam (s : State) (e : Nat) (g : HRange → HRange) : (s.updRange e g).cam = s.cam := rfl
@[simp] theorem updRange_links (s : State) (e : Nat) (g : HRange → HRange) : (s.updRange e g).links = s.links := rfl
@[simp] theorem updRange_furrows (s : State) (e : Nat) (g : HRange → HRange) : (s.updRange e g).furrows = s.furrows := rfl
@[simp] theorem updRange_conns (s : State) (e : Nat) (g : HRange → HRange) : (s.updRange e g).conns = s.conns := rfl
@[simp] theorem updRange_reasm (s : State) (e : Nat) (g : HRange → HRange) : (s.updRange e g).reasm = s.reasm := rfl
@[simp] theorem updRange_slots (s : State) (e : Nat) (g : HRange → HRange) : (s.updRange e g).slots = s.slots := rfl
@[simp] theorem updRange_ctxs (s : State) (e : Nat) (g : HRange → HRange) : (s.updRange e g).ctxs = s.ctxs := rfl
@[simp] theorem updRange_turn (s : State) (e : Nat) (g : HRange → HRange) : (s.updRange e g).turn = s.turn := rfl
@[simp] theorem updRange_origins (s : State) (e : Nat) (g : HRange → HRange) : (s.updRange e g).origins = s.origins := rfl
@[simp] theorem updRange_nextEntry (s : State) (e : Nat) (g : HRange → HRange) : (s.updRange e g).nextEntry = s.nextEntry := rfl
@[simp] theorem updRange_nextAdmit (s : State) (e : Nat) (g : HRange → HRange) : (s.updRange e g).nextAdmit = s.nextAdmit := rfl
@[simp] theorem updRange_held (s : State) (e : Nat) (g : HRange → HRange) : (s.updRange e g).held = s.held := rfl
@[simp] theorem updRange_sentMarkers (s : State) (e : Nat) (g : HRange → HRange) : (s.updRange e g).sentMarkers = s.sentMarkers := rfl
@[simp] theorem updRange_dests (s : State) (e : Nat) (g : HRange → HRange) : (s.updRange e g).dests = s.dests := rfl
@[simp] theorem updRange_own (s : State) (e : Nat) (g : HRange → HRange) : (s.updRange e g).own = s.own := rfl
@[simp] theorem updRange_unsent (s : State) (e : Nat) (g : HRange → HRange) : (s.updRange e g).unsent = s.unsent := rfl
@[simp] theorem updRange_img (s : State) (e : Nat) (g : HRange → HRange) : (s.updRange e g).img = s.img := rfl
@[simp] theorem updRange_attn (s : State) (e : Nat) (g : HRange → HRange) : (s.updRange e g).attn = s.attn := rfl
@[simp] theorem updRange_sluice (s : State) (e : Nat) (g : HRange → HRange) : (s.updRange e g).sluice = s.sluice := rfl
@[simp] theorem updRange_mint (s : State) (e : Nat) (g : HRange → HRange) : (s.updRange e g).mint = s.mint := rfl
@[simp] theorem updRange_rel (s : State) (e : Nat) (g : HRange → HRange) : (s.updRange e g).rel = s.rel := rfl
@[simp] theorem updRange_firm (s : State) (e : Nat) (g : HRange → HRange) : (s.updRange e g).firm = s.firm := rfl
@[simp] theorem updRange_power (s : State) (e : Nat) (g : HRange → HRange) : (s.updRange e g).power = s.power := rfl

/-! setPower writes power alone. -/

@[simp] theorem setPower_variant (s : State) (p : PowerSt) : (s.setPower p).variant = s.variant := rfl
@[simp] theorem setPower_regs (s : State) (p : PowerSt) : (s.setPower p).regs = s.regs := rfl
@[simp] theorem setPower_ctrs (s : State) (p : PowerSt) : (s.setPower p).ctrs = s.ctrs := rfl
@[simp] theorem setPower_hubUnits (s : State) (p : PowerSt) : (s.setPower p).hubUnits = s.hubUnits := rfl
@[simp] theorem setPower_mgmtMs (s : State) (p : PowerSt) : (s.setPower p).mgmtMs = s.mgmtMs := rfl
@[simp] theorem setPower_fresh (s : State) (p : PowerSt) : (s.setPower p).fresh = s.fresh := rfl
@[simp] theorem setPower_out (s : State) (p : PowerSt) : (s.setPower p).out = s.out := rfl
@[simp] theorem setPower_pending (s : State) (p : PowerSt) : (s.setPower p).pending = s.pending := rfl
@[simp] theorem setPower_undef (s : State) (p : PowerSt) : (s.setPower p).undef = s.undef := rfl
@[simp] theorem setPower_store (s : State) (p : PowerSt) : (s.setPower p).store = s.store := rfl
@[simp] theorem setPower_cam (s : State) (p : PowerSt) : (s.setPower p).cam = s.cam := rfl
@[simp] theorem setPower_links (s : State) (p : PowerSt) : (s.setPower p).links = s.links := rfl
@[simp] theorem setPower_furrows (s : State) (p : PowerSt) : (s.setPower p).furrows = s.furrows := rfl
@[simp] theorem setPower_conns (s : State) (p : PowerSt) : (s.setPower p).conns = s.conns := rfl
@[simp] theorem setPower_reasm (s : State) (p : PowerSt) : (s.setPower p).reasm = s.reasm := rfl
@[simp] theorem setPower_slots (s : State) (p : PowerSt) : (s.setPower p).slots = s.slots := rfl
@[simp] theorem setPower_ctxs (s : State) (p : PowerSt) : (s.setPower p).ctxs = s.ctxs := rfl
@[simp] theorem setPower_turn (s : State) (p : PowerSt) : (s.setPower p).turn = s.turn := rfl
@[simp] theorem setPower_origins (s : State) (p : PowerSt) : (s.setPower p).origins = s.origins := rfl
@[simp] theorem setPower_nextEntry (s : State) (p : PowerSt) : (s.setPower p).nextEntry = s.nextEntry := rfl
@[simp] theorem setPower_nextAdmit (s : State) (p : PowerSt) : (s.setPower p).nextAdmit = s.nextAdmit := rfl
@[simp] theorem setPower_held (s : State) (p : PowerSt) : (s.setPower p).held = s.held := rfl
@[simp] theorem setPower_sentMarkers (s : State) (p : PowerSt) : (s.setPower p).sentMarkers = s.sentMarkers := rfl
@[simp] theorem setPower_dests (s : State) (p : PowerSt) : (s.setPower p).dests = s.dests := rfl
@[simp] theorem setPower_own (s : State) (p : PowerSt) : (s.setPower p).own = s.own := rfl
@[simp] theorem setPower_unsent (s : State) (p : PowerSt) : (s.setPower p).unsent = s.unsent := rfl
@[simp] theorem setPower_img (s : State) (p : PowerSt) : (s.setPower p).img = s.img := rfl
@[simp] theorem setPower_attn (s : State) (p : PowerSt) : (s.setPower p).attn = s.attn := rfl
@[simp] theorem setPower_sluice (s : State) (p : PowerSt) : (s.setPower p).sluice = s.sluice := rfl
@[simp] theorem setPower_host (s : State) (p : PowerSt) : (s.setPower p).host = s.host := rfl
@[simp] theorem setPower_mint (s : State) (p : PowerSt) : (s.setPower p).mint = s.mint := rfl
@[simp] theorem setPower_rel (s : State) (p : PowerSt) : (s.setPower p).rel = s.rel := rfl
@[simp] theorem setPower_firm (s : State) (p : PowerSt) : (s.setPower p).firm = s.firm := rfl

/-! setFirm writes firm alone. -/

@[simp] theorem setFirm_variant (s : State) (f : FirmSt) : (s.setFirm f).variant = s.variant := rfl
@[simp] theorem setFirm_regs (s : State) (f : FirmSt) : (s.setFirm f).regs = s.regs := rfl
@[simp] theorem setFirm_ctrs (s : State) (f : FirmSt) : (s.setFirm f).ctrs = s.ctrs := rfl
@[simp] theorem setFirm_hubUnits (s : State) (f : FirmSt) : (s.setFirm f).hubUnits = s.hubUnits := rfl
@[simp] theorem setFirm_mgmtMs (s : State) (f : FirmSt) : (s.setFirm f).mgmtMs = s.mgmtMs := rfl
@[simp] theorem setFirm_fresh (s : State) (f : FirmSt) : (s.setFirm f).fresh = s.fresh := rfl
@[simp] theorem setFirm_out (s : State) (f : FirmSt) : (s.setFirm f).out = s.out := rfl
@[simp] theorem setFirm_pending (s : State) (f : FirmSt) : (s.setFirm f).pending = s.pending := rfl
@[simp] theorem setFirm_undef (s : State) (f : FirmSt) : (s.setFirm f).undef = s.undef := rfl
@[simp] theorem setFirm_store (s : State) (f : FirmSt) : (s.setFirm f).store = s.store := rfl
@[simp] theorem setFirm_cam (s : State) (f : FirmSt) : (s.setFirm f).cam = s.cam := rfl
@[simp] theorem setFirm_links (s : State) (f : FirmSt) : (s.setFirm f).links = s.links := rfl
@[simp] theorem setFirm_furrows (s : State) (f : FirmSt) : (s.setFirm f).furrows = s.furrows := rfl
@[simp] theorem setFirm_conns (s : State) (f : FirmSt) : (s.setFirm f).conns = s.conns := rfl
@[simp] theorem setFirm_reasm (s : State) (f : FirmSt) : (s.setFirm f).reasm = s.reasm := rfl
@[simp] theorem setFirm_slots (s : State) (f : FirmSt) : (s.setFirm f).slots = s.slots := rfl
@[simp] theorem setFirm_ctxs (s : State) (f : FirmSt) : (s.setFirm f).ctxs = s.ctxs := rfl
@[simp] theorem setFirm_turn (s : State) (f : FirmSt) : (s.setFirm f).turn = s.turn := rfl
@[simp] theorem setFirm_origins (s : State) (f : FirmSt) : (s.setFirm f).origins = s.origins := rfl
@[simp] theorem setFirm_nextEntry (s : State) (f : FirmSt) : (s.setFirm f).nextEntry = s.nextEntry := rfl
@[simp] theorem setFirm_nextAdmit (s : State) (f : FirmSt) : (s.setFirm f).nextAdmit = s.nextAdmit := rfl
@[simp] theorem setFirm_held (s : State) (f : FirmSt) : (s.setFirm f).held = s.held := rfl
@[simp] theorem setFirm_sentMarkers (s : State) (f : FirmSt) : (s.setFirm f).sentMarkers = s.sentMarkers := rfl
@[simp] theorem setFirm_dests (s : State) (f : FirmSt) : (s.setFirm f).dests = s.dests := rfl
@[simp] theorem setFirm_own (s : State) (f : FirmSt) : (s.setFirm f).own = s.own := rfl
@[simp] theorem setFirm_unsent (s : State) (f : FirmSt) : (s.setFirm f).unsent = s.unsent := rfl
@[simp] theorem setFirm_img (s : State) (f : FirmSt) : (s.setFirm f).img = s.img := rfl
@[simp] theorem setFirm_attn (s : State) (f : FirmSt) : (s.setFirm f).attn = s.attn := rfl
@[simp] theorem setFirm_sluice (s : State) (f : FirmSt) : (s.setFirm f).sluice = s.sluice := rfl
@[simp] theorem setFirm_host (s : State) (f : FirmSt) : (s.setFirm f).host = s.host := rfl
@[simp] theorem setFirm_mint (s : State) (f : FirmSt) : (s.setFirm f).mint = s.mint := rfl
@[simp] theorem setFirm_rel (s : State) (f : FirmSt) : (s.setFirm f).rel = s.rel := rfl
@[simp] theorem setFirm_power (s : State) (f : FirmSt) : (s.setFirm f).power = s.power := rfl

/-! Reading back. -/

theorem slot_setSlot_ne (s : State) (n m : Nat) (x : Slot) (h : m ≠ n) : (s.setSlot n x).slot m = s.slot m :=
  SMap.get_set_ne _ _ _ _ _ h

theorem slot_setSlot (s : State) (n : Nat) (x : Slot) (h : x ≠ {}) : (s.setSlot n x).slot n = x :=
  SMap.get_set_of_ne _ _ _ _ h

theorem link_setLink_ne (s : State) (l m : Nat) (x : Link) (h : m ≠ l) : (s.setLink l x).link m = s.link m :=
  SMap.get_set_ne _ _ _ _ _ h

theorem link_setLink (s : State) (l : Nat) (x : Link) (h : x ≠ {}) : (s.setLink l x).link l = x :=
  SMap.get_set_of_ne _ _ _ _ h

theorem conn_setConn_ne (s : State) (c m : Nat) (x : Conn) (h : m ≠ c) : (s.setConn c x).conn m = s.conn m :=
  SMap.get_set_ne _ _ _ _ _ h

theorem conn_setConn (s : State) (c : Nat) (x : Conn) (h : x ≠ {}) : (s.setConn c x).conn c = x :=
  SMap.get_set_of_ne _ _ _ _ h

theorem ctx_setCtx_ne (s : State) (c m : Nat) (x : CtxGate) (h : m ≠ c) : (s.setCtx c x).ctx m = s.ctx m :=
  SMap.get_set_ne _ _ _ _ _ h

theorem ctx_setCtx (s : State) (c : Nat) (x : CtxGate) (h : x ≠ {}) : (s.setCtx c x).ctx c = x :=
  SMap.get_set_of_ne _ _ _ _ h

theorem furrow_setFurrow_ne (s : State) (f m : Nat) (x : Furrow) (h : m ≠ f) :
    (s.setFurrow f x).furrow m = s.furrow m := SMap.get_set_ne _ _ _ _ _ h

theorem furrow_setFurrow (s : State) (f : Nat) (x : Furrow) (h : x ≠ {}) : (s.setFurrow f x).furrow f = x :=
  SMap.get_set_of_ne _ _ _ _ h

@[simp] theorem idleCore_setCore (s : State) (c : Nat) (k : Core) : (s.setCore c k).idleCore = s.idleCore := rfl

theorem core_setCore_ne (s : State) (c m : Nat) (k : Core) (h : m ≠ c) : (s.setCore c k).core m = s.core m :=
  SMap.get_set_ne _ _ _ _ _ h

theorem core_setCore (s : State) (c : Nat) (k : Core) (h : k ≠ s.idleCore) : (s.setCore c k).core c = k :=
  SMap.get_set_of_ne _ _ _ _ h

/-- A station that runs, waits or holds a lease is none that is not listed. -/
theorem ne_idleCore (s : State) (k : Core) (h : k.st = .run ∨ k.st = .wait ∨ k.lessee ≠ none) : k ≠ s.idleCore := by
  intro e
  rw [e, idleCore] at h
  split at h <;> simp_all

theorem ctr_count_ne (s : State) (c d : Ctr) (i j n : Nat) (h : d.key j ≠ c.key i) : (s.count c i n).ctr d j = s.ctr d j :=
  SMap.get_set_ne _ _ _ _ _ h

/-- A counter advances and saturates (R17). -/
theorem ctr_count (s : State) (c : Ctr) (i n : Nat) (h : SMap.wf 0 s.ctrs = true) :
    (s.count c i n).ctr c i = min ctrMax (s.ctr c i + n) := SMap.get_set_same _ _ _ _ h

/-- The value of a register reads back, and every other register is left alone. -/
theorem reg_setReg_ne (s : State) (r q : Reg) (i j : Nat) (w : Word) (h : q.key j ≠ r.key i) :
    (s.setReg r i w).reg q j = s.reg q j :=
  SMap.get_set_ne' _ _ _ _ _ _ h

theorem tick_next (s : State) : s.tick.fresh = s.fresh + 1 := rfl


end Sys2Proof.Machine.State
end

