-- ==== Sys2Proof/Laws/Sluice.lean ====
section
/-! SUPPORT. What one instruction of a customer station does. -/

namespace Sys2Proof.Machine.State

theorem core_setCore_run (s : State) (c : Nat) (k : Core) (h : k.st = .run) : (s.setCore c k).core c = k :=
  core_setCore s c k (ne_idleCore s k (Or.inl h))

/-- An effect that leaves the station running within the customer half: the station is written, nothing else. -/
theorem runEffect_ok (s : State) (c : Nat) (f : Effect) (held : Bool) (t : Core)
    (hf : f ((s.core c).word (s.core c).pc) (s.core c) = .ok t) (hst : t.st = .run) (hb : t.burst = none)
    (hpc : t.pc < 1024) : s.runEffect c f held = s.setCore c t := by
  have hn : ¬ (1024 ≤ t.pc) := by omega
  simp only [runEffect, hf, hst, afterInstr]
  simp [core_setCore_run s c t hst, hb, hst, hn, pastEnd]

/-- An effect that faults. -/
theorem runEffect_error (s : State) (c : Nat) (f : Effect) (held : Bool) (e : Nat)
    (hf : f ((s.core c).word (s.core c).pc) (s.core c) = .error e) :
    s.runEffect c f held = s.coreFault c e (s.core c).pc := by
  simp [runEffect, hf]

/-- A station that stands at the instruction runs its effect and takes one free value. -/
theorem instrHeld_stands (s : State) (c key : Nat) (f : Effect) (held : Bool) (h : Stands s c key) :
    s.instrHeld c key f held = (s.runEffect c f held).tick := by
  obtain ⟨h1, h2, h3, h4⟩ := h
  simp [instrHeld, h1, h2, h3, h4]

theorem instr_stands (s : State) (c key : Nat) (f : Effect) (h : Stands s c key) :
    s.instr c key f = (s.runEffect c f false).tick := instrHeld_stands s c key f false h

/-- A station that does not stand at the instruction is left alone. -/
theorem instrHeld_elsewhere (s : State) (c key : Nat) (f : Effect) (held : Bool) (h : ¬ Stands s c key) :
    s.instrHeld c key f held = s := by
  simp only [instrHeld]
  split
  · rename_i hc
    simp only [Bool.and_eq_true, Bool.not_eq_true', beq_iff_eq] at hc
    exact absurd ⟨hc.1.1.1, hc.1.1.2, hc.1.2, hc.2⟩ h
  · rfl

theorem instr_elsewhere (s : State) (c key : Nat) (f : Effect) (h : ¬ Stands s c key) : s.instr c key f = s :=
  instrHeld_elsewhere s c key f false h

theorem stands_run {s : State} {c key : Nat} (h : Stands s c key) : (s.core c).st = .run := by
  have := h.1; simp only [executing, Bool.and_eq_true, decide_eq_true_eq] at this; exact this.1.1.1

theorem stands_burst {s : State} {c key : Nat} (h : Stands s c key) : (s.core c).burst = none := by
  have := h.1; simp only [executing, Bool.and_eq_true, Option.isNone_iff_eq_none] at this; exact this.1.2

theorem setReg_st (k : Core) (i : Nat) (x : W32) : (k.setReg i x).st = k.st := by
  simp only [Core.setReg]; split <;> rfl
theorem setReg_burst (k : Core) (i : Nat) (x : W32) : (k.setReg i x).burst = k.burst := by
  simp only [Core.setReg]; split <;> rfl
theorem setReg_pc (k : Core) (i : Nat) (x : W32) : (k.setReg i x).pc = k.pc := by
  simp only [Core.setReg]; split <;> rfl

/-- Writing scratch changes nothing else of a station. -/
theorem setScr_only (k : Core) (a : Nat) (b : Bytes) : { k.setScr a b with scratch := k.scratch } = k := by
  induction b generalizing k a with
  | nil => rfl
  | cons x t ih =>
    have h := ih { k with scratch := SMap.set 0 k.scratch a x } (a + 1)
    simp only [Core.setScr]
    have h2 := congrArg (fun (q : Core) => { q with scratch := k.scratch }) h
    exact h2

theorem setScr_st (k : Core) (a : Nat) (b : Bytes) : (k.setScr a b).st = k.st := by
  have := congrArg Core.st (setScr_only k a b); exact this
theorem setScr_burst (k : Core) (a : Nat) (b : Bytes) : (k.setScr a b).burst = k.burst := by
  have := congrArg Core.burst (setScr_only k a b); exact this
theorem setScr_pc (k : Core) (a : Nat) (b : Bytes) : (k.setScr a b).pc = k.pc := by
  have := congrArg Core.pc (setScr_only k a b); exact this

end Sys2Proof.Machine.State
end

