-- ==== Sys2Proof/WellFormed.lean ====
section
/-! DEFINITION. Well-formed commands: every operand lies in the range the specification gives what it names. -/

namespace Sys2Proof

/-- A number of n bits. -/
def numOk (n x : Nat) : Bool := decide (x < 2 ^ n)
/-- Links (R307), furrows (R310), contexts (R20), connections (R321), slots (R290), job slots (R408). -/
def linkOk (l : Nat) : Bool := decide (l < 64)
def furrowOk (f : Nat) : Bool := decide (f < 8)
def ctxOk (c : Nat) : Bool := decide (c < 1024)
def connOk (c : Nat) : Bool := decide (c < 16384)
def slotOk (n : Nat) : Bool := decide (n < 262144)
def jobOk (n : Nat) : Bool := decide (n < 4096)
/-- Stacks, pseudo-channels, sluice cores and banks (R2, R179). -/
def stackOk (k : Nat) : Bool := decide (k < 20)
def pcOk (p : Nat) : Bool := decide (p < 1280)
def coreOk (c : Nat) : Bool := decide (c < 20480)
def bankOk (b : Nat) : Bool := decide (b < 40960)
/-- The lanes of a pipe (R77). -/
def laneOk (l : Nat) : Bool := decide (l < 2)
/-- Port dies, silt channels (R214), page numbers (R130), shadowed slices (R522). -/
def dieOk (d : Nat) : Bool := decide (d < 4)
def chanOk (c : Nat) : Bool := decide (c < 16)
def pageOk (p : Nat) : Bool := decide (p < 2 ^ 40)
def sliceOk (k : Nat) : Bool := decide (k < 8)
/-- Host ports, VFs by port * 1024 + number, and functions with the PF as number 0 (R367). -/
def portOk (p : Nat) : Bool := decide (p < 2)
def fnOk (v : Nat) : Bool := decide (v < 2048) && decide (v % 1024 ≤ 512)
def vfOk (v : Nat) : Bool := fnOk v && decide (1 ≤ v % 1024)
/-- SPDM session numbers (Table 17-6). -/
def sessionOk (x : Option Nat) : Bool := match x with | some n => numOk 32 n | none => true

/-- A carrier header within its field widths (Table 09-1). -/
def Hdr.ok (h : Hdr) : Bool :=
  numOk 2 h.gen && numOk 6 h.kind && numOk 10 h.ctx && numOk 14 h.flags && numOk 16 h.epoch && numOk 8 h.status &&
  numOk 8 h.spare && numOk 16 h.origin && numOk 48 h.seq && numOk 64 h.conv && numOk 8 h.layer && numOk 8 h.kvh &&
  numOk 24 h.offset && numOk 24 h.total
/-- A whole payload of the length its header gives (R273). -/
def fits (h : Hdr) (b : Bytes) : Bool := decide (b.length = h.total)
/-- A source. -/
def Src.ok (x : Src) : Bool := match x with | .conn c => connOk c | .aperture v => vfOk v
/-- A block of a link (R308). -/
def blockOk (b : Bytes) : Bool := decide (b.length = 272)
/-- Where a register access comes from. -/
def RegSpace.ok (x : RegSpace) : Bool := match x with | .pf p => portOk p | .vf v _ => vfOk v
/-- A group whose captures wait. -/
def CapGroup.ok (x : CapGroup) : Bool := match x with | .pgCfg k => stackOk k | .hgCtx c => ctxOk c

/-- A well-formed command. -/
def wellFormed (i : Instr) : Bool :=
  match i with
  | .dataFlit link block => linkOk link && blockOk block
  | .idleFlit link block => linkOk link && blockOk block
  | .hello link block => linkOk link && blockOk block
  | .nak link block => linkOk link && blockOk block
  | .credit link block => linkOk link && blockOk block
  | .ldrep link block => linkOk link && blockOk block
  | .ldack link block => linkOk link && blockOk block
  | .ackLimitExpiry link _ => linkOk link
  | .retryTimeExpiry link => linkOk link
  | .trainingComplete link _ inv => linkOk link && numOk 2 inv
  | .trainLimitExpiry link => linkOk link
  | .blockLock link _ _ => linkOk link
  | .badBlockRun link => linkOk link
  | .laneLoss link => linkOk link
  | .helloTimer link => linkOk link
  | .creditTimer link _ => linkOk link
  | .ldrepTimer link => linkOk link
  | .downFurrowDiscard furrow => furrowOk furrow
  | .eventReceive furrow code eseq _ => furrowOk furrow && numOk 8 code && numOk 16 eseq
  | .reasmLimitExpiry src _ origin seq => src.ok && numOk 16 origin && numOk 48 seq
  | .hgGrant ctx => ctxOk ctx
  | .accrualAdvance _ => true
  | .waitLimitExpiry ctx => ctxOk ctx
  | .gapLimitExpiry origin => numOk 16 origin
  | .attend slot => slotOk slot
  | .scoringRoundDone slot => slotOk slot
  | .stallLimitExpiry slot => slotOk slot
  | .pipeDescriptor pipe => pcOk pipe
  | .laneEmit pipe lane _ => pcOk pipe && laneOk lane
  | .pipeReadUe pipe lane _ => pcOk pipe && laneOk lane
  | .mergePartials slot => slotOk slot
  | .assayCompare slot => slotOk slot
  | .append slot => slotOk slot
  | .seal slot => slotOk slot
  | .hint slot => slotOk slot
  | .openConv slot => slotOk slot
  | .closeConv slot => slotOk slot
  | .promote slot => slotOk slot
  | .relayedResponse conn hdr body => connOk conn && hdr.ok && fits hdr body
  | .ownRequestResend _ => true
  | .responseSend slot => slotOk slot
  | .gateEntry furrow _ _ _ => furrowOk furrow
  | .rmaResponse conn hdr body => connOk conn && hdr.ok && fits hdr body
  | .rmaGapExpiry conn => connOk conn
  | .rmaTimeout conn => connOk conn
  | .mopen conn hdr body => connOk conn && hdr.ok && fits hdr body
  | .mrows conn hdr body => connOk conn && hdr.ok && fits hdr body
  | .mstateCommit conn hdr body => connOk conn && hdr.ok && fits hdr body
  | .mstateSeal conn hdr body => connOk conn && hdr.ok && fits hdr body
  | .mstateHint conn hdr body => connOk conn && hdr.ok && fits hdr body
  | .mstateClose conn hdr body => connOk conn && hdr.ok && fits hdr body
  | .mstateFreePage conn hdr body => connOk conn && hdr.ok && fits hdr body
  | .mstateReleaseCopy conn hdr body => connOk conn && hdr.ok && fits hdr body
  | .mpage conn hdr body => connOk conn && hdr.ok && fits hdr body
  | .code conn hdr body => connOk conn && hdr.ok && fits hdr body
  | .put conn hdr body => connOk conn && hdr.ok && fits hdr body
  | .lookup conn hdr body => connOk conn && hdr.ok && fits hdr body
  | .get conn hdr body => connOk conn && hdr.ok && fits hdr body
  | .ledger conn hdr body => connOk conn && hdr.ok && fits hdr body
  | .drainEpoch conn hdr body => connOk conn && hdr.ok && fits hdr body
  | .drainCtx conn hdr body => connOk conn && hdr.ok && fits hdr body
  | .markerReturn _ => true
  | .returnedMarker conn hdr body => connOk conn && hdr.ok && fits hdr body
  | .originOpen src hdr body => src.ok && hdr.ok && fits hdr body
  | .originClose src hdr body => src.ok && hdr.ok && fits hdr body
  | .activate conn hdr body => connOk conn && hdr.ok && fits hdr body
  | .firmwareTransfer _ _ _ _ => true
  | .aliasCertSigned _ => true
  | .scrubDue core _ _ => coreOk core
  | .refreshDue bank _ => bankOk bank
  | .refreshEnd bank _ => bankOk bank
  | .bankGrant core _ pipe _ => coreOk core && pcOk pipe
  | .ueRestore page => pageOk page
  | .restoreDone page _ => pageOk page
  | .metaRebuildDone pc _ => pcOk pc
  | .sinkStart pc => pcOk pc
  | .cellProgramDone chan _ _ _ _ => chanOk chan
  | .frameRelease page => pageOk page
  | .promotionDone chan _ _ => chanOk chan
  | .cellReadFail chan _ => chanOk chan
  | .channelDown chan => chanOk chan
  | .sealProgram page _ => pageOk page
  | .sumcopy page _ => pageOk page
  | .score slot _ => slotOk slot
  | .copyProgram page _ => pageOk page
  | .codeProgram page _ _ => pageOk page
  | .test core _ _ => coreOk core
  | .vendorQueueEmpty core _ => coreOk core
  | .acquire ctx _ => ctxOk ctx
  | .leaseRelease ctx _ => ctxOk ctx
  | .leaseZeroed core => coreOk core
  | .load ctx => ctxOk ctx
  | .run ctx => ctxOk ctx
  | .stop ctx => ctxOk ctx
  | .grant ctx => ctxOk ctx
  | .release ctx => ctxOk ctx
  | .deq ctx => ctxOk ctx
  | .clear ctx => ctxOk ctx
  | .reservedCommand ctx _ => ctxOk ctx
  | .add core => coreOk core
  | .sub core => coreOk core
  | .and core => coreOk core
  | .or core => coreOk core
  | .xor core => coreOk core
  | .shl core => coreOk core
  | .shr core => coreOk core
  | .sra core => coreOk core
  | .mul core => coreOk core
  | .slt core => coreOk core
  | .sltu core => coreOk core
  | .fadd core => coreOk core
  | .fmul core => coreOk core
  | .fmax core => coreOk core
  | .fmin core => coreOk core
  | .flt core => coreOk core
  | .cvtf core => coreOk core
  | .cvti core => coreOk core
  | .jr core => coreOk core
  | .addi core => coreOk core
  | .andi core => coreOk core
  | .ori core => coreOk core
  | .xori core => coreOk core
  | .shli core => coreOk core
  | .shri core => coreOk core
  | .lui core => coreOk core
  | .lds core => coreOk core
  | .sts core => coreOk core
  | .beq core => coreOk core
  | .bne core => coreOk core
  | .blt core => coreOk core
  | .bge core => coreOk core
  | .bltu core => coreOk core
  | .jal core => coreOk core
  | .bld core _ => coreOk core
  | .bst core _ => coreOk core
  | .burstEnd core => coreOk core
  | .vld core => coreOk core
  | .vst core => coreOk core
  | .vwid core => coreOk core
  | .vspl core => coreOk core
  | .vadd core => coreOk core
  | .vmul core => coreOk core
  | .vfma core => coreOk core
  | .vmax core => coreOk core
  | .vmin core => coreOk core
  | .vexp core => coreOk core
  | .vrsum core => coreOk core
  | .vrmax core => coreOk core
  | .vbnd core => coreOk core
  | .vcvt core => coreOk core
  | .vstn core => coreOk core
  | .vxor core => coreOk core
  | .vgfma core => coreOk core
  | .vsth core => coreOk core
  | .nop core => coreOk core
  | .halt core => coreOk core
  | .fence core => coreOk core
  | .view core => coreOk core
  | .krnd core _ => coreOk core
  | .illegal core => coreOk core
  | .debugHalt _ => true
  | .lcScrub _ _ => true
  | .shadowUe _ _ => true
  | .camRebuildDone _ => true
  | .apertureWrite vf _ _ _ => vfOk vf
  | .responseRingWrite vf => vfOk vf
  | .cqHead vf _ _ _ => vfOk vf
  | .rspHead vf _ _ => vfOk vf
  | .msixUnmask fn _ _ _ _ => fnOk fn
  | .windowRead vf _ _ len _ _ _ => vfOk vf && decide (len ≤ 4096)
  | .windowWrite vf _ _ data _ _ _ => vfOk vf && decide (data.length ≤ 4096)
  | .windowEffect _ _ => true
  | .hpVfRingCommit vf _ => vfOk vf
  | .flr vf => vfOk vf
  | .flrComplete vf => vfOk vf
  | .pfFlr port => portOk port
  | .perst port => portOk port
  | .portTrained port _ _ _ => portOk port
  | .ideFailure port _ => portOk port
  | .lockInterface vf _ => vfOk vf
  | .spdmRequest via session _ => sessionOk session && (match via with | .doe p => decide (p < 2) | _ => true)
  | .getMeasurements session _ _ => sessionOk session
  | .endSession session => decide (session < 2 ^ 32)
  | .heartbeatFailure session => decide (session < 2 ^ 32)
  | .jobInstall session slot _ _ => sessionOk session && jobOk slot
  | .jobRetire session slot => sessionOk session && jobOk slot
  | .connBind session conn slot => sessionOk session && connOk conn && jobOk slot
  | .connUnbind session conn => sessionOk session && connOk conn
  | .ctxClose session ctx => sessionOk session && ctxOk ctx
  | .ctxQuery session ctx => sessionOk session && ctxOk ctx
  | .closeDrained ctx => ctxOk ctx
  | .closeRevoked ctx => ctxOk ctx
  | .closeMarkersReturned ctx => ctxOk ctx
  | .drainLimitExpiry ctx => ctxOk ctx
  | .closeConnsClosed ctx => ctxOk ctx
  | .closeScrubDone ctx => ctxOk ctx
  | .ctxOpen session ctx => sessionOk session && ctxOk ctx
  | .cbData _ => true
  | .hgCtxCommit ctx => ctxOk ctx
  | .hgGateCommit furrow => furrowOk furrow
  | .wpCfgCommit stack => stackOk stack
  | .scCfgCommit stack => stackOk stack
  | .pgCfgCommit stack => stackOk stack
  | .stCfgCommit die => dieOk die
  | .fuCommit furrow => furrowOk furrow
  | .fuConnCommit _ => true
  | .connClosed conn => connOk conn
  | .rsShadowCommit slice => sliceOk slice
  | .captureEffect group => group.ok
  | .counterRead port _ _ => portOk port
  | .hgVfIrq ctx _ _ => ctxOk ctx
  | .rqOriginClr origin => numOk 16 origin
  | .registerWrite space _ _ _ => space.ok
  | .stagnationSample _ => true
  | .withdrawTimeout slot => slotOk slot
  | .portdieDown die _ => dieOk die
  | .stackDown stack _ => stackOk stack
  | .rsTake ctx => ctxOk ctx
  | .lostAdd ctx => ctxOk ctx
  | .lostRemove ctx => ctxOk ctx
  | .shadowCompare slice => sliceOk slice
  | .pwrFail _ => true
  | .modReset _ => true
  | .startupStepDone _ => true
  | .sensorReading _ => true
  | .managementDatagram port _ hdr _ _ => portOk port && decide (hdr.length = 16)
  | .discover port _ => portOk port
  | .eventAck eseq => numOk 32 eseq
  | .eventResend eseq => numOk 32 eseq
  | .registerAccess session _ _ _ => sessionOk session
  | .subscribe session _ => sessionOk session
  | .imageTransfer session _ _ _ => sessionOk session
  | .cellReadDone chan _ _ => chanOk chan
  | .hostLinkDown port _ => portOk port
  | .dynamicAddressAssignment _ _ => true
  | .startInterface vf => vfOk vf
  | .predictiveClear session => sessionOk session
  | .rebalance => true
  | .activationQuiesced => true
  | .activationEnd => true
  | .confirm => true
  | .healthLimitExpiry => true
  | .fallbackEnd => true
  | .arm => true
  | .disarm => true
  | .revert => true
  | .discard => true
  | .boot => true
  | .debugStep => true
  | .privilegedSearch mid => mid.all (fun k => decide (k < 2 ^ 20))
  | .hpRngCommit => true
  | .mtCtxCmdClose => true
  | .entropy => true
  | .cbLoad => true
  | .cbStore => true
  | .cbAmend => true
  | .cbClear => true
  | .hubRetCfgCommit => true
  | .hgCfgCommit => true
  | .pgCodeCommit => true
  | .lcCfgCommit => true
  | .rqCfgCommit => true
  | .rqEpochCommit => true
  | .lkCfgCommit => true
  | .mtCfgCommit => true
  | .rsCfgCommit => true
  | .brFwCommit => true
  | .pwCfgCommit => true
  | .creset => true
  | .withdraw => true
  | .computeReset => true
  | .resetCutoff => true
  | .computeResetQuiesced => true
  | .computeResetEnd => true
  | .withdrawOut => true
  | .takeoverDone => true
  | .rebuildDecode => true
  | .rebuildRecord => true
  | .predictiveSave => true
  | .overcurrent => true
  | .overvoltage => true
  | .inputRise => true
  | .undervoltage => true
  | .fabricReset => true
  | .service => true
  | .off => true
  | .hubPllLoss => true
  | .entropyRecovery => true
  | .signatureComplete => true
  | .managementPllLoss => true
  | .memoryInitRequest => true

end Sys2Proof
end

