-- ==== Sys2Proof/Tests/Slice0.lean ====
section
/-! SUPPORT. The tests of the model: the well-formedness checks, results the specification states, and for each statement
with hypotheses concrete states and operands that meet them. -/

namespace Sys2Proof.Tests

set_option maxRecDepth 20000
set_option Elab.async false

open Sys2Proof Sys2Proof.Machine Sys2Proof.Machine.State

/-! Well-formed commands. -/

/-- Each check refuses a command that breaks it. -/
def illFormed : List Instr :=
  [.dataFlit 64 (zeros 272), .dataFlit 0 [], .idleFlit 64 (zeros 272), .hello 0 (zeros 271), .nak 64 (zeros 272),
   .credit 64 (zeros 272), .ldrep 64 (zeros 272), .ldack 64 (zeros 272), .ackLimitExpiry 64 false, .trainingComplete 0 false 4,
   .downFurrowDiscard 8, .eventReceive 0 256 0 0, .eventReceive 0 0 65536 0, .reasmLimitExpiry (.conn 16384) .request 0 0,
   .reasmLimitExpiry (.aperture 0) .request 0 0, .reasmLimitExpiry (.conn 0) .request 65536 0,
   .reasmLimitExpiry (.conn 0) .request 0 (2 ^ 48), .hgGrant 1024, .gapLimitExpiry 65536, .attend 262144, .pipeDescriptor 1280,
   .laneEmit 0 2 {}, .mopen 16384 {} [], .mopen 0 { kind := 64 } [], .mopen 0 { total := 1 } [], .mopen 0 { gen := 4 } [],
   .mopen 0 { ctx := 1024 } [], .mopen 0 { flags := 2 ^ 14 } [], .mopen 0 { epoch := 65536 } [], .mopen 0 { status := 256 } []]
def illFormed2 : List Instr :=
  [.mopen 0 { spare := 256 } [], .mopen 0 { origin := 65536 } [], .mopen 0 { seq := 2 ^ 48 } [], .mopen 0 { conv := 2 ^ 64 } [],
   .mopen 0 { layer := 256 } [], .mopen 0 { kvh := 256 } [], .mopen 0 { offset := 2 ^ 24 } [], .mopen 0 { total := 2 ^ 24 } [],
   .scrubDue 20480 [] {}, .refreshDue 40960 false, .bankGrant 0 0 1280 0, .ueRestore (2 ^ 40), .channelDown 16, .acquire 1024 false,
   .add 20480, .flr 0, .flr 2049, .flr 513, .msixUnmask 2048 false false false none, .pfFlr 2, .endSession (2 ^ 32),
   .getMeasurements (some (2 ^ 32)) 1 false, .jobRetire none 4096, .wpCfgCommit 20, .stCfgCommit 4, .rsShadowCommit 8,
   .captureEffect (.pgCfg 20), .captureEffect (.hgCtx 1024), .registerWrite (.pf 2) 0 8 0, .registerWrite (.vf 0 false) 0 8 0,
   .managementDatagram 0 false [] 0 .none, .eventAck (2 ^ 32), .hgGateCommit 8, .fuCommit 8]

theorem wf_refuses_each : (illFormed ++ illFormed2).all (fun i => !wellFormed i) = true := by decide

/-- The greatest operands are well-formed. -/
theorem wf_accepts_bounds :
    ([.dataFlit 63 (zeros 272), .hgGrant 1023, .attend 262143, .pipeDescriptor 1279, .laneEmit 1279 1 {},
      .mopen 16383 { total := 1 } [0], .add 20479, .flr 512, .flr 1536, .jobRetire (some 0) 4095, .refreshDue 40959 true,
      .ueRestore (2 ^ 40 - 1)] : List Instr).all wellFormed = true := by decide

/-! Witnesses: states and operands that meet the hypotheses of the statements. -/

/-- A state with some registers set. -/
def withRegs (s : State) (l : List (Reg × Nat × Nat)) : State := l.foldl (fun q x => q.setReg x.1 x.2.1 (wordOf x.2.2)) s

theorem wit_StepRunsFrontCommand : ({ pending := [.arm, .boot] } : State).pending = .arm :: [.boot] := rfl

theorem wit_CountersSaturateAndClear : (({} : State).count .hgCntQuotaTok 3 (2 ^ 50)).countersOk = true ∧
    (({} : State).count .hgCntQuotaTok 3 (2 ^ 50)).ctr .hgCntQuotaTok 3 = 0xFFFFFFFFFFFF := by decide

/-- A customer station of core 5 that stands at a word, with the scalar registers given. -/
def standing (w pc : Nat) (regs : List (Nat × W32)) (more : Core → Core := id) : State :=
  { sluice := { cores := [(5, more { st := .run, prog := true, pc := pc, code := [(pc, BitVec.ofNat 32 w)], regs := regs })] } }

/-- The class and OP of every instruction of a customer station. -/
def opKeys : List Nat :=
  [0x00, 0x01, 0x02, 0x03, 0x04, 0x05, 0x06, 0x07, 0x08, 0x09, 0x0A, 0x10, 0x11, 0x12, 0x13, 0x14, 0x15, 0x16, 0x1F, 0x20, 0x22,
   0x23, 0x24, 0x25, 0x26, 0x2C, 0x2D, 0x2E, 0x40, 0x41, 0x42, 0x43, 0x44, 0x45, 0x60, 0x61, 0x80, 0x81, 0x82, 0x83, 0x84, 0x85,
   0x86, 0x87, 0x88, 0x89, 0x8A, 0x8B, 0x8C, 0x8D, 0x8E, 0x8F, 0x90, 0x91, 0xA0, 0xA1, 0xA2, 0xA3]

/-- The hypothesis of every statement about one instruction, at the first and the last word of the customer half. -/
theorem wit_SluiceInstructions : (∀ k ∈ opKeys, Stands (standing (k * 2 ^ 24) 0 []) 5 k) ∧
    ∀ k ∈ opKeys, Stands (standing (k * 2 ^ 24) 1023 []) 5 k := by unfold Stands; decide

theorem wit_StationFaultRecords : (standing 0 0 []).countersOk = true ∧
    SMap.wf (standing 0 0 []).idleCore (standing 0 0 []).sluice.cores = true := by decide

theorem wit_ScalarRegisterFile : SMap.wf 0 (({} : Core).setReg 15 7).regs = true ∧ (15 : Nat) ≠ 0 := by decide

/-- Taken and not taken, with targets 0, 1,023, 1,024 and below 0; JR to 1,023 and 1,024. -/
theorem wit_SluiceBranchesAndJumps :
    (let t (w pc : Nat) : Int := (pc : Int) + 1 + signedOf 16 (fieldOf w 15 0)
     t 0x4000FFFF 0 = 0 ∧ t 0x400003FE 0 = 1023 ∧ t 0x400003FF 0 = 1024 ∧ t 0x4000FFFE 0 = -1) ∧
    (((standing 0x40120000 0 [(1, 7)]).core 5).reg 1 == ((standing 0x40120000 0 [(1, 7)]).core 5).reg 2) = false ∧
    ((standing 0x1F030000 0 [(3, 1023)]).core 5).reg (raOf 0x1F030000) = 1023 ∧
    ((standing 0x1F030000 0 [(3, 1024)]).core 5).reg (raOf 0x1F030000) = 1024 := by decide

/-- Scratch ranges: what a station may read and write, and addresses out of line. -/
theorem wit_ScratchWordInstructions : Core.mayRead 0 4 = true ∧ Core.mayRead 0x3FFC 4 = true ∧ Core.mayRead 0x4000 4 = false ∧
    Core.mayRead 0x800 4 = false ∧ Core.mayWrite 0x2000 4 = true ∧ Core.mayWrite 0x1FFC 4 = false ∧ Core.mayWrite 0x4000 4 = false ∧
    Core.mayRead 0x3FFA 4 = true ∧ Core.mayWrite 0x2002 4 = true ∧ (0x3FFA : Nat) % 4 ≠ 0 ∧ (0x2002 : Nat) % 4 ≠ 0 := by decide
theorem wit_SluiceVectorScratch : Core.mayRead 0 32 = true ∧ Core.mayRead 16 32 = true ∧ Core.mayRead 0x3FF0 32 = false ∧
    Core.mayWrite 0x2000 32 = true ∧ Core.mayWrite 0x4000 32 = false ∧ Core.mayWrite 0x2003 16 = true ∧
    Core.mayWrite 0x2005 8 = true ∧ Core.mayWrite 0 8 = false ∧ Core.mayWrite 0x3FF8 16 = false ∧ Core.mayWrite 0x2010 32 = true ∧
    (0x2010 : Nat) % 32 ≠ 0 := by decide

/-- VIEW with each kind of capability, a reserved one, and the two words that are ILLEGAL. -/
theorem wit_SluiceControlInstructions :
    (∀ x ∈ [(0x00 : Byte), 0x01, 0x08, 0x0F], let s := standing 0xA3100000 0 [(1, 0x2000)] (fun k => { k with scratch := SMap.set 0 [] 0x2000 x })
      Stands s 5 0xA3 ∧ Core.mayRead ((s.core 5).reg 1).toNat 16 = true ∧ fieldOf (leNat ((s.core 5).scr 0x2000 1)) 3 0 = x.toNat % 16) ∧
    (({ grants := [(0, { valid := true })] } : Core).grant 0).valid = true ∧ (({} : Core).grant 0).valid = false ∧
    (let s := standing 0xA3100000 0 [(1, 0x4000)]; Stands s 5 0xA3 ∧ Core.mayRead ((s.core 5).reg 1).toNat 16 = false) ∧
    SMap.wf (standing 0xA1000000 0 []).idleCore (standing 0xA1000000 0 []).sluice.cores = true ∧
    executing ((standing 0xE0000000 0 []).core 5) = true ∧ (standing 0xE0000000 0 []).haltedAt 5 = false ∧ legalWord 0xE0000000 = false ∧
    opKey 0xA4000000 = 0xA4 ∧ (({ sluice := { cores := [(5, { vendor := true })] } } : State).core 5).vendor = true := by
  unfold Stands; decide

/-- Bursts that are allowed through each view, and each kind that is not. -/
theorem wit_SluiceBursts :
    (∀ u ∈ [[], [burstBank 5 { view := .dataC }]], let s0 := standing 0x60000000 0 []
     let s : State := { s0 with sluice := { s0.sluice with units := u } }
     Stands s 5 0x60 ∧ s.bankFree (burstBank 5 { view := .dataC }) = u.isEmpty ∧ s.nextReq (burstBank 5 { view := .dataC }) = none) ∧
    (let k : Core := { views := [(0, .dataC)] }
     BurstAllowed true k .dataC 0xBFC00 16 0x2000 ∧ BurstAllowed false k .dataC 0 1 0x3FC0) ∧
    (let k : Core := { grants := [(2, { valid := true })] }
     BurstAllowed true k (.grant 2) 0 1 0x2000 ∧ (k.grant 2).valid = true ∧ (k.grant 3).valid = false) := by
  unfold BurstAllowed Stands; decide

/-- Core 5, leased to context 0 whose key is 1, with a burst in hand. -/
def bursting (b : Burst) (st : StState) (pc : Nat) : State :=
  { store := { keys := [(0, 1)] }
    sluice := { cores := [(5, { lessee := some 0, st := st, prog := true, pc := pc, burst := some b })] } }
theorem wit_SluiceBursts_end :
    (let b : Burst := { load := true, view := .dataC, lines := 1 }
     let me : BankReq := { bank := burstBank 5 b, core := 5, vendor := false }
     ∀ w ∈ [[me], [{ me with core := 6 }, me]], ∀ r ∈ [[], [burstBank 5 b]],
     let s0 := bursting b .wait 0
     let s : State := { s0 with sluice := { s0.sluice with waiting := w, refreshing := r } }
     (s.core 5).burst = some b ∧ (s.core 5).st = .wait ∧ s.sluice.waiting.find? (fun q => q.core == 5) = some me ∧
     (s.nextReq (burstBank 5 b) = some me) = (w = [me]) ∧ (s.endUnit (burstBank 5 b)).bankFree (burstBank 5 b) = r.isEmpty) ∧
    (∀ l ∈ [true, false], ∀ pc ∈ [0, 1022, 1023], let b : Burst := { load := l, view := .dataC, lines := 1, granted := true }
      let s := bursting b .run pc
      (s.core 5).burst = some b ∧ b.granted = true ∧ (s.core 5).st = .run ∧ (s.core 5).pc = pc ∧
      s.store.key (s.burstSlot 5 b) ≠ 0 ∧ s.store.anyBad (gaddr (s.burstAddr 5 b).1 (s.burstAddr 5 b).2) 64 = false) ∧
    (∀ v ∈ [SView.dataC, .grant 2], let b : Burst := { load := true, view := v, lines := 1, granted := true }
     let s := bursting b .run 0
     let a := gaddr (s.burstAddr 5 b).1 (s.burstAddr 5 b).2
     let t : State := { s with store := s.store.markBad (a / 32) true }
     t.store.anyBad a 64 = true ∧ (t.core 5).burst = some b ∧ (t.core 5).st = .run ∧
     ({ s with store := {} } : State).store.key (s.burstSlot 5 b) = 0) := by decide

/-- A core leased to context 0, which selects it. -/
def leased (st : StState) (args : List (Reg × Nat × Nat)) (more : Core → Core := id) : State :=
  withRegs { sluice := { cores := [(0, more { lessee := some 0, st := st })] } } args
theorem wit_StationCommands :
    (∀ st ∈ [StState.ready, .fault], Accepts (leased st []) 0) ∧ SMap.wf 0 ((leased .ready []).core 0).code = true ∧
    (let s := leased .ready [(.scVfArg0, 1, 64 * 32 + 32)]
     Accepts s 0 ∧ (s.scArg0 0).fld 12 6 = 32 ∧ (s.scArg0 0).fld 5 0 = 32 ∧ SMap.wf {} (s.core 0).grants = true) ∧
    (∀ st ∈ [StState.run, .wait], let s := leased st []
      (s.core 0).lessee = some 0 ∧ (s.core 0).st = st ∧ (s.core 0).burst = none ∧ ¬ Accepts s 0) ∧
    ¬ Accepts {} 0 ∧ (8 : Nat) > 7 := by unfold Accepts; decide

/-- What a search finds, and where the row is. -/
def foundRow (f : Cam.Found) : Nat := match f with | .hit i _ => i | .miss => 262144 | .stall _ => 262145
/-- A CAM with one row that the search of a context's conversation finds. -/
def camOf (ctx kind conv data : Nat) : Cam := ({} : Cam).put 0x3F0 ⟨camKey ctx kind conv, allCare, data⟩
/-- GRANT: the lookup hits, misses, or stalls during a rebuild. -/
theorem wit_StationCommands_grant :
    (let r : Root := { conv := 7, ctx := 0, kvfmt := 1, layers := 1, kvhs := 1, headSet := 1 }
     let made := (({} : Store).makeRecord [0] r).getD ({}, 0)
     let s0 := leased .ready [(.scVfArg0, 1, 7), (.scVfArg1, 1, place 40 1)]
     let s : State := { s0 with store := made.1, cam := camOf 0 kindConv 7 (assoc made.2 0 false false false) }
     let f := s.camSearch (searchGrant 0) (camKey 0 kindConv (s.scArg0 0).toNat) 0 0
     let d := assoc made.2 0 false false false
     Accepts s 0 ∧ foundRow f.2 = 0x3F0 ∧ assocPend d = false ∧ assocClosing d = false ∧
     (f.1.store.root (assocLedger d)).any (fun r => r.headSet.testBit ((s.scArg1 0).fld 15 8) && decide ((s.scArg1 0).fld 7 0 < r.layers)) = true ∧
     0 < (s.scArg1 0).fld 47 40 ∧
     (∀ e ∈ [[], (f.1.store.areas.take 1).map (fun e => (e.1 / 2 ^ 25, e.1 % 2 ^ 25 * 64))],
      let u : State := { f.1 with store := { f.1.store with ledgerUe := e } }
      ((u.senseNeeded 0 false [assocLedger d]).store.metaUe ++ (u.senseNeeded 0 false [assocLedger d]).store.ledgerUe).any
        ((u.senseNeeded 0 false [assocLedger d]).needsWord 0 false [assocLedger d]) = !e.isEmpty) ∧
     (∀ p ∈ [5, Store.gapMark 0 0], let u := f.1.updStore (fun st => st.setStream (assocLedger d) 0 { length := 1, pages := [{ page := p, rows := 1 }] })
      (u.grantWalk (assocLedger d) 0 0 1).any Store.isGap = Store.isGap p)) ∧
    foundRow ((leased .ready []).camSearch (searchGrant 0) (camKey 0 kindConv 0) 0 0).2 = 262144 ∧
    (let s : State := { leased .ready [] with cam := { rebuild := true } }
     foundRow (s.camSearch (searchGrant 0) (camKey 0 kindConv 0) 0 0).2 = 262145) := by
  unfold Accepts; decide

/-- DEQ of a grant entry of one row: it runs at once, waits for the vendor half, or is refused. -/
theorem wit_StationCommands_deq :
    (∀ v ∈ [some [], none], let s0 := leased .ready [] (fun k => { k with grants := [(0, { valid := true, rows := 1, kvfmt := 1 })] })
      let s : State := { s0 with store := { keys := [(0, 1)] }, sluice := { s0.sluice with vload := v } }
      let g := (s.core 0).grant ((s.scArg0 0).fld 5 0)
      Accepts s 0 ∧ g.valid = true ∧ (s.scArg1 0).toNat % 1024 = 0 ∧
      (s.scArg1 0).toNat + 2 * g.rows * dimOf g.dim * (if (s.scArg0 0).bit 16 then 2 else 4) ≤ 0xC0000 ∧ (s.vendor 0).queue = [] ∧
      s.sluice.vload = v ∧ (s.sluice.vjobs.any (fun j => j.core == 0)) = false ∧ s.store.key 0 ≠ 0 ∧
      (s.vendor 0).turn = false ∧ (s.vendor 0).due = [] ∧ (s.vendor 0).saved = none ∧ s.vendorGets 0 {} = true ∧
      (s.sense 0 (rowRegions g.frame g.kvfmt g.dim g.rows)).2 = false) ∧
    (((leased .ready []).core 0).grant 0).valid = false ∧
    ((leased .ready [(.scVfArg1, 1, 1)]).scArg1 0).toNat % 1024 ≠ 0 ∧
    (let s := leased .ready [(.scVfArg1, 1, 0xC0000)]; 0xC0000 < (s.scArg1 0).toNat + 1 ∧ (s.scArg1 0).toNat % 1024 = 0) := by
  unfold Accepts; decide

/-- A sluice slice over pseudo-channel 0 of stack 0 for an OPEN context 0. -/
def sliced : State :=
  { img := { base := some [], slices := [(0, { valid := true, stackMask := 1, pcs := 1, rkCount := 1 })]
             ctxs := [(0, { slice := 0, enable := true, leases := 4 })] }
    ctxs := [(0, { state := .opn })]
    store := { keys := [(0, 1), (1024, 2)] } }
theorem wit_LeasesOfCores :
    (let s := withRegs sliced [(.scCfg, 0, 1), (.scLeaseQuota, 0, 1)]
     s.mayAcquire 0 (s.selectedCore 0) = true) ∧ ({} : State).mayAcquire 0 (({} : State).selectedCore 0) = false ∧
    State.isVf (vfOfCtx 0) = true ∧
    ((leased .ready []).core 0).lessee = some 0 ∧ (leased .ready []).tdiLocked (vfOfCtx 0) = false ∧
    (let s : State := { sluice := { cores := [(5, { zeroing := some 0 })] } }
     SMap.wf s.idleCore s.sluice.cores = true ∧ (s.core 5).zeroing.isSome = true ∧ s.coreMapped 5 = false) := by decide

/-- Refreshes with 0, 7 and 8 postponed, a bank in use, and a core the debug port may step. -/
theorem wit_BanksAndDebug :
    (∀ n ∈ [0, 7, 8], let s : State := { sluice := { postponed := SMap.set 0 [] 10 n } }
      s.bankExists 10 = true ∧ 10 ∉ s.sluice.refreshing ∧ 10 ∉ s.sluice.forced ∧
      let q := s.refreshCfg (10 / 2048)
      q.bankFree 10 = true ∧ SMap.get 0 q.sluice.postponed 10 = n ∧ q.countersOk = true) ∧
    (let s := bursting { load := true, view := .dataC, lines := 1, granted := true } .run 0
     s.bankExists 10 = true ∧ 10 ∉ s.sluice.refreshing ∧ 10 ∉ s.sluice.forced ∧ (s.refreshCfg 0).bankFree 10 = false) ∧
    (∀ n ∈ [0, 1, 8], let s : State := { sluice := { refreshing := [10], postponed := SMap.set 0 [] 10 n } }
     10 ∈ s.sluice.refreshing ∧ SMap.get 0 s.sluice.postponed 10 = n) ∧
    (∀ x ∈ [none, some { regs := [(1, 1)] }],
      let s : State := { sluice := { cores := [(5, { vendor := true })], vendors := [(5, { rev := 1, saved := x })] } }
      (s.core 5).vendor = true ∧ (s.vendor 5).queue = [] ∧ (s.vendor 5).saved = x ∧ ((s.vendor 5).saved.getD {}).spill = false ∧
      (s.sluice.vendors.all fun e => !e.2.turn) = true ∧ SMap.wf s.idleCore s.sluice.cores = true ∧
      SMap.wf {} s.sluice.vendors = true) ∧
    ({ img := { conf := true } } : State).img.conf = true ∧ (({} : State).img.conf = false ∧ ({} : State).debugged 0 = false) ∧
    (let s := withRegs (standing 0xA0000000 0 [] (fun k => { k with halted := true })) [(.scCfg, 0, 3), (.scDbgSel, 0, 5 * 2048)]
     s.debugCore = 5 ∧ s.debugged 5 = true ∧ s.haltedAt 5 = true ∧ s.img.conf = false ∧ SMap.wf s.idleCore s.sluice.cores = true ∧
     executing (s.core 5) = true ∧ legalWord ((s.core 5).word (s.core 5).pc) = true ∧
     (opKey ((s.core 5).word (s.core 5).pc)) = 0xA0) := by decide
theorem wit_BanksAndDebug_step : ((0xA0 : Nat), effNop) ∈ effects 0 := by simp [effects]

/-! Links, furrows, admission. -/

/-- Link 3 of furrow 0 in a state; furrow 0 reaches node 9. -/
def linked (k : Link) : State :=
  withRegs { links := [(3, k)] } [(.fuLinks, 0, 8), (.fuCfg, 0, 9 + 2 ^ 16 + 0x20 * 2 ^ 22 + 0x100 * 2 ^ 38 + 2 ^ 54)]
def active : Link := { state := .active, credit := 8, peer := 9, peerLink := 4 }
def waiting : Link := { active with replay := [{ fseq := 5, data := zeros 248 }], txAcked := 5, txNext := 6 }

theorem wit_LinkStatesAndFaults : (3 : Nat) < 64 ∧
    (∀ k ∈ [({ state := .phyTrain } : Link), { state := .lock }, active, { active with episode := true }],
      SMap.wf {} (linked k).links = true ∧ ((linked k).link 3) = k) := by decide
theorem wit_LinkStatesAndFaults_lock : (lockAt (zeros 8704) (zeros 8704)).isSome = true ∧ lockAt [] [] = none := by decide +kernel
theorem wit_LinkTimersSend :
    ((linked { state := .hello }).link 3).state = .hello ∧ ((linked waiting).link 3).replay ≠ [] ∧
    ((linked { active with nak := true }).link 3).nak = true ∧ ((linked waiting).link 3).episode = false ∧
    (let s := linked { active with ldrep := some (4, 7) }
     (s.link 3).ldrep = some (4, 7) ∧ s.furrowOf 3 = some 0 ∧ s.activeLinks 0 = 3 :: []) := by decide
/-- The blocks of a data flit of zeros, of a CTRL message, and one that cannot be corrected. -/
def dataBlock (fseq : Nat) : Bytes := Flit.block { ft := 1, fseq := fseq, data := zeros 248 }
def ctrlBlock (code : Nat) (fields : List Nat) : Bytes := Flit.block { ft := 2, data := ctrlData code fields }
def badBlock : Bytes := (List.range 272).map (fun i => BitVec.ofNat 8 (i * i))
theorem wit_FlitsOnALink_data :
    (let x := (rxBlock (dataBlock 0)).flit
     GoodFlit (dataBlock 0) ∧ x.ft = 1 ∧ x.fseq = ((linked active).link 3).rxNext ∧ x.data = zeros 248 ∧
     SMap.wf {} (linked active).links = true ∧ (linked active).undef = none ∧ ((linked active).link 3).state = .active ∧ ((linked active).link 3).nak = false ∧
     (linked active).furrowOf 3 = some 0 ∧ ((linked active).link 3).rest = [] ∧ (linked active).inFurrow 0 3 = true) ∧
    (let x := (rxBlock (dataBlock 4095)).flit; GoodFlit (dataBlock 4095) ∧ x.ft = 1 ∧ x.fseq ≠ ((linked active).link 3).rxNext) ∧
    (rxBlock badBlock).uncorrectable = true := by unfold GoodFlit; decide +kernel
theorem wit_FlitsOnALink_ack :
    let b := Flit.block { ft := 0, fack := 6, av := true }
    (rxBlock b).uncorrectable = false ∧ (rxBlock b).crcOk = true ∧ (rxBlock b).flit.av = true ∧
    ((linked waiting).link 3).state = .active ∧
    ((rxBlock b).flit.fack + 4096 - ((linked waiting).link 3).txAcked) % 4096 ≤ ((linked waiting).link 3).replay.length := by
  decide +kernel
theorem wit_FlitsOnALink_ctrl :
    (∀ x ∈ [(2, [3, 5]), (3, [3, 2047]), (4, [3, 9]), (5, [3])], GoodFlit (ctrlBlock x.1 x.2) ∧
      ctrlFields x.1 (rxBlock (ctrlBlock x.1 x.2)).flit = some x.2) ∧
    ((linked waiting).link 3).replay.dropWhile (fun r => r.fseq != 5) ≠ [] ∧ ((linked waiting).link 3).episode = false ∧
    (let s := linked { state := .hello }
     let y := [9, 0, 4, 1, 2, 8, 61, 32, 1, s.node, 3]
     let h := HelloMsg.ofFields y
     GoodFlit (ctrlBlock 1 y) ∧ ctrlFields 1 (rxBlock (ctrlBlock 1 y)).flit = some y ∧ (s.link 3).state = .hello ∧
     s.furrowOf 3 = some 0 ∧ h.node = s.rfld .fuCfg 0 15 0 ∧ h.gens % 2 = 1 ∧ h.lanes = 2 ∧ h.seen = true ∧ h.peerNode = s.node ∧
     h.peerLinkid = 3) := by unfold GoodFlit; decide +kernel
theorem wit_FurrowEventsAndGates :
    (let s := linked { state := .phyTrain }; SMap.wf {} s.furrows = true ∧ s.furrowState 0 = 0) ∧
    (let s := withRegs (linked active) [(.hgGateCfg, 0, 1 + 2 * 15)]
     s.rbit .hgGateCfg 0 0 = true ∧ s.rfld .hgGateCfg 0 4 1 = 15) ∧
    (let s : State := { furrows := [(0, { evtHeard := true, evtSeq := 65535 })] }
     s.countersOk = true ∧ (s.furrow 0).evtHeard = true ∧ (1 : Nat) ≠ ((s.furrow 0).evtSeq + 1) % 65536) := by decide

def asked : QReq := { hdr := { kind := kHint, conv := 7, origin := 3, seq := 1 }, body := [] }
theorem wit_AdmissionAndTime :
    (let s : State := { sliced with ctxs := [(0, { state := .opn, queue := [asked] })], slots := [(0, { state := .active })] }
     SMap.wf {} s.ctxs = true ∧ (s.captured .hgBktRate 0).isSome = false ∧ (s.ctx 0).queue = [asked] ∧
     s.eligible 0 asked = true ∧ s.freeSlotNo = some 1 ∧ s.nextTurn = some 0 ∧ s.ctxs.all (fun e => e.1 == 0) = true ∧ s.charge asked.hdr ≤ (s.ctx 0).deficit + 64 * s.rfld .hgCtxArb 0 7 0) ∧
    (let s : State := withRegs { sliced with ctxs := [(0, { state := .opn, queue := [asked], tokens := 0 })], hubUnits := 2 ^ 16 }
       [(.hgBktBurst, 0, 16), (.hgBktRate, 0, 1), (.hgCtxArb, 0, 1 + 2 ^ 10 + 2 ^ 11 + 2 ^ 34)]
     (s.ctx 0).queue = asked :: [] ∧ s.rbit .hgCtxArb 0 10 = true ∧ s.eligible 0 asked = false ∧
     asked.since + s.rfld .hgCtxArb 0 34 19 ≤ s.hubUnits) ∧
    (let s : State := { hubUnits := 9, origins := [{ node := 3 }]
                        slots := [(4, { state := .held, limit := 9, hdr := { kind := kHint, origin := 3, seq := 1 } })] }
     (s.lowestHeld 3).map (·.1) = some 1 ∧ (s.lowestHeld 3).any (fun e => decide (e.2.since + e.2.limit ≤ s.hubUnits)) = true ∧
     s.origin? 3 = some { node := 3 } ∧ ((1 : Nat) = ({ node := 3 } : Origin).next + 1) ∧ s.heldSlot 3 0 = none ∧ s.heldSlot 3 1 = some 4 ∧ s.queuedReq 3 0 = false ∧
     s.stage4Open = true) ∧
    (let e : Reasm := { src := .conn 0, cls := .request, hdr := { origin := 3, seq := 1 }, limit := 5 }
     let s : State := { hubUnits := 5, reasm := [e] }
     s.reasm.find? (fun e => e.src == .conn 0 && e.cls == .request && e.hdr.origin == 3 && e.hdr.seq == 1) = some e ∧
     e.since + e.limit ≤ s.hubUnits) := by decide

/-! Requests on a conversation. -/

/-- A conversation of context 0 with handle 7, one layer and one head. -/
def conv0 : Root := { conv := 7, ctx := 0, kvfmt := 1, dim := 0, layers := 1, kvhs := 1, headSet := 1 }
def conv0At : Nat := (((({} : Store).makeRecord [0] conv0).map (·.2)).getD 0)
def opened : State :=
  { sliced with store := (((sliced.store.makeRecord [0] conv0).map (·.1)).getD {})
                cam := ({} : Cam).put 0x3F0 ⟨camKey 0 kindConv 7, allCare, assoc conv0At 0 false false false⟩ }
/-- Slot 0 holds a request at its turn. -/
def asking (h : Hdr) (b : Bytes) : State :=
  { opened with slots := [(0, { state := .active, hdr := { h with conv := 7, total := b.length }, body := b })] }
/-- A request enters stage 6 with the record, nothing of it changed. -/
def goes (s : State) (kind : Nat) (f : Root → Nat → Bool) : Bool :=
  match s.enter 0 kind f with
  | .go q a r => q.store == s.store && a == conv0At && r.conv == 7
  | .stop _ => false
theorem wit_enter : goes (asking { kind := kSeal } (leBytes 8 1 ++ zeros 8)) kSeal (fun _ _ => false) = true := by decide

/-- Connection 1 to node 9 over furrow 0, OPEN, bound to context 0, with every right. -/
def joined (s : State) : State :=
  withRegs { s with conns := [(1, { state := .opn, rnext := 5 })], img := { s.img with
      routes := [(1, 10)], slices := [(0, { valid := true, stackMask := 1, pcs := 1, rkCount := 1, mirror := 9, furmask := 1 })] } }
    [(.fuConnCfg, 1, 1 + 16 + 32 + 15 * 2 ^ 17)]
/-- An APPEND of one row at position 0 of format 1, dimension 0. -/
def appending : State :=
  joined (asking { kind := kAppend } (leBytes 4 0 ++ zeros (appendLen 1 0 1 - 4)))
def goBool (s : State) (kind : Nat) (f : Root → Nat → Bool) (p : State → Root → Bool) : Bool :=
  match s.enter 0 kind f with
  | .go q a r => a == conv0At && p q r
  | .stop _ => false
def stagedOk (q : State) (r : Root) : Bool :=
  let x := q.slot 0
  let g : Staged := { root := conv0At, ix := 0, pos := 0, n := 1, tent := false }
  match stageRows 4 q r g (bodyRows (bodyOf x.hdr x.body) r.kvfmt r.dim 1) with
  | .ok (u, g') => ((u.beginWait 0 r.ctx).sendParts 0 r g' g'.parts).isSome
  | .error _ => false
theorem wit_RequestsOnConversations_append :
    goBool appending kAppend (ownStream (appending.slot 0).hdr) (fun q r => let x := q.slot 0
      numAt (bodyOf x.hdr x.body) 0 3 == 0 && byteAt (bodyOf x.hdr x.body) 3 + 1 == 1 &&
      !q.appendBad x.hdr r (q.store.stream conv0At 0) 0 1 && !q.needsAside r (q.store.stream conv0At 0) false 1 &&
      q.listStale [] == none && stagedOk q r) = true ∧ ({} : State).listStale [2 ^ 21 + 5] = some (2 ^ 21 + 5) ∧ ({} : State).listStale [5] = none := by decide
theorem wit_RequestsOnConversations_others :
    (let s := asking { kind := kSeal } (leBytes 8 1 ++ zeros 8)
     goBool s kSeal (fun r ix => ((streamSet (s.slot 0).hdr (bodyOf (s.slot 0).hdr (s.slot 0).body) r).getD []).contains ix)
       (fun q r => streamSet (s.slot 0).hdr (bodyOf (s.slot 0).hdr (s.slot 0).body) r == some [0] &&
         !(q.store.stream conv0At 0).openv && !r.group) = true) ∧
    (let s := asking { kind := kSeal } (leBytes 8 2 ++ zeros 8)
     goBool s kSeal (fun r ix => ((streamSet (s.slot 0).hdr (bodyOf (s.slot 0).hdr (s.slot 0).body) r).getD []).contains ix)
       (fun _ r => streamSet (s.slot 0).hdr (bodyOf (s.slot 0).hdr (s.slot 0).body) r == none) = true) ∧
    goBool (asking { kind := kHint } (leBytes 8 1 ++ zeros 8)) kHint (fun _ _ => false) (fun _ _ => true) = true ∧
    goBool (asking { kind := kCloseConv } []) kCloseConv (fun _ _ => true) (fun q _ => !q.attending conv0At) = true ∧
    (let s := asking { kind := kPromote } (leBytes 8 1 ++ zeros 8)
     goBool s kPromote (fun _ _ => false) (fun _ r => streamSet (s.slot 0).hdr (bodyOf (s.slot 0).hdr (s.slot 0).body) r == some [0]) =
       true) := by decide

/-- An OPEN_CONV of handle 9 at its turn, with the join and formats given. -/
def opening (w : Nat) : State :=
  { joined opened with slots := [(0, { state := .active, hdr := { kind := kOpenConv, conv := 9, total := 32 }, body := leBytes 4 w ++ leBytes 4 1 ++ zeros 24 })] }
theorem wit_RequestsCompleteOrWait :
    (({ slots := [(0, { waits := 1 })] } : State).slot 0).waits ≠ 0 ∧ (opening 4).atTurn 0 kOpenConv = true ∧
    ((opening 4).senseFor 0).metaStalls ((opening 4).slot 0) = false ∧ ((opening 4).senseFor 0).slot 0 = (opening 4).slot 0 ∧
    ((opening 4).senseFor 0).isLost 0 9 = false ∧
    ({ (opening 4) with rel := { lost := [{ ctx := 0, conv := 9, cause := 1 }] } } : State).isLost 0 9 = true ∧
    (opening 4).openCheck ((opening 4).slot 0).hdr (openReq ((opening 4).slot 0).body) = none ∧
    (openReq ((opening 4).slot 0).body).join = 0 ∧
    (opening 7).openCheck ((opening 7).slot 0).hdr (openReq ((opening 7).slot 0).body) = some stBadRange ∧
    (opening 5).openCheck ((opening 5).slot 0).hdr (openReq ((opening 5).slot 0).body) = none ∧
    (openReq ((opening 5).slot 0).body).join ≠ 0 ∧
    ((opening 5).findGroup 0 ((opening 5).slot 0).hdr (openReq ((opening 5).slot 0).body)).2 = .miss ∧
    (let s : State := { opening 5 with cam := { rebuild := true } }
     (s.findGroup 0 (s.slot 0).hdr (openReq (s.slot 0).body)).2 = .stall) := by decide

/-- A group with handle 0 whose only stream is closed, which an OPEN_CONV that joins by handle finds. -/
def grouped : State :=
  let s := opening 5
  { s with
    store := ((sliced.store.makeRecord [0] { conv0 with conv := 0, group := true }).map (fun x => x.1.updStream x.2 0 (fun d => { d with closed := true }))).getD {}
    cam := ({} : Cam).put 0x3F0 ⟨camKey 0 kindGroup 0, allCare, assoc conv0At 0 false false false⟩ }
theorem wit_RequestsCompleteOrWait_join :
    (let r := grouped.findGroup 0 (grouped.slot 0).hdr (openReq (grouped.slot 0).body)
     r.2 = .record conv0At ∧ r.1.joinCheck conv0At (openReq (grouped.slot 0).body) = none ∧
     ({ r.1 with store := r.1.store.updStream conv0At 0 (fun d => { d with closed := false }) } : State).joinCheck conv0At
       (openReq (grouped.slot 0).body) = some stBusy) := by decide

/-- The record of an OPEN_CONV, and whether its search, row, record and mirror write go as the statement asks. -/
def madeRoot (s u : State) : Root :=
  let x := s.slot 0
  let q := openReq x.body
  { conv := x.hdr.conv, ctx := x.hdr.ctx, group := x.hdr.flag flagGroup, kvfmt := q.kvfmt, dim := q.dim, layers := q.layers
    kvhs := q.kvhs, headSet := q.headSet, firstPage := q.firstPage, pageLimit := q.pageLimit, groupLedger := 0
    originNode := u.node }
def insertOk (s : State) : Bool :=
  let h := (s.slot 0).hdr
  let q := openReq (s.slot 0).body
  match s.camSearch (searchSlot 0) (reqKey h) 0 0 with
  | (u, .miss) =>
    let r := madeRoot s u
    match u.cam.freeRow u.ordRuns u.camTotal, u.store.makeRecord (u.ctxPcs h.ctx) r with
    | some i, some (st, a) =>
      match st.root a with
      | some y =>
        let e : CamEntry := ⟨reqKey h, allCare, assoc a (u.sliceOf h.ctx) true false false⟩
        let made : State := { u with
          store := (List.range (Store.nstreams r)).foldl (fun (t : Store) k => t.setStream a k
            { length := q.firstPage * tokensPerPage q.kvfmt, basepos := q.firstPage * tokensPerPage q.kvfmt }) st
          cam := u.cam.put i e }
        q.pats == [] && decide (y = { r with streamTab := y.streamTab }) &&
          ((made.count .lcCntInsert 0 1).mirrorSend r.ctx r.conv 0 0 { op := opMopen, grp := r.group }
            ((made.count .lcCntInsert 0 1).store.recordBytes a y) (.rows 0 0)).isSome
      | none => false
    | _, _ => false
  | _ => false
theorem wit_OpenConvMakesEntryAndRecord : insertOk (opening 4) = true ∧
    (let s : State := { slots := [(0, { state := .active, prog := .confirm stDone [] (.openConv 3) })] }
     (s.slot 0).prog = .confirm stDone [] (.openConv 3) ∧ (s.slot 0).failed = false) := by decide +kernel


/-! ATTEND, pipes and merges. -/

/-- The conversation with page 5 of one row, at frame 16 of pseudo-channel 0. -/
def paged (e : PEntry) (f : Frame) (s : State) : State :=
  { s with store := { (s.store.setStream conv0At 0 { length := 1, pages := [{ page := 5, rows := 1, sealed := true }] }) with
      pmap := [(5, e)], frames := [(16, f)] } }
def sealedFrame : Frame := { pstate := .sealed, kvfmt := 1, page := 5, rows := 1, conv := 7 }
def sealedPage (s : State) : State := paged { tier := .near, frame := 16 } sealedFrame s
def attending0 (w : Nat) (kv : Nat) : State :=
  let s := sealedPage (asking { kind := kAttend, kvh := kv } (leBytes 4 w ++ leBytes 4 0x3F800000 ++ zeros 24 ++ zeros 128))
  s
def attOk (s : State) (p : State → Root → Bool) : Bool := goBool s kAttend (fun _ _ => false) p
/-- What an ATTEND must hold before its snapshot: a head, a format, a length. -/
def attHeld (q : State) (r : Root) : Bool :=
  let x := q.slot 0; decide (x.hdr.kvh < 32) && r.headSet.testBit x.hdr.kvh && decide (x.hdr.layer < r.layers)
def attSized (q : State) (r : Root) : Bool :=
  let y := q.attReq 0
  decide (ownTotal (q.slot 0).hdr = 32 + y.g * dimOf r.dim * Weir.qWidth y.qfmt) && decide (y.sinks ≤ 4096) && decide (y.topk ≤ 4096)
def attSnap (q : State) : List AttPage := (q.store.allPages conv0At 0).map (fun e => q.snapPage (q.attReq 0) (q.slot 0).snaplen e.2)
def attGaps (q : State) : Bool := (attSnap q).any (fun p => Store.isGap p.page && decide (0 < p.visible))
theorem wit_AttendTakesItsSnapshot :
    attOk (attending0 0 0) (fun q r => attHeld q r && Weir.formatOk (q.attReq 0).qfmt r.kvfmt && attSized q r && !attGaps q &&
      !(attSnap q).any (fun p => decide (0 < p.visible) && !q.store.valid p.page)) = true ∧
    attOk (attending0 0 1) (fun q r => !attHeld q r) = true ∧
    attOk (attending0 (2 ^ 28) 0) (fun q r => attHeld q r && !Weir.formatOk (q.attReq 0).qfmt r.kvfmt) = true ∧
    attOk (attending0 (2 ^ 24) 0) (fun q r => attHeld q r && Weir.formatOk (q.attReq 0).qfmt r.kvfmt && !attSized q r) = true ∧
    (let s := attending0 0 0
     let g : State := { s with store := s.store.setStream conv0At 0 { length := 1, pages := [{ page := Store.gapMark 0 0, rows := 1 }] } }
     attOk g (fun q r => attHeld q r && Weir.formatOk (q.attReq 0).qfmt r.kvfmt && attSized q r && attGaps q) = true) ∧
    (let s := attending0 0 0
     let g : State := { s with store := { s.store with pmap := [] } }
     attOk g (fun q r => attHeld q r && Weir.formatOk (q.attReq 0).qfmt r.kvfmt && attSized q r && !attGaps q &&
       ((attSnap q).find? (fun p => decide (0 < p.visible) && !q.store.valid p.page)).isSome) = true) := by decide +kernel

/-- Slot 0 holds an ATTEND at some stage. -/
def inAttend (a : Att) : State :=
  let s := attending0 0 0
  { s with slots := [(0, { s.slot 0 with prog := .attend a })] }
def page5 : AttPage := { page := 5, rows := 1, visible := 1 }
/-- The vendor station of core 0 is at a command, with the vendor halves loaded. -/
def stationAt (j : VJob) (s : State) : State :=
  { s with sluice := { s.sluice with vload := some [], vendors := [(0, { st := .run, queue := [j] })] } }
theorem wit_AttendScoresAndSelects :
    (∀ ue ∈ [false, true], let a : Att := { root := conv0At, round := 16, snap := [page5], turn := [5] }
     let j : VJob := { prog := .score, slot := some 0, page := 5 }
     let s0 := stationAt j (inAttend a)
     let s : State := { s0 with store := if ue then s0.store.markBad (gaddr 0 (stubAddr 16 + 0x100) / 32) true else s0.store }
     s.att? 0 = some a ∧ a.stage = .scoring ∧ a.turn = [5] ∧ s.restore? 5 = none ∧ s.scoreJob 0 5 = some j ∧ j.page = 5 ∧
     (s.sense (pagePc 5) [(s.store.summaryAddr 5 (s.attRoot a).dim, summaryBytes (s.attRoot a).dim)]).2 = ue ∧
     Weir.queryOk (s.attReq 0) (dimOf (s.attRoot a).dim) = true ∧ Weir.sigmaOk (s.attReq 0).sigma = true ∧
     (s.vendor 0).queue = [j] ∧ s.sluice.vjobs.any (fun x => x.core == 0) = false ∧ (s.core 0).burst = none) ∧
    (let a : Att := { root := conv0At, round := 16, snap := [page5] }
     ((inAttend a).attReq 0).topk = 0 ∧ (unpinned a).length = 1) ∧
    (let a : Att := { root := conv0At, round := 16, snap := [{ page5 with bounds := [0] }], turn := [5] }
     (inAttend a).att? 0 = some a ∧ a.turn ≠ [] ∧ a.turn.all (fun p => a.snap.any (fun x => x.page == p && scored x)) = true ∧
     (unpinned a).all scored = true ∧ ((inAttend a).raTurn 0).att? 0 = some a) ∧
    (let a : Att := { root := conv0At, round := 1, snap := [{ page5 with bounds := [0] }, { page5 with page := 6 }], turn := [5] }
     a.turn.all (fun p => a.snap.any (fun x => x.page == p && scored x)) = true ∧ (unpinned a).all scored = false ∧
     a.raEn = false ∧ ((inAttend a).raTurn 0).att? 0 = some a) ∧
    (∀ p ∈ [Prog.promote [5], .attend { root := conv0At, stage := .silt, chosen := [5] }],
     let s : State := { hubUnits := 9, store := { pmap := [(5, { tier := .silt })] }
                        slots := [(0, { state := .active, stalled := true, limit := 9, prog := p })] }
     (s.slot 0).state = .active ∧ (s.slot 0).stalled = true ∧ (s.slot 0).stall + (s.slot 0).limit ≤ s.hubUnits ∧
     s.siltOf [5] = 5 :: [] ∧ (s.slot 0).prog = p) := by decide +kernel
theorem wit_AttendScoresAndSelects_station :
    let s := stationAt { prog := .score, slot := some 0, page := 5 } (inAttend { root := conv0At })
    s.sluice.vendors.all (fun e => !e.2.turn) = true ∧ s.vendorGets 0 {} = true ∧ (s.vendor 0).due = [] ∧ (s.core 0).pc < 1024 ∧
    ({ s with sluice := { s.sluice with units := [vendorBank 0 {}] } } : State).vendorGets 0 {} = false := by decide +kernel
theorem wit_AttendScoresAndSelects_topk :
    let s0 := sealedPage (asking { kind := kAttend } (leBytes 4 0 ++ leBytes 4 0x3F800000 ++ zeros 8 ++ leBytes 4 2 ++ zeros 12 ++ zeros 128))
    let a : Att := { root := conv0At, round := 16, snap := [page5] }
    (s0.attReq 0).topk ≠ 0 ∧ (unpinned a).length ≤ (s0.attReq 0).topk := by decide

/-- A descriptor of one page entry for slot 7: PART, FIRST and LAST, GEN8 of the entry, and the KVFMT. -/
def desc (part : Nat) (first last : Bool) (gen8 kv : Nat) : Bytes :=
  leBytes 4 (7 + place 18 part + place 28 (bnat first) + place 29 (bnat last)) ++ leBytes 4 (place 10 kv) ++ zeros 16 ++
  leBytes 4 1 ++ zeros 36 ++ leBytes 8 (16 + place 40 1 + place 48 gen8) ++ zeros 128
theorem wit_PipesTakeAndEmit :
    descFieldsOk (desc 0 true true 0 1) = true ∧ descFirst (desc 0 true true 0 1) = true ∧ descFieldsOk (desc 0 true true 0 7) = false ∧
    ({ queue := [desc 0 true true 0 1] } : Pipe).lanes.findIdx? (·.isNone) = some 0 ∧
    ({ lanes := [some {}, some {}] } : Pipe).lanes.findIdx? (·.isNone) = none ∧
    descFirst (desc 1 false true 0 1) = false ∧ laneOf ({} : Pipe) 7 = none ∧
    (let l : Lane := { slot := 7, part := 0, descs := [desc 0 true false 0 1] }
     laneOf { lanes := [some l, none] } 7 = some (0, l) ∧ fieldOf (numAt (desc 1 false true 0 1) 0 4) 27 18 = (l.part + 1) % 1024 ∧
     descShape (desc 1 false true 0 1) = descShape (l.descs.headD []) ∧
     fieldOf (numAt (desc 2 false true 0 1) 0 4) 27 18 ≠ (l.part + 1) % 1024) ∧
    (∀ g ∈ [0, 1], ∀ ue ∈ [false, true], let l : Lane := { slot := 7, descs := [desc 0 true true g 1], last := true }
      let s0 := sealedPage opened
      let s1 : State := { s0 with attn := { pipes := [(0, { lanes := [some l, none] })] } }
      let s : State := { s1 with store := if ue then s1.store.markBad (gaddr 0 (frameAddr 16) / 32) true else s1.store }
      getAt none (s.pipe 0).lanes 0 = some l ∧ l.last = true ∧ l.descs.flatMap descEntries = [(16, 0, 1, g)] ∧
      ((s.store.frame 0 16).gen % 256 != g) = (g == 1) ∧ (s.sense 0 (rowRegions 16 1 0 1)).2 = ue) := by decide +kernel
theorem wit_PipesTakeAndEmit_chain : activeChain { stage := .pipes, chains := [{ sent := 1 }] } 0 = some 0 ∧
    (inAttend { stage := .pipes, chains := [{ sent := 1 }] }).att? 0 = some { stage := .pipes, chains := [{ sent := 1 }] } := by decide

theorem wit_MergeAndAssay :
    (∀ a ∈ ([{ stage := .pipes }, { stage := .pipes, assay := true }] : List Att),
      (inAttend a).att? 0 = some a ∧ a.stage = .pipes ∧ allEmitted a 0 = true) ∧
    (let a : Att := { stage := .assay }; (inAttend a).att? 0 = some a ∧ allEmitted a 1 = true) := by decide

/-! Remote memory. -/

/-- A body that starts with a descriptor. -/
def rmaBody (d : RmaDesc) (rest : Bytes) : Bytes := d.toBytes ++ rest
/-- The conversation as a partner's copy, reached over connection 1. -/
def copied : State :=
  let s := joined (sealedPage opened)
  { s with cam := ({} : Cam).put 0x3F0 ⟨camKey 0 kindMconv 7, allCare, assoc conv0At 0 false false false⟩ }
def mirrorHdr (kind seq : Nat) : Hdr := { kind := kind, conv := 7, flags := 8, seq := seq }

theorem wit_RmaRequestsInOrder :
    ((rmaCommands 1 (mirrorHdr kRmaWrite 5) (rmaBody { op := opMopen } [])).length = 14 ∧
     [opMopen, opMrows, opMstate, opMpage, opCode, opPut].all (fun o =>
       isOp (mirrorHdr kRmaWrite 5) (rmaBody { op := o, arg := 4 } []) kRmaWrite o (if o = opMstate then some 4 else none)) = true ∧
     [opLookup, opGet, opLedger].all (fun o => isOp (mirrorHdr kRmaRead 5) (rmaBody { op := o } []) kRmaRead o none) = true) ∧
    (copied.conn 1).state = .opn ∧ copied.rel.svc = .start ∧ (copied.conn 1).rnext = 5 ∧ (copied.conn 1).window = [] ∧
    (copied.conn 1).held = [] ∧ (copied.conn 1).waiting = [] ∧
    (let h := mirrorHdr kRmaWrite 5
     let d : RmaDesc := { op := opMstate, arg := 3, form := formStream }
     let kept : State := copied.setConn 1 { copied.conn 1 with held := [{ hdr := h, body := rmaBody d [] }] }
     (kept.rmaWaits 1 h d).2 = false ∧ (({ kept with store := { kept.store with metaUe := [(0, 0)] } } : State).rmaWaits 1 h
       { d with op := opMrows, form := formNew }).2 = true) ∧ (5 : Nat) ≤ 5 + 1024 ∧ (1028 : Nat) < 5 + 1024 ∧ (5 : Nat) + 1024 ≤ 1029 ∧
    (let s : State := { conns := [(0, { state := .opn, rnext := 1030, window := [{ seq := 1029, kind := kRmaWrite }] })] }
     (s.conn 0).rnext ≤ 6 + 1024 ∧ 5 + 1024 < (s.conn 0).rnext ∧
     (s.conn 0).window.find? (fun e => e.seq == 1029) = some { seq := 1029, kind := kRmaWrite }) ∧
    ({ conns := [(0, { held := [{ hdr := mirrorHdr kRmaWrite 6 }] })] } : State).conns.any
      (fun e => e.2.held.any (fun x => x.hdr.seq == 6)) = true := by decide

/-- The copy with a word of its page 5 uncorrectable, and with page 5 held aside. -/
def copiedBad : State := { copied with store := copied.store.markBad (gaddr 0 (frameAddr 16) / 32) true }
def copiedAside : State := { copied with store := { copied.store with asides := [(conv0At, 0, 5)] } }
theorem wit_RmaOperationsServe_lookup :
    (let d : RmaDesc := { op := opLookup, form := formStream }
     copied.hasRight 1 (mirrorHdr kRmaRead 5) d = true ∧ (copied.targetRecord 1 (mirrorHdr kRmaRead 5) d).map (·.1) = some conv0At ∧
     ((copied.targetRecord 1 (mirrorHdr kRmaRead 5) d).bind (fun x => targetStream x.2 (mirrorHdr kRmaRead 5))) = some 0) ∧
    (pageHolding (copied.store.stream conv0At 0) 64 0).map (·.page) = some 5 ∧ Store.isGap 5 = false ∧
    copied.asideAt conv0At 0 0 = none ∧ copiedAside.asideAt conv0At 0 0 = some 5 ∧
    opened.hasRight 1 (mirrorHdr kRmaWrite 5) { op := opCode } = false := by decide +kernel
def getRef : RmaDesc := { op := opGet, form := formRef, page := 5 }
theorem wit_RmaOperationsServe_get : RmaDesc.ofBytes (rmaBody getRef []) = getRef ∧ copied.refHolds getRef = true ∧
    copied.refHolds { getRef with gen := 1 } = false ∧ copiedBad.refHolds getRef = true := by decide +kernel
theorem wit_RmaOperationsServe_sensed : ((copied.anyHeader 5).conv == 7 && !(copied.store.pent 5).tier == .silt &&
    !(copied.sensePage 5).2 && !(copied.senseCopy 5).2 && (copiedBad.sensePage 5).2 && (copiedBad.senseCopy 5).2) = true := by
  decide +kernel
def refPage (m : RefMeets) : Nat := match m with | .page ix => ix | .stale => 9 | .bad => 8
theorem wit_RmaOperationsServe_refs :
    refPage (copied.refMeets conv0At conv0 getRef) = 0 ∧ refPage (copied.refMeets conv0At conv0 { getRef with gen := 1 }) = 9 ∧
    (let s : State := { copied with store := copied.store.setStream conv0At 0 {} }; refPage (s.refMeets conv0At conv0 getRef) = 8) ∧
    formOk (mirrorHdr kRmaRead 5) getRef = true ∧ formOk (mirrorHdr kRmaRead 5) { op := opLookup, form := formStream } = true ∧
    formOk (mirrorHdr kRmaRead 5) { op := opLookup, form := formRef } = false ∧
    (copied.connCtx 1).any (fun x => decide ((copied.ctx x).state ≠ .opn)) = false ∧
    (let s : State := { copied with ctxs := [] }; (s.connCtx 1).any (fun x => decide ((s.ctx x).state ≠ .opn)) = true) ∧
    copied.store.valid 5 = true ∧ copied.store.inDram 5 = true ∧ (copied.parityNear 5).isSome = true ∧
    copied.rowsFail 5 1 0 1 1 = false := by decide +kernel
theorem wit_RmaOperationsServe_silt : ((paged { tier := .silt } {} copied).refHolds { getRef with insilt := true } &&
    decide (((paged { tier := .silt } {} copied).store.pent 5).tier = .silt)) = true := by decide +kernel
theorem wit_RmaOperationsServe_writes :
    fieldOf (numAt (leBytes 4 1 ++ zeros 4) 0 4) 23 0 = (copied.store.header 5).firstpos + (copied.store.header 5).rows ∧
    (copied.store.header 5).rows + 1 ≤ tokensPerPage 1 ∧
    (leBytes 4 1 ++ zeros (appendLen 1 0 1 - 4)).length = appendLen 1 0 1 ∧
    fieldOf (numAt (leBytes 4 2 ++ zeros 4) 0 4) 23 0 ≠ (copied.store.header 5).firstpos + (copied.store.header 5).rows ∧
    copied.rowOf kindMconv 0 7 = some 0x3F0 ∧ (zeros (0x4000 + 0x7C0)).length = extentBytes false + 1 * 0x7C0 ∧
    (match copied.targetRecord 1 (mirrorHdr kRmaWrite 5) { op := opMstate, form := formRef, page := 5 } with
     | some (a, r) => copied.streamListing a r 5 == some 0 && copied.asideOf a 0 == none
     | none => false) = true := by decide +kernel

/-- Data node 9 of a coding set with a live group of key 0, whose P page is page 6. -/
def coder : State :=
  let s := joined opened
  let g : CodeGroup := { live := true, index := 9, parity := 6, members := List.replicate 8 {} }
  let st : Store := { s.store with groups := [(groupKey 0 0, g)], pmap := [(6, { tier := .near, frame := 18 })]
                                   frames := [(18, { pstate := .parity, page := 6 })] }
  { s with img := { s.img with slices := [(0, { valid := true, coded := true, cidx := 9, stackMask := 1, pcs := 1, rkCount := 1 })] }
           store := st }
theorem wit_RmaOperationsServe_code :
    let g := coder.store.group (groupKey 0 0)
    coder.hasRight 1 { kind := kRmaWrite } { op := opCode } = true ∧ coder.connCtx 1 = some 0 ∧
    (coder.sliceRec (coder.sliceOf 0)).coded = true ∧ (coder.sliceRec (coder.sliceOf 0)).cidx = 9 ∧
    g.live = true ∧ g.members.length = 8 ∧ g.index = 9 ∧ g.wide = false ∧ (getAt {} g.members 7 : Member).filled = false ∧
    (getAt {} g.members 7 : Member).declared = false ∧ coder.store.closed.contains (groupKey 0 0) = false ∧
    formOk { kind := kRmaWrite } { op := opCode } = true ∧ (coder.store.pent g.parity).tier = .near ∧
    (coder.sensePage g.parity).2 = false := by decide +kernel

theorem wit_RmaAnswersAndLimits :
    ({ rel := { svc := .out } } : State).rel.svc = .out ∧ classOf (kRmaRead + 0x20) = .rmaResponse ∧ classOf (kRmaWrite + 0x20) = .rmaResponse ∧
    (let o : RmaOut := { seq := 3 }
     ({ conns := [(0, { state := .opn, outs := [o] })] } : State).conns.all (fun e =>
       e.2.outs.find? (fun x => x.seq == 3) == some o && e.2.outs.all (fun x => x.seq != 4)) = true) ∧
    (let s : State := { hubUnits := 2 ^ 17, conns := [(0, { state := .opn, rnext := 1, held := [{ hdr := mirrorHdr kRmaRead 2 }],
                                                               outs := [{ seq := 3 }] })] }
     (s.conn 0).held.any (fun x => x.hdr.seq == (s.conn 0).rnext) = false ∧
     (s.conn 0).held.any (fun x => decide (x.since + s.e2e (s.connFurrow 0) ≤ s.hubUnits)) = true ∧
     (s.conn 0).outs.any (fun o => decide (o.since + s.e2e (s.connFurrow 0) ≤ s.hubUnits)) = true) ∧
    (SMap.wf {} copied.conns = true ∧ (copied.conn 1).state = .opn ∧ (copied.conn 1).outs = [] ∧ copied.rel.shadows = []) := by
  decide

def marker (t a : Nat) : Bytes := leBytes 8 t ++ leBytes 8 a
def markHdr (o : Nat) : Hdr := { kind := kMarker, total := 16, origin := o }
theorem wit_MarkersHeldAndReturned :
    [mDrainEpoch, mDrainCtx, mActivate, mOriginOpen, mOriginClose].all (fun t =>
      markerOk (markHdr 3) (marker t 1) && markerType (marker t 1) == t) = true ∧
    (let s : State := { (copied) with rel := { svc := .service }, firm := { st := .armed, armed := 1 } }
     (s.conn 1).state = .opn ∧ s.rfld .fuCtrl (s.connFurrow 1) 13 0 = 0 ∧ s.firm.st = .armed ∧ markerArg (marker mActivate 1) = s.firm.armed ∧
     s.rel.cr = .none ∧ s.rel.svc = .service) ∧
    (let m : HeldMarker := { hdr := markHdr 3, body := marker mDrainEpoch 0 }
     let s : State := { held := [m, { m with waits := [(3, 1)] }], slots := [(0, { state := .held, hdr := { origin := 3, seq := 1 } })] }
     s.held[0]? = some m ∧ s.markerReady m = true ∧ s.markerReady { m with waits := [(3, 1)] } = false) ∧
    (let s : State := { copied with sentMarkers := [{ conn := 1, furrow := 0, mtype := mDrainEpoch, arg := 1 }], img := { copied.img with epoch := 1, drain := 1, prevv := true } }
     s.sentMarkers.any (fun m => m.furrow == s.connFurrow 1 && m.mtype == mDrainEpoch && m.arg == 1) = true ∧ 1 % 65536 = s.img.epoch ∧
     s.img.drain = 2 ^ s.connFurrow 1 ∧
     s.img.prevv = true) ∧
    copied.origin? 3 = none ∧ copied.origins.length < 2048 ∧ copied.originBusy 3 = false ∧
    (let s : State := { origins := [{ node := 3 }], slots := [(0, { state := .held, hdr := { origin := 3 } })] }
     s.originBusy 3 = true ∧ (s.origin? 3).isSome = true) ∧
    (let s : State := { copied with rel := { svc := .out } }; (s.conn 1).state = .opn ∧ s.rel.svc = .out) := by decide

/-! Silt, vendor programs, scrub and CAM. -/

/-- A silt channel 0 with one job in progress. -/
def siltJob (j : ChanJob) (e : PEntry) : State :=
  paged e sealedFrame { opened with store := { opened.store with chans := [(0, { queue := [j] })] } }
theorem wit_SiltMovesPages :
    (opened.pagesIn 1279 = [] ∧ opened.store.relieving.contains 1279 = false ∧ opened.lowWm 1279 ≤ opened.store.freeFrames 1279 ∧
     opened.frameWanted 1279 = false ∧ opened.store.releases.all opened.releaseWanted = true) ∧
    (let j : ChanJob := { kind := .copy, page := 5, started := true, frame := 16 }
     (siltJob j { tier := .near, frame := 16 }).startedJob 0 true = some (0, j) ∧ j.freed = false ∧ j.release = false) ∧
    (15 : Nat) < ({} : State).chanCount ∧ (({} : State).store.chan 15).down = false := by decide +kernel
/-- Page 5 in both tiers, unsealed, its release queued under pressure. -/
def releasing5 : State :=
  let s := paged { tier := .both, frame := 16 } { sealedFrame with pstate := .opn } opened
  withRegs { s with store := { s.store with releases := [5], relieving := [0] } } [(.stCfg, 0, place 16 0xFFFF)]
theorem wit_SiltMovesPages_release : (releasing5.store.releases.contains 5 && releasing5.store.valid 5 &&
    decide ((releasing5.store.pent 5).tier = .both) && !releasing5.releaseBlocked 5 && releasing5.releaseWanted 5 &&
    decide ((releasing5.store.header 5).pstate ≠ .sealed) && releasing5.store.sumcopied.all (fun x => x.1 != 5) &&
    SMap.wf {} releasing5.store.cells) = true := by decide +kernel
theorem wit_SiltMovesPages_reads :
    (∀ k ∈ [SiltJob.promote, .read], let j : ChanJob := { kind := k, page := 5, started := true, frame := 17 }
     let s := siltJob j { tier := .silt }
     s.startedJob 0 false = some (0, j) ∧ j.freed = false ∧ s.store.valid 5 = true ∧ s.restore? 5 = none ∧
     (s.store.cell (0 * 2 ^ 26 + j.cell)).state = .free ∧ (s.store.pent 5).tier = .silt ∧
     (s.store.pent 5).frame = 0 ∧ (s.fixSectors 0 [] []).2 = none ∧ ((s.fixSectors 0 [1] []).2).isNone = true ∧
     (s.fixSectors 0 [1, 2] []).2 = some false) := by decide +kernel

/-- The vendor station of page 5's core at a program; page 5 as given, with its first word uncorrectable or not. -/
def vendorFor (p : VProg) (arg : Nat) (f : Frame) (e : PEntry) (ue : Bool) (off : Nat) : State :=
  let s := stationAt { prog := p, page := 5, arg := arg } (paged e f opened)
  { s with store := { (if ue then s.store.markBad (gaddr 0 off / 32) true else s.store) with releases := [5] } }
theorem wit_VendorProgramsRun_sumcopy : (∀ ue ∈ [false, true],
    let s := vendorFor .sumcopy 0 sealedFrame { tier := .both, frame := 16 } ue (stubAddr 16 + 0x100)
    ((s.vjobFor .sumcopy 5).isSome && s.store.valid 5 && decide ((s.store.pent 5).tier = .both) &&
     !s.store.sumcopied.any (fun x => x.1 == 5) && s.store.releases.contains 5 && (s.copySummary 5).isSome &&
     (s.sense (pagePc 5) [(s.store.summaryAddr 5 0, summaryBytes 0)]).2 == ue) = true) := by decide +kernel
theorem wit_VendorProgramsRun_seal : (∀ ue ∈ [false, true],
    let s := vendorFor .seal 0 { sealedFrame with pstate := .sealing } { tier := .near, frame := 16 } ue (frameAddr 16)
    ((s.vjobFor .seal 5).isSome && s.store.inDram 5 && decide ((s.store.header 5).pstate = .sealing) && (s.restore? 5).isNone &&
     (s.sense (pagePc 5) (rowRegions (s.store.frameOf 5) 1 0 1)).2 == ue) = true) := by decide +kernel
theorem wit_VendorProgramsRun_pages : (∀ a ∈ [0, 1],
    ((vendorFor .code a sealedFrame { tier := .near, frame := 16 } false 0).vjobFor .code 5).any (fun j => j.arg == a) = true) ∧
    ((vendorFor .copy 0 sealedFrame { tier := .near, frame := 16 } false 0).vjobFor .copy 5).isSome = true := by decide +kernel
theorem wit_VendorProgramsRun_sensed :
    ((vendorFor .copy 0 sealedFrame { tier := .near, frame := 16 } true (frameAddr 16)).sensePage 5).2 = true := by decide +kernel
theorem wit_VendorProgramsRun_station :
    let s := stationAt { prog := .copy, page := 5 } opened
    (s.vendor 0).due = [] ∧ s.sluice.vendors.all (fun e => !e.2.turn) = true ∧ s.vendorGets 0 {} = true ∧
    ({ s with sluice := { s.sluice with refreshing := [vendorBank 0 {}] } } : State).vendorGets 0 {} = false ∧
    (({ opened with sluice := { vload := some [] } } : State).vendor 0).queue = [] ∧ (s.core 0).burst = none ∧ (s.core 0).pc < 1024 ∧ SMap.wf {} s.sluice.vendors = true ∧
    (s.vendor 0).queue = [{ prog := .copy, page := 5 }] ∧ s.sluice.vjobs.all (fun x => x.core != 0) = true ∧
    (20479 : Nat) < s.stackCount * 1024 ∧ s.sluice.vload.isSome = true ∧ s.countersOk = true := by decide +kernel

theorem wit_ScrubAndRestore :
    (let s : State := { opened with sluice := { vload := some [] } }
     (s.vendor 0).queue = [] ∧ s.sluice.vendors = [] ∧ ((stationAt { prog := .copy, page := 5 } opened).vendor 0).queue ≠ [] ∧
     SMap.wf 0 s.sluice.scrub = true ∧ (s.core 0).burst = none ∧ s.sluice.vload.isSome = true ∧ SMap.wf .clean s.store.errs = true ∧
     (List.range 32).all (fun i => !s.store.wordBad (gaddr 0 (scrubAddr 0 0) / 32 + i)) = true) ∧
    ((sealedPage opened).store.valid 5 = true ∧ (sealedPage opened).restore? 5 = none) ∧
    ({ store := { metaUe := [(3, 64)] } } : State).store.metaUe.contains (3, 64) = true := by decide +kernel
/-- Page 5 under restoration, with nothing that waits. -/
def restoring (x : Restore) : State :=
  { (sealedPage opened) with rel := { restores := [x] }, slots := [] }
theorem wit_ScrubAndRestore_restores :
    (∀ x ∈ [({ page := 5, body := some [] } : Restore), { page := 5 }],
      (restoring x).restore? 5 = some x ∧ (restoring x).store.valid 5 = true ∧ (x.asked = false ∧ x.readers = [])) ∧
    (restoring { page := 5 }).slots = [] ∧ (restoring { page := 5 }).sluice.vendors = [] ∧
    (restoring { page := 5 }).sluice.vjobs = [] := by decide +kernel
theorem wit_ScrubAndRestore_lost :
    let s := restoring { page := 5 }
    (decide ((s.anyHeader 5).pstate ≠ .mirror) && decide ((s.anyHeader 5).pstate ≠ .parity) &&
      decide (s.rel.lost.length + (s.lostConvs 5).length ≤ 16384) && (s.lostConvs 5).contains (0, 7)) = true := by decide +kernel
/-- The bytes of a page put back do not match its seal tag, or there is none to match. -/
theorem wit_ScrubAndRestore_put : ((restoring { page := 5 }).putRestored 5 []).any (fun x => !x.2) = true ∧
    ((paged { tier := .near, frame := 16 } { sealedFrame with pstate := .opn } (restoring { page := 5 })).putRestored 5 []).any
      (fun x => x.2) = true := by decide +kernel

theorem wit_CamScrubAndRebuild :
    (SMap.wf {} opened.cam.rows = true ∧ opened.cam.rebuild = false ∧ opened.cam.period = none ∧ opened.cam.psGo = false ∧ opened.cam.waiting = [] ∧
     (262143 : Nat) < opened.camTotal ∧ opened.sluice.cores.all (fun e => (opened.core e.1).search.isNone) = true) ∧
    ({ img := { conf := true } } : State).img.conf = true ∧ opened.img.conf = false ∧
    ({ cam := { psGo := true } } : State).cam.psGo = true ∧
    foundRow (({} : State).camSearch searchPort 0 0 0).2 = 262144 ∧
    foundRow (({ cam := ({} : Cam).put 0x3F0 ⟨0, allCare, 0⟩ } : State).camSearch searchPort 0 0 0).2 = 0x3F0 := by decide +kernel

/-! Responses, firmware, resets, service. -/

theorem wit_ResponsesAndOwnRequests :
    (∀ c ∈ [Src.aperture 1, .conn 0], let s : State := { slots := [(0, { state := .respond, formed := true, src := c })] }
     (s.slot 0).state = .respond ∧ (s.slot 0).formed = true ∧ (s.slot 0).sent = 0 ∧ (s.slot 0).src = c) ∧
    (let o : OwnReq := { slot := 0, hdr := { kind := kHint, seq := 4 }, dest := 9, sent := true }
     let s : State := { copied with own := [o], hubUnits := 2 ^ 16, dests := [{ node := 9 }], slots := [(0, { state := .forwarded })] }
     s.ownFor 1 { kind := kHint + 0x20, seq := 4, origin := s.node } = some o ∧ o.shadow = none ∧ s.rel.svc = .start ∧
     (s.slot o.slot).state = .forwarded ∧ s.own[0]? = some o ∧ o.since + s.e2e o.furrow ≤ s.hubUnits ∧
     s.peerConn o.hdr.ctx o.dest = some 1 ∧ s.dest? o.dest = some { node := 9 } ∧
     ({ s with rel := { svc := .out } } : State).ownFor 1 { kind := kHint + 0x20, seq := 4, origin := s.node } = some o) ∧
    (let m : SentMarker := { conn := 1, furrow := 0, mtype := mDrainEpoch, arg := 1 }
     let s : State := { copied with sentMarkers := [m], hubUnits := 2 ^ 16 }
     s.sentMarkers[0]? = some m ∧ m.since + s.e2e m.furrow ≤ s.hubUnits ∧ (s.conn m.conn).state = .opn ∧ s.rel.svc = .start) ∧
    (let rows := (List.range 16).foldl (fun (c : Cam) i => c.put i ⟨camKey 0 kindJoin i, allCare, 0⟩) {}
     let s := withRegs { cam := rows } [(.lcCfg, 0, 2)]
     s.cam.rebuild = false ∧ s.cam.fullRun s.ordRuns = some 0 ∧ (s.cam.midRebalance s.ordRuns 0 0).isSome = true ∧
     s.slots.all (fun e => match e.2.prog with | .inserting _ _ => false | _ => true) = true) := by decide

def updating (st : FwState) : State := { firm := { st := st } }
theorem wit_FirmwareCommands :
    (let s : State := withRegs { firm := { st := .staged }, rel := { svc := .service } } [(.rsCfg, 0, 15)]
     s.firm.st = .staged ∧ s.rel.svc = .service ∧ s.winCount + 2 < s.rfld .rsCfg 0 3 0) ∧
    (∀ x ∈ [FwState.idle, .staged, .armed, .probation], (updating x).firm.st = x ∧ (updating x).rel.cr = .none) := by decide

theorem wit_FirmwareStagedAndActivated :
    (updating .receiving).fwVerify ((updating .receiving).firm.buffer ++ zeros 64) ≠ 0 ∧
    (let s : State := { firm := { st := .activating, pendCert := true } }
     s.firm.window = false ∧ s.slots.any (fun e => decide (e.2.state = .active)) = false ∧ s.firm.pendCert = true ∧ s.img.state ≠ 1 ∧
     s.rel.cr = .none) ∧
    (∀ x ∈ [FwState.activating, .reverting], let s : State := { firm := { st := x, window := true } }
     s.firm.st = x ∧ s.firm.window = true ∧ s.rel.cr = .none) ∧
    (let s : State := { rel := { svc := .service }, firm := { st := .probation, steady := true, healthy := some 3, settle := 4 }
                        power := { seconds := 7 } }
     s.fwHealthy = true ∧ s.firm.healthy = some 3 ∧ 3 + s.firm.settle ≤ s.power.seconds ∧
     s.firm.began + s.firm.health ≤ s.power.seconds ∧ s.rel.svc = .service) ∧
    ((updating .staged).fwStaged = true ∧ (updating .staged).firm.pendCert = false) ∧
    (let s : State := { mint := { ready := true } }; s.mint.ready = true ∧ s.mint.aliasCert = false) := by decide

theorem wit_ComputeResetSteps :
    (({} : State).rel.cr = .none ∧ ({} : State).rel.wanted = [] ∧ SMap.risesFrom 0 ({} : State).regs.eff = true) ∧
    (∀ v ∈ [Svc.start, .service], let s : State := { rel := { svc := v, wanted := [{ cause := 1, stack := 19, pc := 63 }] } }
     s.rel.cr = .none ∧ s.rel.wanted = [{ cause := 1, stack := 19, pc := 63 }] ∧ s.rel.svc = v ∧ s.firm.st ≠ .reverting) ∧
    (let s : State := { inAttend { root := conv0At } with rel := { cr := .draining } }
     SMap.wf s.idleCore s.sluice.cores = true ∧ SMap.wf {} s.slots = true ∧ s.rel.cr = .draining ∧ s.burstsRun = false ∧
     (s.slot 0).state = .active ∧ (s.slot 0).prog = .attend { root := conv0At }) ∧
    (∀ f ∈ [false, true], ∀ e ∈ [false, true],
     let s : State := { rel := { cr := .rebuilding, escalate := e, svc := .service }, power := { pwrFail := f } }
     s.rel.cr = .rebuilding ∧ s.power.pwrFail = f ∧ s.rel.escalate = e ∧ s.rel.svc = .service) ∧
    State.cyclesOf [] = [] ∧
    State.cyclesOf [⟨1, 2, 3, 4⟩, ⟨3, 4, 1, 2⟩] = [[2 ^ 20 + 2, 3 * 2 ^ 20 + 4]] ∧
    1 < (withRegs {} [(.rsCfg, 0, 2 ^ 21)]).rfld .rsCfg 0 35 20 := by decide

theorem wit_WithdrawalEmptiesTheModule :
    (let s : State := { slots := [(0, { state := .held }), (1, { state := .respond })] }
     SMap.wf {} s.ctxs = true ∧ SMap.wf {} s.slots = true ∧ SMap.wf {} s.links = true ∧ s.rel.svc = .start ∧
     (s.slot 0).state = .held ∧ (s.slot 1).state = .respond ∧ 0 < s.stackCount ∧ 1 < s.portDies ∧ s.cam.down.contains 1 = false) ∧
    (let g : Staged := { root := 0, ix := 0, pos := 0, n := 1, tent := false }
     let s : State := { rel := { svc := .withdrawing }
                        slots := [(0, { state := .forwarded }), (5, { state := .active, prog := .staged g })] }
     s.rel.svc = .withdrawing ∧ s.rel.wstart + s.withdrawWait 0 ≤ s.hubUnits ∧ s.rel.wstart + s.withdrawWait 5 ≤ s.hubUnits ∧
     (s.slot 0).state = .forwarded ∧ (s.slot 5).state = .active ∧ (s.slot 5).prog = .staged g ∧ s.rel.lost.length < 16384) := by decide

/-- A rebuild of member `cidx` of group 0 asked for, decoding or recording. -/
def rebuilding (decoding : Nat) (members : List Member) : State :=
  withRegs { store := { groups := [(groupKey 0 0, { live := true, members := members })] } } [(.rsRbArg0, 0, decoding * 2 ^ 35)]
theorem wit_TakeoverRebuildAndLists :
    (({} : State).ctx 0).state ≠ .opn ∧
    (opened.rel.take.busy = false ∧ (opened.ctx 0).state = .opn ∧ opened.takeClash 0 = false) ∧
    (let c := (({} : Cam).put 0x3F0 ⟨camKey 0 kindMconv 7, allCare, 0⟩).put 0x3F1 ⟨camKey 0 kindConv 7, allCare, 0⟩
     ({ opened with cam := c } : State).takeClash 0 = true) ∧
    (let s : State := { rel := { take := { busy := true } } }; s.rel.take.busy = true ∧ s.rel.take.waits = 0) ∧
    (∀ d ∈ [0, 1], let s := rebuilding d (List.replicate 8 {})
     s.rel.rb.state ≠ 1 ∧ s.rbit .rsRbArg0 0 35 = (d == 1) ∧
     s.rbGroup (s.rfld .rsRbArg0 0 31 0) (s.rfld .rsRbArg0 0 34 32) (s.rfld .rsRbArg2 0 39 16) = some (groupKey 0 0) ∧
     (s.store.group (groupKey 0 0)).live = true ∧ (s.store.group (groupKey 0 0)).members.length = 8 ∧
     (s.store.group (groupKey 0 0)).members = List.replicate 8 {}) ∧
    ({} : State).rbGroup 0 0 0 = none ∧ ({} : State).isLost 0 0 = false ∧
    (let m : Sample := { answer := some (0, zeros 32), resp := zeros 32 }
     let n : Sample := { m with status := 3 }
     let s : State := { rel := { shadows := [(1, { samples := [m] })] } }
     SMap.wf {} s.rel.shadows = true ∧ (s.shadowSt 1).samples.findIdx? (fun m => m.answer.isSome) = some 0 ∧
     (s.shadowSt 1).samples[0]? = some m ∧ m.answer = some (0, zeros 32) ∧ (State.sampleDiff n 0 (zeros 32)).isSome = true) ∧
    (let s : State := { power := { seconds := 3600 } }; s.rel.predSaved + 3600 ≤ s.power.seconds) := by decide

/-! Host ports. -/

/-- A port up with a VF that serves, and rings of the smallest size. -/
def served (v : Vf) : State :=
  withRegs { opened with host := { vfs := SMap.set {} [] 1 v, ports := [(0, { width := 8, rate := 6, flit := true })] }
                         power := { rails := .on, step := 6 } }
    [(.hpVfRingCfg, 1, 6 + 19 * 32 + 1024)]
def carrier0 : Hdr := { kind := kHint, ctx := 0, conv := 7, seq := 1, total := 16 }
/-- A lane that holds a header, and one that holds nothing. -/
def headed : Vf := { lanes := [(0, [(0, carrier0.toBytes)])] }
theorem wit_AperturesAndRings :
    (let s := served {}
     SMap.wf {} s.host.vfs = true ∧ SMap.risesFrom 0 s.regs.eff = true ∧ Serves s 1 false ∧ (s.vf 1).tdi ≠ .locked ∧
     s.ringOn 1 = true ∧ State.laneLength [(0, zeros 8)] = none) ∧
    Serves (served headed) 1 false ∧
    ((SMap.get [] headed.lanes 0).any (fun p => State.piecesMeet p (32, zeros 32) 64) = false ∧
     (State.laneLength (SMap.get [] headed.lanes 0 ++ [(32, zeros 32)])) = some 64 ∧
     State.piecesBelow (SMap.get [] headed.lanes 0 ++ [(32, zeros 32)]) 64 = 64 ∧
     (SMap.get [] headed.lanes 0).any (fun p => State.piecesMeet p (31, zeros 32) 64) = true) := by unfold Serves; decide +kernel
theorem wit_AperturesAndRings_locked :
    (served { tdi := .error }).vfServes 1 false = false ∧ (served { tdi := .error }).undef = none ∧
    (let s := served { tdi := .locked }
     Serves s 1 false ∧ (s.vf 1).tdi = .locked ∧ (s.hport 0).degraded = false ∧ (s.vf 1).flr = false) := by
  unfold Serves; decide +kernel
theorem wit_AperturesAndRings_responses :
    (∀ x ∈ [({} : Vf), { flr := true }], let r : HostRsp := { vf := 1, body := zeros 8 }
      let s : State := { served x with host := { (served x).host with rspq := [r] } }
      s.nextRsp 1 = some r ∧ r.slot = none ∧ (s.vf 1).flr = x.flr ∧ (s.vf 1).armed = false ∧ s.portUp 0 = true ∧
      s.ringRoom r = true) := by decide +kernel
/-- A head that frees one record and 64 bytes, of rings that hold them and that do not. -/
theorem wit_AperturesAndRings_heads :
    (let s := served { cqUsed := 1, rspUsed := 64 }
     Serves s 1 false ∧ s.rfld .hpVfCqHead 1 19 0 = 0 ∧ s.rfld .hpVfRspHead 1 25 0 = 0 ∧
     (1 % s.cqSize 1 + s.cqSize 1 - 0 % s.cqSize 1) % s.cqSize 1 = 1 ∧
     (64 % s.rspSize 1 + s.rspSize 1 - 0 % s.rspSize 1) % s.rspSize 1 = 64 ∧ 1 ≤ (s.vf 1).cqUsed ∧ 64 ≤ (s.vf 1).rspUsed ∧
     ((served {}).vf 1).cqUsed < 1 ∧ ((served {}).vf 1).rspUsed < 64) := by unfold Serves; decide +kernel
theorem wit_AperturesAndRings_commit :
    (let s := served {}
     let w := s.shadow .hpVfRingCfg 1
     (6 ≤ w.fld 4 0 ∧ w.fld 4 0 ≤ 20 ∧ 19 ≤ w.fld 9 5 ∧ w.fld 9 5 ≤ 26) ∧ s.tdiLocked 1 = false ∧ s.slots.all (fun e =>
       decide (e.2.state ≠ .respond)) = true ∧ (s.vf 1).cqUsed = 0 ∧ (s.vf 1).rspUsed = 0) ∧
    0 < ((served { cqUsed := 1 }).vf 1).cqUsed := by decide +kernel

/-- A state whose range entry 0 maps the first 4 KiB of core 0's DATA_C for VF 1. -/
def mapping (live : Bool) (x : HRange) (valid : Nat) : State :=
  let c0 := valid + place 2 1 + place 44 1 + place 45 1
  let s := served {}
  let s : State := { s with host := { s.host with ranges := if live then [(0, x)] else [] }
                            sluice := { cores := [(0, { lessee := some 0 })] } }
  withRegs s [(.hpRngCfg0, 0, c0), (.hpRngCfg1, 0, place 22 1 + 16), (.hpRngCfg2, 0, 0)]
theorem wit_WindowsAndRanges :
    (let s := mapping true { state := .active } 1
     SMap.wf {} s.host.ranges = true ∧ SMap.risesFrom 0 s.regs.eff = true ∧ Serves s 1 false ∧
     s.windowMatch 1 0 0x10FC0 64 false = .ok 0 ∧ s.windowMatch 1 0 0x10000 64 true = .ok 0 ∧
     s.windowMatch 1 0 0xFFFF 1 false = .error "UR" ∧ s.windowMatch 1 0 0x11000 1 true = .error "UR") ∧
    (let s := mapping true { state := .revoking } 1; s.windowMatch 1 0 0x10000 64 false = .error "CA") ∧
    (∀ b ∈ [false, true], let w : WinReq := { entry := 0, write := b, len := 8, data := zeros 8, lessee := 0 }
     let s := mapping true { state := .active, inflight := 1 } 1
     let t : State := { s with host := { s.host with window := [w] } }
     t.host.window[0]? = some w ∧ t.windowMayRun w [] = true ∧ (t.rangeCfg 0).published = false ∧ (t.range 0).state = .active ∧ t.winKey w ≠ 0 ∧
     (Store.words (gaddr (State.targetAddr (t.rangeCfg 0) 0).1 (State.targetAddr (t.rangeCfg 0) 0).2) 8).filter t.store.wordBad = []) ∧
    (∀ v ∈ [0, 1], let s := mapping false {} v
      let x := State.rangeCfgOf (s.shadow .hpRngCfg0 0) (s.shadow .hpRngCfg1 0) (s.shadow .hpRngCfg2 0)
      (s.range 0).state = .free ∧ x.valid = (v == 1) ∧ s.rangeCause 0 x = 0 ∧ s.rangeLocked x = false ∧
      s.rangeCause 0 { x with size := 0 } = 1) ∧
    (∀ n ∈ [0, 1], let s0 := mapping true { state := .active, inflight := n } 1
      let s := { s0 with regs := { s0.regs with shadow := [(Reg.hpRngCfg0.key 0, some (wordOf (place 2 1 + place 44 1 + place 45 1)))] } }
      let x := State.rangeCfgOf (s.shadow .hpRngCfg0 0) (s.shadow .hpRngCfg1 0) (s.shadow .hpRngCfg2 0)
      (s.range 0).state = .active ∧ { x with valid := (s.rangeCfg 0).valid } = s.rangeCfg 0 ∧ x.valid = false ∧
      s.rangeLocked (s.rangeCfg 0) = false ∧ { x with valid := (s.rangeCfg 0).valid, toff := 1 } ≠ s.rangeCfg 0) := by
  unfold Serves; decide

theorem wit_PortsFunctionsAndTdis :
    (SMap.wf {} opened.host.vfs = true ∧ SMap.wf {} opened.host.ports = true ∧
     ((served {}).msixFn 1).vecs.all (fun e => !e.2.pending) = true ∧ State.isVf 512 = true ∧ State.isVf 1536 = true ∧
     ((served {}).vf 1).flr = false ∧ (served {}).hostOpen = true) ∧
    (({ host := { vfs := [(1, { flr := true })] } } : State).flrDone 1 = true) ∧
    (let s : State := { served { stream := some 3, tdi := .run } with img := { conf := true } }
     (s.vf 1).stream = some 3 ∧ (s.vf 1).tdi = .run) ∧
    (let s0 := served {}
     let s : State := { s0 with img := { s0.img with conf := true } }
     (s.vf 1).tdi = .unlocked ∧ s.img.conf = true ∧ (15 : Nat) < 16 ∧ s.ringOn 1 = true ∧ (s.vf 1).flr = false ∧
     s.liveRanges = []) ∧ ((served { tdi := .locked }).vf 1).tdi = .locked := by decide

/-! The Mint. -/

/-- A Mint with an established session 5 of the key-service root of the image in effect. -/
def minted : State :=
  { opened with mint := { ready := true, aliasCert := true, sessions := [{ id := 5, root := some [], opened := true }] } }
theorem wit_MeasurementFour : ({ img := { base := some (zeros 128) } } : State).img.base = some (zeros 128) ∧ MintHears minted none := by
  refine ⟨by decide, by decide, by decide, fun _ h => by cases h⟩
theorem wit_MintHears : MintHears minted none ∧ MintHears minted (some 5) := by
  refine ⟨⟨by decide, by decide, fun _ h => by cases h⟩, by decide, by decide, fun id h => ?_⟩
  cases h; decide
theorem wit_Reaches : ∀ v ∈ [SpdmVia.doe 0, .mctp, .management], Reaches (served {}) v := by
  intro v h p e
  subst e
  simp at h
  subst h
  decide +kernel
theorem wit_SpdmAndTheSigner : ({} : State).mint.ready = false ∧
    (let s : State := { mint := { ready := true }, firm := { window := true } }; s.mint.ready = true ∧ s.firm.window = true) ∧
    (minted.measurementBlocks 0 = some [7] ∧ minted.mint.signer.length < 4 ∧ minted.mint.aliasCert = true ∧ (7 : Nat) < 8) ∧
    (minted.mint.sessions.length < 8 ∧ minted.mint.stopped = false ∧ (6 : Nat) ≠ 0 ∧ minted.spdmSession 6 = none) ∧
    (let s : State := { mint := { signer := [{ code := "MEASUREMENTS" }] } }
     s.mint.signer = { code := "MEASUREMENTS" } :: [] ∧ s.power.sessions = []) := by decide
theorem wit_SpdmAndTheSigner_key : MlKem.keyOk (zeros 1568) = true ∧ MlKem.keyOk (zeros 1567) = false ∧
    MlKem.keyOk (List.replicate 1568 0xFF) = false := by decide +kernel
/-- The inverse transform undoes the transform, and 17 has order 256 (FIPS 203). -/
theorem test_ml_kem_ntt : MlKem.back (MlKem.fwd (upTo 256)) = upTo 256 ∧ MlKem.root 128 = 3328 := by decide +kernel
/-- The digits of a chain key's message of zeros: 64 nibbles and their sum of 960 (FIPS 205). -/
theorem test_slh_dsa_digits : SlhDsa.chainDigits (zeros 32) = List.replicate 64 0 ++ [3, 12, 0] := by decide +kernel
/-- The digests of the empty message (FIPS 202). -/
theorem test_sha3_empty : (Keccak.sha3x256 []).take 4 = [0xA7, 0xFF, 0xC6, 0xF8] ∧
    (Keccak.sha3x512 []).take 4 = [0xA6, 0x9F, 0x73, 0xCC] ∧ Keccak.shake128 [] 4 = [0x7F, 0x9C, 0x2B, 0xA4] := by
  decide +kernel
/-- IDE_KM starts the link stream of a port in an established session, and only there (R394). -/
theorem test_ide_km :
    (match Sys2Proof.Machine.exec (.spdmRequest .management (some 5) (.ideKm 1 none (some []))) minted with
     | .next t => State.ideActive (t.hport 1) none && !State.ideActive (t.hport 0) none
     | _ => false) = true ∧
    (match Sys2Proof.Machine.exec (.spdmRequest .management none (.ideKm 1 none (some []))) minted with
     | .next t => State.ideActive (t.hport 1) none
     | _ => true) = false := by decide +kernel
theorem wit_KeyServiceMessages : minted.keyServiceOk none = false ∧ minted.keyServiceOk (some 5) = true ∧
    (minted.job 4095).loaded = false ∧
    (let s : State := { minted with conns := [(0, { state := .opn, key0 := 1 })]
                                    mint := { minted.mint with jobs := [(0, { loaded := true }), (7, { loaded := true })] } }
     SMap.wf {} s.mint.jobs = true ∧ (s.job 7).loaded = true ∧ s.binds 7 = 0 ∧ s.binds 0 ≠ 0 ∧ (s.conn 0).state = .opn ∧
     (∀ x ∈ s.connCtx 0, (s.ctx x).state = .opn) ∧ s.img.conf = false ∧ (s.conn 0).retire = false ∧ (s.conn 16383).state ≠ .opn) := by
  decide
theorem wit_ManagementOpensAndLoads : minted.managementOk none = false ∧ minted.managementOk (some 5) = true ∧
    minted.power.failed = false ∧
    (let s : State := { minted with ctxs := [] }
     (s.ctx 0).state = .closed ∧ (s.ctxRec 0).enable = true ∧ s.img.base.isSome = true ∧ s.mint.stopped = false) ∧
    (minted.ctx 0).state ≠ .closed ∧ SMap.wf 0 minted.img.buffer = true := by decide

/-- A close of context 0 at a step. -/
def closing (x : Close) : State :=
  let s := joined opened
  { s with ctxs := [(0, { state := .closing, drained := true })], mint := { closes := [(0, x)], ctxKeys := [(0, 1)] } }
theorem wit_CloseSteps :
    (SMap.wf {} opened.ctxs = true ∧ SMap.wf {} opened.conns = true ∧ (opened.ctx (opened.rfld .mtCtxSel 0 9 0)).state = .opn) ∧
    (let s := closing { step := 2 }
     s.closeReady 0 = true ∧ SMap.wf s.idleCore s.sluice.cores = true ∧ s.idleCore.lessee = none) ∧
    ((closing { step := 3 }).closeStep 0 = 3 ∧ (closing { step := 3 }).dataMapped 0 = false) ∧
    (let s := closing { step := 4 }
     s.close? 0 = some { step := 4 } ∧ s.pathsHeld 0 = [] ∧ s.boundConns 0 = [1]) ∧
    (let s := closing { step := 4, furrows := [1] }
     s.close? 0 = some { step := 4, furrows := [1] } ∧ 0 + 0 ≤ s.hubUnits) ∧
    (let s : State := { closing { step := 6 } with conns := [(1, {})] }
     s.closeStep 0 = 6 ∧ s.boundConns 0 = [1] ∧ (s.boundConns 0).all (fun k => (s.conn k).state == .closed) = true) ∧
    ((closing { step := 7 }).closeStep 0 = 7 ∧ (closing { step := 7 }).sluice.cores.all (fun e => e.2.zeroing != some 0) = true) ∧
    (let s : State := { conns := [(0, { state := .closing })] }; (s.conn 0).state = .closing ∧ (s.conn 0).outs = []) := by decide

/-! Creko images. -/

/-- An image: AMEND, LENGTH, sections, SERIAL, BASE_SERIAL, DIGEST and the sections. -/
def imageOf (amend len sects serial base digest : Nat) (body : Bytes) : Bytes :=
  leBytes 4 0x4B455243 ++ leBytes 4 (1 + 256 * amend) ++ leBytes 4 len ++ leBytes 4 sects ++ leBytes 8 serial ++ leBytes 8 base ++
  zeros 32 ++ leBytes 64 digest ++ body
def sectOf (t len count : Nat) (recs : Bytes) : Bytes := leBytes 4 t ++ leBytes 4 len ++ leBytes 4 count ++ zeros 4 ++ recs
/-- SECURITY, and no slice and no context; a furrow record with MIN_LINKS 0. -/
def firstSects : Bytes := sectOf 1 96 1 (zeros 80) ++ sectOf 2 16 0 [] ++ sectOf 3 16 0 []
def badFurrow : Bytes := sectOf 4 48 1 (zeros 6 ++ [0xFF, 0xFF] ++ zeros 24)
/-- The smallest base image and amendment, and one of each with the furrow record. -/
def baseImage : Bytes := imageOf 0 272 4 1 0
  0xCE6381DF87B400CAA6C333F6B5D3270EF62CF24F856701EBE0808BBA21C64441EFEE35179A932346AF668EC89A47E2F45FC2E25198CF7E3D9F6AF4718C449C2D
  (firstSects ++ sectOf 4 16 0 [])
def amendImage : Bytes := imageOf 1 128 0 2 1
  0x43B27627D1DDFAC30B10434B8D77861CC1A53A11176A1F57542A5F45035566ADBC01003375C13ACB07C3866E6F08C179DA49F0D41EFFA34CAAB318763A1AA553
  []
def badBase : Bytes := imageOf 0 304 4 1 0
  0x951FB992AC0D193E7CF281956A50DF747C04E7544C7A75EC3C10CDE134A37142FB550AEDF6286589A76167678E9427B8F008CF0FD67761633518203FAD80AAC1
  (firstSects ++ badFurrow)
def badAmend : Bytes := imageOf 1 176 1 2 1
  0x5B3B43370E8E856A784DF74A931108AC4D02E97FAF624E5D05BFDE2B47B9A1CF52B92D61A1199D2675CEE8886B9F77BC828231336F94401F68E361AAC00EAAC2
  badFurrow
def loadIs (s : State) (f : Image → Bool) : Bool :=
  match parseImage s.variantCode s.bufferBytes with | .ok i => f i | .error _ => false
def passes (r : Except LoadErr Unit) : Bool := match r with | .ok _ => true | .error _ => false
theorem wit_LoaderOperations_bases :
    loadIs (({} : State).putBuffer 0 baseImage) (fun i => passes (({} : State).validate .load false i) &&
      passes (({} : State).validate .store false i) && ({} : State).imageUndef i == none &&
      !passes (opened.validate .load false i)) = true ∧
    loadIs (({} : State).putBuffer 0 badBase) (fun i => passes (({} : State).validate .load false i) &&
      ({} : State).imageUndef i == some 339) = true := by decide +kernel
def based : State := { img := { base := some baseImage } }
theorem wit_LoaderOperations_amendments :
    loadIs (({} : State).putBuffer 0 amendImage) (fun i => passes (based.validate .amend true i) && based.imageUndef i == none &&
      !passes (based.validate .load false i) && !passes (based.validate .store false i) &&
      !passes (({} : State).validate .amend true i)) = true ∧
    loadIs (({} : State).putBuffer 0 badAmend) (fun i => passes (based.validate .amend true i) && based.imageUndef i == some 339) =
      true := by decide +kernel
theorem wit_LoaderOperations_rest :
    (match parseImage ({} : State).variantCode ({} : State).bufferBytes with | .error _ => true | .ok _ => false) = true ∧
    SMap.risesFrom 0 ({} : State).regs.eff = true ∧ SMap.wf 0 ({} : State).img.buffer = true := by decide

/-! Commits, registers, power, management. -/

/-- A shadow of a register, for its next commit. -/
def shadowed (s : State) (r : Reg) (i w : Nat) : State :=
  { s with regs := { s.regs with shadow := SMap.set none s.regs.shadow (r.key i) (some (wordOf w)) } }
theorem wit_CommitsTakeEffect : SMap.risesFrom 0 ({} : State).regs.eff = true ∧ ({} : State).hasGroup (.wp 20) = false ∧
    ({} : State).hasGroup .hubRet = true ∧ ({} : State).commitUndef .hubRet = none ∧ ({} : State).commitRefused .hubRet = none ∧
    (shadowed {} .hubRetCfg 0 0).commitUndef .hubRet = some 127 ∧ (({} : State).ctx 0).queue = [] ∧
    ({ img := { prevv := true } } : State).commitRefused .rqEpoch = some (.rqEpochStatus, 0, 41) ∧
    ({ img := { prevv := true } } : State).commitUndef .rqEpoch = none := by decide +kernel
theorem wit_CommitsTakeEffect_captures :
    (({ ctxs := [(0, { queue := [asked] })] } : State).ctx 0).queue ≠ [] := by decide
theorem wit_CommitsTakeEffect_effects : (({} : State).commitGroup (.pg 0)).captured .pgCfg 0 = some (({} : State).shadow .pgCfg 0) ∧
    ({} : State).captured .pgCfg 0 = none ∧ ({} : State).captured .hgBktRate 0 = none ∧
    (({ ctxs := [(0, { queue := [asked] })] } : State).commitGroup (.hgCtx 0)).captured .hgBktRate 0 =
      some (({} : State).shadow .hgBktRate 0) := by decide +kernel

/-- Connection 1, which FU_CONN_SEL selects, with its configuration in its shadow: VALID or not, with a context of slice 0 over a furrow it has or has not. -/
def connecting (st : ConnState) (w : Nat) (conf : Bool) : State :=
  let s := sliced
  let l : List (Nat × SliceRec) := [(0, { valid := true, stackMask := 1, pcs := 1, rkCount := 1, furmask := 1 })]
  shadowed (withRegs { s with conns := SMap.set {} [] 1 { state := st }, img := { s.img with conf := conf, slices := l } }
    [(.fuConnSel, 0, 1)]) .fuConnCfg 1 w
theorem wit_ConnectionsAreCommitted :
    (let s := connecting .closed (1 + place 5 1) false
     SMap.risesFrom 0 s.regs.eff = true ∧ SMap.wf {} s.conns = true ∧ s.rfld .fuConnSel 0 13 0 = 1 ∧
     (s.shadow .fuConnCfg 1).bit 0 = true ∧ (s.shadow .fuConnCfg 1).bit 5 = true ∧ (s.shadow .fuConnCfg 1).bit 16 = false ∧
     (s.conn 1).state = .closed ∧ (s.sliceRec (s.sliceOf 0)).furmask.testBit 0 = true ∧ s.img.conf = false ∧ s.unsent = [] ∧
     s.own = []) ∧
    (let s := connecting .failed (1 + place 5 1 + place 1 1) false
     (s.conn 1).state = .failed ∧ (s.sliceRec (s.sliceOf 0)).furmask.testBit ((s.shadow .fuConnCfg 1).fld 3 1) = false) ∧
    (connecting .closed (1 + place 5 1) true).img.conf = true ∧
    (∀ st ∈ [ConnState.opn, .closing, .failed], ((connecting st 0 false).conn 1).state = st ∧
      ((connecting st 0 false).shadow .fuConnCfg 1).bit 0 = false) ∧ sliced.rfld .fuConnSel 0 13 0 = 0 := by decide +kernel

/-- A counter, registers of each access, addresses out of line, and values with a bit in a reserved field. -/
theorem wit_RegisterAccesses :
    (∀ x ∈ [(Reg.hubRetCfg, 0x1008), (.lkFault, 8388672), (.hgStatus, 1048608)], regAt x.2 = some (x.1, 0) ∧
      State.aligned x.2 8 = true ∧ State.highShadow x.2 = false ∧ (served {}).writeDiscarded x.1 0 = false ∧
      State.reservedSet x.1 0 = false ∧ (served {}).writeUndef x.1 0 = none ∧ ((served {}).commandWrite x.1 0 0).isNone = true) ∧
    State.reservedSet .hubRetCfg (wordOf (2 ^ 40)) = true ∧ State.aligned 0x1009 8 = false ∧ (served {}).portUp 0 = true ∧
    ({} : State).portUp 1 = false ∧ State.reservedSet .hgVfIrq (wordOf 0xFFF) = false := by decide +kernel
theorem wit_RegisterAccesses_counter : ctrAt 1048856 = some (.hgCntQuotaTok, 0) ∧ State.aligned 1048856 8 = true ∧
    ({} : State).blockAbsent Ctr.hgCntQuotaTok.place.dims 0 = false ∧ SMap.wf 0 ({} : State).ctrs = true := by decide +kernel
theorem wit_RegisterAccesses_vf : State.isVf (vfOfCtx 0) = true ∧ vfOfCtx 0 = 1 ∧ (served {}).vfServes 1 false = true ∧ (served { tdi := .error }).portUp 0 = true ∧
    (served { tdi := .error }).vfServes 1 false = false := by decide +kernel
theorem wit_RegisterAccesses_origins :
    ({ slots := [(0, { state := .held, hdr := { origin := 3 } })] } : State).slots.any (fun e => decide (e.2.state ≠ .free) && e.2.hdr.origin == 3) =
      true := by decide

/-- A module with its converters in a state, at a start-up step. -/
def railed (r : Rails) (step : Nat) : State := { power := { rails := r, step := step } }
theorem wit_PowerEvents :
    (∀ r ∈ [Rails.on, .inReset, .commanded, .tripped], (railed r 7).standby = true) ∧
    (∀ r ∈ [Rails.noInput, .overvolt, .overcurrent], (railed r 7).standby = false ∧ (railed r 7).powered = false) ∧
    (railed .on 7).powered = true ∧ ({ power := { ocLatch := true, ovLatch := true } } : State).power.ocLatch = true ∧
    (let s : State := { power := { rails := .tripped, temps := [(0, 69)] } }; ∀ e ∈ s.power.temps, e.2 < 70) ∧
    (let s : State := { power := { rails := .tripped, temps := [(0, 70)] } }; ∃ e ∈ s.power.temps, 70 ≤ e.2) ∧
    ({ rel := { svc := .out } } : State).rel.svc = .out ∧ SMap.wf {} (railed .on 7).store.chans = true ∧
    SMap.risesFrom 0 (railed .on 7).links = true := by decide +kernel
theorem wit_StartUpAndService :
    (∀ n ∈ [1, 2, 3, 4, 5, 6], StartingUp (railed .on n)) ∧ ({ power := { failed := true } } : State).power.failed = true ∧
    (∀ n ∈ [0, 1], let s : State := { firm := { slot0 := { used := n == 0 }, slot1 := { used := n == 1 } }, power := { step := 2 } }
      s.bootOk [] n = true ∧ s.bootOk [] (1 - n) = false ∧ s.otherSlot = 1 - s.firm.run) ∧
    (∀ b ∈ [false, true], let s : State := { mint := { stopped := b } }; s.mint.stopped = b) ∧
    ({} : State).img.stored = none ∧ (({} : State).svcReady = false) ∧ ({} : State).rel.svc = .start := by
  unfold StartingUp; decide +kernel
theorem wit_StartUpAndService_ready : ({ img := { base := some [] } } : State).svcReady = true := by decide +kernel
theorem wit_StartUpAndService_boot : (match ({ img := { stored := some baseImage } } : State).loadStored with
    | .ok _ => true | _ => false) = true := by decide +kernel

/-- A management datagram's header. -/
def mgmtHeader (type session mseq : Nat) : Bytes := leBytes 4 (1 + place 8 type) ++ leBytes 4 session ++ leBytes 8 mseq
theorem wit_ManagementMessages :
    (State.mgmtHdr (mgmtHeader 2 0 9) 0).map (·.type) = some 2 ∧ (State.mgmtHdr (mgmtHeader 1 5 9) 0).map (·.session) = some 5 ∧
    State.mgmtHdr (mgmtHeader 5 0 9) 0 = none ∧ (2 : Nat) ≤ 2 ∧ (railed .noInput 1).standby = false ∧
    (railed .on 7).standby = true ∧ (minted.spdmSession 5).isSome = true ∧ minted.spdmSession 6 = none := by decide +kernel
theorem wit_ManagementMessages_stored :
    (let p : PowerSt := { sessions := [{ session := 5, next := 300, answers := [{ seq := 9 }] }] }
     let s : State := { minted with power := p }
     (s.msession 5).answers.find? (fun a => a.seq == 9) = some { seq := 9 } ∧ ({ seq := 9 } : MAnswer).req = .none ∧
     ({ seq := 9 } : MAnswer).req ≠ .endSession ∧
     (s.msession 5).answers.find? (fun a => a.seq == 8) = none ∧ 8 + 256 < (s.msession 5).next) := by decide
theorem wit_ManagementMessages_events :
    (∀ n ∈ [1, 8], let x : MEvent := { eseq := 3, what := .mismatch, sends := n }
     let s : State := { power := { events := [x], seconds := 1 } }
     s.power.events.find? (fun y => y.eseq == 3) = some x ∧ x.since < s.power.seconds ∧ (n = 8 ∨ x.sends < 8)) ∧
    minted.managementOk none = false ∧ minted.managementOk (some 5) = true ∧ regAt 0x1008 = some (.hubRetCfg, 0) := by decide +kernel

theorem wit_ComputeResetsRequested : (({} : State).rel.cr = .none ∧ ({} : State).rel.wanted = []) ∧ (served {}).portUp 0 = true ∧
    (let s : State := { rel := { wanted := [{ cause := 5, stack := 0, pc := 0 }] } }
     s.rel.cr = .none ∧ s.rel.svc = .start ∧ s.firm.st ≠ .reverting) ∧ ({ rel := { cr := .draining } } : State).rel.cr ≠ .none := by
  decide
theorem wit_HeadersRoundTrip : HdrFits { kind := 63, seq := 2 ^ 48 - 1, total := 2 ^ 24 - 1 } ∧ (zeros 32).length = 32 ∧
    DescFits { op := 9, page := 2 ^ 40 - 1, gen := 2 ^ 32 - 1 } := by unfold HdrFits DescFits; decide
theorem wit_MemoryStaysCanonical : ({} : State).memoryOk = true ∧
    ({ store := { dram := [(5, 1)] } } : State).memoryOk = true := by decide

/-! Results the specification states, itself or by the standards it names (R9, R308, R309). -/

/-- SHAKE256 of no bytes begins as FIPS 202's test vector. -/
theorem test_shake256_empty : Keccak.shake256 [] 8 = [0x46, 0xB9, 0xDD, 0x2B, 0x0B, 0xA8, 0x8D, 0x13] := by decide +kernel
/-- FIPS 197, appendix C.3. -/
theorem test_aes256 :
    Aes.cipher (Aes.roundKeys ((List.range 32).map (BitVec.ofNat 8))) ((List.range 16).map (fun i => BitVec.ofNat 8 (17 * i))) =
      [0x8E, 0xA2, 0xB7, 0xCA, 0x51, 0x67, 0x45, 0xBF, 0xEA, 0xFC, 0x49, 0x90, 0x4B, 0x49, 0x60, 0x89] := by decide +kernel
theorem test_aes256_inverse :
    let ks := Aes.roundKeys ((List.range 32).map (BitVec.ofNat 8))
    Aes.decipher ks (Aes.cipher ks (List.replicate 16 7)) = List.replicate 16 7 := by decide +kernel
/-- AES-256-GCM with key, nonce and one block of zeros: the ciphertext and the tag of the GCM specification's test case 14. -/
theorem test_gcm : Aes.gcmSeal (zeros 32) (zeros 12) [] (zeros 16) =
    [0xCE, 0xA7, 0x40, 0x3D, 0x4D, 0x60, 0x6B, 0x6E, 0x07, 0x4E, 0xC5, 0xD3, 0xBA, 0xF3, 0x9D, 0x18,
     0xD0, 0xD1, 0xC8, 0xA7, 0x99, 0x99, 0x6B, 0xF0, 0x26, 0x5B, 0x98, 0xB5, 0xD4, 0x8A, 0xB9, 0x19] := by decide +kernel
/-- The check value of the CRC of IEEE 802.3. -/
theorem test_crc32 : crc32 [0x31, 0x32, 0x33, 0x34, 0x35, 0x36, 0x37, 0x38, 0x39] = 0xCBF43926 := by decide +kernel
/-- A codeword with four wrong bytes is corrected. -/
theorem test_rs_corrects :
    let word := zeros 128 ++ rsParity (zeros 128)
    rsDecode (setAt (setAt (setAt (setAt word 0 1) 50 9) 127 0xFF) 130 3) = some (zeros 128, true) := by decide +kernel
/-- The words of section 6.8: the first load, the VWID and the HALT. -/
theorem test_words_of_6_8 :
    (opKey 0x607D5800 = 0x60 ∧ fieldOf 0x607D5800 23 22 = 1 ∧ fieldOf 0x607D5800 21 18 = 15 ∧ fieldOf 0x607D5800 17 14 = 5 ∧
     fieldOf 0x607D5800 13 10 = 6) ∧
    (opKey 0x82400700 = 0x82 ∧ fieldOf 0x82400700 23 21 = 2 ∧ fieldOf 0x82400700 14 12 = 0 ∧ fieldOf 0x82400700 11 8 = 7) ∧
    opKey 0xA1000000 = 0xA1 ∧ fieldOf 0xA1000000 15 0 = 0 ∧
    legalWord 0x607D5800 = true ∧ legalWord 0x82400700 = true ∧ legalWord 0xA1000000 = true := by decide
/-- Section 2.6: 0x40C4 widens to 0x40C4_0000. -/
theorem test_bf16_widens : F.widen .bf16 127 0x40C4 = 0x40C40000 := by decide
/-- The descriptor of Table 03-12. -/
def desc0312 : Bytes := leBytes 4 0x300141A7 ++ leBytes 4 0x001D0025 ++ leBytes 4 0x3DB504F3 ++ leBytes 4 0x4E1F ++ zeros 4 ++
  leBytes 4 4 ++ leBytes 4 2 ++ zeros 36 ++ leBytes 8 0x0017400005002A3C ++ leBytes 8 0x0003400045009E01
theorem test_table_03_12 : descSlot desc0312 = 0x141A7 ∧ descFirst desc0312 = true ∧ descKv desc0312 = 0 ∧ descDim desc0312 = 1 ∧
    descEntries desc0312 = [(0x2A3C, 1280, 64, 0x17), (0x9E01, 17664, 64, 3)] ∧
    (laneReq { descs := [desc0312] }).qpos = 19999 ∧ (laneReq { descs := [desc0312] }).sinks = 4 ∧
    (laneReq { descs := [desc0312] }).g = 8 ∧ (laneReq { descs := [desc0312] }).sigma = 0x3DB504F3 := by decide +kernel
/-- The header and body of Table 09-14. -/
theorem test_table_09_14 :
    Hdr.toBytes { kind := 1, ctx := 37, epoch := 0x0113, origin := 0x00C2, seq := 0x13A5F, conv := 0x5A01070000002A31, layer := 40,
                  kvh := 3, total := 2080 } =
      leBytes 4 0x2504 ++ leBytes 4 0x113 ++ leBytes 8 0x000000013A5F00C2 ++ leBytes 8 0x5A01070000002A31 ++
      leBytes 8 0x0008200000000328 ∧
    (let r := AttReq.ofBytes (leBytes 4 0x07004E1F ++ leBytes 4 0x3DB504F3 ++ zeros 4 ++ leBytes 4 0x01C00004 ++ leBytes 4 0x20 ++ zeros 12)
     r.qpos = 19999 ∧ r.g = 8 ∧ r.qfmt = 0 ∧ r.obf16 = false ∧ r.sinks = 4 ∧ r.recent = 448 ∧ r.topk = 32) := by decide

end Sys2Proof.Tests
end

section
/-! PROOFS. Counters (R17): what counting and clearing leave, and their canonical form. -/

namespace Sys2Proof.SMap

variable {α : Type} [DecidableEq α]

/-- A write reads back wherever the keys rise, also where an entry equals the default. -/
theorem get_set_same_of_rises (d : α) (m : List (Nat × α)) (i : Nat) (x : α) (h : risesFrom 0 m = true) :
    get d (set d m i x) i = x := by
  by_cases hx : x = d
  · subst hx
    simpa [set] using get_del_same x m 0 i h
  · exact get_set_of_ne d m i x hx

theorem mem_set (d : α) (m : List (Nat × α)) (i : Nat) (x : α) (e : Nat × α) (h : e ∈ set d m i x) :
    e = (i, x) ∨ e ∈ m := by
  unfold set at h
  split at h
  · exact Or.inr (mem_del m i e h)
  · exact mem_ins m i x e h

end Sys2Proof.SMap

namespace Sys2Proof.Machine.State

theorem countersOk_iff (s : State) :
    s.countersOk = true ↔ SMap.wf 0 s.ctrs = true ∧ ∀ e ∈ s.ctrs, e.2 ≤ ctrMax := by
  simp [countersOk]

theorem ctr_clearCtr (s : State) (c : Ctr) (i : Nat) (h : SMap.wf 0 s.ctrs = true) : (s.clearCtr c i).ctr c i = 0 :=
  SMap.get_del_same 0 s.ctrs 0 (c.key i) (SMap.rises_of_wf h)

theorem ctr_clearCtr_ne (s : State) (c d : Ctr) (i j : Nat) (h : d.key j ≠ c.key i) :
    (s.clearCtr c i).ctr d j = s.ctr d j :=
  SMap.get_del_ne 0 s.ctrs (c.key i) (d.key j) h

theorem wf_ctrs_clearCtr (s : State) (c : Ctr) (i : Nat) (h : SMap.wf 0 s.ctrs = true) :
    SMap.wf 0 (s.clearCtr c i).ctrs = true :=
  SMap.wf_del 0 s.ctrs (c.key i) h

theorem countersOk_count (s : State) (c : Ctr) (i n : Nat) (h : s.countersOk = true) :
    (s.count c i n).countersOk = true := by
  obtain ⟨hwf, hmax⟩ := (countersOk_iff s).mp h
  refine (countersOk_iff _).mpr ⟨SMap.wf_set _ _ _ _ hwf, fun e he => ?_⟩
  rcases SMap.mem_set _ _ _ _ _ he with rfl | hold
  · exact min_le_left _ _
  · exact hmax e hold

theorem countersOk_clearCtr (s : State) (c : Ctr) (i : Nat) (h : s.countersOk = true) :
    (s.clearCtr c i).countersOk = true := by
  obtain ⟨hwf, hmax⟩ := (countersOk_iff s).mp h
  exact (countersOk_iff _).mpr ⟨wf_ctrs_clearCtr s c i hwf, fun e he => hmax e (SMap.mem_del _ _ e he)⟩

end Sys2Proof.Machine.State

namespace Sys2Proof.Machine

open State

/-- Settles O3: counting is a write of the counter table and clearing takes the entry out. -/
theorem countersSaturateAndClear : Obligations.CountersSaturateAndClear := by
  intro s c i n h
  have hwf : SMap.wf 0 s.ctrs = true := ((countersOk_iff s).mp h).1
  refine ⟨ctr_count s c i n hwf, ctr_clearCtr s c i hwf, fun d j hne => ?_, countersOk_count s c i n h,
    countersOk_clearCtr s c i h⟩
  exact ⟨ctr_count_ne s c d i j n hne, ctr_clearCtr_ne s c d i j hne⟩

end Sys2Proof.Machine
end

section
/-! PROOFS. Accesses to counters and registers: a counter read, a write under the access codes, an access through a VF's page,
and the interrupt register (R13, R17, R19, R304, R362, R438, R518). -/

namespace Sys2Proof.Machine.State

/-! The read of a counter register. -/

/-- Clear the instances of a counter in a list, as a read of its register does. -/
def clearCtrs (s : State) (c : Ctr) (is : List Nat) : State := is.foldl (fun q k => q.clearCtr c k) s

@[simp] theorem clearCtrs_nil (s : State) (c : Ctr) : s.clearCtrs c [] = s := rfl
@[simp] theorem clearCtrs_cons (s : State) (c : Ctr) (k : Nat) (is : List Nat) :
    s.clearCtrs c (k :: is) = (s.clearCtr c k).clearCtrs c is := rfl

/-- Clearing counters writes the counters alone. -/
theorem clearCtrs_only (s : State) (c : Ctr) (is : List Nat) :
    s.clearCtrs c is = { s with ctrs := (s.clearCtrs c is).ctrs } := by
  induction is generalizing s with
  | nil => rfl
  | cons k is ih => exact ih (s.clearCtr c k)

theorem ctr_clearCtrs_ne (s : State) (c d : Ctr) (is : List Nat) (j : Nat) (h : ∀ k ∈ is, d.key j ≠ c.key k) :
    (s.clearCtrs c is).ctr d j = s.ctr d j := by
  induction is generalizing s with
  | nil => rfl
  | cons k is ih =>
    rw [clearCtrs_cons, ih _ fun x hx => h x (List.mem_cons_of_mem _ hx)]
    exact ctr_clearCtr_ne s c d k j (h k List.mem_cons_self)

/-- A counter that is 0, or is among those cleared, is 0 afterwards. -/
theorem ctr_clearCtrs (s : State) (c : Ctr) (is : List Nat) (j : Nat) (hwf : SMap.wf 0 s.ctrs = true)
    (h : s.ctr c j = 0 ∨ j ∈ is) : (s.clearCtrs c is).ctr c j = 0 := by
  induction is generalizing s with
  | nil => simpa using h
  | cons k is ih =>
    refine ih _ (wf_ctrs_clearCtr s c k hwf) ?_
    by_cases hkey : c.key j = c.key k
    · refine Or.inl ?_
      have hzero := ctr_clearCtr s c k hwf
      rwa [ctr, ← hkey] at hzero
    · rw [ctr_clearCtr_ne s c c k j hkey]
      refine h.imp id fun hmem => ?_
      exact (List.mem_cons.mp hmem).resolve_left fun hjk => hkey (by rw [hjk])

/-- A counter register of a block the variant has is read as the saturating sum of its instances, which are cleared (R17). -/
theorem readCtr_present (s : State) (c : Ctr) (i : Nat) (h : s.blockAbsent c.place.dims i = false) :
    s.readCtr c i = (s.clearCtrs c (s.ctrInstances c i),
      wordOf (Nat.min ctrMax ((s.ctrInstances c i).map (s.ctr c)).sum)) := by
  simp only [readCtr, h, Bool.false_eq_true, if_false, List.sum_eq_foldl, List.foldl_map, clearCtrs]

/-! A write under the access codes. -/

/-- A register reads back what is set, in a register file whose keys rise. -/
theorem reg_setReg (s : State) (r : Reg) (i : Nat) (w : Word) (h : SMap.risesFrom 0 s.regs.eff = true) :
    (s.setReg r i w).reg r i = w :=
  SMap.get_set_same_of_rises _ _ _ _ h

/-- What the access codes make of a register's value `old` when `w` is written: RW bits are those written, W1C bits written 1
are cleared (R13). -/
def written (m : Access) (old w : Word) : Word :=
  (old &&& ~~~(wordOf m.rw) ||| w &&& wordOf m.rw) &&& ~~~(w &&& wordOf m.w1c)

/-- A write puts RWC bits into the shadow, where there are any. -/
def writeShadow (s : State) (r : Reg) (i : Nat) (w : Word) : State :=
  if r.access.rwc = 0 then s else s.setShadow r i (w &&& wordOf r.access.rwc)

@[simp] theorem writeShadow_eff (s : State) (r : Reg) (i : Nat) (w : Word) :
    (s.writeShadow r i w).regs.eff = s.regs.eff := by
  unfold writeShadow; split <;> rfl
@[simp] theorem writeShadow_cap (s : State) (r : Reg) (i : Nat) (w : Word) :
    (s.writeShadow r i w).regs.cap = s.regs.cap := by
  unfold writeShadow; split <;> rfl
@[simp] theorem reg_writeShadow (s : State) (r q : Reg) (i j : Nat) (w : Word) :
    (s.writeShadow r i w).reg q j = s.reg q j := by
  simp only [reg, writeShadow_eff]
theorem writeShadow_only (s : State) (r : Reg) (i : Nat) (w : Word) :
    s.writeShadow r i w = { s with regs := (s.writeShadow r i w).regs } := by
  unfold writeShadow; split <;> rfl

/-- A write without RW and W1C bits reaches the shadow alone. -/
theorem plainWrite_shadow_only (s : State) (r : Reg) (i : Nat) (w : Word) (h : r.access.rw = 0 ∧ r.access.w1c = 0) :
    s.plainWrite r i w = s.writeShadow r i w :=
  if_pos h

/-- A write with RW or W1C bits sets the value in effect besides. -/
theorem plainWrite_eff (s : State) (r : Reg) (i : Nat) (w : Word) (h : ¬ (r.access.rw = 0 ∧ r.access.w1c = 0)) :
    s.plainWrite r i w = (s.writeShadow r i w).setReg r i (written r.access (s.reg r i) w) := by
  rw [← reg_writeShadow s r r i i w]
  exact if_neg h

theorem plainWrite_only (s : State) (r : Reg) (i : Nat) (w : Word) :
    s.plainWrite r i w = { s with regs := (s.plainWrite r i w).regs } := by
  by_cases h : r.access.rw = 0 ∧ r.access.w1c = 0
  · rw [plainWrite_shadow_only s r i w h]
    exact writeShadow_only s r i w
  · rw [plainWrite_eff s r i w h, writeShadow_only]
    rfl

theorem captured_plainWrite (s : State) (r q : Reg) (i j : Nat) (w : Word) :
    (s.plainWrite r i w).captured q j = s.captured q j := by
  have hcap : (s.plainWrite r i w).regs.cap = s.regs.cap := by
    by_cases h : r.access.rw = 0 ∧ r.access.w1c = 0
    · rw [plainWrite_shadow_only s r i w h, writeShadow_cap]
    · rw [plainWrite_eff s r i w h]
      exact writeShadow_cap s r i w
  rw [captured, hcap, captured]

/-- RWC bits written wait in the shadow (R438). -/
theorem shadow_plainWrite (s : State) (r : Reg) (i : Nat) (w : Word) (hrwc : r.access.rwc ≠ 0) :
    SMap.get none (s.plainWrite r i w).regs.shadow (r.key i) = some (w &&& wordOf r.access.rwc) := by
  have hshadow : (s.plainWrite r i w).regs.shadow = (s.setShadow r i (w &&& wordOf r.access.rwc)).regs.shadow := by
    by_cases h : r.access.rw = 0 ∧ r.access.w1c = 0
    · rw [plainWrite_shadow_only s r i w h, writeShadow, if_neg hrwc]
    · rw [plainWrite_eff s r i w h, writeShadow, if_neg hrwc]
      rfl
  rw [hshadow]
  exact SMap.get_set_of_ne none _ _ _ (Option.some_ne_none _)

/-- RW bits written take effect and W1C bits written 1 are cleared (R13). -/
theorem reg_plainWrite (s : State) (r : Reg) (i : Nat) (w : Word) (hr : SMap.risesFrom 0 s.regs.eff = true)
    (h : r.access.rw ≠ 0 ∨ r.access.w1c ≠ 0) :
    (s.plainWrite r i w).reg r i = written r.access (s.reg r i) w := by
  rw [plainWrite_eff s r i w (not_and_or.mpr h)]
  exact reg_setReg _ r i _ (by rwa [writeShadow_eff])

theorem reg_plainWrite_ne (s : State) (r q : Reg) (i j : Nat) (w : Word) (hne : q.key j ≠ r.key i) :
    (s.plainWrite r i w).reg q j = s.reg q j := by
  by_cases h : r.access.rw = 0 ∧ r.access.w1c = 0
  · rw [plainWrite_shadow_only s r i w h, reg_writeShadow]
  · rw [plainWrite_eff s r i w h, reg_setReg_ne _ _ _ _ _ _ hne, reg_writeShadow]

/-! Writes of the device register space. -/

/-- Outside the MSI-X table, the pending bits and the shadows of slices above 7 a write reaches the register there. -/
theorem devWrite_register (s : State) (pf : Option Nat) (a : Nat) (w : Word) (r : Reg) (i : Nat)
    (hout : a < 0xA80000 ∨ 0xA81008 ≤ a) (hhigh : highShadow a = false) (hreg : regAt a = some (r, i)) :
    s.devWrite pf a w = s.regWrite r i w := by
  have htable : ¬ (tableBase ≤ a ∧ a < tableBase + 0x400) := by unfold tableBase; omega
  have hpba : a ≠ pbaAddr := by unfold pbaAddr; omega
  simp [devWrite, htable, hpba, hhigh, hreg]

/-- A nonzero value in a reserved field has no defined result (R19). -/
theorem regWrite_reserved (s : State) (r : Reg) (i : Nat) (w : Word) (hd : s.writeDiscarded r i = false)
    (hres : reservedSet r w = true) : s.regWrite r i w = .fault (.undefinedResult 19) := by
  simp [regWrite, hd, hres]

/-- A register with no effect beyond its access codes is written under them. -/
theorem regWrite_plain (s : State) (r : Reg) (i : Nat) (w : Word) (hd : s.writeDiscarded r i = false)
    (hres : reservedSet r w = false) (hu : s.writeUndef r w = none) (hc : s.commandWrite r i w = none) :
    s.regWrite r i w = .next (s.plainWrite r (s.shadowInst r i) w) := by
  simp [regWrite, hd, hres, hu, hc]

/-! Accesses through a VF's page (R366, R396). -/

theorem vfAccess_unserved (s : State) (v : Nat) (tee : Bool) (f : State → Result) (hv : isVf v = true)
    (hup : s.portUp (v / 1024) = true) (hs : s.vfServes v tee = false) :
    s.vfAccess v tee f = .next (s.emit (.hostError (v / 1024) 0 "UR")) := by
  simp [vfAccess, hv, hup, hs]

theorem vfAccess_served (s : State) (v : Nat) (tee : Bool) (f : State → Result) (hv : isVf v = true)
    (hup : s.portUp (v / 1024) = true) (hs : s.vfServes v tee = true) : s.vfAccess v tee f = f s := by
  simp [vfAccess, hv, hup, hs]

/-! The interrupt register of a context (R362). -/

/-- Two states that agree on everything but the counters, the host ports and what has left the module. -/
def SameButMsix (s t : State) : Prop := t = { s with ctrs := t.ctrs, host := t.host, out := t.out }

theorem SameButMsix.refl (s : State) : SameButMsix s s := rfl

theorem SameButMsix.trans {s t u : State} (hst : SameButMsix s t) (htu : SameButMsix t u) : SameButMsix s u := by
  rw [SameButMsix] at hst htu ⊢
  rw [htu, hst]

theorem SameButMsix.regs_eq {s t : State} (h : SameButMsix s t) : t.regs = s.regs := by
  rw [SameButMsix] at h
  rw [h]

/-- A message requested for a VF is dropped, kept pending or sent (Table 12-3). -/
theorem requestMsix_sameButMsix (s : State) (v i : Nat) : SameButMsix s (s.requestMsix v i) := by
  unfold requestMsix
  dsimp only
  split
  case isTrue => rfl
  case isFalse =>
    split
    case isTrue => rfl
    case isFalse => rfl

/-- A write of HG_VF_IRQ is the write under its access codes, and then messages at most. -/
theorem irqWrite_sameButMsix (s : State) (v : Nat) (w : Word) :
    SameButMsix (s.plainWrite .hgVfIrq v w) (s.irqWrite v w) := by
  unfold irqWrite forUpTo
  refine List.foldlRecOn _ _ (SameButMsix.refl _) fun q hq i _ => hq.trans ?_
  dsimp only
  split
  · exact requestMsix_sameButMsix q v _
  · exact SameButMsix.refl q

theorem written_hgVfIrq (old w : Word) :
    written Reg.hgVfIrq.access old w = old &&& ~~~(wordOf 0xFFF) ||| w &&& wordOf 0xFFF := by
  have hnone : ~~~(w &&& wordOf 0) = BitVec.allOnes 64 := by simp [wordOf]
  simp only [written, Reg.access, hnone, BitVec.and_allOnes]

/-! Origins (R304). -/

theorem clearOrigin_held (s : State) (o : Nat)
    (h : s.slots.any (fun e => decide (e.2.state ≠ .free) && e.2.hdr.origin == o) = true) : s.clearOrigin o = s :=
  if_pos h

theorem clearOrigin_free (s : State) (o : Nat)
    (h : s.slots.any (fun e => decide (e.2.state ≠ .free) && e.2.hdr.origin == o) = false) :
    s.clearOrigin o = { s with origins := s.origins.filter (fun x => x.node != o) } :=
  if_neg (Bool.eq_false_iff.mp h)

end Sys2Proof.Machine.State

namespace Sys2Proof.Machine

open State

/-! What each command does. -/

theorem exec_counterRead (s : State) (port addr len : Nat) (c : Ctr) (i : Nat) (hal : aligned addr len = true)
    (hat : ctrAt addr = some (c, i)) (hpres : s.blockAbsent c.place.dims i = false) :
    exec (.counterRead port addr len) s = .next ((s.clearCtrs c (s.ctrInstances c i)).emit
      (.value (wordOf (Nat.min ctrMax ((s.ctrInstances c i).map (s.ctr c)).sum)))) := by
  change execCounterRead port addr len s = _
  simp [execCounterRead, hal, hat, readCtr_present s c i hpres]

theorem exec_counterRead_misaligned (s : State) (port addr len : Nat) (hal : aligned addr len = false) :
    exec (.counterRead port addr len) s = .next (s.emit (.hostError port 0 "UR")) := by
  change execCounterRead port addr len s = _
  simp [execCounterRead, hal]

/-- A write by the PF of a port that serves its host reaches the device register space. -/
theorem exec_registerWrite_pf (s : State) (port addr len : Nat) (w : Word) (hp : port < 2) (hup : s.portUp port = true)
    (hal : aligned addr len = true) :
    exec (.registerWrite (.pf port) addr len w) s = s.devWrite (some port) addr w :=
  if_pos ⟨hp, hup, hal⟩

/-- A write by the PF of no port, of a port without a link, or of another size or alignment does nothing (R518). -/
theorem exec_registerWrite_pf_dropped (s : State) (port addr len : Nat) (w : Word)
    (h : 2 ≤ port ∨ s.portUp port = false ∨ aligned addr len = false) :
    exec (.registerWrite (.pf port) addr len w) s = .next s := by
  refine if_neg ?_
  rintro ⟨hp, hup, hal⟩
  rcases h with h | h | h
  · omega
  · simp [hup] at h
  · simp [hal] at h

theorem exec_registerWrite_vf_unserved (s : State) (v : Nat) (tee : Bool) (addr len : Nat) (w : Word)
    (hv : isVf v = true) (hup : s.portUp (v / 1024) = true) (hs : s.vfServes v tee = false) :
    exec (.registerWrite (.vf v tee) addr len w) s = .next (s.emit (.hostError (v / 1024) 0 "UR")) := by
  change execRegisterWrite (.vf v tee) addr len w s = _
  rw [execRegisterWrite, vfAccess_unserved s v tee _ hv hup hs]

theorem exec_rqOriginClr (s : State) (o : Nat) : exec (.rqOriginClr o) s = .next (s.clearOrigin o) := rfl

theorem exec_hgVfIrq_unserved (s : State) (ctx : Nat) (w : Word) (tee : Bool) (hv : isVf (vfOfCtx ctx) = true)
    (hup : s.portUp (vfOfCtx ctx / 1024) = true) (hs : s.vfServes (vfOfCtx ctx) tee = false) :
    exec (.hgVfIrq ctx w tee) s = .next (s.emit (.hostError (vfOfCtx ctx / 1024) 0 "UR")) := by
  change execHgVfIrq ctx w tee s = _
  rw [execHgVfIrq, vfAccess_unserved s (vfOfCtx ctx) tee _ hv hup hs]

theorem exec_hgVfIrq_served (s : State) (ctx : Nat) (w : Word) (tee : Bool) (hv : isVf (vfOfCtx ctx) = true)
    (hup : s.portUp (vfOfCtx ctx / 1024) = true) (hs : s.vfServes (vfOfCtx ctx) tee = true)
    (hres : reservedSet .hgVfIrq w = false) :
    exec (.hgVfIrq ctx w tee) s = .next (s.irqWrite (vfOfCtx ctx) w) := by
  change execHgVfIrq ctx w tee s = _
  rw [execHgVfIrq, vfAccess_served s (vfOfCtx ctx) tee _ hv hup hs]
  simp [hres]

/-- Settles O54, clause by clause from what each command does. -/
theorem registerAccesses : Obligations.RegisterAccesses := by
  intro s hr hwf
  refine ⟨?counterRead, fun port addr len hal => exec_counterRead_misaligned s port addr len hal, ?write,
    fun port addr len w h => exec_registerWrite_pf_dropped s port addr len w h,
    fun v tee addr len w hv hup hs => exec_registerWrite_vf_unserved s v tee addr len w hv hup hs, ?origin,
    fun ctx w tee hv hup hs => exec_hgVfIrq_unserved s ctx w tee hv hup hs, ?irq⟩
  case counterRead =>
    intro port addr len c i hal hat hpres
    refine ⟨_, exec_counterRead s port addr len c i hal hat hpres, ?_, ?_,
      fun k hk => ctr_clearCtrs s c _ k hwf (Or.inr hk), fun d j hne => ctr_clearCtrs_ne s c d _ j hne⟩
    · rw [clearCtrs_only]
      rfl
    · rw [clearCtrs_only]
      rfl
  case write =>
    intro port addr len w r i hp hup hal hreg hout hhigh hd
    rw [exec_registerWrite_pf s port addr len w hp hup hal, devWrite_register s _ addr w r i hout hhigh hreg]
    refine ⟨regWrite_reserved s r i w hd, fun hres hu hc => ?_⟩
    exact ⟨_, regWrite_plain s r i w hd hres hu hc, plainWrite_only s r _ w,
      fun hrwc => ⟨captured_plainWrite s r r _ _ w, shadow_plainWrite s r _ w hrwc⟩,
      reg_plainWrite s r _ w hr, fun q j hne => reg_plainWrite_ne s r q _ j w hne⟩
  case origin =>
    intro o
    rw [exec_rqOriginClr]
    refine ⟨fun h => by rw [clearOrigin_held s o h], fun h => ⟨_, rfl, ?_⟩⟩
    rw [clearOrigin_free s o h]
    refine ⟨rfl, fun x hx => ?_, fun x hx hne => List.mem_filter.mpr ⟨hx, bne_iff_ne.mpr hne⟩⟩
    exact bne_iff_ne.mp (List.mem_filter.mp hx).2
  case irq =>
    intro ctx w tee hv hup hs hres
    have hmsix := irqWrite_sameButMsix s (vfOfCtx ctx) w
    have hregs : ∀ r j, (s.irqWrite (vfOfCtx ctx) w).reg r j = (s.plainWrite .hgVfIrq (vfOfCtx ctx) w).reg r j :=
      fun r j => by rw [reg, hmsix.regs_eq, reg]
    refine ⟨_, exec_hgVfIrq_served s ctx w tee hv hup hs hres, ?_, ?_, fun r j hne => ?_⟩
    · rw [hregs, reg_plainWrite s _ _ w hr (Or.inl (by decide)), written_hgVfIrq]
    · rw [SameButMsix, plainWrite_only] at hmsix
      rw [hmsix]
    · rw [hregs, reg_plainWrite_ne s _ r _ j w hne]

end Sys2Proof.Machine
end

section
/-! PROOFS. Requests on conversations at their turn: APPEND, SEAL, HINT, CLOSE_CONV and PROMOTE past stages 4 and 5 (R33, R147,
R151, R282, R283, R31, R226). -/

namespace Sys2Proof.Machine

open State

/-- Rows that are staged and whose parts reach the partner leave the APPEND waiting for their confirmation (R33, R148). -/
theorem State.appendRows_staged (s u v : State) (n a ix pos rows : Nat) (r : Root) (g : Staged)
    (haside : s.needsAside r (s.store.stream a ix) ((s.slot n).hdr.flag flagTentative) rows = false)
    (hstage : stageRows (2 * rows + 2) s r
      { root := a, ix := ix, pos := pos, n := rows, tent := (s.slot n).hdr.flag flagTentative }
      (bodyRows (bodyOf (s.slot n).hdr (s.slot n).body) r.kvfmt r.dim rows) = .ok (u, g))
    (hsend : (u.beginWait n r.ctx).sendParts n r g g.parts = some v) :
    s.appendRows n a ix r pos rows = v.updSlot n (fun y => { y with prog := .staged g }) := by
  simp only [appendRows, haside, Bool.false_eq_true, if_false, hstage, hsend]

/-- Settles O22: each request's branches in the order its rule checks them. -/
theorem requestsOnConversations : Obligations.RequestsOnConversations := by
  intro s q slot a r
  refine ⟨fun hgo => ⟨fun hbad => ?appendBad, fun hok p hstale => ?appendStale, fun u v g hok hlist haside hstage hsend => ?append⟩,
    fun hgo => ⟨fun hset => ?sealNone, fun set hset => ⟨fun htent => ?sealTent, fun htent p hstale => ?sealStale,
      fun htent hlist hgrp => ?sealPages, fun htent hlist hgrp => ?sealGroup⟩⟩,
    fun hgo => ⟨fun hlist => ?hint, fun p hstale => ?hintStale⟩, fun hgo hatt => ?close, fun hgo hset => ?promoteNone,
    fun hgo set hset => ⟨fun hgap => ?promoteGap, fun hgap p hstale => ?promoteStale, fun hgap hlist hdeep => ?promoteNear,
      fun hgap hlist hdeep => ?promote⟩⟩
  case appendBad =>
    change execAppend slot s = _
    simp only [execAppend, hgo, hbad, if_true]
  case appendStale =>
    change execAppend slot s = _
    simp only [execAppend, hgo, hok, hstale, Bool.false_eq_true, if_false]
  case append =>
    change execAppend slot s = _
    simp only [execAppend, hgo, hok, hlist, Bool.false_eq_true, if_false]
    rw [appendRows_staged q u v _ _ _ _ _ _ g haside hstage hsend]
  case sealNone =>
    change execSeal slot s = _
    simp only [execSeal, hgo, hset]
  case sealTent =>
    change execSeal slot s = _
    simp only [execSeal, hgo, hset]
    exact if_pos htent
  case sealStale =>
    change execSeal slot s = _
    simp only [execSeal, hgo, hset, hstale]
    exact if_neg (Bool.eq_false_iff.mp htent)
  case sealPages =>
    change execSeal slot s = _
    simp only [execSeal, hgo, hset, hlist, hgrp, Bool.false_eq_true, if_false]
    exact if_neg (Bool.eq_false_iff.mp htent)
  case sealGroup =>
    change execSeal slot s = _
    simp only [execSeal, hgo, hset, hlist, hgrp, if_true]
    exact if_neg (Bool.eq_false_iff.mp htent)
  case hint =>
    change execHint slot s = _
    simp only [execHint, hgo, hlist]
  case hintStale =>
    change execHint slot s = _
    simp only [execHint, hgo, hstale]
  case close =>
    change execCloseConv slot s = _
    simp only [execCloseConv, hgo, hatt, Bool.false_eq_true, if_false]
  case promoteNone =>
    change execPromote slot s = _
    simp only [execPromote, hgo, hset]
  case promoteGap =>
    change execPromote slot s = _
    simp only [execPromote, hgo, hset, hgap, if_true]
  case promoteStale =>
    change execPromote slot s = _
    simp only [execPromote, hgo, hset, hgap, hstale, Bool.false_eq_true, if_false]
  case promoteNear =>
    change execPromote slot s = _
    simp only [execPromote, hgo, hset, hgap, hlist, hdeep, List.isEmpty_nil, Bool.false_eq_true, if_false, if_true]
  case promote =>
    change execPromote slot s = _
    simp only [execPromote, hgo, hset, hgap, hlist, List.isEmpty_eq_false_iff.mpr hdeep, updSlot_store, Bool.false_eq_true,
      if_false]

end Sys2Proof.Machine
end

section
/-! PROOFS. ATTEND at its turn: the checks of its head, formats and length, and its snapshot (R40, R107, R126, R278, R467). -/

namespace Sys2Proof.Machine

open State

/-- The record of an ATTEND and its group are marked attended, and the slot keeps its snapshot's length and has taken effect
(R107, R126). -/
def State.markAttended (s : State) (slot a len : Nat) (r : Root) : State :=
  let st := { s.store with clock := s.store.clock + 1 }
  let st := st.updRoot a (fun g => { g with attended := st.clock })
  let st := if r.groupLedger = 0 then st else st.updRoot r.groupLedger (fun g => { g with attended := st.clock })
  ({ s with store := st } : State).updSlot slot (fun y => { y with taken := true, snaplen := some len })

theorem State.markAttended_dram (s : State) (slot a len : Nat) (r : Root) :
    (s.markAttended slot a len r).store.dram = s.store.dram := by
  unfold markAttended
  rw [updSlot_store]
  dsimp only
  split <;> rfl

theorem State.markAttended_slot (s : State) (slot a len : Nat) (r : Root) :
    (s.markAttended slot a len r).slot slot = { s.slot slot with taken := true, snaplen := some len } := by
  refine slot_setSlot _ _ _ fun h => ?_
  have htaken := congrArg Slot.taken h
  cases htaken

/-- The head and layer that ATTEND refuses are those the record does not hold (R278). -/
theorem attend_headBad_iff (h : Hdr) (r : Root) :
    (h.kvh ≥ 32 ∨ (!r.headSet.testBit h.kvh) = true ∨ r.layers ≤ h.layer) ↔
      ¬ (h.kvh < 32 ∧ r.headSet.testBit h.kvh = true ∧ h.layer < r.layers) := by
  simp only [not_and_or, Nat.not_lt, Bool.not_eq_true', Bool.not_eq_true, ge_iff_le]

/-- Settles O25: the checks in the order R278 gives them, then the snapshot. -/
theorem attendTakesItsSnapshot : Obligations.AttendTakesItsSnapshot := by
  intro s q slot a r hgo
  have hexec : exec (.attend slot) s = execAttend slot s := rfl
  dsimp only
  rw [hexec]
  simp only [execAttend, hgo, attend_headBad_iff]
  refine ⟨fun hheld => if_pos hheld, fun hheld hfmt => ?format, fun hheld hfmt => ⟨fun hsized => ?length, fun hsized hgap => ?gap,
    fun p hsized hgap hstale => ?stale, fun hsized hgap hvalid => ?snapshot⟩⟩
  all_goals rw [if_neg (not_not.mpr hheld)]
  case format => simp only [hfmt, Bool.not_false, if_true]
  all_goals simp only [hfmt, Bool.not_true, Bool.false_eq_true, if_false]
  case length =>
    by_cases htotal : ownTotal (q.slot slot).hdr =
        32 + (q.attReq slot).g * dimOf r.dim * Weir.qWidth (q.attReq slot).qfmt
    · have hbounds : 4096 < (q.attReq slot).sinks ∨ 4096 < (q.attReq slot).topk := by
        by_contra hin
        exact hsized ⟨htotal, by omega, by omega⟩
      rw [if_neg (not_not.mpr htotal), if_pos hbounds]
    · exact if_pos htotal
  all_goals
    obtain ⟨htotal, hsinks, htopk⟩ := hsized
    rw [if_neg (not_not.mpr htotal), if_neg (by omega)]
  case gap => exact if_pos hgap
  all_goals rw [if_neg (Bool.eq_false_iff.mp hgap)]
  case stale => rw [hstale]
  case snapshot =>
    rw [List.find?_eq_none.mpr (List.any_eq_false.mp hvalid)]
    have hslot := markAttended_slot q slot a ((q.slot slot).snaplen.getD (q.store.stream a
      (Store.streamIx r (q.slot slot).hdr.layer (q.slot slot).hdr.kvh)).length) r
    exact ⟨q.markAttended slot a _ r, rfl, rfl, markAttended_dram q slot a _ r, by rw [hslot], by rw [hslot], by rw [hslot],
      by rw [hslot], rfl⟩

end Sys2Proof.Machine
end

section
/-! PROOFS. Reports and the merge of an ATTEND: what a report of a fault leaves alone, the merged answer, and the comparison of
an assay (R45, R113, R447, R472, R473, R476). -/

namespace Sys2Proof.Machine.State

/-! What reports leave alone. -/

/-- Two states that agree on everything but registers, counters, host ports, what has left the module, and what is kept for
management. -/
def SameButReports (s t : State) : Prop :=
  t = { s with regs := t.regs, ctrs := t.ctrs, host := t.host, out := t.out, power := t.power }

theorem SameButReports.refl (s : State) : SameButReports s s := rfl

theorem SameButReports.trans {s t u : State} (hst : SameButReports s t) (htu : SameButReports t u) : SameButReports s u := by
  rw [SameButReports] at hst htu ⊢
  rw [htu, hst]

theorem setPower_sameButReports (s : State) (p : PowerSt) : SameButReports s { s with power := p } := rfl

theorem setBit_sameButReports (s : State) (r : Reg) (i b : Nat) : SameButReports s (s.setBit r i b) := rfl

/-- A message of the PF of each port (R448) is dropped, kept pending or sent. -/
theorem requestPf_sameButReports (s : State) (i : Nat) : SameButReports s (s.requestPf i) := by
  unfold requestPf forUpTo
  refine List.foldlRecOn _ _ (SameButReports.refl _) fun q hq p _ => hq.trans ?_
  dsimp only
  split
  case isTrue => rfl
  case isFalse => split <;> rfl

theorem sendPldm_sameButReports (s : State) (r : Report) : SameButReports s (s.sendPldm r) := by
  unfold sendPldm
  split
  · split <;> rfl
  · rfl

theorem sendReport_sameButReports (s : State) (e : MEvent) : SameButReports s (s.sendReport e) := by
  unfold sendReport
  exact List.foldlRecOn _ _ (SameButReports.refl _) fun q hq a _ => hq.trans rfl

/-- A report is sent and kept for management (R447, R510). -/
theorem report_sameButReports (s : State) (r : Report) : SameButReports s (s.report r) := by
  unfold report
  refine ((setPower_sameButReports s { s.power with nextEseq := (s.power.nextEseq + 1) % 2 ^ 32 }).trans
    (sendPldm_sameButReports _ r)).trans ?_
  dsimp only
  split
  case isTrue => rfl
  case isFalse =>
    split
    case isTrue => rfl
    case isFalse => exact (setPower_sameButReports _ _).trans (sendReport_sameButReports _ _)

/-- A fault sets its bit, asks for a message and reports it (R447, R448). -/
theorem rsFault_sameButReports (s : State) (bit : Nat) : SameButReports s (s.rsFault bit) := by
  unfold rsFault
  refine SameButReports.trans ?_ (report_sameButReports _ _)
  split
  · rfl
  · exact (setBit_sameButReports s _ _ _).trans (requestPf_sameButReports _ _)

end Sys2Proof.Machine.State

namespace Sys2Proof.Machine.State

/-! The mismatch log (R473). -/

/-- Predictive counters advance, and nothing else of the state moves (R478). -/
theorem foldl_pred_only (s : State) (cls ev : Nat) (ks : List Nat) :
    ks.foldl (fun (q : State) k => q.pred cls k ev 1) s =
      { s with rel := { s.rel with pred := (ks.foldl (fun (q : State) k => q.pred cls k ev 1) s).rel.pred } } := by
  induction ks generalizing s with
  | nil => rfl
  | cons k ks ih =>
    rw [List.foldl_cons, ih]
    rfl

/-- A mismatch adds its record to the log and is reported: slots, DRAM and CAM stay, and a log with room grows by one. -/
theorem logMismatch_keeps (s : State) (rec : Bytes) (ks : List Nat) (ev : Nat) :
    (s.logMismatch rec ks ev).slots = s.slots ∧ (s.logMismatch rec ks ev).store = s.store ∧
    (s.logMismatch rec ks ev).cam = s.cam ∧
    (s.rel.mis.length < 256 → (s.logMismatch rec ks ev).rel.mis.length = s.rel.mis.length + 1) := by
  unfold logMismatch
  rw [foldl_pred_only]
  have hreport := (requestPf_sameButReports { s with rel := { s.rel with
      mis := if s.rel.mis.length < 256 then s.rel.mis ++ [rec] else setAt s.rel.mis s.rel.misNext rec,
      misNext := (s.rel.misNext + 1) % 256 } } 3).trans (report_sameButReports _ .mismatch)
  rw [hreport]
  refine ⟨rfl, rfl, rfl, fun hroom => ?_⟩
  simp [hroom]

/-! The ATTEND a slot works on. -/

/-- A slot that works on an ATTEND is active. -/
theorem att?_eq_some {s : State} {n : Nat} {a : Att} (h : s.att? n = some a) :
    (s.slot n).prog = .attend a ∧ (s.slot n).state = .active := by
  unfold att? at h
  split at h
  case h_1 b hprog =>
    split at h
    case isTrue hactive => exact ⟨by rw [hprog, Option.some.inj h], hactive⟩
    case isFalse => cases h
  case h_2 => cases h

theorem att?_setAtt {s : State} {n : Nat} (a : Att) (h : (s.slot n).state = .active) : (s.setAtt n a).att? n = some a := by
  have hslot : (s.setAtt n a).slot n = { s.slot n with prog := .attend a } := by
    refine slot_setSlot _ _ _ fun hfree => ?_
    have hprog := congrArg Slot.prog hfree
    cases hprog
  simp [att?, hslot, h]

/-- What is kept for the comparison with a spare (R476) lies in the state of its shadowing. -/
theorem keepSample_only (s : State) (n : Nat) (a : Att) (ms : List Partial) (body : Bytes) :
    s.keepSample n a ms body = { s with rel := (s.keepSample n a ms body).rel } := by
  unfold keepSample
  split <;> rfl

theorem attBody_only (s : State) (n : Nat) (a : Att) (ms : List Partial) :
    (s.attBody n a ms).1 = { s with ctrs := (s.attBody n a ms).1.ctrs } := rfl

/-- The state in which an ATTEND's partials have been merged (R113, R476). -/
def mergedState (s : State) (n : Nat) (a : Att) : State :=
  let r := s.attBody n a (s.mergeOf n a 0)
  (r.1.tick).keepSample n a (s.mergeOf n a 0) r.2

theorem mergedState_slots (s : State) (n : Nat) (a : Att) : (s.mergedState n a).slots = s.slots := by
  rw [mergedState, keepSample_only, attBody_only]
  rfl

theorem mergedState_store (s : State) (n : Nat) (a : Att) : (s.mergedState n a).store = s.store := by
  rw [mergedState, keepSample_only, attBody_only]
  rfl

end Sys2Proof.Machine.State

namespace Sys2Proof.Machine

open State

/-- MERGE_PARTIALS once every original chain has emitted (R45, R113, R472). -/
theorem exec_mergePartials (s : State) (slot : Nat) (a : Att) (hatt : s.att? slot = some a) (hstage : a.stage = .pipes)
    (hdone : allEmitted a 0 = true) :
    exec (.mergePartials slot) s =
      if a.assay then .next ((s.mergedState slot a).setAtt slot { a with
        stage := .assay, merged := s.mergeOf slot a 0, body := (s.attBody slot a (s.mergeOf slot a 0)).2 })
      else .next ((s.mergedState slot a).finish slot stDone (s.attBody slot a (s.mergeOf slot a 0)).2 .plain) := by
  change execMergePartials slot s = _
  simp only [execMergePartials, hatt, hstage, hdone, ne_eq, not_true_eq_false, Bool.not_true, Bool.false_eq_true, or_self,
    if_false]
  rfl

/-- Settles O28: the answer of the merge, and the comparison that changes neither answer nor state beyond its reports. -/
theorem mergeAndAssay : Obligations.MergeAndAssay := by
  intro s slot a hatt
  refine ⟨fun hstage hdone => ?merge, fun hstage hdone => ⟨fun hsame => ?agree, fun m hdiff => ?differ⟩⟩
  case merge =>
    rw [exec_mergePartials s slot a hatt hstage hdone]
    refine ⟨fun hassay => if_neg (Bool.eq_false_iff.mp hassay), fun hassay => ⟨_, if_pos hassay, att?_setAtt _ ?_, ?_⟩⟩
    · rw [State.slot, mergedState_slots]
      exact (att?_eq_some hatt).2
    · exact mergedState_store s slot a
  case agree =>
    change execAssayCompare slot s = _
    simp only [execAssayCompare, hatt, hstage, hdone, hsame, ne_eq, not_true_eq_false, Bool.not_true, Bool.false_eq_true,
      or_self, if_false]
  case differ =>
    have hfault : SameButReports s.tick (s.tick.rsFault 7) := rsFault_sameButReports _ 7
    have hexec : ∃ rec ks, exec (.assayCompare slot) s = .next (((((((s.tick.rsFault 7).logMismatch rec ks 0).count
        .rsCntMismatch 0 1)).count .rsCntAssay 0 1).dropCopies a.frames).finish slot stDone a.body .plain) := by
      have hunfold : exec (.assayCompare slot) s = execAssayCompare slot s := rfl
      simp only [hunfold, execAssayCompare, hatt, hstage, hdone, hdiff, ne_eq, not_true_eq_false, Bool.not_true,
        Bool.false_eq_true, or_self, if_false]
      exact ⟨_, _, rfl⟩
    obtain ⟨rec, ks, hexec⟩ := hexec
    obtain ⟨hslots, hstore, hcam, hmis⟩ := logMismatch_keeps (s.tick.rsFault 7) rec ks 0
    refine ⟨_, ?_, ?_, ?_, ?_, hexec⟩
    · rw [count_slots, hslots, hfault]
      rfl
    · rw [count_store, hstore, hfault]
      rfl
    · rw [count_cam, hcam, hfault]
      rfl
    · intro hroom
      rw [count_rel, hmis (by rw [hfault]; exact hroom), hfault]
      rfl

end Sys2Proof.Machine
end

section
/-! PROOFS. RMA operations: the checks before one is performed, and what each does once it is (R22, R133, R172, R174, R327 to R329,
R332, R466, Table 10-9). -/

namespace Sys2Proof.Machine.State

/-! The checks, and which operation is performed. -/

section
variable (s : State) (c : Nat) (h : Hdr) (body : Bytes)

/-- A request bound to a context that is not OPEN has no effect (R22). -/
theorem serve_ctxClosed (hctx : (s.connCtx c).any (fun x => decide ((s.ctx x).state ≠ .opn)) = true) :
    s.serve c h body = (s, some (stCtxClosed, [])) := if_pos hctx

variable (hctx : (s.connCtx c).any (fun x => decide ((s.ctx x).state ≠ .opn)) = false)
include hctx

theorem serve_noRight (hright : s.hasRight c h (RmaDesc.ofBytes body) = false) :
    s.serve c h body = (s.count .fuRmaRights (s.connFurrow c) 1, some (stBadRange, [])) := by
  simp only [serve, hctx, hright, Bool.false_eq_true, if_false, Bool.not_false, if_true, servedBad]

variable (hright : s.hasRight c h (RmaDesc.ofBytes body) = true)
include hright

theorem serve_badForm (hform : formOk h (RmaDesc.ofBytes body) = false) :
    s.serve c h body = (s, some (stBadRange, [])) := by
  simp only [serve, hctx, hright, hform, Bool.false_eq_true, if_false, Bool.not_false, Bool.not_true, if_true, servedBad]

variable (hform : formOk h (RmaDesc.ofBytes body) = true)
include hform

/-- A read that passes the checks is the operation its OP names (Table 10-9). -/
theorem serve_read (hkind : h.kind = kRmaRead) :
    s.serve c h body =
      if (RmaDesc.ofBytes body).op = opLookup then s.serveLookup c h (RmaDesc.ofBytes body)
      else if (RmaDesc.ofBytes body).op = opGet then s.serveGet c h (RmaDesc.ofBytes body)
      else if (RmaDesc.ofBytes body).op = opLedger then s.serveLedger c h (RmaDesc.ofBytes body)
      else s.servedBad := by
  simp only [serve, hctx, hright, hform, hkind, Bool.false_eq_true, if_false, Bool.not_true, if_true]

/-- A write that passes the checks is the operation its OP names (Table 10-9). -/
theorem serve_write (hkind : h.kind = kRmaWrite) :
    s.serve c h body =
      if (RmaDesc.ofBytes body).op = opMopen then s.serveMopen c h (RmaDesc.ofBytes body) (body.drop 32)
      else if (RmaDesc.ofBytes body).op = opMrows then s.serveMrows c h (RmaDesc.ofBytes body) (body.drop 32)
      else if (RmaDesc.ofBytes body).op = opMpage then s.serveMpage c h (RmaDesc.ofBytes body) (body.drop 32)
      else if (RmaDesc.ofBytes body).op = opCode then s.serveCode c h (RmaDesc.ofBytes body) (body.drop 32)
      else if (RmaDesc.ofBytes body).op = opPut then s.servePut c h (RmaDesc.ofBytes body) (body.drop 32)
      else if (RmaDesc.ofBytes body).op = opMstate then
        if fieldOf (RmaDesc.ofBytes body).arg 3 0 = 1 then s.serveCommit c h (RmaDesc.ofBytes body)
        else if fieldOf (RmaDesc.ofBytes body).arg 3 0 = 2 then s.serveSeal c h (RmaDesc.ofBytes body) (body.drop 32)
        else if fieldOf (RmaDesc.ofBytes body).arg 3 0 = 3 then s.serveHint c h (RmaDesc.ofBytes body)
        else if fieldOf (RmaDesc.ofBytes body).arg 3 0 = 4 then s.serveClose c h (RmaDesc.ofBytes body)
        else if fieldOf (RmaDesc.ofBytes body).arg 3 0 = 5 then s.serveFree c h (RmaDesc.ofBytes body)
        else if fieldOf (RmaDesc.ofBytes body).arg 3 0 = 6 then s.serveRelease c h (RmaDesc.ofBytes body)
        else s.servedBad
      else s.servedBad := by
  have hread : h.kind ≠ kRmaRead := by rw [hkind]; decide
  simp only [serve, hctx, hright, hform, hread, Bool.false_eq_true, if_false, Bool.not_true]

/-- An MSTATE is the action its ARG names (Table 10-9). -/
theorem serve_mstate (hkind : h.kind = kRmaWrite) (hop : (RmaDesc.ofBytes body).op = opMstate) :
    let act := fieldOf (RmaDesc.ofBytes body).arg 3 0
    (act = 1 → s.serve c h body = s.serveCommit c h (RmaDesc.ofBytes body)) ∧
    (act = 2 → s.serve c h body = s.serveSeal c h (RmaDesc.ofBytes body) (body.drop 32)) ∧
    (act = 3 → s.serve c h body = s.serveHint c h (RmaDesc.ofBytes body)) ∧
    (act = 4 → s.serve c h body = s.serveClose c h (RmaDesc.ofBytes body)) ∧
    (act = 5 → s.serve c h body = s.serveFree c h (RmaDesc.ofBytes body)) ∧
    (act = 6 → s.serve c h body = s.serveRelease c h (RmaDesc.ofBytes body)) := by
  have hserve := serve_write s c h body hctx hright hform hkind
  rw [hop, if_neg (by decide), if_neg (by decide), if_neg (by decide), if_neg (by decide), if_neg (by decide),
    if_pos rfl] at hserve
  rw [hserve]
  refine ⟨?_, ?_, ?_, ?_, ?_, ?_⟩ <;>
    · intro hact
      rw [hact]
      rfl

end

/-! Reads of a record and its pages. -/

/-- The form a LOOKUP and a LEDGER take (Table 10-9). -/
theorem formOk_lookup {h : Hdr} {d : RmaDesc} (hkind : h.kind = kRmaRead) (hop : d.op = opLookup) (hform : formOk h d = true) :
    d.form = formStream := by
  simpa [formOk, hkind, hop] using hform

theorem formOk_ledger {h : Hdr} {d : RmaDesc} (hkind : h.kind = kRmaRead) (hop : d.op = opLedger) (hform : formOk h d = true) :
    d.form = formNone := by
  simpa [formOk, hkind, hop, opLedger, opLookup, opGet] using hform

section
variable {s : State} {c a : Nat} {h : Hdr} {d : RmaDesc} {r : Root} (htarget : s.targetRecord c h d = some (a, r))
include htarget

section
variable {ix : Nat} (hstream : targetStream r h = some ix)
include hstream

/-- A page held aside at the position answers a LOOKUP (log entry 67). -/
theorem serveLookup_aside (hform : d.form = formStream) {p : Nat} (haside : s.asideAt a ix d.firstpos = some p) :
    s.serveLookup c h d = (s, some (stDone, s.pageRef p)) := by
  simp only [serveLookup, htarget, hstream, hform, ne_eq, not_true_eq_false, if_false, haside]

/-- Else the page that holds the position does, if its number is still valid (R133, R329). -/
theorem serveLookup_page (hform : d.form = formStream) {e : PageEnt} (haside : s.asideAt a ix d.firstpos = none)
    (hpage : pageHolding (s.store.stream a ix) (tokensPerPage r.kvfmt) d.firstpos = some e) (hgap : Store.isGap e.page = false) :
    s.serveLookup c h d = if s.store.valid e.page then (s, some (stDone, s.pageRef e.page))
      else (s.staleUse e.page, some (stBadRange, [])) := by
  cases hvalid : s.store.valid e.page <;>
    simp [serveLookup, htarget, hstream, hform, haside, hpage, hgap, hvalid, servedBad]

end

theorem serveLedger_record (hform : d.form = formNone) :
    s.serveLedger c h d = (s, some (stDone, s.store.recordBytes a r)) := by
  simp only [serveLedger, htarget, hform, ne_eq, not_true_eq_false, if_false]

/-- GET in REF form: a page that lies in silt is read from its cell first, one with an uncorrectable word is BUSY (R329). -/
theorem serveGet_ref (hform : d.form = formRef) :
    s.serveGet c h d = match s.refMeets a r d with
      | .stale => s.stale c d.page
      | .bad => s.servedBad
      | .page _ => s.getPage c h d.page := by
  rw [serveGet, htarget]
  exact if_pos hform

end

theorem getPage_silt (s : State) (c : Nat) (h : Hdr) (p : Nat) (htier : (s.store.pent p).tier = .silt) :
    s.getPage c h p = (s.queueRead p (.rma c h), none) := if_pos htier

theorem getPage_dram (s : State) (c : Nat) (h : Hdr) (p : Nat) (htier : (s.store.pent p).tier ≠ .silt) :
    s.getPage c h p = if (s.sensePage p).2 then ((s.sensePage p).1, some (stBusy, []))
      else ((s.sensePage p).1, some (stDone, (s.sensePage p).1.pageRef p ++ (s.sensePage p).1.pagePayload p)) :=
  if_neg htier

/-! Writes of rows and pages in REF form (R328). -/

theorem length_bodyRows (b : Bytes) (kvfmt dim n : Nat) : (bodyRows b kvfmt dim n).length = n := by
  simp [bodyRows]

/-- Rows enter a page in DRAM at its next row where they fit, and the answer is BUSY where the write fails (R162, R328). -/
theorem rowsInto_next (s : State) (r : Root) (a ix p pos : Nat) (rows : List Store.Row) (tent aside : Bool)
    (hdram : s.store.inDram p = true) (hpos : pos = (s.store.header p).firstpos + (s.store.header p).rows)
    (hfit : (s.store.header p).rows + rows.length ≤ tokensPerPage r.kvfmt) :
    s.rowsInto r a ix p pos rows tent aside =
      if s.rowsFail p r.kvfmt r.dim (s.store.header p).rows rows.length then
        ((s.putRows p r.kvfmt r.dim (s.store.header p).rows rows).startRestore p, some (stBusy, []))
      else (s.copyRows r a ix p rows tent aside,
        some (stDone, (s.copyRows r a ix p rows tent aside).pageRef p)) :=
  if_pos ⟨hdram, hpos, hfit⟩

theorem rowsInto_elsewhere (s : State) (r : Root) (a ix p pos : Nat) (rows : List Store.Row) (tent aside : Bool)
    (hpos : pos ≠ (s.store.header p).firstpos + (s.store.header p).rows) :
    s.rowsInto r a ix p pos rows tent aside = (s, some (stBadRange, [])) :=
  if_neg fun hnext => hpos hnext.2.1

section
variable {s : State} {c a ix : Nat} {h : Hdr} {d : RmaDesc} {r : Root} {b : Bytes}
  (htarget : s.targetRecord c h d = some (a, r)) (hstream : targetStream r h = some ix) (hform : d.form = formRef)
include htarget hstream hform

/-- MROWS in REF form writes into the page its reference names. -/
theorem serveMrows_ref (hlen : b.length = appendLen r.kvfmt r.dim (fieldOf (numAt b 0 4) 31 24 + 1))
    (hmeets : s.refMeets a r d = .page ix) :
    s.serveMrows c h d b = s.rowsInto r a ix d.page (fieldOf (numAt b 0 4) 23 0)
      (bodyRows b r.kvfmt r.dim (fieldOf (numAt b 0 4) 31 24 + 1)) (d.arg.testBit 0) (s.asideOf a ix == some d.page) := by
  simp only [serveMrows, htarget, hstream, hform, hlen, hmeets, ne_eq, not_true_eq_false, if_false, if_true]

variable (hfits : b.length = extentBytes (r.dim == 2) + (if r.dim = 2 then 2 else 1) * 0x7C0)
include hfits

/-- MPAGE in REF form fills the page its reference names. -/
theorem serveMpage_ref (hmeets : s.refMeets a r d = .stale ∨ s.refMeets a r d = .page ix) :
    s.serveMpage c h d b = if s.refMeets a r d = .stale then s.stale c d.page
      else s.fillHeld a ix d.page (fieldOf d.arg 7 0) b := by
  rcases hmeets with hmeets | hmeets <;>
    simp [serveMpage, htarget, hstream, hform, hfits, hmeets]

/-- So does PUT (R467). -/
theorem servePut_ref (hmeets : s.refMeets a r d = .stale ∨ s.refMeets a r d = .page ix) :
    s.servePut c h d b = if s.refMeets a r d = .stale then s.stale c d.page
      else s.fillHeld a ix d.page (fieldOf d.arg 7 0) b := by
  rcases hmeets with hmeets | hmeets <;>
    simp [servePut, htarget, hstream, hform, hfits, hmeets]

end

/-- A page that is filled rises from silt where it lies there; with no frame free the answer is BUSY (R328). -/
theorem fillHeld_near (s u : State) (a ix p rows : Nat) (b : Bytes) (hnear : s.parityNear p = some u) :
    s.fillHeld a ix p rows b = (u.fillPage a ix p rows b, some (stDone, (u.fillPage a ix p rows b).pageRef p)) := by
  simp only [fillHeld, hnear]

theorem fillHeld_full (s : State) (a ix p rows : Nat) (b : Bytes) (hnear : s.parityNear p = none) :
    s.fillHeld a ix p rows b = (s, some (stBusy, [])) := by
  simp only [fillHeld, hnear]

/-! MSTATE (R171, R172, R328, R466). -/

section
variable {s : State} {c a : Nat} {h : Hdr} {d : RmaDesc} {r : Root} (htarget : s.targetRecord c h d = some (a, r))
include htarget

/-- An action on the copy is performed in no form, and in REF form while the reference names a page of the record (R327). -/
theorem onCopy_whole (act : State → Nat → Root → Served)
    (hwhole : d.form ≠ formRef ∨ ∃ ix, s.refMeets a r d = .page ix) : s.onCopy c h d act = act s a r := by
  by_cases hform : d.form = formRef
  · obtain ⟨ix, hmeets⟩ := hwhole.resolve_left (not_not.mpr hform)
    simp only [onCopy, htarget, hform, hmeets, ne_eq, not_true_eq_false, if_false]
  · simp only [onCopy, htarget, hform, ne_eq, not_false_eq_true, if_true]

theorem onCopy_stale (act : State → Nat → Root → Served) (hform : d.form = formRef) (hmeets : s.refMeets a r d = .stale) :
    s.onCopy c h d act = s.stale c d.page := by
  simp only [onCopy, htarget, hform, hmeets, ne_eq, not_true_eq_false, if_false]

theorem onPage_stale (act : State → Nat → Root → Nat → Served) (hform : d.form = formRef)
    (hmeets : s.refMeets a r d = .stale) : s.onPage c h d act = s.stale c d.page := by
  simp only [onPage, htarget, hform, hmeets, ne_eq, not_true_eq_false, if_false]

/-- An action on a page is performed on the page the reference names. -/
theorem onPage_page (act : State → Nat → Root → Nat → Served) (hform : d.form = formRef) {ix : Nat}
    (hmeets : s.refMeets a r d = .page ix) : s.onPage c h d act = act s a r ix := by
  simp only [onPage, htarget, hform, hmeets, ne_eq, not_true_eq_false, if_false]

end

theorem settleAside_none (s : State) (a ix old : Nat) (haside : s.asideOf a ix = none) : s.settleAside a ix old = s := by
  simp only [settleAside, haside]

/-! What a read leaves alone (R163). -/

/-- Two states whose stores differ in what is wrong with words alone; counters besides may differ. -/
def SameButErrs (s t : State) : Prop :=
  t = { s with store := { s.store with errs := t.store.errs }, ctrs := t.ctrs, rel := { s.rel with pred := t.rel.pred } }

theorem SameButErrs.refl (s : State) : SameButErrs s s := rfl

theorem SameButErrs.trans {s t u : State} (hst : SameButErrs s t) (htu : SameButErrs t u) : SameButErrs s u := by
  rw [SameButErrs] at hst htu ⊢
  rw [htu, hst]

theorem foldl_setErr_only (st : Store) (e : WordErr) (ws : List Nat) :
    ws.foldl (fun t w => t.setErr w e) st = { st with errs := (ws.foldl (fun t w => t.setErr w e) st).errs } := by
  induction ws generalizing st with
  | nil => rfl
  | cons w ws ih =>
    rw [List.foldl_cons, ih]
    rfl

theorem correct_sameButErrs (s : State) (pc : Nat) (ws : List Nat) : SameButErrs s (s.correct pc ws) := by
  unfold correct
  dsimp only
  split
  case isTrue => rfl
  case isFalse =>
    rw [SameButErrs, updStore, foldl_setErr_only]
    rfl

theorem countUe_sameButErrs (s : State) (pc n : Nat) : SameButErrs s (s.countUe pc n) := by
  unfold countUe
  split <;> rfl

theorem senseWords_sameButErrs (s : State) (pc : Nat) (rs : List (Nat × Nat)) : SameButErrs s (s.senseWords pc rs).1 :=
  (correct_sameButErrs s pc _).trans (countUe_sameButErrs _ pc _)

theorem sense_sameButErrs (s : State) (pc : Nat) (rs : List (Nat × Nat)) : SameButErrs s (s.sense pc rs).1 := by
  unfold sense
  split
  · rfl
  · exact senseWords_sameButErrs s pc rs

theorem sensePage_sameButErrs (s : State) (p : Nat) : SameButErrs s (s.sensePage p).1 := by
  unfold sensePage
  split
  · exact sense_sameButErrs s _ _
  · rfl

theorem asideOf_senseCopy (s : State) (p a ix : Nat) : (s.senseCopy p).1.asideOf a ix = s.asideOf a ix := by
  have hread : SameButErrs s (s.senseCopy p).1 := sense_sameButErrs s _ _
  rw [hread]
  rfl

section
variable {s : State} {c a ix : Nat} {h : Hdr} {d : RmaDesc} {r : Root} {b : Bytes}
  (htarget : s.targetRecord c h d = some (a, r)) (hform : d.form = formRef) (hmeets : s.refMeets a r d = .page ix)
  (haside : s.asideOf a ix = none)
include htarget hform hmeets

section
variable (hdram : s.store.inDram d.page = true)
include hdram

/-- A copy in DRAM with an uncorrectable word is restored before it is sealed (R164, log entry 66). -/
theorem serveSeal_unread (hue : (s.senseCopy d.page).2 = true) :
    s.serveSeal c h d b = ((s.senseCopy d.page).1.startRestore d.page, some (stBusy, [])) := by
  simp only [serveSeal, onPage_page htarget _ hform hmeets, hdram, hue, Bool.not_true, Bool.false_eq_true, if_false, if_true]

variable (hread : (s.senseCopy d.page).2 = false)
include hread haside

/-- A seal whose tag differs is answered 0 and counted (R172). -/
theorem serveSeal_differs (htag : (s.senseCopy d.page).1.copyTag d.page ≠ b.take 32) :
    s.serveSeal c h d b =
      ((s.senseCopy d.page).1.count .pgCntTagmis (pagePc d.page) 1, some (stDone, leBytes 16 0)) := by
  have hsettle := settleAside_none (s.senseCopy d.page).1 a ix d.page (by rw [asideOf_senseCopy, haside])
  simp only [serveSeal, onPage_page htarget _ hform hmeets, hdram, hread, hsettle, htag, Bool.not_true, Bool.false_eq_true,
    if_false]

/-- A seal whose tag matches and whose writes succeed is answered 1 (R172). -/
theorem serveSeal_matches (htag : (s.senseCopy d.page).1.copyTag d.page = b.take 32)
    (hwrite : ((s.senseCopy d.page).1.writeSeal d.page (b.take 32)).2 = false) :
    ∃ t, s.serveSeal c h d b = (t, some (stDone, leBytes 16 1)) := by
  have hsettle := settleAside_none (s.senseCopy d.page).1 a ix d.page (by rw [asideOf_senseCopy, haside])
  simp only [serveSeal, onPage_page htarget _ hform hmeets, hdram, hread, hsettle, htag, hwrite, Bool.not_true,
    Bool.false_eq_true, if_false, if_true]
  exact ⟨_, rfl⟩

end

include haside

theorem serveFree_page : s.serveFree c h d = (s.dropPage a ix d.page, some (stDone, [])) := by
  simp only [serveFree, onPage_page htarget _ hform hmeets, haside, reduceCtorEq, if_false, settleAside_none s a ix _ haside]

theorem serveRelease_page :
    s.serveRelease c h d = ({ s with store := (s.store.updPageEnt a ix d.page (fun e =>
      { e with page := Store.gapMark (fieldOf d.arg2 34 32) (fieldOf d.arg2 31 0) })).freePage d.page }, some (stDone, [])) := by
  simp only [serveRelease, onPage_page htarget _ hform hmeets, haside, reduceCtorEq, if_false]

end

end Sys2Proof.Machine.State

namespace Sys2Proof.Machine.Store

/-! What freeing a page and closing a coding group leave of DRAM. -/

@[simp] theorem freeFrameAt_dram (st : Store) (pc f : Nat) (wide : Bool) : (st.freeFrameAt pc f wide).dram = st.dram := by
  cases wide <;> rfl

@[simp] theorem freeCells_dram (st : Store) (silt : Nat) (wide : Bool) : (st.freeCells silt wide).dram = st.dram := by
  have hone : ∀ (t : Store) (k : Nat), (if (t.cell k).state = .retired then t else t.setCell k {}).dram = t.dram :=
    fun t k => by split <;> rfl
  cases wide
  · exact hone st _
  · exact (hone _ _).trans (hone st _)

@[simp] theorem dropSummaryFrame_dram (st : Store) (pc f : Nat) : (st.dropSummaryFrame pc f).dram = st.dram := by
  unfold dropSummaryFrame
  split
  · exact freeFrameAt_dram st pc f false
  · rfl

@[simp] theorem dropJobs_dram (st : Store) (p : Nat) : (st.dropJobs p).dram = st.dram := by
  unfold dropJobs
  refine List.foldlRecOn (motive := fun t => t.dram = st.dram) _ _ ?_ fun t ht x _ =>
    (dropSummaryFrame_dram t _ _).trans ht
  rfl

@[simp] theorem setPent_dram (st : Store) (p : Nat) (e : PEntry) : (st.setPent p e).dram = st.dram := rfl

/-- A page is freed without a write (R133). -/
@[simp] theorem freePage_dram (st : Store) (p : Nat) : (st.freePage p).dram = st.dram := by
  simp only [freePage, apply_ite Store.dram, dropSummaryFrame_dram, dropJobs_dram, setPent_dram, freeCells_dram,
    freeFrameAt_dram, ite_self]

/-! What a write of a page does to DRAM does not depend on what was wrong with its words. -/

theorem writeWord_only (g n : Nat) (st : Store) (w : Nat) : writeWord g n st w = { st with errs := (writeWord g n st w).errs } := by
  unfold writeWord
  split
  · rfl
  · split <;> rfl

theorem foldl_writeWord_only (g n : Nat) (ws : List Nat) (st : Store) :
    ws.foldl (writeWord g n) st = { st with errs := (ws.foldl (writeWord g n) st).errs } := by
  induction ws generalizing st with
  | nil => rfl
  | cons w ws ih => rw [List.foldl_cons, ih, writeWord_only]

/-- A write moves the bytes and the key of its unit, and what is wrong with its words (R161, R162, R169). -/
theorem writeUnder_eq (st : Store) (k pc a : Nat) (bs : Bytes) :
    st.writeUnder k pc a bs = { st.setUnder (unitOf pc a) k with
      dram := dramWrite st.dram (gaddr pc a) bs, errs := (st.writeUnder k pc a bs).errs } := by
  unfold writeUnder
  dsimp only
  rw [foldl_writeWord_only]
  rfl

/-- Two stores that agree on everything but what is wrong with words. -/
def SameButErrs (st t : Store) : Prop := t = { st with errs := t.errs }

theorem writeUnder_sameButErrs {st t : Store} (h : SameButErrs st t) (k pc a : Nat) (bs : Bytes) :
    SameButErrs (st.writeUnder k pc a bs) (t.writeUnder k pc a bs) := by
  rw [SameButErrs] at h ⊢
  rw [writeUnder_eq t, writeUnder_eq st, h]
  rfl

theorem write_sameButErrs {st t : Store} (h : SameButErrs st t) (pc a : Nat) (bs : Bytes) :
    SameButErrs (st.write pc a bs) (t.write pc a bs) := by
  have hkey : t.key (t.slotAt pc a) = st.key (st.slotAt pc a) := by
    rw [SameButErrs] at h
    rw [h]
    rfl
  unfold write
  rw [hkey]
  dsimp only
  split
  case isTrue => exact h
  case isFalse => exact writeUnder_sameButErrs h _ pc a bs

theorem writePayload_sameButErrs {st t : Store} (h : SameButErrs st t) (p : Nat) (bs : Bytes) :
    SameButErrs (st.writePayload p bs) (t.writePayload p bs) := by
  have hpent : t.pent p = st.pent p := by
    rw [SameButErrs] at h
    rw [h]
    rfl
  unfold writePayload
  rw [hpent]
  dsimp only
  split
  · exact write_sameButErrs (write_sameButErrs (write_sameButErrs h _ _ _) _ _ _) _ _ _
  · exact write_sameButErrs (write_sameButErrs h _ _ _) _ _ _

theorem payload_of_sameButErrs {st t : Store} (h : SameButErrs st t) (p : Nat) : t.payload p = st.payload p := by
  rw [SameButErrs] at h
  rw [h]
  rfl

end Sys2Proof.Machine.Store

namespace Sys2Proof.Machine.State

theorem setGroup_dram (s : State) (key : Nat) (g : CodeGroup) :
    (s.updStore (fun st => st.setGroup key g)).store.dram = s.store.dram := rfl

theorem closeGroup_dram (s : State) (key : Nat) : (s.closeGroup key).store.dram = s.store.dram := by
  unfold closeGroup
  dsimp only
  split
  · exact Store.freePage_dram s.store _
  · rfl

/-- Indices declared zero free a group, without a write (R174, R175). -/
theorem declareOld_dram (s : State) (index cset landed lag : Nat) :
    (s.declareOld index cset landed lag).store.dram = s.store.dram := by
  unfold declareOld
  split
  case h_1 => rfl
  case h_2 =>
    dsimp only
    split
    case isTrue =>
      rw [closeGroup_dram]
      split <;> rfl
    case isFalse => rfl

/-- A page that lies in DRAM only is as near as it gets. -/
theorem parityNear_near (s : State) (p : Nat) (h : (s.store.pent p).tier = .near) : s.parityNear p = some s := by
  simp [parityNear, Store.dropSilt, updStore, h]

theorem ask_store (s : State) (j : VJob) : (s.ask j).store = s.store := by
  unfold ask askCore
  dsimp only
  split <;> rfl

/-- The bytes CODE adds into the parity page of a group at node 9: the payload times the power of alpha of its index (R173). -/
theorem addParity_dram {s t : State} (hread : SameButErrs s t) (key i : Nat) (b : Bytes)
    (hindex : (s.store.group key).index = 9) :
    (t.addParity key i b).store.dram = (s.store.writePayload (s.store.group key).parity
      (xorBytes (s.store.payload (s.store.group key).parity) (b.map (gfPow i)))).dram := by
  have hstore : Store.SameButErrs s.store t.store := by
    rw [SameButErrs] at hread
    rw [Store.SameButErrs, hread]
  have hgroup : t.store.group key = s.store.group key := by
    rw [Store.SameButErrs] at hstore
    rw [hstore]
    rfl
  have hwrite := Store.writePayload_sameButErrs hstore (s.store.group key).parity
    (xorBytes (s.store.payload (s.store.group key).parity) (b.map (gfPow i)))
  rw [Store.SameButErrs] at hwrite
  simp only [addParity, hgroup, hindex, if_true, updStore, ask_store, Store.payload_of_sameButErrs hstore]
  rw [hwrite]

/-- CODE at node 9 of an empty index adds the payload, and is done (R174). -/
theorem serveCode_adds {s : State} {c x : Nat} {h : Hdr} {d : RmaDesc} {b : Bytes} {g : CodeGroup} (key : Nat)
    (hkey : key = groupKey (fieldOf d.arg2 47 32) (fieldOf d.arg2 31 0)) (hg : s.store.group key = g)
    (hctx : s.connCtx c = some x) (hcoded : (s.sliceRec (s.sliceOf x)).coded = true)
    (hcidx : (s.sliceRec (s.sliceOf x)).cidx = 9) (hi : fieldOf d.arg 3 0 < 8) (hadd : d.arg.testBit 4 = false)
    (hlen : b.length = 0x4000 + 0x7C0) (hlive : g.live = true) (hclosed : s.store.closed.contains key = false)
    (hindex : g.index = 9) (hwide : g.wide = false)
    (hfilled : (getAt {} g.members (fieldOf d.arg 3 0) : Member).filled = false)
    (hdeclared : (getAt {} g.members (fieldOf d.arg 3 0) : Member).declared = false)
    (htier : (s.store.pent g.parity).tier = .near) (hread : (s.sensePage g.parity).2 = false) :
    ∃ lag, s.serveCode c h d b = ((((((s.sensePage g.parity).1.addParity key (fieldOf d.arg 3 0) b).updStore (fun st =>
      st.setGroup key { g with members := setAt g.members (fieldOf d.arg 3 0) (memberOf h d) })).declareOld 9 (key / 2 ^ 32)
        (key % 2 ^ 32) lag).closeGroup key), some (stDone, [])) := by
  have hsensed := sensePage_sameButErrs s g.parity
  have hnear : (s.sensePage g.parity).1.parityNear g.parity = some (s.sensePage g.parity).1 := by
    refine parityNear_near _ _ ?_
    rw [hsensed]
    exact htier
  have hwidth : decide (b.length = 0x8000 + 2 * 0x7C0) = false := by rw [hlen]; rfl
  have hlength : decide (b.length = 0x4000 + 0x7C0) = true := by rw [hlen]; rfl
  have hindices : decide (7 < fieldOf d.arg 3 0) = false := decide_eq_false (by omega)
  have hkeeper : decide ((s.sliceRec (s.sliceOf x)).cidx < 8) = false := by rw [hcidx]; rfl
  have hnode : g.index ≠ 8 := by rw [hindex]; decide
  have hnarrow : groupKey (fieldOf d.arg2 47 32 + 65536 * bnat false) (fieldOf d.arg2 31 0) = key := hkey.symm
  have hsame : sameMember (getAt {} g.members (fieldOf d.arg 3 0)) (memberOf h d) = false := by simp [sameMember, hfilled]
  have hsense : (if (s.store.pent g.parity).tier = .silt then (s, false) else s.sensePage g.parity) =
      s.sensePage g.parity := if_neg (by rw [htier]; decide)
  simp only [serveCode, hctx, hcoded, hadd, hwidth, hlength, hindices, hkeeper, hnarrow, hclosed, hg, hlive, hsame, hfilled,
    hdeclared, hwide, hsense, hread, hnear, hnode, ↓reduceIte, Bool.not_true, Bool.or_false, Bool.or_true,
    Bool.false_eq_true, Bool.false_and, Bool.not_false, Bool.true_and, bne_self_eq_false]
  exact ⟨_, rfl⟩

end Sys2Proof.Machine.State

namespace Sys2Proof.Machine

open State

/-- Settles O31: the checks, then each operation of Table 10-9 from what it does. -/
theorem rmaOperationsServe : Obligations.RmaOperationsServe := by
  intro s c a h body r
  dsimp only
  refine ⟨serve_ctxClosed s c h body, fun hctx => ⟨serve_noRight s c h body hctx, serve_badForm s c h body hctx,
    fun hright hform htarget => ⟨fun hkind hop ix hstream => ?lookup, fun hkind hop => ?ledger, fun hkind hop href => ?get,
      fun hkind hop href ix hstream hlen hmeets hdram => ?mrows, fun hkind hop href hfits ix hstream => ?page,
      fun hkind hop => ?mstate⟩,
    fun x hright hform hkind hop hconn hcoded hcidx hi hadd hlen hlive hclosed hmembers hindex hwide hfilled hdeclared htier
      hread => ?code⟩⟩
  case lookup =>
    rw [serve_read s c h body hctx hright hform hkind, if_pos hop]
    have hstreamForm := formOk_lookup hkind hop hform
    refine ⟨fun p haside => serveLookup_aside htarget hstream hstreamForm haside, fun e haside hpage hgap => ?_⟩
    rw [serveLookup_page htarget hstream hstreamForm haside hpage hgap]
    exact ⟨fun hvalid => if_pos hvalid, fun hvalid => if_neg (Bool.eq_false_iff.mp hvalid)⟩
  case ledger =>
    rw [serve_read s c h body hctx hright hform hkind, if_neg (by rw [hop]; decide), if_neg (by rw [hop]; decide), if_pos hop]
    exact serveLedger_record htarget (formOk_ledger hkind hop hform)
  case get =>
    rw [serve_read s c h body hctx hright hform hkind, if_neg (by rw [hop]; decide), if_pos hop, serveGet_ref htarget href]
    refine ⟨fun hmeets => by rw [hmeets]; rfl, fun hmeets => by rw [hmeets]; rfl, fun ix hmeets => ?_⟩
    rw [hmeets]
    refine ⟨fun htier => ?_, getPage_silt s c h _⟩
    rw [getPage_dram s c h _ htier]
    exact ⟨fun hread => if_neg (Bool.eq_false_iff.mp hread), fun hue => if_pos hue⟩
  case mrows =>
    rw [serve_write s c h body hctx hright hform hkind, if_neg (by rw [hop]; decide), if_pos hop,
      serveMrows_ref htarget hstream href hlen hmeets]
    refine ⟨fun ⟨hpos, hfit⟩ => ?_, rowsInto_elsewhere s r a ix _ _ _ _ _⟩
    rw [rowsInto_next s r a ix _ _ _ _ _ hdram hpos (by rwa [length_bodyRows]), length_bodyRows]
    exact ⟨fun hwrite => ⟨_, rfl, if_neg (Bool.eq_false_iff.mp hwrite)⟩, fun hfail => if_pos hfail⟩
  case page =>
    have hserve : s.refMeets a r (RmaDesc.ofBytes body) = .stale ∨ s.refMeets a r (RmaDesc.ofBytes body) = .page ix →
        s.serve c h body = if s.refMeets a r (RmaDesc.ofBytes body) = .stale then s.stale c (RmaDesc.ofBytes body).page
          else s.fillHeld a ix (RmaDesc.ofBytes body).page (fieldOf (RmaDesc.ofBytes body).arg 7 0) (body.drop 32) := by
      intro hmeets
      have hlen := of_decide_eq_true hfits
      rw [serve_write s c h body hctx hright hform hkind]
      rcases hop with hop | hop
      · rw [hop, ← serveMpage_ref htarget hstream href hlen hmeets]
        rfl
      · rw [hop, ← servePut_ref htarget hstream href hlen hmeets]
        rfl
    refine ⟨fun hmeets => ?_, fun hmeets => ?_⟩
    · rw [hserve (Or.inl hmeets), if_pos hmeets]
      rfl
    · rw [hserve (Or.inr hmeets), if_neg (by rw [hmeets]; exact nofun)]
      exact ⟨fun u hnear => ⟨_, rfl, fillHeld_near s u a ix _ _ _ hnear⟩, fillHeld_full s a ix _ _ _⟩
  case mstate =>
    obtain ⟨hcommit, hseal, hhint, hclose, hfree, hrelease⟩ := serve_mstate s c h body hctx hright hform hkind hop
    refine ⟨fun href hmeets hlo hhi => ?stale, fun hact hwhole => ?hint, fun hact hwhole i hrow => ?close,
      fun href ix hmeets haside => ⟨fun hact hdram => ?sealCopy, fun hact => ?free, fun hact => ?release⟩⟩
    case stale =>
      have hacts : fieldOf (RmaDesc.ofBytes body).arg 3 0 = 1 ∨ fieldOf (RmaDesc.ofBytes body).arg 3 0 = 2 ∨
          fieldOf (RmaDesc.ofBytes body).arg 3 0 = 3 ∨ fieldOf (RmaDesc.ofBytes body).arg 3 0 = 4 ∨
          fieldOf (RmaDesc.ofBytes body).arg 3 0 = 5 ∨ fieldOf (RmaDesc.ofBytes body).arg 3 0 = 6 := by omega
      rcases hacts with hact | hact | hact | hact | hact | hact
      · exact (hcommit hact).trans (onCopy_stale htarget _ href hmeets)
      · exact (hseal hact).trans (onPage_stale htarget _ href hmeets)
      · exact (hhint hact).trans (onCopy_stale htarget _ href hmeets)
      · exact (hclose hact).trans (onCopy_stale htarget _ href hmeets)
      · exact (hfree hact).trans (onPage_stale htarget _ href hmeets)
      · exact (hrelease hact).trans (onPage_stale htarget _ href hmeets)
    case hint => exact (hhint hact).trans (onCopy_whole htarget _ hwhole)
    case close =>
      rw [hclose hact, serveClose, onCopy_whole htarget _ hwhole, hrow]
    case sealCopy =>
      rw [hseal hact]
      exact ⟨serveSeal_unread htarget href hmeets hdram, serveSeal_differs htarget href hmeets haside hdram,
        serveSeal_matches htarget href hmeets haside hdram⟩
    case free => exact (hfree hact).trans (serveFree_page htarget href hmeets haside)
    case release => exact (hrelease hact).trans (serveRelease_page htarget href hmeets haside)
  case code =>
    have hserve := serve_write s c h body hctx hright hform hkind
    rw [hop, if_neg (by decide), if_neg (by decide), if_neg (by decide), if_pos rfl] at hserve
    obtain ⟨lag, hadds⟩ := serveCode_adds (h := h) _ rfl rfl hconn hcoded hcidx hi hadd hlen hlive hclosed hindex hwide
      hfilled hdeclared htier hread
    refine ⟨_, hserve.trans hadds, ?_⟩
    rw [closeGroup_dram, declareOld_dram, setGroup_dram]
    exact addParity_dram (sensePage_sameButErrs s _) _ _ _ hindex

end Sys2Proof.Machine
end

section
/-! PROOFS. Scrubbing and restoration: what sending leaves alone, how lost conversations are listed, and what a scrub step
reads (R52, R163, R164, R167, R230, R469). -/

namespace Sys2Proof.Machine.State

/-! What sending leaves alone (R273, R294, R315, R356): memory, stations and reliability, and an empty slot table stays empty. -/

/-- The second state comes from the first by sending. -/
def SendsOnly (s t : State) : Prop :=
  t.store = s.store ∧ t.sluice = s.sluice ∧ t.rel = s.rel ∧ (s.slots = [] → t.slots = [])

theorem SendsOnly.refl (s : State) : SendsOnly s s := ⟨rfl, rfl, rfl, id⟩

theorem SendsOnly.trans {s t u : State} (hst : SendsOnly s t) (htu : SendsOnly t u) : SendsOnly s u := by
  obtain ⟨hstore, hsluice, hrel, hslots⟩ := hst
  obtain ⟨hstore', hsluice', hrel', hslots'⟩ := htu
  exact ⟨hstore'.trans hstore, hsluice'.trans hsluice, hrel'.trans hrel, hslots' ∘ hslots⟩

theorem SendsOnly.rel {s t : State} (h : SendsOnly s t) : t.rel = s.rel := by
  obtain ⟨_, _, hrel, _⟩ := h
  exact hrel

theorem SendsOnly.slots {s t : State} (h : SendsOnly s t) (hslots : s.slots = []) : t.slots = [] := by
  obtain ⟨_, _, _, hempty⟩ := h
  exact hempty hslots

theorem SameButMsix.sendsOnly {s t : State} (h : SameButMsix s t) : SendsOnly s t := by
  rw [SameButMsix] at h
  rw [h]
  exact ⟨rfl, rfl, rfl, id⟩

theorem SameButReports.sendsOnly {s t : State} (h : SameButReports s t) : SendsOnly s t := by
  rw [SameButReports] at h
  rw [h]
  exact ⟨rfl, rfl, rfl, id⟩

theorem count_sendsOnly (s : State) (c : Ctr) (i n : Nat) : SendsOnly s (s.count c i n) := .refl s
theorem updFurrow_sendsOnly (s : State) (f : Nat) (g : Furrow → Furrow) : SendsOnly s (s.updFurrow f g) := .refl s
theorem updConn_sendsOnly (s : State) (c : Nat) (g : Conn → Conn) : SendsOnly s (s.updConn c g) := .refl s
theorem setOrigin_sendsOnly (s : State) (x : Origin) : SendsOnly s (s.setOrigin x) := .refl s
theorem formItem_sendsOnly (s : State) (it : TxItem) : SendsOnly s (s.formItem it).1 := .refl s

/-- A fold of sends is a send. -/
theorem foldl_sendsOnly {α : Type} (f : State → α → State) (hf : ∀ q x, SendsOnly q (f q x)) (s : State) (xs : List α) :
    SendsOnly s (xs.foldl f s) :=
  List.foldlRecOn _ _ (SendsOnly.refl s) fun q hq x _ => hq.trans (hf q x)

theorem raiseIrq_sendsOnly (s : State) (c cause : Nat) : SendsOnly s (s.raiseIrq c cause) := by
  unfold raiseIrq
  dsimp only
  split
  · exact .refl s
  · split
    · exact SendsOnly.trans (.refl s) (requestMsix_sameButMsix _ _ _).sendsOnly
    · exact .refl s

theorem checkDrained_sendsOnly (s : State) (c : Nat) : SendsOnly s (s.checkDrained c) := by
  unfold checkDrained
  dsimp only
  split
  · exact SendsOnly.trans (.refl s) (raiseIrq_sendsOnly _ _ _)
  · exact .refl s

theorem enterStage4_sendsOnly (s : State) (n : Nat) (h : s.slots ≠ []) : SendsOnly s (s.enterStage4 n) :=
  ⟨rfl, rfl, rfl, fun hnil => absurd hnil h⟩

theorem slots_of_heldSlot {s : State} {o q k : Nat} (h : s.heldSlot o q = some k) : s.slots ≠ [] := by
  intro hnil
  simp [heldSlot, hnil] at h

theorem advance_sendsOnly (n o : Nat) (s : State) : SendsOnly s (advance n o s) := by
  induction n generalizing s with
  | zero => exact .refl s
  | succ n ih =>
    rw [advance]
    split
    · exact .refl s
    · split
      · exact SendsOnly.trans (.refl s) (ih _)
      · split
        case h_1 k hheld =>
          split
          · exact (enterStage4_sendsOnly (s.setOrigin _) k (slots_of_heldSlot hheld)).trans (ih _)
          · exact .refl s
        case h_2 => exact .refl s

theorem resolve_sendsOnly (s : State) (o q status : Nat) : SendsOnly s (s.resolve o q status) := by
  unfold resolve
  split
  · exact .refl s
  · exact (setOrigin_sendsOnly s _).trans (advance_sendsOnly _ _ _)

/-- A freed slot leaves an empty slot table empty. -/
theorem freeSlot_sendsOnly (s : State) (n : Nat) : SendsOnly s (s.freeSlot n) := by
  unfold freeSlot
  dsimp only
  refine SendsOnly.trans (t := { s.setSlot n {} with
    cam := { s.cam with waiting := s.cam.waiting.filter (fun w => w % 2 ^ 18 != n || 2 ^ 19 ≤ w) } })
    ⟨rfl, rfl, rfl, fun hnil => ?_⟩ (SendsOnly.trans ?_ (checkDrained_sendsOnly _ _))
  · change SMap.set {} s.slots n {} = []
    rw [hnil]
    rfl
  · split
    · exact .refl _
    · exact resolve_sendsOnly _ _ _ _

theorem carrierLeft_sendsOnly (s : State) (n : Nat) : SendsOnly s (s.carrierLeft n) := by
  unfold carrierLeft
  split
  case isTrue => exact freeSlot_sendsOnly s n
  case isFalse hsent =>
    refine ⟨rfl, rfl, rfl, fun hnil => absurd ?_ hsent⟩
    simp [State.slot, hnil, SMap.get]

theorem pumpLink_sendsOnly (n l : Nat) (s : State) : SendsOnly s (pumpLink n l s) := by
  induction n generalizing s with
  | zero => exact .refl s
  | succ n ih =>
    rw [pumpLink]
    split
    case isTrue =>
      refine SendsOnly.trans ?_ (ih _)
      refine SendsOnly.trans ?_ (foldl_sendsOnly _ (fun q it => ?_) _ _)
      · exact .refl s
      · split
        · exact carrierLeft_sendsOnly q _
        · exact .refl q
    case isFalse => exact .refl s

theorem pumpFurrow_sendsOnly (n f : Nat) (s : State) : SendsOnly s (pumpFurrow n f s) := by
  induction n generalizing s with
  | zero => exact .refl s
  | succ n ih =>
    rw [pumpFurrow]
    split
    · exact .refl s
    · split
      · exact .refl s
      · split
        · exact .refl s
        · refine SendsOnly.trans (SendsOnly.trans ?_ (pumpLink_sendsOnly 512 _ _)) (ih _)
          split <;> exact .refl s

theorem sendItem_sendsOnly (s : State) (it : TxItem) : SendsOnly s (s.sendItem it) :=
  (updFurrow_sendsOnly s _ _).trans (pumpFurrow_sendsOnly _ _ _)

theorem pumpGate_sendsOnly (n : Nat) (start : Bool) (f cls : Nat) (s : State) : SendsOnly s (pumpGate n start f cls s) := by
  induction n generalizing s with
  | zero => exact .refl s
  | succ n ih =>
    have hstart : ∀ (q : State) (b : Bool) g it, SendsOnly s q →
        SendsOnly s (if b = true then pumpGate n start f cls ((q.updFurrow f g).sendItem it) else q) := by
      intro q b g it hq
      cases b
      · exact hq
      · exact ((hq.trans (updFurrow_sendsOnly q f g)).trans (sendItem_sendsOnly _ it)).trans (ih _)
    rw [pumpGate]
    split
    · exact .refl s
    · split
      · refine hstart _ _ _ _ ?_
        split <;> exact .refl s
      · exact .refl s

theorem sendGated_sendsOnly (s : State) (cls : Nat) (it : TxItem) : SendsOnly s (s.sendGated cls it) := by
  unfold sendGated
  refine SendsOnly.trans ?_ (pumpGate_sendsOnly _ _ _ _ _)
  split <;> exact .refl s

theorem sendCarrier_sendsOnly (s : State) (c : Nat) (cls : Option Nat) (fence : Bool) (slot : Option Nat) (h : Hdr) (seg : Bytes) :
    SendsOnly s (s.sendCarrier c cls fence slot h seg) := by
  unfold sendCarrier
  split
  · dsimp only
    split
    · exact ((updConn_sendsOnly s c _).trans (formItem_sendsOnly _ _)).trans (sendGated_sendsOnly _ _ _)
    · exact ((updConn_sendsOnly s c _).trans (formItem_sendsOnly _ _)).trans (sendItem_sendsOnly _ _)
  · split
    · exact carrierLeft_sendsOnly s _
    · exact .refl s

theorem sendPayload_sendsOnly (s : State) (c : Nat) (cls slot : Option Nat) (h : Hdr) (body : Bytes) :
    SendsOnly s (s.sendPayload c cls slot h body) :=
  foldl_sendsOnly _ (fun q _ => sendCarrier_sendsOnly q _ _ _ _ _ _) s _

theorem rmaSend_sendsOnly (s : State) (c kind : Nat) (mirror : Bool) (conv layer kvh : Nat) (d : RmaDesc) (body : Bytes)
    (use : RmaUse) : SendsOnly s (s.rmaSend c kind mirror conv layer kvh d body use) :=
  SendsOnly.trans (.refl s) (sendPayload_sendsOnly _ _ _ _ _ _)

theorem sendResponse_sendsOnly (s : State) (src : Src) (h : Hdr) (body : Bytes) (slot : Option Nat) :
    SendsOnly s (s.sendResponse src h body slot) := by
  unfold sendResponse
  split
  · split
    · exact sendPayload_sendsOnly s _ _ _ _ _
    · split
      · exact freeSlot_sendsOnly s _
      · exact .refl s
  · exact .refl s

theorem refuse_sendsOnly (s : State) (src : Src) (h : Hdr) (status : Nat) : SendsOnly s (s.refuse src h status) := by
  unfold refuse
  have hsend := (sendResponse_sendsOnly s src (s.respHdrOf h false (h.kind + 0x20) status 0) [] none).trans
    (count_sendsOnly _ .rqCntResp 0 1)
  refine SendsOnly.trans (hsend.trans ?_) (resolve_sendsOnly _ _ _ _)
  split
  · exact raiseIrq_sendsOnly _ _ _
  · exact .refl _

theorem flushQueue_sendsOnly (s : State) (c status : Nat) : SendsOnly s (s.flushQueue c status) :=
  SendsOnly.trans (.refl s) (foldl_sendsOnly _ (fun q _ => refuse_sendsOnly q _ _ _) _ _)

theorem sendEvent_sendsOnly (s : State) (f code arg : Nat) : SendsOnly s (s.sendEvent f code arg) := by
  unfold sendEvent
  exact (((updFurrow_sendsOnly s f _).trans (formItem_sendsOnly _ _)).trans (sendItem_sendsOnly _ _)).trans
    (count_sendsOnly _ .fuCntEvtTx f 1)

theorem broadcast_sendsOnly (s : State) (code arg : Nat) : SendsOnly s (s.broadcast code arg) := by
  refine foldl_sendsOnly _ (fun q f => ?_) s _
  dsimp only
  split
  · exact .refl q
  · exact sendEvent_sendsOnly q f code arg

/-! The start of a restoration (R123, R164, R230). -/

/-- What `setRestore` enters is found. -/
theorem restore?_setRestore (s : State) (x : Restore) : ((s.setRestore x).restore? x.page).isSome = true :=
  List.find?_isSome.mpr ⟨x, List.mem_append_right _ (List.mem_singleton_self x), beq_self_eq_true _⟩

theorem restore?_of_restores {s t : State} (h : t.rel.restores = s.rel.restores) (p : Nat) : t.restore? p = s.restore? p := by
  rw [restore?, h]
  rfl

/-- A restoration starts: promotions not begun leave their queues, it is entered, and the other copy may be asked for. -/
theorem startRestore_sendsOnly (s : State) (p : Nat) (hvalid : s.store.valid p = true) (hnone : s.restore? p = none) :
    ∃ asked, SendsOnly ((s.dropUnread p).setRestore { page := p, asked := asked }) (s.startRestore p) := by
  unfold startRestore
  rw [if_neg (by simp [hvalid, hnone])]
  dsimp only
  split
  · exact ⟨false, .refl _⟩
  · exact ⟨true, rmaSend_sendsOnly _ _ _ _ _ _ _ _ _ _⟩

theorem exec_ueRestore_starts (s : State) (p : Nat) (hvalid : s.store.valid p = true) (hnone : s.restore? p = none) :
    ∃ t, exec (.ueRestore p) s = .next t ∧ (t.restore? p).isSome = true ∧
      t.store = { s.store with chans := t.store.chans } ∧ t.sluice = s.sluice := by
  obtain ⟨asked, hstore, hsluice, hrel, _⟩ := startRestore_sendsOnly s p hvalid hnone
  refine ⟨s.startRestore p, rfl, ?_, ?_, hsluice⟩
  · rw [restore?_of_restores (congrArg RelSt.restores hrel)]
    exact restore?_setRestore _ { page := p, asked := asked }
  · rw [hstore]
    rfl

/-! Conversations that lose a page (R52, R469). -/

/-- The second state comes from the first by listing lost conversations: restorations and stations are left alone, and an empty
slot table stays empty. -/
structure ListsOnly (s t : State) : Prop where
  restores : t.rel.restores = s.rel.restores
  sluice : t.sluice = s.sluice
  slots : s.slots = [] → t.slots = []

theorem ListsOnly.trans {s t u : State} (hst : ListsOnly s t) (htu : ListsOnly t u) : ListsOnly s u where
  restores := htu.restores.trans hst.restores
  sluice := htu.sluice.trans hst.sluice
  slots := htu.slots ∘ hst.slots

theorem SendsOnly.listsOnly {s t : State} (h : SendsOnly s t) : ListsOnly s t := by
  obtain ⟨_, hsluice, hrel, hslots⟩ := h
  exact ⟨congrArg _ hrel, hsluice, hslots⟩

theorem ListsOnly.refl (s : State) : ListsOnly s s := (SendsOnly.refl s).listsOnly

theorem pred_listsOnly (s : State) (cls index ev n : Nat) : ListsOnly s (s.pred cls index ev n) := ⟨rfl, rfl, id⟩

theorem pred_lost (s : State) (cls index ev n : Nat) : (s.pred cls index ev n).rel.lost = s.rel.lost := rfl

/-- A conversation stands on the lost list. -/
def enterLost (s : State) (c conv cause : Nat) : State :=
  { s with rel := { s.rel with lost := s.rel.lost ++ [({ ctx := c, conv := conv, cause := cause } : LostEnt)] } }

/-- A conversation not on the list, which has room, is entered and reported. -/
theorem listLost_room (s : State) (c conv cause : Nat) (hnew : s.isLost c conv = false) (hroom : s.rel.lost.length < lostMax) :
    s.listLost c conv cause =
      ((((s.enterLost c conv cause).rsFault 8).requestPf 4).report (.lost c conv)).pred 6 0 3 1 := by
  refine if_neg ?_
  rw [not_or]
  exact ⟨Bool.eq_false_iff.mp hnew, not_le.mpr hroom⟩

theorem report_lost_sendsOnly (s : State) (c conv : Nat) : SendsOnly s (((s.rsFault 8).requestPf 4).report (.lost c conv)) :=
  (((rsFault_sameButReports s 8).trans (requestPf_sameButReports _ 4)).trans (report_sameButReports _ _)).sendsOnly

/-- A module that begins to withdraw. -/
def withdrawing (s : State) (cause : Nat) : State :=
  { s with rel := { s.rel with svc := .withdrawing, wcause := cause, wstart := s.hubUnits, predFlash := s.rel.pred } }

/-- It has told its peers and the host, and answered what waited in its queues. -/
def withdrawFlushed (s : State) (cause : Nat) : State :=
  let q := (((s.withdrawing cause).broadcast evWithdraw 0).requestPf 2).report (.withdrawal cause)
  q.ctxs.foldl (fun q e => q.flushQueue e.1 stBusy) q

theorem withdrawFlushed_sendsOnly (s : State) (cause : Nat) : SendsOnly (s.withdrawing cause) (s.withdrawFlushed cause) := by
  have hreports := ((requestPf_sameButReports ((s.withdrawing cause).broadcast evWithdraw 0) 2).trans
    (report_sameButReports _ (.withdrawal cause))).sendsOnly
  exact ((broadcast_sendsOnly (s.withdrawing cause) evWithdraw 0).trans hreports).trans
    (foldl_sendsOnly _ (fun q e => flushQueue_sendsOnly q _ stBusy) _ _)

/-- A withdrawal that finds no slot in use has none to complete. -/
theorem startWithdraw_listsOnly (s : State) (cause : Nat) (hslots : s.slots = []) : ListsOnly s (s.startWithdraw cause) := by
  by_cases hsvc : s.rel.svc = .withdrawing ∨ s.rel.svc = .out
  · rw [show s.startWithdraw cause = s from if_pos hsvc]
    exact .refl s
  · have hflushed := withdrawFlushed_sendsOnly s cause
    have hstart : s.startWithdraw cause =
        (s.withdrawFlushed cause).slots.foldl (fun q e => q.withdrawSlot e.1) (s.withdrawFlushed cause) := by
      unfold startWithdraw
      rw [if_neg hsvc]
      rfl
    have hbegin : ListsOnly s (s.withdrawing cause) := ⟨rfl, rfl, id⟩
    rw [hstart, hflushed.slots hslots, List.foldl_nil]
    exact hbegin.trans hflushed.listsOnly

theorem addLost_listsOnly (s : State) (c conv cause : Nat) (hslots : s.slots = []) : ListsOnly s (s.addLost c conv cause) := by
  unfold addLost
  split
  case isTrue => exact .refl s
  case isFalse hnew =>
    split
    case isTrue hroom =>
      rw [listLost_room s c conv cause (Bool.eq_false_iff.mpr hnew) hroom]
      have henter : ListsOnly s (s.enterLost c conv cause) := ⟨rfl, rfl, id⟩
      exact (henter.trans (report_lost_sendsOnly _ c conv).listsOnly).trans (pred_listsOnly _ _ _ _ _)
    case isFalse =>
      have hfault := (rsFault_sameButReports s 8).sendsOnly
      exact hfault.listsOnly.trans (startWithdraw_listsOnly _ 5 (hfault.slots hslots))

/-- A list with room for it takes a conversation, and grows by at most one. -/
theorem addLost_lists (s : State) (c conv cause : Nat) (hroom : s.rel.lost.length < lostMax) :
    (s.addLost c conv cause).isLost c conv = true ∧
      (∀ y : Nat × Nat, s.isLost y.1 y.2 = true → (s.addLost c conv cause).isLost y.1 y.2 = true) ∧
      (s.addLost c conv cause).rel.lost.length ≤ s.rel.lost.length + 1 := by
  cases hnew : s.isLost c conv
  case true =>
    rw [show s.addLost c conv cause = s from if_pos hnew]
    exact ⟨hnew, fun _ => id, Nat.le_succ _⟩
  case false =>
    have hlost : (s.addLost c conv cause).rel.lost = (s.enterLost c conv cause).rel.lost := by
      rw [show s.addLost c conv cause = s.listLost c conv cause from
        (if_neg (Bool.eq_false_iff.mp hnew)).trans (if_pos hroom), listLost_room s c conv cause hnew hroom]
      have hreports := (report_lost_sendsOnly (s.enterLost c conv cause) c conv).rel
      rw [pred_lost, hreports]
    simp only [isLost] at *
    simp only [hlost, enterLost, List.any_append, List.length_append, List.length_singleton, le_refl, and_true]
    simp +contextual

/-- Every conversation of a list for which there is room stands on the lost list. -/
theorem foldl_addLost_lists (cause : Nat) (cs : List (Nat × Nat)) (s : State) (hroom : s.rel.lost.length + cs.length ≤ lostMax) :
    ∀ y, s.isLost y.1 y.2 = true ∨ y ∈ cs → (cs.foldl (fun q c => q.addLost c.1 c.2 cause) s).isLost y.1 y.2 = true := by
  induction cs generalizing s with
  | nil => exact fun y hy => hy.resolve_right List.not_mem_nil
  | cons c cs ih =>
    rw [List.length_cons] at hroom
    obtain ⟨hhead, hkeep, hlen⟩ := addLost_lists s c.1 c.2 cause (by omega)
    refine fun y hy => ih (s.addLost c.1 c.2 cause) (by omega) y ?_
    rcases hy with hold | hmem
    · exact Or.inl (hkeep y hold)
    · rcases List.mem_cons.mp hmem with rfl | htail
      · exact Or.inl hhead
      · exact Or.inr htail

theorem foldl_addLost_listsOnly (cause : Nat) (cs : List (Nat × Nat)) (s : State) (hslots : s.slots = []) :
    ListsOnly s (cs.foldl (fun q c => q.addLost c.1 c.2 cause) s) := by
  induction cs generalizing s with
  | nil => exact .refl s
  | cons c cs ih =>
    have hfirst := addLost_listsOnly s c.1 c.2 cause hslots
    exact hfirst.trans (ih _ (hfirst.slots hslots))

/-! A restoration that finds no copy (R52, R164, R230). -/

theorem restore?_page {s : State} {p : Nat} {x : Restore} (h : s.restore? p = some x) : x.page = p :=
  beq_iff_eq.mp (List.find?_some (p := fun r : Restore => r.page == p) h)

theorem restore?_dropRestore (s : State) (p : Nat) : (s.dropRestore p).restore? p = none := by
  simp [restore?, dropRestore, List.find?_eq_none]

/-- With no station at work only the commands that wait are filtered. -/
theorem dropVjobs_idle (s : State) (drop : VJob → Bool) (hvendors : s.sluice.vendors = []) :
    (s.dropVjobs drop).rel = s.rel ∧ (s.dropVjobs drop).slots = s.slots := by
  unfold dropVjobs
  dsimp only
  rw [hvendors]
  exact ⟨rfl, rfl⟩

/-- No slot holds a request that is being performed. -/
def NoneActive (s : State) : Prop := ∀ n, (s.slot n).state ≠ .active

theorem noneActive_of_slots {s : State} (h : s.slots = []) : NoneActive s := by
  intro n
  rw [State.slot, h]
  exact nofun

/-- A completed slot stands at RESPOND (R291); the other slots, the restorations and the lost list stay. -/
theorem complete_setSlot (s : State) (n status : Nat) (body : Bytes) :
    ∃ (q : State) (y : Slot), s.complete n status body = q.setSlot n y ∧ q.slots = s.slots ∧ q.rel = s.rel ∧
      y.state = .respond := by
  unfold complete
  dsimp only
  refine ⟨_, _, rfl, ?_, ?_, rfl⟩ <;> split <;> rfl

theorem complete_rel (s : State) (n status : Nat) (body : Bytes) : (s.complete n status body).rel = s.rel := by
  obtain ⟨q, y, heq, _, hrel, _⟩ := complete_setSlot s n status body
  rw [heq, setSlot_rel, hrel]

theorem noneActive_complete {s : State} (h : NoneActive s) (n status : Nat) (body : Bytes) :
    NoneActive (s.complete n status body) := by
  obtain ⟨q, y, heq, hslots, _, hrespond⟩ := complete_setSlot s n status body
  intro m
  rw [heq]
  by_cases hm : m = n
  · rw [hm, slot_setSlot _ _ _ (fun hfree => by rw [hfree] at hrespond; cases hrespond), hrespond]
    exact nofun
  · rw [slot_setSlot_ne _ _ _ _ hm, State.slot, hslots]
    exact h m

/-- Completing slots leaves the restorations and the lost list alone, and none active that was not. -/
theorem foldl_complete (status : Nat) (ns : List Nat) (s : State) (h : NoneActive s) :
    (ns.foldl (fun q n => q.complete n status []) s).rel = s.rel ∧
      NoneActive (ns.foldl (fun q n => q.complete n status []) s) := by
  induction ns generalizing s with
  | nil => exact ⟨rfl, h⟩
  | cons n ns ih =>
    obtain ⟨hrel, hnone⟩ := ih _ (noneActive_complete h n status [])
    exact ⟨hrel.trans (complete_rel s n status []), hnone⟩

/-- Nothing waits for a lost page where no request is being performed. -/
theorem lostWaiters_noneActive (s : State) (p : Nat) (cs : List (Nat × Nat)) (h : NoneActive s) : s.lostWaiters p cs = s := by
  unfold lostWaiters
  refine List.foldlRecOn (motive := fun q => q = s) _ _ rfl fun q hq e _ => ?_
  subst hq
  dsimp only
  exact if_neg fun hactive => h _ hactive.1

/-- The conversations listed, what waits for the page ends, and the restorations and the list stand as the listing left them. -/
theorem endWaiters_rel (s : State) (p : Nat) (cs : List (Nat × Nat)) (ns : List Nat) (cause : Nat) (drop : VJob → Bool)
    (hslots : s.slots = []) (hvendors : s.sluice.vendors = []) :
    ((ns.foldl (fun q n => q.complete n stLost [])
      ((cs.foldl (fun q c => q.addLost c.1 c.2 cause) s).dropVjobs drop)).lostWaiters p cs).rel =
      (cs.foldl (fun q c => q.addLost c.1 c.2 cause) s).rel := by
  obtain ⟨_, hsluice, hnil⟩ := foldl_addLost_listsOnly cause cs s hslots
  obtain ⟨hrel, hsame⟩ := dropVjobs_idle (cs.foldl (fun q c => q.addLost c.1 c.2 cause) s) drop (by rw [hsluice, hvendors])
  obtain ⟨hcompleted, hnone⟩ := foldl_complete stLost ns _ (noneActive_of_slots (hsame.trans (hnil hslots)))
  rw [lostWaiters_noneActive _ _ _ hnone, hcompleted, hrel]

/-- The restorations stay, and the conversations are listed where there is room. -/
theorem endWaiters_lists {s t : State} (hmark : ListsOnly s t) (hlost : t.rel.lost = s.rel.lost) (p : Nat)
    (cs : List (Nat × Nat)) (ns : List Nat) (cause : Nat) (drop : VJob → Bool)
    (hslots : s.slots = []) (hvendors : s.sluice.vendors = []) :
    let u := (ns.foldl (fun q n => q.complete n stLost [])
      ((cs.foldl (fun q c => q.addLost c.1 c.2 cause) t).dropVjobs drop)).lostWaiters p cs
    u.rel.restores = s.rel.restores ∧
      (s.rel.lost.length + cs.length ≤ lostMax → ∀ y ∈ cs, u.isLost y.1 y.2 = true) := by
  obtain ⟨hrestores, hsluice, hnil⟩ := hmark
  have hend := endWaiters_rel t p cs ns cause drop (hnil hslots) (by rw [hsluice, hvendors])
  dsimp only
  refine ⟨?_, fun hroom y hy => ?_⟩
  · rw [hend, (foldl_addLost_listsOnly cause cs t (hnil hslots)).restores, hrestores]
  · rw [isLost, hend]
    exact foldl_addLost_lists cause cs t (by rwa [hlost]) y (Or.inr hy)

/-- The loss of a page leaves the restorations alone, and lists its conversations where there is room, unless it is kept for
another node. -/
theorem losePage_lists (s : State) (p cause : Nat) (hslots : s.slots = []) (hvendors : s.sluice.vendors = []) :
    (s.losePage p cause).rel.restores = s.rel.restores ∧
    ((s.anyHeader p).pstate ≠ .mirror → (s.anyHeader p).pstate ≠ .parity →
      s.rel.lost.length + (s.lostConvs p).length ≤ lostMax →
      ∀ y ∈ s.lostConvs p, (s.losePage p cause).isLost y.1 y.2 = true) := by
  unfold losePage
  dsimp only
  split
  case isTrue hkept => exact ⟨rfl, fun hmirror hparity => (hkept.elim hmirror hparity).elim⟩
  case isFalse =>
    have hdrop : ListsOnly s (s.dropKeptSends p) := ⟨rfl, rfl, id⟩
    have hlists := fun t hmark hlost => endWaiters_lists (s := s) (t := t) hmark hlost p (s.lostConvs p)
    split
    · split
      · obtain ⟨hrestores, hlost⟩ := hlists ((s.dropKeptSends p).updStore _) (hdrop.trans ⟨rfl, rfl, id⟩) rfl _ cause _
          hslots hvendors
        exact ⟨hrestores, fun _ _ => hlost⟩
      · obtain ⟨hrestores, hlost⟩ := hlists (s.dropKeptSends p) hdrop rfl _ cause _ hslots hvendors
        exact ⟨hrestores, fun _ _ => hlost⟩
    · obtain ⟨hrestores, hlost⟩ := hlists (s.dropKeptSends p) hdrop rfl _ cause _ hslots hvendors
      exact ⟨hrestores, fun _ _ => hlost⟩

/-- The restoration ends, and its page is lost. -/
theorem restoreLost_lists (s : State) (x : Restore) (hreaders : x.readers = []) (hslots : s.slots = [])
    (hvendors : s.sluice.vendors = []) :
    (s.restoreLost x).restore? x.page = none ∧
    ((s.anyHeader x.page).pstate ≠ .mirror → (s.anyHeader x.page).pstate ≠ .parity →
      s.rel.lost.length + (s.lostConvs x.page).length ≤ lostMax →
      ∀ y ∈ s.lostConvs x.page, (s.restoreLost x).isLost y.1 y.2 = true) := by
  have hend : ∀ t : State, t = { s with ctrs := t.ctrs } → let u := ((t.dropRestore x.page).losePage x.page 1).refuseReaders x
      u.restore? x.page = none ∧
      ((s.anyHeader x.page).pstate ≠ .mirror → (s.anyHeader x.page).pstate ≠ .parity →
        s.rel.lost.length + (s.lostConvs x.page).length ≤ lostMax →
        ∀ y ∈ s.lostConvs x.page, u.isLost y.1 y.2 = true) := by
    intro t ht
    obtain ⟨hrestores, hlost⟩ := losePage_lists (t.dropRestore x.page) x.page 1 (by rw [ht]; exact hslots)
      (by rw [ht]; exact hvendors)
    have hnone : ∀ q : State, q.refuseReaders x = q := fun q => by rw [refuseReaders, hreaders]; rfl
    dsimp only
    rw [hnone]
    refine ⟨(restore?_of_restores hrestores _).trans (restore?_dropRestore t x.page), ?_⟩
    rw [ht] at hlost ⊢
    exact hlost
  unfold restoreLost
  dsimp only
  split
  · exact hend _ rfl
  · exact hend s rfl

/-! What a scrub step reads and corrects (R163, R167). -/

theorem ctr_le_ctrMax (s : State) (c : Ctr) (i : Nat) (h : s.countersOk = true) : s.ctr c i ≤ ctrMax := by
  obtain ⟨_, hmax⟩ := (countersOk_iff s).mp h
  rw [ctr]
  generalize s.ctrs = m at hmax
  induction m with
  | nil => exact Nat.zero_le _
  | cons e m ih =>
    rw [SMap.get]
    split
    · exact hmax e (List.mem_cons_self ..)
    · exact ih fun x hx => hmax x (List.mem_cons_of_mem _ hx)

/-- The count of corrected words is kept apart from a counter of another number. -/
theorem ctr_pgCntCe_count (s : State) (c : Ctr) (i n j : Nat) (hlt : c.ctorIdx < 256) (hne : c.ctorIdx ≠ 22) :
    (s.count c i n).ctr .pgCntCe j = s.ctr .pgCntCe j := by
  refine ctr_count_ne s c .pgCntCe i j n ?_
  have hidx : Ctr.pgCntCe.ctorIdx = 22 := rfl
  unfold Ctr.key
  omega

/-- The words of a kibibyte of memory that begins at a word. -/
theorem words_kib (m : Nat) : Store.words (32 * m) 1024 = (List.range 32).map (fun i => 32 * m / 32 + i) := by
  have hcount : (32 * m + 1024 - 1) / 32 - 32 * m / 32 + 1 = 32 := by omega
  rw [Store.words, if_neg (by decide), hcount]

theorem scrubAddr_aligned (bp k : Nat) : 1024 ∣ scrubAddr bp k := by
  unfold scrubAddr frameAddr stubAddr dataAddr
  split
  · omega
  · split
    · omega
    · split <;> omega

theorem gaddr_scrubAddr (pc bp k : Nat) : ∃ m, gaddr pc (scrubAddr bp k) = 32 * m := by
  have := scrubAddr_aligned bp k
  unfold gaddr
  exact ⟨(pc * 2 ^ 31 + scrubAddr bp k) / 32, by omega⟩

theorem wordErr_foldl_clean (ws : List Nat) (st : Store) (hwf : SMap.wf .clean st.errs = true) (w : Nat) :
    (ws.foldl (fun t w => t.setErr w .clean) st).wordErr w = if w ∈ ws then .clean else st.wordErr w := by
  induction ws generalizing st with
  | nil => simp
  | cons v ws ih =>
    have hnext : SMap.wf .clean (st.setErr v .clean).errs = true := SMap.wf_set WordErr.clean st.errs v .clean hwf
    rw [List.foldl_cons, ih _ hnext]
    have hhead : (st.setErr v .clean).wordErr w = if w = v then .clean else st.wordErr w :=
      SMap.get_set WordErr.clean st.errs v w WordErr.clean hwf
    rw [hhead]
    by_cases hmem : w ∈ ws <;> by_cases hw : w = v <;> simp [hmem, hw]

/-- What is left wrong with the words of a read that were wrong in one byte: nothing. -/
theorem correct_wordErr (s : State) (pc : Nat) (ws : List Nat) (hwf : SMap.wf .clean s.store.errs = true) (w : Nat) :
    (s.correct pc ws).store.wordErr w =
      if w ∈ ws ∧ s.store.wordErr w = .oneByte then .clean else s.store.wordErr w := by
  have hclean := wordErr_foldl_clean (ws.filter (fun w => decide (s.store.wordErr w = .oneByte))) s.store hwf w
  simp only [List.mem_filter, decide_eq_true_eq] at hclean
  unfold correct
  dsimp only
  split
  case isTrue hnone =>
    rw [List.isEmpty_iff.mp hnone, List.foldl_nil] at hclean
    exact hclean
  case isFalse => exact hclean

/-- Each word wrong in one byte is counted (R163). -/
theorem correct_ctr (s : State) (pc : Nat) (ws : List Nat) (hok : s.countersOk = true) :
    (s.correct pc ws).ctr .pgCntCe pc =
      min ctrMax (s.ctr .pgCntCe pc + ws.countP (fun w => decide (s.store.wordErr w = .oneByte))) := by
  rw [List.countP_eq_length_filter]
  unfold correct
  dsimp only
  split
  case isTrue hnone =>
    rw [List.isEmpty_iff.mp hnone]
    exact (min_eq_right (ctr_le_ctrMax s _ _ hok)).symm
  case isFalse => exact ctr_count _ _ _ _ ((countersOk_iff s).mp hok).1

/-- A read of words none of which is uncorrectable corrects those that are wrong in one byte. -/
theorem readWords_good (s : State) (pc : Nat) (ws : List Nat) (hgood : ∀ w ∈ ws, s.store.wordBad w = false)
    (hnodup : ws.Nodup) :
    (s.readWords pc ws).1 = s.correct pc (ws.filter (fun w => decide (s.store.wordErr w ≠ .clean))) := by
  unfold readWords
  rw [(hnodup.filter _).dedup]
  have hnone : (ws.filter (fun w => decide (s.store.wordErr w ≠ .clean))).countP s.store.wordBad = 0 :=
    List.countP_eq_zero.mpr fun w hw => Bool.eq_false_iff.mp (hgood w (List.mem_of_mem_filter hw))
  dsimp only
  rw [hnone]
  rfl

/-- A word that reads is clean or wrong in one byte (R160). -/
theorem wordBad_eq_false_iff (st : Store) (w : Nat) :
    st.wordBad w = false ↔ st.wordErr w = .clean ∨ st.wordErr w = .oneByte := by
  unfold Store.wordBad
  cases st.wordErr w <;> simp

/-- A read of a kibibyte none of whose words is uncorrectable leaves each of them clean and counts those it corrected. -/
theorem senseWords_kib (s : State) (pc a : Nat) (haligned : ∃ m, gaddr pc a = 32 * m)
    (hgood : ∀ i, i < 32 → s.store.wordBad (gaddr pc a / 32 + i) = false) :
    let t := (s.senseWords pc [(a, 1024)]).1
    (SMap.wf .clean s.store.errs = true → ∀ i, i < 32 → t.store.wordErr (gaddr pc a / 32 + i) = .clean) ∧
    (s.countersOk = true → t.ctr .pgCntCe pc = min ctrMax (s.ctr .pgCntCe pc +
      (List.range 32).countP (fun i => decide (s.store.wordErr (gaddr pc a / 32 + i) = .oneByte)))) := by
  obtain ⟨m, hm⟩ := haligned
  have hwords : [(a, 1024)].flatMap (fun r => Store.words (gaddr pc r.1) r.2) =
      (List.range 32).map (fun i => gaddr pc a / 32 + i) := by
    simp [hm, words_kib]
  have hread : (s.senseWords pc [(a, 1024)]).1 =
      s.correct pc (((List.range 32).map (fun i => gaddr pc a / 32 + i)).filter
        (fun w => decide (s.store.wordErr w ≠ .clean))) := by
    rw [senseWords, hwords]
    refine readWords_good s pc _ (fun w hw => ?_) (List.nodup_range.map fun i j hij => Nat.add_left_cancel hij)
    obtain ⟨i, hi, rfl⟩ := List.mem_map.mp hw
    exact hgood i (List.mem_range.mp hi)
  dsimp only
  rw [hread]
  refine ⟨fun hwf i hi => ?_, fun hok => ?_⟩
  · rw [correct_wordErr s pc _ hwf]
    rcases (wordBad_eq_false_iff _ _).mp (hgood i hi) with hclean | hone
    · simp [hclean]
    · exact if_pos ⟨List.mem_filter.mpr ⟨List.mem_map_of_mem (List.mem_range.mpr hi), by simp [hone]⟩, hone⟩
  · rw [correct_ctr s pc _ hok, List.countP_filter, List.countP_map]
    congr 2
    refine List.countP_congr fun i _ => ?_
    simp +contextual

/-! A scrub step (R167, R177, R181). -/

/-- The second state comes from the first where a station takes its core for a scrub step: the place in each pass stays, and so
does the count of corrected words. -/
structure TakesCore (s t : State) : Prop where
  rest : t = { s with regs := t.regs, sluice := t.sluice, ctrs := t.ctrs }
  scrub : t.sluice.scrub = s.sluice.scrub
  countersOk : s.countersOk = true → t.countersOk = true
  corrected : ∀ pc, t.ctr .pgCntCe pc = s.ctr .pgCntCe pc

theorem TakesCore.trans {s t u : State} (hst : TakesCore s t) (htu : TakesCore t u) : TakesCore s u where
  rest := by rw [htu.rest, hst.rest]
  scrub := htu.scrub.trans hst.scrub
  countersOk := htu.countersOk ∘ hst.countersOk
  corrected pc := (htu.corrected pc).trans (hst.corrected pc)

theorem takesCore_of_regs (s : State) (r : RegFile) : TakesCore s { s with regs := r } := ⟨rfl, rfl, id, fun _ => rfl⟩

theorem takesCore_of_sluice (s : State) (x : SluiceSt) (h : x.scrub = s.sluice.scrub) : TakesCore s { s with sluice := x } :=
  ⟨rfl, h, id, fun _ => rfl⟩

theorem count_takesCore (s : State) (c : Ctr) (i n : Nat) (hlt : c.ctorIdx < 256) (hne : c.ctorIdx ≠ 22) :
    TakesCore s (s.count c i n) :=
  ⟨rfl, rfl, countersOk_count s c i n, fun pc => ctr_pgCntCe_count s c i n pc hlt hne⟩

/-- A station takes an idle core: no burst ends, no instruction faults, nothing is spilled. -/
theorem vendorOn_idle (s : State) (c : Nat) (v : VendorIn) (hburst : (s.core c).burst = none) (hpc : (s.core c).pc < 1024)
    (hspill : v.spill = false) : TakesCore s (s.vendorOn c v) ∧ (s.vendorOn c v).regs = s.regs := by
  have hend : s.burstEnd c = s := by
    simp only [burstEnd, hburst]
  have hpast : s.pastEnd c = s := if_neg fun h => absurd h.2 (not_le.mpr hpc)
  unfold vendorOn
  rw [hend, hpast]
  dsimp only
  rw [hspill, Bool.and_false, Bool.false_and, if_neg Bool.false_ne_true]
  have hcounts : ∀ q : State, TakesCore s q ∧ q.regs = s.regs →
      TakesCore s (((q.count .scWaitRefresh c v.refresh).count .scWaitPipe c v.pipe).count .scWaitOther c v.other) ∧
      (((q.count .scWaitRefresh c v.refresh).count .scWaitPipe c v.pipe).count .scWaitOther c v.other).regs = s.regs :=
    fun q ⟨htakes, hregs⟩ => ⟨((htakes.trans (count_takesCore q .scWaitRefresh c v.refresh (by decide) (by decide))).trans
      (count_takesCore _ .scWaitPipe c v.pipe (by decide) (by decide))).trans
      (count_takesCore _ .scWaitOther c v.other (by decide) (by decide)), hregs⟩
  have hcore : ∀ k : Core, TakesCore s (((s.unwait c false).unwait c true).setCore c k) := fun k => takesCore_of_sluice s _ rfl
  have hsaved : ∀ (b : Bool) (q : State) (g : Vendor → Vendor), TakesCore s q → q.regs = s.regs →
      TakesCore s (if b = true then q.updVendor c g else q) ∧ (if b = true then q.updVendor c g else q).regs = s.regs := by
    intro b q g hq hregs
    cases b
    · exact ⟨hq, hregs⟩
    · exact ⟨hq.trans (takesCore_of_sluice q _ rfl), hregs⟩
  refine hcounts _ ?_
  exact hsaved _ _ _ (hcore _) rfl

/-- Where a pass begins, a committed PG_CFG takes effect and the period of the pass is read from it (R177). -/
def passBegun (s : State) (c : Nat) : State :=
  let q := s.refreshCfg (c / 16 / 64)
  { q with sluice := { q.sluice with periods := SMap.set 0x400 q.sluice.periods c (q.rfld .pgCfg (c / 16 / 64) 15 0) } }

theorem passBegun_takesCore (s : State) (c : Nat) :
    TakesCore s (s.passBegun c) ∧ (s.passBegun c).sluice.cores = s.sluice.cores ∧
    (s.passBegun c).sluice.reset = s.sluice.reset := by
  have hcfg : ∃ r, s.refreshCfg (c / 16 / 64) = { s with regs := r } := by
    unfold refreshCfg takeEffect
    rw [List.foldl_cons, List.foldl_nil]
    split
    · exact ⟨_, rfl⟩
    · exact ⟨_, rfl⟩
  obtain ⟨r, hr⟩ := hcfg
  unfold passBegun
  dsimp only
  rw [hr]
  exact ⟨(takesCore_of_regs s r).trans (takesCore_of_sluice _ _ rfl), rfl, rfl⟩

/-- A station has taken its core for the next step of its pass. -/
def scrubbing (s : State) (c : Nat) (v : VendorIn) : State :=
  let q := (if SMap.get 0 s.sluice.scrub c = 0 then s.passBegun c else s).vendorOn c v
  { q with sluice := { q.sluice with scrub := SMap.set 0 q.sluice.scrub c ((SMap.get 0 s.sluice.scrub c + 1) % scrubSteps) } }

/-- A station that has taken its core for the step of its pass that stands next. -/
def stepTaken (s : State) (c : Nat) (v : VendorIn) : State :=
  (if SMap.get 0 s.sluice.scrub c = 0 then s.passBegun c else s).vendorOn c v

theorem stepTaken_takesCore (s : State) (c : Nat) (v : VendorIn) (hburst : (s.core c).burst = none) (hpc : (s.core c).pc < 1024)
    (hspill : v.spill = false) :
    TakesCore s (s.stepTaken c v) ∧ (SMap.get 0 s.sluice.scrub c ≠ 0 → (s.stepTaken c v).regs = s.regs) := by
  unfold stepTaken
  by_cases hbegins : SMap.get 0 s.sluice.scrub c = 0
  · obtain ⟨hbegun, hcores, hreset⟩ := passBegun_takesCore s c
    have hcore : (s.passBegun c).core c = s.core c := by
      rw [core, core, idleCore, idleCore, hcores, hreset]
    obtain ⟨hon, _⟩ := vendorOn_idle (s.passBegun c) c v (by rw [hcore, hburst]) (by rwa [hcore]) hspill
    rw [if_pos hbegins]
    exact ⟨hbegun.trans hon, fun hne => absurd hbegins hne⟩
  · obtain ⟨hon, hregs⟩ := vendorOn_idle s c v hburst hpc hspill
    rw [if_neg hbegins]
    exact ⟨hon, fun _ => hregs⟩

/-- The pass of a core stands at a step. -/
def passAt (s : State) (c k : Nat) : State :=
  { s with sluice := { s.sluice with scrub := SMap.set 0 s.sluice.scrub c k } }

/-- What a station that has taken its core does in a step: upsets come to be, the pass advances, the words are read, and an
uncorrectable one faults. -/
def stepRead (s : State) (c k : Nat) (us : List (Nat × Nat)) : State :=
  let a := scrubAddr (c % 16) k
  let w := gaddr (c / 16) a / 32
  let ups := (us.filter (fun u => decide (u.1 < 32))).map (fun u => (a / 32 + u.1, u.2))
  let s := (s.upsets (c / 16) ups).passAt c ((k + 1) % scrubSteps)
  let hit := (List.range 32).filter (fun i => s.store.wordBad (w + i))
  let s := (s.count .scCntBurst c 1).senseWords (c / 16) [(a, 1024)] |>.1
  let s := if hit.isEmpty then s else (s.count .scCntUe c 1).scFault c fcUe
  let s := hit.foldl (fun q i => q.ueAt (c / 16) (a + 32 * i)) s
  if k + 1 = scrubSteps then s.count .pgCntScrubPass (c / 16) 1 else s

theorem scrubStep_eq (s : State) (c : Nat) (d : ScrubStep) :
    s.scrubStep c d = (s.stepTaken c d.vin).stepRead c (SMap.get 0 s.sluice.scrub c) d.upsets := rfl

/-- A step that no upset falls in, over words none of which is uncorrectable, reads them; a pass that ends is counted. -/
theorem stepRead_good (s : State) (c k : Nat)
    (hgood : ∀ i, i < 32 → s.store.wordBad (gaddr (c / 16) (scrubAddr (c % 16) k) / 32 + i) = false) :
    s.stepRead c k [] =
      let r := (((s.passAt c ((k + 1) % scrubSteps)).count .scCntBurst c 1).senseWords (c / 16) [(scrubAddr (c % 16) k, 1024)]).1
      if k + 1 = scrubSteps then r.count .pgCntScrubPass (c / 16) 1 else r := by
  have hhit : (List.range 32).filter (fun i => (s.passAt c ((k + 1) % scrubSteps)).store.wordBad
      (gaddr (c / 16) (scrubAddr (c % 16) k) / 32 + i)) = [] :=
    List.filter_eq_nil_iff.mpr fun i hi => Bool.eq_false_iff.mp (hgood i (List.mem_range.mp hi))
  have hupsets : s.upsets (c / 16) [] = s := rfl
  unfold stepRead
  dsimp only
  rw [List.filter_nil, List.map_nil, hupsets, hhit, List.isEmpty_nil, if_pos rfl, List.foldl_nil]

/-- The pass advances, each word reads clean afterwards, and those corrected are counted; a read leaves the rest alone. -/
theorem stepRead_reads (s : State) (c k : Nat)
    (hgood : ∀ i, i < 32 → s.store.wordBad (gaddr (c / 16) (scrubAddr (c % 16) k) / 32 + i) = false) :
    let t := s.stepRead c k []
    t = { s.passAt c ((k + 1) % scrubSteps) with
      store := { s.store with errs := t.store.errs }, ctrs := t.ctrs, rel := { s.rel with pred := t.rel.pred } } ∧
    (SMap.wf .clean s.store.errs = true →
      ∀ i, i < 32 → t.store.wordErr (gaddr (c / 16) (scrubAddr (c % 16) k) / 32 + i) = .clean) ∧
    (s.countersOk = true → t.ctr .pgCntCe (c / 16) = min ctrMax (s.ctr .pgCntCe (c / 16) +
      (List.range 32).countP (fun i => decide (s.store.wordErr (gaddr (c / 16) (scrubAddr (c % 16) k) / 32 + i) = .oneByte)))) := by
  dsimp only
  rw [stepRead_good s c k hgood]
  dsimp only
  generalize (k + 1) % scrubSteps = n
  have hburst := count_takesCore (s.passAt c n) .scCntBurst c 1 (by decide) (by decide)
  have hcorrected : ((s.passAt c n).count .scCntBurst c 1).ctr .pgCntCe (c / 16) = s.ctr .pgCntCe (c / 16) :=
    hburst.corrected _
  have hok : s.countersOk = true → ((s.passAt c n).count .scCntBurst c 1).countersOk = true :=
    hburst.countersOk
  have hstart : (s.passAt c n).count .scCntBurst c 1 = { s.passAt c n with
      ctrs := ((s.passAt c n).count .scCntBurst c 1).ctrs } := rfl
  have hstore : ((s.passAt c n).count .scCntBurst c 1).store = s.store := rfl
  generalize (s.passAt c n).count .scCntBurst c 1 = b at hcorrected hok hstart hstore ⊢
  rw [← hstore] at hgood
  obtain ⟨hclean, hcount⟩ := senseWords_kib b (c / 16) (scrubAddr (c % 16) k) (gaddr_scrubAddr _ _ _) hgood
  have hread : SameButErrs b (b.senseWords (c / 16) [(scrubAddr (c % 16) k, 1024)]).1 := senseWords_sameButErrs _ _ _
  rw [hstore, hcorrected] at hcount
  rw [hstore] at hclean
  generalize (b.senseWords (c / 16) [(scrubAddr (c % 16) k, 1024)]).1 = r at hclean hcount hread ⊢
  have hrest : r = { s.passAt c n with
      store := { s.store with errs := r.store.errs }, ctrs := r.ctrs, rel := { s.rel with pred := r.rel.pred } } := by
    rw [SameButErrs, hstart] at hread
    exact hread
  by_cases hlast : k + 1 = scrubSteps
  · rw [if_pos hlast, count_store, count_rel]
    refine ⟨?_, hclean, fun hs => ?_⟩
    · exact congrArg (fun u : State => { u with ctrs := (r.count .pgCntScrubPass (c / 16) 1).ctrs }) hrest
    · rw [ctr_pgCntCe_count r .pgCntScrubPass _ _ _ (by decide) (by decide)]
      exact hcount (hok hs)
  · rw [if_neg hlast]
    exact ⟨hrest, hclean, fun hs => hcount (hok hs)⟩

/-- With no step's turn come at any station, none runs. -/
theorem runAllDue_quiet (s : State) (hturn : ∀ k, (s.vendor k).turn = false) : s.runAllDue = s := by
  unfold runAllDue
  refine List.foldlRecOn (motive := fun q => q = s) _ _ rfl fun q hq e _ => ?_
  subst hq
  exact if_neg (Bool.eq_false_iff.mp (hturn e.1))

end Sys2Proof.Machine.State

namespace Sys2Proof.Machine
open State

section
variable {s : State} {c : Nat} {v : VendorIn} (hcore : c < s.stackCount * 1024) (hloaded : s.sluice.vload.isSome = true)
  (hturn : ∀ k, (s.vendor k).turn = false)
include hcore hloaded hturn

/-- A scrub step that falls due runs where the station has no command, and else waits (R182). -/
theorem exec_scrubDue (us : List (Nat × Nat)) :
    exec (.scrubDue c us v) s = .next (if (s.vendor c).queue.isEmpty then s.scrubStep c { upsets := us, vin := v }
      else s.updVendor c (fun x => { x with due := x.due ++ [{ upsets := us, vin := v }] })) := by
  have hskip : ¬ (s.stackCount * 1024 ≤ c ∨ s.sluice.vload.isNone = true) := by
    rw [not_or, Bool.not_eq_true, Option.isNone_eq_false_iff]
    exact ⟨not_le.mpr hcore, hloaded⟩
  change execScrubDue c us v s = _
  unfold execScrubDue
  rw [if_neg hskip]
  dsimp only
  rw [runAllDue_quiet s hturn]
  split <;> rfl

/-- A step of a pass over words none of which is uncorrectable. -/
theorem exec_scrubDue_good (hburst : (s.core c).burst = none) (hpc : (s.core c).pc < 1024) (hspill : v.spill = false)
    (hwf : SMap.wf 0 s.sluice.scrub = true) (hqueue : (s.vendor c).queue = [])
    (hgood : ∀ i, i < 32 →
      s.store.wordBad (gaddr (c / 16) (scrubAddr (c % 16) (SMap.get 0 s.sluice.scrub c)) / 32 + i) = false) :
    let k := SMap.get 0 s.sluice.scrub c
    let w := gaddr (c / 16) (scrubAddr (c % 16) k) / 32
    ∃ t, exec (.scrubDue c [] v) s = .next t ∧ SMap.get 0 t.sluice.scrub c = (k + 1) % scrubSteps ∧
      t.store = { s.store with errs := t.store.errs } ∧ (k ≠ 0 → t.regs = s.regs) ∧ t.cam = s.cam ∧ t.slots = s.slots ∧
      (SMap.wf .clean s.store.errs = true → ∀ i, i < 32 → t.store.wordErr (w + i) = .clean) ∧
      (s.countersOk = true → t.ctr .pgCntCe (c / 16) = min ctrMax (s.ctr .pgCntCe (c / 16) +
        (List.range 32).countP (fun i => decide (s.store.wordErr (w + i) = .oneByte)))) := by
  intro k w
  obtain ⟨htakes, hregs⟩ := stepTaken_takesCore s c v hburst hpc hspill
  generalize hq : s.stepTaken c v = q at htakes hregs
  have hrun : exec (.scrubDue c [] v) s = .next (q.stepRead c k []) := by
    rw [exec_scrubDue hcore hloaded hturn, hqueue, List.isEmpty_nil, if_pos rfl, scrubStep_eq, hq]
  have hplace : SMap.get 0 (q.passAt c ((k + 1) % scrubSteps)).sluice.scrub c = (k + 1) % scrubSteps :=
    SMap.get_set_same 0 q.sluice.scrub c _ (by rw [htakes.scrub, hwf])
  have hstore : q.store = s.store := by rw [htakes.rest]
  obtain ⟨hplain, hsame⟩ := stepRead_reads q c k (by rwa [hstore])
  obtain ⟨hclean, hcount⟩ := hsame
  rw [hstore] at hclean hcount
  refine ⟨_, hrun, ?_, ?_, fun hk => ?_, ?_, ?_, hclean, fun hok => ?_⟩
  · rw [hplain]
    exact hplace
  · rw [hplain]
    exact congrArg (fun st : Store => { st with errs := (q.stepRead c k []).store.errs }) hstore
  · rw [hplain]
    exact hregs hk
  · rw [hplain, htakes.rest]
    rfl
  · rw [hplain, htakes.rest]
    rfl
  · rw [hcount (htakes.countersOk hok), htakes.corrected]

end

/-- A payload that was never asked for, or was refused, is not awaited. -/
theorem not_awaited {x : Restore} (h : x.asked = false ∨ x.refused = true) : (x.asked && !x.refused) = false := by
  rcases h with hasked | hrefused
  · rw [hasked, Bool.false_and]
  · rw [hrefused, Bool.not_true, Bool.and_false]

/-- Settles O36: a step that is due runs over an idle core or waits, a restoration enters its page whatever it sends, one that
finds no copy lists the conversations one by one, and the rest are the branches of the commands. -/
theorem scrubAndRestore : Obligations.ScrubAndRestore := by
  refine ⟨fun s c v hcore hloaded hburst hpc hspill hwf hturn => ⟨fun hqueue ups => ?waits, fun hqueue hgood => ?scrubs⟩,
    exec_ueRestore_starts, fun s p x hx hvalid => ⟨fun b d hbody => ?came, fun hbody hasked => ⟨fun b => ?decoded, ?lost,
      fun _ hreaders hslots hvendors _ => ?listed⟩, fun b u => ⟨fun hput => ?put, fun hput => ?mismatch⟩⟩,
    fun s pc a hue => ⟨s.updStore fun st => { (st.markBad (gaddr pc a / 32) false) with
      metaUe := st.metaUe.filter (fun x => x != (pc, a)) }, ?rebuilt, ?taken, rfl, rfl⟩⟩
  case waits =>
    rw [exec_scrubDue hcore hloaded hturn, if_neg (by simpa using hqueue)]
  case scrubs => exact exec_scrubDue_good hcore hloaded hturn hburst hpc hspill hwf hqueue hgood
  case came =>
    change execRestoreDone p d s = _
    simp [execRestoreDone, hx, hvalid, hbody]
  case decoded =>
    change execRestoreDone p (some b) s = _
    simp [execRestoreDone, hx, hvalid, hbody, not_awaited hasked]
  case lost =>
    change execRestoreDone p none s = _
    simp [execRestoreDone, hx, hvalid, hbody, not_awaited hasked]
  case listed =>
    obtain ⟨hnone, hlisted⟩ := restoreLost_lists s x hreaders hslots hvendors
    rw [restore?_page hx] at hnone hlisted
    refine ⟨hnone, fun hmirror hparity hroom y hy => hlisted hmirror hparity hroom y ?_⟩
    exact List.contains_iff_mem.mp hy
  case put => simp [restoreOk, hput]
  case mismatch => simp [restoreOk, hput]
  case rebuilt =>
    change execMetaRebuildDone pc a s = _
    rw [execMetaRebuildDone, if_pos hue]
  case taken =>
    simp [updStore]

end Sys2Proof.Machine
end

section
/-! PROOFS. The pipes: INTAKE takes a descriptor, a lane reads its pages and emits, and what an emission and the feeding of a pipe
leave alone (R78, R79, R89 to R95, R99). -/

namespace Sys2Proof.Machine.Lane

/-- The first descriptor of a lane, whose fields every descriptor of the lane has (R91). -/
def first (l : Lane) : Bytes := l.descs.headD []

/-- The page entries a lane has taken. -/
def entries (l : Lane) : List (Nat × Nat × Nat × Nat) := l.descs.flatMap descEntries

/-- Where a lane reads the rows of a page entry. -/
def regions (l : Lane) (e : Nat × Nat × Nat × Nat) : List (Nat × Nat) :=
  rowRegions e.1 (descKv l.first) (descDim l.first) e.2.2.1

end Sys2Proof.Machine.Lane

namespace Sys2Proof.Machine.State

/-! Feeding a pipe (R90, R97). -/

/-- An ATTEND is the one its slot holds. -/
theorem att?_of_slot {s t : State} {n : Nat} (h : t.slot n = s.slot n) : t.att? n = s.att? n := by
  simp only [att?, h]

/-- Pipes and slots alone move, and of the ATTENDs in progress only their chains. -/
structure FeedsPipes (s t : State) : Prop where
  only : t = { s with attn := t.attn, slots := t.slots }
  atts : ∀ n a, s.att? n = some a → ∃ b, t.att? n = some b ∧ b.got = a.got ∧ b.stage = a.stage

theorem FeedsPipes.refl (s : State) : FeedsPipes s s := ⟨rfl, fun _ a h => ⟨a, h, rfl, rfl⟩⟩

theorem FeedsPipes.trans {s t u : State} (hst : FeedsPipes s t) (htu : FeedsPipes t u) : FeedsPipes s u where
  only := by rw [htu.only, hst.only]
  atts n a h := by
    obtain ⟨b, hb, hgot, hstage⟩ := hst.atts n a h
    obtain ⟨c, hc, hgot', hstage'⟩ := htu.atts n b hb
    exact ⟨c, hc, hgot'.trans hgot, hstage'.trans hstage⟩

/-- A descriptor joins a pipe's queue and its chain counts it as sent. -/
theorem sendDesc_feedsPipes (s : State) (k n : Nat) (x : Pipe) (a : Att) (cs : List Chain) (hatt : s.att? n = some a) :
    FeedsPipes s ((s.setPipe k x).setAtt n { a with chains := cs }) where
  only := rfl
  atts m b hb := by
    by_cases hm : m = n
    · subst hm
      cases hatt.symm.trans hb
      exact ⟨_, att?_setAtt _ (att?_eq_some hatt).2, rfl, rfl⟩
    · exact ⟨b, (att?_of_slot (slot_setSlot_ne (s.setPipe k x) n m _ hm)).trans hb, rfl, rfl⟩

theorem pushSlot_feedsPipes (f : Nat) (s : State) (n k : Nat) : FeedsPipes s (pushSlot f s n k) := by
  induction f generalizing s with
  | zero => exact .refl s
  | succ f ih =>
    unfold pushSlot
    split
    case h_1 => exact .refl s
    case h_2 a hatt =>
      split
      case h_1 => exact .refl s
      case h_2 i _ => exact (sendDesc_feedsPipes s k n _ a _ hatt).trans (ih _)

theorem pushPipe_feedsPipes (s : State) (k : Nat) : FeedsPipes s (s.pushPipe k) := by
  unfold pushPipe
  refine List.foldlRecOn _ _ (FeedsPipes.refl s) fun q hq e _ => hq.trans ?_
  split
  · exact pushSlot_feedsPipes 4 q e.1 k
  · exact .refl q

/-! INTAKE (R91). -/

/-- INTAKE refuses its oldest descriptor (R91, R99). -/
def refuseDesc (s : State) (k : Nat) (b : Bytes) (rest : List Bytes) : State :=
  (s.setPipe k { s.pipe k with queue := rest }).wpFault k 1 (descSlot b)

/-- INTAKE takes its oldest descriptor into a lane. -/
def takeDesc (s : State) (k : Nat) (rest : List Bytes) (lanes : List (Option Lane)) : State :=
  ((s.setPipe k { queue := rest, lanes := lanes }).count .wpCntDesc k 1).pushPipe k

/-! What a lane's reads see (R95, R163). -/

/-- Whether a read meets an uncorrectable word is a matter of the store alone. -/
theorem sense_snd_of_store {s t : State} (h : t.store = s.store) (pc : Nat) (rs : List (Nat × Nat)) :
    (t.sense pc rs).2 = (s.sense pc rs).2 := by
  simp only [sense, senseWords, readWords, apply_ite Prod.snd, h]

/-- A lane's reads of the rows of some page entries, one after the other. -/
def readEntries (s : State) (k : Nat) (l : Lane) (es : List (Nat × Nat × Nat × Nat)) : State :=
  es.foldl (fun q e => (q.sense k (l.regions e)).1) s

theorem readEntries_sameButErrs (s : State) (k : Nat) (l : Lane) (es : List (Nat × Nat × Nat × Nat)) :
    SameButErrs s (s.readEntries k l es) :=
  List.foldlRecOn _ _ (SameButErrs.refl s) fun q hq _ _ => hq.trans (sense_sameButErrs q k _)

theorem SameButErrs.frame_eq {s t : State} (h : SameButErrs s t) (pc f : Nat) : t.store.frame pc f = s.store.frame pc f := by
  rw [h]
  rfl

/-- The rows a lane reads are the bytes of DRAM under a key, whatever is wrong with the words. -/
theorem SameButErrs.readRows_eq {s t : State} (h : SameButErrs s t) (slot pc f kv dim : Nat) (rs : List Nat) :
    Weir.readRows t.store slot pc f kv dim rs = Weir.readRows s.store slot pc f kv dim rs := by
  rw [h]
  rfl

theorem SameButErrs.laneSlot_eq {s t : State} (h : SameButErrs s t) (k : Nat) (b : Bytes) (f : Nat) :
    t.laneSlot k b f = s.laneSlot k b f := by
  simp only [laneSlot, h.frame_eq]

/-! A lane that emits (R92 to R94). -/

/-- What LANE_EMIT counts of its lane's stalls. -/
def countStalls (s : State) (k : Nat) (st : PipeStalls) : State :=
  (((s.count .wpStallData k st.data).count .wpStallRefresh k st.refresh).count .wpStallBank k st.bank).count
    .wpStallEmit k st.emit

theorem countStalls_readEntries_sameButErrs (s : State) (k : Nat) (st : PipeStalls) (l : Lane)
    (es : List (Nat × Nat × Nat × Nat)) : SameButErrs s ((s.countStalls k st).readEntries k l es) :=
  have hcount : SameButErrs s (s.countStalls k st) := rfl
  hcount.trans (readEntries_sameButErrs _ k l es)

/-- Whether a lane's work ends at a page entry: another page has come into the frame, or a word of the rows cannot be read. -/
def endsAt (s : State) (k : Nat) (l : Lane) (e : Nat × Nat × Nat × Nat) : Bool :=
  (s.store.frame k e.1).gen % 256 != e.2.2.2 || (s.sense k (l.regions e)).2

theorem endsAt_countStalls (s : State) (k : Nat) (st : PipeStalls) (l : Lane) : (s.countStalls k st).endsAt k l = s.endsAt k l := by
  have hstore : (s.countStalls k st).store = s.store := rfl
  funext e
  simp only [endsAt, hstore, sense_snd_of_store hstore]

/-- The rows of a lane's pages that its query sees. -/
def lanePages (s : State) (k : Nat) (l : Lane) : List Weir.PageRows :=
  l.entries.map (fun e => Weir.readRows s.store (s.laneSlot k l.first e.1) k e.1 (descKv l.first) (descDim l.first)
    (Weir.visibleRows (laneReq l) e.2.1 e.2.2.1))

/-- The partial records of a lane. -/
def laneRecs (s : State) (k : Nat) (l : Lane) : List Partial :=
  Weir.laneRun s.fresh (laneReq l) (descKv l.first) (dimOf (descDim l.first)) (s.lanePages k l)

theorem SameButErrs.laneRecs_eq {s t : State} (h : SameButErrs s t) (k : Nat) (l : Lane) : t.laneRecs k l = s.laneRecs k l := by
  have hfresh : t.fresh = s.fresh := by rw [h]
  simp only [laneRecs, lanePages, hfresh, h.readRows_eq, h.laneSlot_eq]

/-- The trailer of a lane that emits its records. -/
def laneTrailer (s : State) (k : Nat) (l : Lane) : Trailer :=
  let assay := (numAt l.first 0 4).testBit 30
  let d := dimOf (descDim l.first)
  { slot := l.slot, pc := k % 64, stack := k / 64, assayrec := assay
    rows := (l.entries.map (fun e => (Weir.visibleRows (laneReq l) e.2.1 e.2.2.1).length)).sum
    pages := l.entries.length
    a := if assay then Weir.laneA s.fresh (laneReq l) d (s.lanePages k l) else []
    vmax := if assay then Weir.laneV d (s.lanePages k l) else [] }

/-- The state in which a lane that has read its pages is free and its reads are counted. -/
def freeLane (s : State) (k lane : Nat) (l : Lane) : State :=
  ((s.countRead k (laneReq l) l.entries).count .wpCntEmpty k ((s.laneRecs k l).countP (·.empty))).tick.closeLane k lane

theorem closeLane_only (s : State) (k lane : Nat) : s.closeLane k lane = { s with attn := (s.closeLane k lane).attn } := rfl

theorem countRead_only (s : State) (k : Nat) (q : AttReq) (es : List (Nat × Nat × Nat × Nat)) :
    s.countRead k q es = { s with ctrs := (s.countRead k q es).ctrs } := rfl

/-- A lane that becomes free moves pipes, counters and the number of the next free value alone. -/
theorem freeLane_only (s : State) (k lane : Nat) (l : Lane) :
    ∃ pipes ctrs, s.freeLane k lane l = { s with attn := pipes, ctrs := ctrs, fresh := s.fresh + 1 } := by
  rw [freeLane, closeLane_only, countRead_only]
  exact ⟨_, _, rfl⟩

/-- An emission joins the ATTEND its lane served, whose chain at the pipe is done. -/
def joinEmission (s : State) (slot k : Nat) (recs : List Partial) (tr : Trailer) : State :=
  match s.att? slot with
  | none => s
  | some a =>
    match activeChain a k with
    | none => s
    | some i =>
      let c : Chain := getAt {} a.chains i
      s.setAtt slot { a with
        chains := setAt a.chains i { c with done := true }
        got := a.got ++ [({ pipe := k, copy := c.copy, recs := recs, trailer := tr } : Emission)] }

theorem joinEmission_only (s : State) (slot k : Nat) (recs : List Partial) (tr : Trailer) :
    s.joinEmission slot k recs tr = { s with slots := (s.joinEmission slot k recs tr).slots } := by
  unfold joinEmission
  split
  · rfl
  · split <;> rfl

theorem att?_joinEmission {s : State} {slot k i : Nat} {a : Att} (recs : List Partial) (tr : Trailer)
    (hatt : s.att? slot = some a) (hchain : activeChain a k = some i) :
    ∃ b e, (s.joinEmission slot k recs tr).att? slot = some b ∧ b.got = a.got ++ [e] ∧ b.stage = a.stage ∧
      e.pipe = k ∧ e.recs = recs ∧ e.trailer = tr := by
  simp only [joinEmission, hatt, hchain]
  exact ⟨_, _, att?_setAtt _ (att?_eq_some hatt).2, rfl, rfl, rfl, rfl, rfl⟩

/-- An emission and the feeding of its pipe leave store, registers and CAM, and the ATTEND holds the emission. -/
theorem joinEmission_pushPipe (s : State) (slot k : Nat) (recs : List Partial) (tr : Trailer) :
    let t := (s.joinEmission slot k recs tr).pushPipe k
    t.store = s.store ∧ t.regs = s.regs ∧ t.cam = s.cam ∧
    ∀ a i, s.att? slot = some a → activeChain a k = some i → ∃ b e, t.att? slot = some b ∧
      b.got = a.got ++ [e] ∧ b.stage = a.stage ∧ e.pipe = k ∧ e.recs = recs ∧ e.trailer = tr := by
  have hfeeds := pushPipe_feedsPipes (s.joinEmission slot k recs tr) k
  have hjoins := joinEmission_only s slot k recs tr
  refine ⟨?_, ?_, ?_, fun a i hatt hchain => ?_⟩
  · rw [hfeeds.only, hjoins]
  · rw [hfeeds.only, hjoins]
  · rw [hfeeds.only, hjoins]
  · obtain ⟨b, e, hb, hgot, hstage, he⟩ := att?_joinEmission recs tr hatt hchain
    obtain ⟨c, hc, hgot', hstage'⟩ := hfeeds.atts slot b hb
    exact ⟨c, e, hc, hgot'.trans hgot, hstage'.trans hstage, he⟩

end Sys2Proof.Machine.State

namespace Sys2Proof.Machine

open State

/-! INTAKE (R91). -/

section
variable {s : State} {k : Nat} {b : Bytes} {rest : List Bytes} (hqueue : (s.pipe k).queue = b :: rest)
include hqueue

theorem exec_pipeDescriptor_malformed (hfields : descFieldsOk b = false) :
    exec (.pipeDescriptor k) s = .next (s.refuseDesc k b rest) := by
  change execPipeDescriptor k s = _
  simp only [execPipeDescriptor, hqueue, hfields, Bool.not_false, if_true]
  rfl

variable (hfields : descFieldsOk b = true)
include hfields

/-- A first descriptor opens a free lane, and is refused where none is free. -/
theorem exec_pipeDescriptor_first (hfirst : descFirst b = true) :
    exec (.pipeDescriptor k) s = .next (match (s.pipe k).lanes.findIdx? (·.isNone) with
      | none => s.refuseDesc k b rest
      | some i => s.takeDesc k rest (setAt (s.pipe k).lanes i (some
          { slot := descSlot b, part := fieldOf (numAt b 0 4) 27 18, descs := [b], last := (numAt b 0 4).testBit 29 }))) := by
  change execPipeDescriptor k s = _
  simp only [execPipeDescriptor, hqueue, hfields, hfirst, Bool.not_true, Bool.false_eq_true, if_false, if_true]
  cases (s.pipe k).lanes.findIdx? (·.isNone) <;> rfl

variable (hlater : descFirst b = false)
include hlater

theorem exec_pipeDescriptor_unopened (hlane : laneOf (s.pipe k) (descSlot b) = none) :
    exec (.pipeDescriptor k) s = .next (s.refuseDesc k b rest) := by
  change execPipeDescriptor k s = _
  simp only [execPipeDescriptor, hqueue, hfields, hlater, hlane, Bool.not_true, Bool.false_eq_true, if_false]
  rfl

/-- A later descriptor continues its slot's lane where PART and shape are right, and is refused where one is not. -/
theorem exec_pipeDescriptor_later {i : Nat} {l : Lane} (hlane : laneOf (s.pipe k) (descSlot b) = some (i, l)) :
    exec (.pipeDescriptor k) s = .next
      (if fieldOf (numAt b 0 4) 27 18 ≠ (l.part + 1) % 1024 ∨ descShape b ≠ descShape (l.descs.headD []) then
        s.refuseDesc k b rest
      else s.takeDesc k rest (setAt (s.pipe k).lanes i (some
        { l with part := fieldOf (numAt b 0 4) 27 18, descs := l.descs ++ [b], last := (numAt b 0 4).testBit 29 }))) := by
  change execPipeDescriptor k s = _
  simp only [execPipeDescriptor, hqueue, hfields, hlater, hlane, Bool.not_true, Bool.false_eq_true, if_false]
  split <;> rfl

end

/-! LANE_EMIT (R78 to R80, R92 to R95). -/

section
variable {s : State} {k lane : Nat} {l : Lane} (st : PipeStalls) (hlane : getAt none (s.pipe k).lanes lane = some l)
  (hlast : l.last = true)

include hlane hlast

/-- A lane that has its last descriptor reads its pages up to the first at which its work ends; where it ends at none, the
lane emits. -/
theorem exec_laneEmit : exec (.laneEmit k lane st) s =
    match l.entries.find? (s.endsAt k l) with
    | some e =>
      let before := l.entries.takeWhile (fun x => x.1 != e.1)
      let u := (s.countStalls k st).readEntries k l before
      if (u.store.frame k e.1).gen % 256 ≠ e.2.2.2 then
        .next ((((u.closeLane k lane).countRead k (laneReq l) before).wpFault k 2 l.slot).pushPipe k)
      else .next ((u.sense k (l.regions e)).1.laneUe k lane e.1)
    | none =>
      let u := (s.countStalls k st).readEntries k l l.entries
      .next (((u.freeLane k lane l).joinEmission l.slot k (u.laneRecs k l) (u.laneTrailer k l)).pushPipe k) := by
  rw [← endsAt_countStalls s k st]
  change execLaneEmit k lane st s = _
  simp only [execLaneEmit, hlane, hlast, Bool.not_true, Bool.false_eq_true, if_false]
  rfl

/-- A lane whose work ends at a page entry faults where another page has come into the frame, else stops for the bad word. -/
theorem exec_laneEmit_ends {e : Nat × Nat × Nat × Nat} (hends : l.entries.find? (s.endsAt k l) = some e) :
    let before := l.entries.takeWhile (fun x => x.1 != e.1)
    let u := (s.countStalls k st).readEntries k l before
    exec (.laneEmit k lane st) s =
      if (s.store.frame k e.1).gen % 256 ≠ e.2.2.2 then
        .next ((((u.closeLane k lane).countRead k (laneReq l) before).wpFault k 2 l.slot).pushPipe k)
      else .next ((u.sense k (l.regions e)).1.laneUe k lane e.1) := by
  intro before u
  have hframe : u.store.frame k e.1 = s.store.frame k e.1 :=
    (countStalls_readEntries_sameButErrs s k st l before).frame_eq k e.1
  rw [exec_laneEmit st hlane hlast, hends, ← hframe]

/-- A lane that emits: its reads leave the store but for what is wrong with its words, and its records and trailer are those of
the state before. -/
theorem exec_laneEmit_emits (hends : l.entries.find? (s.endsAt k l) = none) :
    ∃ t tr, exec (.laneEmit k lane st) s = .next t ∧ tr.slot = l.slot ∧ tr.status = 0 ∧ tr.pages = l.entries.length ∧
      tr.pc = k % 64 ∧ tr.stack = k / 64 ∧ t.store = { s.store with errs := t.store.errs } ∧ t.regs = s.regs ∧ t.cam = s.cam ∧
      ∀ a i, s.att? l.slot = some a → activeChain a k = some i → ∃ b e, t.att? l.slot = some b ∧ b.got = a.got ++ [e] ∧
        b.stage = a.stage ∧ e.pipe = k ∧ e.recs = s.laneRecs k l ∧ e.trailer = tr := by
  rw [exec_laneEmit st hlane hlast, hends]
  have hreads : SameButErrs s ((s.countStalls k st).readEntries k l l.entries) :=
    countStalls_readEntries_sameButErrs s k st l l.entries
  dsimp only
  generalize (s.countStalls k st).readEntries k l l.entries = u at hreads ⊢
  obtain ⟨pipes, ctrs, hfree⟩ := freeLane_only u k lane l
  obtain ⟨hstore, hregs, hcam, hatts⟩ := joinEmission_pushPipe (u.freeLane k lane l) l.slot k (u.laneRecs k l) (u.laneTrailer k l)
  have hatt : (u.freeLane k lane l).att? l.slot = s.att? l.slot := att?_of_slot (by rw [hfree, hreads]; rfl)
  rw [hatt, hreads.laneRecs_eq] at hatts
  refine ⟨_, u.laneTrailer k l, rfl, rfl, rfl, rfl, rfl, rfl, ?_, ?_, ?_, ?_⟩
  · rw [hstore, hfree, hreads]
  · rw [hregs, hfree, hreads]
  · rw [hcam, hfree, hreads]
  · rwa [hreads.laneRecs_eq]

end

/-! A pipe's read that fails (R95). -/

/-- A lane of one page entry ends by a word of its frame that a pipe's read finds uncorrectable. -/
theorem exec_pipeReadUe {s : State} {k lane addr : Nat} {l : Lane} {e : Nat × Nat × Nat × Nat}
    (hlane : getAt none (s.pipe k).lanes lane = some l) (hentries : l.entries = [e]) (hlow : frameAddr e.1 ≤ addr)
    (hhigh : addr < frameAddr e.1 + 0x4000) :
    exec (.pipeReadUe k lane addr) s =
      .next (((s.updStore (fun st => st.markBad (gaddr k addr / 32) true)).countUe k 1).laneUe k lane e.1) := by
  change l.descs.flatMap descEntries = [e] at hentries
  change execPipeReadUe k lane addr s = _
  simp only [execPipeReadUe, hlane, hentries, List.find?_cons, hlow, hhigh, decide_true, Bool.and_self, Bool.true_or]

/-- Settles O27, clause by clause: INTAKE's checks in their order, then the lane's reads in the order of its pages. -/
theorem pipesTakeAndEmit : Obligations.PipesTakeAndEmit := by
  refine ⟨fun s k b rest hqueue => ⟨fun hfields => ?malformed, fun hfields hfirst => ⟨fun i hfree => ?opens, fun hfull => ?full⟩,
      fun hfields hlater => ⟨fun hlane => ?unopened, fun i l hlane => ⟨fun hpart hshape => ?continues, fun hpart => ?outOfOrder⟩⟩⟩,
    fun s k lane st l hlane hlast => ⟨fun e hends => ⟨fun hold => ?stale, fun hfresh => ?unread⟩, fun hends => ?emits⟩,
    fun s k lane addr l e hlane hentries hlow hhigh => exec_pipeReadUe hlane hentries hlow hhigh⟩
  case malformed => exact exec_pipeDescriptor_malformed hqueue hfields
  case opens =>
    rw [exec_pipeDescriptor_first hqueue hfields hfirst, hfree]
    rfl
  case full =>
    rw [exec_pipeDescriptor_first hqueue hfields hfirst, hfull]
    rfl
  case unopened => exact exec_pipeDescriptor_unopened hqueue hfields hlater hlane
  case continues =>
    rw [exec_pipeDescriptor_later hqueue hfields hlater hlane, if_neg (by simp [hpart, hshape])]
    rfl
  case outOfOrder =>
    rw [exec_pipeDescriptor_later hqueue hfields hlater hlane, if_pos (Or.inl hpart)]
    rfl
  case stale =>
    refine (exec_laneEmit_ends st hlane hlast hends).trans ?_
    rw [if_pos (by simpa using hold)]
    rfl
  case unread =>
    refine (exec_laneEmit_ends st hlane hlast hends).trans ?_
    rw [if_neg (by simpa using hfresh)]
    rfl
  case emits =>
    obtain ⟨t, tr, hexec, hslot, hstatus, hpages, hpc, hstack, hstore, hregs, hcam, hatts⟩ :=
      exec_laneEmit_emits st hlane hlast hends
    refine ⟨t, hexec, hstore, hregs, hcam, fun a i hatt hchain => ?_⟩
    obtain ⟨b, e, hb, hgot, hstage, hpipe, hrecs, htr⟩ := hatts a i hatt hchain
    rw [← htr] at hslot hstatus hpages hpc hstack
    exact ⟨b, e, hb, hgot, hpipe, hrecs, hslot, hstatus, hpages, hpc, hstack, hstage⟩

end Sys2Proof.Machine
end

section
/-! PROOFS. Vendor stations: a program that runs with its core's bank granted, no other command behind it and no SCRUB step
waiting, ends and leaves all but the sluice cores alone (R181 to R183, R190). -/

namespace Sys2Proof.Machine.State

/-- Two states that agree on everything but the sluice cores, counters and the number of the next free value. -/
def SameButStations (s t : State) : Prop :=
  t = { s with sluice := t.sluice, ctrs := t.ctrs, fresh := t.fresh }

theorem SameButStations.trans {s t u : State} (hst : SameButStations s t) (htu : SameButStations t u) :
    SameButStations s u := by
  rw [SameButStations] at hst htu ⊢
  rw [htu, hst]

/-! The commands of a station (R182). -/

theorem vendor_setVendor (s : State) (c : Nat) (v : Vendor) (hwf : SMap.wf {} s.sluice.vendors = true) :
    (s.setVendor c v).vendor c = v :=
  SMap.get_set_same (α := Vendor) {} s.sluice.vendors c v hwf

/-- A station with no command and no SCRUB step whose turn has come stays as it is. -/
theorem runFront_of_empty {s : State} {c : Nat} (hturn : (s.vendor c).turn = false) (hqueue : (s.vendor c).queue = [])
    (n : Nat) : runFront c n s = s := by
  cases n with
  | zero => rfl
  | succ n => simp [runFront, runDue, hturn, hqueue]

theorem refill_of_none {s : State} {c : Nat} (h : s.sluice.vjobs.any (fun x => x.core == c) = false) (n : Nat) :
    refill c n s = s := by
  have hnone : s.sluice.vjobs.findIdx? (fun j => j.core == c) = none := List.findIdx?_eq_none_iff.mpr (by simpa using h)
  cases n with
  | zero => rfl
  | succ n => simp only [refill, hnone]

/-- A station's only command ends: the station is READY. -/
theorem vpop_of_single {s : State} {c : Nat} {j : VJob} (hqueue : (s.vendor c).queue = [j]) (hdue : (s.vendor c).due = [])
    (hvjobs : s.sluice.vjobs.any (fun x => x.core == c) = false) :
    s.vpop c = s.setVendor c { s.vendor c with queue := [], st := .ready, turn := false } := by
  simp only [vpop, hqueue, hdue, List.drop_one, List.tail_cons, List.isEmpty_nil, if_true, Bool.not_true]
  exact refill_of_none (s := s.setVendor c _) hvjobs 4

/-! The vendor station takes its core (R183). -/

theorem burstEnd_of_ungranted {s : State} {c : Nat} (h : ∀ b, (s.core c).burst = some b → b.granted = false) :
    s.burstEnd c = s := by
  cases hburst : (s.core c).burst with
  | none => simp only [burstEnd, hburst]
  | some b => simp only [burstEnd, hburst, h b hburst, Bool.not_false, if_true]

/-- What stands of the sluice cores when a vendor station has taken its core: its commands and SCRUB steps, those that wait
elsewhere, and the canonical form of the stations. -/
structure KeepsCommands (s t : State) (c : Nat) : Prop where
  only : SameButStations s t
  vjobs : t.sluice.vjobs = s.sluice.vjobs
  wf : SMap.wf {} s.sluice.vendors = true → SMap.wf {} t.sluice.vendors = true
  queue : (t.vendor c).queue = (s.vendor c).queue
  due : (t.vendor c).due = (s.vendor c).due

theorem KeepsCommands.trans {s t u : State} {c : Nat} (hst : KeepsCommands s t c) (htu : KeepsCommands t u c) :
    KeepsCommands s u c where
  only := hst.only.trans htu.only
  vjobs := htu.vjobs.trans hst.vjobs
  wf := htu.wf ∘ hst.wf
  queue := htu.queue.trans hst.queue
  due := htu.due.trans hst.due

/-- Where the core was busy, its station saves registers and views of the customer station. -/
theorem saved_keepsCommands (busy : Bool) (s : State) (c : Nat) (x : Saved) :
    KeepsCommands s (if busy = true then s.updVendor c (fun v => { v with saved := some x }) else s) c := by
  cases busy with
  | false => exact ⟨rfl, rfl, id, rfl, rfl⟩
  | true =>
    have hread : (s.updVendor c (fun v => { v with saved := some x })).vendor c = { s.vendor c with saved := some x } :=
      SMap.get_set_of_ne (α := Vendor) {} s.sluice.vendors c _ fun h => by
        have hsaved := congrArg Vendor.saved h
        cases hsaved
    rw [if_pos rfl]
    exact ⟨rfl, rfl, SMap.wf_set _ _ _ _, by rw [hread], by rw [hread]⟩

/-- A vendor station takes a core whose own burst has no grant and whose program spills nothing (R183). -/
theorem vendorOn_keepsCommands {s : State} {c : Nat} {v : VendorIn} (hpc : (s.core c).pc < 1024)
    (hburst : ∀ b, (s.core c).burst = some b → b.granted = false) (hspill : v.spill = false) :
    KeepsCommands s (s.vendorOn c v) c := by
  have hpast : s.pastEnd c = s := if_neg fun h => absurd h.2 (not_le.mpr hpc)
  have hcore : ∀ k, KeepsCommands s (((s.unwait c false).unwait c true).setCore c k) c := fun _ => ⟨rfl, rfl, id, rfl, rfl⟩
  have hcounts : ∀ q : State, KeepsCommands q
      (((q.count .scWaitRefresh c v.refresh).count .scWaitPipe c v.pipe).count .scWaitOther c v.other) c :=
    fun _ => ⟨rfl, rfl, id, rfl, rfl⟩
  unfold vendorOn
  rw [burstEnd_of_ungranted hburst, hpast]
  dsimp only
  rw [hspill, Bool.and_false, Bool.false_and, if_neg Bool.false_ne_true]
  exact ((hcore _).trans (saved_keepsCommands _ _ c _)).trans (hcounts _)

/-- A vendor program runs, and its station is then READY; nothing outside the sluice cores moves but counters (R181, R183). -/
theorem vendorRun_single {s : State} {j x : VJob} {v : VendorIn} (hwf : SMap.wf {} s.sluice.vendors = true)
    (hqueue : (s.vendor j.core).queue = [x]) (hdue : (s.vendor j.core).due = [])
    (hvjobs : s.sluice.vjobs.any (fun x => x.core == j.core) = false) (hpc : (s.core j.core).pc < 1024)
    (hburst : ∀ b, (s.core j.core).burst = some b → b.granted = false) (hspill : v.spill = false) :
    SameButStations s (s.vendorRun j v) ∧ ((s.vendorRun j v).vendor j.core).queue = [] := by
  have hon := vendorOn_keepsCommands hpc hburst hspill
  have hpop := vpop_of_single (hon.queue.trans hqueue) (hon.due.trans hdue) (by rw [hon.vjobs, hvjobs])
  have hrun : s.vendorRun j v = runFront j.core 4 ((s.vendorOn j.core v).vendorEnd j.core) := rfl
  rw [hrun]
  generalize s.vendorOn j.core v = q at hon hpop
  have hwf' := hon.wf hwf
  have hleft : (q.vendorEnd j.core).vendor j.core =
      vendorLeft q.fresh { q.vendor j.core with queue := [], st := .ready, turn := false } := by
    have hset := vendor_setVendor q j.core { q.vendor j.core with queue := [], st := .ready, turn := false } hwf'
    have hend : (q.vendorEnd j.core).vendor j.core = vendorLeft q.fresh ((q.vpop j.core).vendor j.core) := by
      refine SMap.get_set_same (α := Vendor) {} (q.vpop j.core).sluice.vendors j.core _ ?_
      rw [hpop]
      exact SMap.wf_set _ _ _ _ hwf'
    rw [hend, hpop, hset]
  have hends : SameButStations q (q.vendorEnd j.core) := by
    unfold vendorEnd
    rw [hpop]
    rfl
  rw [runFront_of_empty (by rw [hleft]; rfl) (by rw [hleft]; rfl), hleft]
  exact ⟨hon.only.trans hends, rfl⟩

end Sys2Proof.Machine.State
end

section
/-! PROOFS. Scoring: rounds, the ranking, SCORE, the final selection and the stall limit (R104, R105, R108, R110, R111, R118, R120,
R129, R229). -/

namespace Sys2Proof.Machine.State

/-! Insertion into an order. -/

/-- Inserting each element of a list somewhere loses none and adds none. -/
theorem foldl_insert_perm {α : Type} (ins : α → List α → List α) (hins : ∀ x l, (ins x l).Perm (x :: l)) (xs acc : List α) :
    (xs.foldl (fun l x => ins x l) acc).Perm (xs ++ acc) := by
  induction xs generalizing acc with
  | nil => exact .refl acc
  | cons x xs ih => exact (ih (ins x acc)).trans (((hins x acc).append_left xs).trans List.perm_middle)

theorem scoreInsert_perm (x : AttPage) (l : List AttPage) : (scoreInsert x l).Perm (x :: l) := by
  induction l with
  | nil => exact .refl _
  | cons y t ih =>
    unfold scoreInsert
    split
    case isTrue => exact .refl _
    case isFalse => exact (ih.cons y).trans (.swap x y t)

theorem rankInsert_perm (x : AttPage) (l : List AttPage) : (rankInsert x l).Perm (x :: l) := by
  induction l with
  | nil => exact .refl _
  | cons y t ih =>
    unfold rankInsert
    dsimp only
    split
    case isTrue => exact .refl _
    case isFalse => exact (ih.cons y).trans (.swap x y t)

/-- The ranking holds exactly the unpinned candidates that have been scored (R110). -/
theorem ranking_perm (a : Att) : (ranking a).Perm ((unpinned a).filter scored) := by
  simpa [ranking] using foldl_insert_perm rankInsert rankInsert_perm ((unpinned a).filter scored) []

/-! Rounds (R118, R129). -/

/-- The pages of a run are pages of its list. -/
theorem mem_of_mem_coreRun {s : State} {p : Nat} {seen : List Nat} {l : List AttPage} (h : p ∈ s.coreRun seen l) :
    ∃ x ∈ l, x.page = p := by
  induction l generalizing seen with
  | nil => cases h
  | cons y t ih =>
    unfold coreRun at h
    dsimp only at h
    split at h
    case isTrue => cases h
    case isFalse =>
      rcases List.mem_cons.mp h with rfl | htail
      · exact ⟨y, List.mem_cons_self .., rfl⟩
      · obtain ⟨x, hx, hpage⟩ := ih htail
        exact ⟨x, List.mem_cons_of_mem y hx, hpage⟩

/-- No two pages of a run are scored by one core, and none by a core seen before. -/
theorem coreRun_cores (s : State) (seen : List Nat) (l : List AttPage) :
    ((s.coreRun seen l).map s.coreOf).Nodup ∧ ∀ p ∈ s.coreRun seen l, s.coreOf p ∉ seen := by
  induction l generalizing seen with
  | nil => exact ⟨List.nodup_nil, fun _ h => nomatch h⟩
  | cons y t ih =>
    unfold coreRun
    dsimp only
    split
    case isTrue => exact ⟨List.nodup_nil, fun _ h => nomatch h⟩
    case isFalse hnew =>
      obtain ⟨hnodup, hfresh⟩ := ih (s.coreOf y.page :: seen)
      refine ⟨List.nodup_cons.mpr ⟨fun hmem => ?_, hnodup⟩, fun p hp => ?_⟩
      · obtain ⟨p, hp, hcore⟩ := List.mem_map.mp hmem
        exact hfresh p hp (hcore ▸ List.mem_cons_self ..)
      · rcases List.mem_cons.mp hp with rfl | htail
        · simpa using hnew
        · exact fun hseen => hfresh p htail (List.mem_cons_of_mem _ hseen)

theorem nextRound_length (s : State) (a : Att) : (s.nextRound a).length ≤ a.round := List.length_take_le ..

theorem nextRound_cores (s : State) (a : Att) : ((s.nextRound a).map s.coreOf).Nodup :=
  (coreRun_cores s [] _).1.sublist ((List.take_sublist ..).map _)

theorem nextRound_unscored {s : State} {a : Att} {p : Nat} (h : p ∈ s.nextRound a) :
    ∃ x ∈ unpinned a, x.page = p ∧ scored x = false := by
  obtain ⟨x, hx, hpage⟩ := mem_of_mem_coreRun (List.mem_of_mem_take h)
  have hmem := (foldl_insert_perm scoreInsert scoreInsert_perm _ _).mem_iff.mp hx
  rw [List.append_nil, List.mem_filter] at hmem
  exact ⟨x, hmem.1, hpage, by simpa using hmem.2⟩

/-! Selection without scores (R111). -/

theorem toScoring_dense {s : State} {n : Nat} (a : Att) (h : (s.attReq n).topk = 0) :
    s.toScoring n a = (s.count .hubRetCntDense 0 1).selected n a ((candidates a).map (·.page)) := if_pos h

/-- With no more unpinned candidates than TOPK all candidates are selected. -/
theorem toScoring_all {s : State} {n : Nat} {a : Att} (h : (s.attReq n).topk ≠ 0)
    (hfew : (unpinned a).length ≤ (s.attReq n).topk) :
    ∃ u : State, u.store = s.store ∧ u.slots = s.slots ∧ u.regs = s.regs ∧
      s.toScoring n a = u.selected n a ((candidates a).map (·.page)) := by
  refine ⟨((s.count .hubRetCntAllsel 0 1).count .hubRetCntByscore 0 (unpinned a).length).count .hubRetCntPinned 0
    ((candidates a).length - (unpinned a).length), rfl, rfl, rfl, ?_⟩
  simp only [toScoring, if_neg h, if_pos hfew]

/-! Run-ahead (R120). -/

/-- With run-ahead off, a round that is done leaves its provisional set and issues nothing. -/
theorem raTurn_off {s : State} {n : Nat} {a : Att} (hatt : s.att? n = some a) (hoff : a.raEn = false) :
    s.raTurn n = s.setAtt n { a with prov := ((ranking a).take (s.attReq n).topk).map (·.page) } := by
  simp [raTurn, raIssue, hatt, att?_setAtt _ (att?_eq_some hatt).2, hoff]

end Sys2Proof.Machine.State

namespace Sys2Proof.Machine

open State

/-! SCORING_ROUND_DONE and STALL_LIMIT_EXPIRY (R118, R121, R229). -/

theorem exec_scoringRoundDone {s : State} {slot : Nat} {a b : Att} (hatt : s.att? slot = some a) (hstage : a.stage = .scoring)
    (hturn : a.turn ≠ []) (hscored : a.turn.all (fun p => a.snap.any (fun x => x.page == p && scored x)) = true)
    (hb : (s.raTurn slot).att? slot = some b) :
    exec (.scoringRoundDone slot) s = .next (if (unpinned b).all scored then (s.raTurn slot).selectTop slot b
      else ((s.raTurn slot).startRound slot b).pumpSilt) := by
  change execScoringRoundDone slot s = _
  simp [execScoringRoundDone, hatt, hstage, hturn, hscored, hb, apply_ite Host.Outcome.next]

theorem noteChan_settleStall_store (s : State) (n p : Nat) (rest : List Nat) :
    ((s.noteChan n (p :: rest)).settleStall n).store = s.store := by
  simp [noteChan, settleStall]

theorem exec_stallLimitExpiry {s : State} {slot p : Nat} {ps rest : List Nat} (hactive : (s.slot slot).state = .active)
    (hstalled : (s.slot slot).stalled = true) (hlate : (s.slot slot).stall + (s.slot slot).limit ≤ s.hubUnits)
    (hsilt : s.siltOf ps = p :: rest)
    (hwaits : (s.slot slot).prog = .promote ps ∨ ∃ a, (s.slot slot).prog = .attend a ∧ a.stage = .silt ∧ a.chosen = ps) :
    exec (.stallLimitExpiry slot) s =
      .next (((((s.noteChan slot (p :: rest)).settleStall slot).count .stCntDeepunav ((s.store.pent p).silt % 16) 1).finish
        slot stDeep [] .plain)) := by
  change execStallLimitExpiry slot s = _
  rcases hwaits with hpromote | ⟨a, hattend, hstage, rfl⟩
  · simp only [execStallLimitExpiry, hpromote, hactive, hstalled, hlate, hsilt, noteChan_settleStall_store, decide_true,
      Bool.and_self, if_true]
  · simp only [execStallLimitExpiry, hattend, hstage, hactive, hstalled, hlate, hsilt, noteChan_settleStall_store, decide_true,
      Bool.and_self, if_true]

/-! SCORE (R104, R105, R129). -/

/-- SCORE of a round of one page whose command its station has come to. -/
theorem exec_score_page {s : State} {slot p : Nat} {a : Att} {j : VJob} (hatt : s.att? slot = some a)
    (hstage : a.stage = .scoring) (hturn : a.turn = [p]) (hrestore : s.restore? p = none)
    (hjob : s.scoreJob slot p = some j) (hquiet : ∀ c, (s.vendor c).turn = false) :
    exec (.score slot []) s = .next (s.scorePage slot [] j) := by
  change execScore slot [] s = _
  simp [execScore, runAllDue_quiet s hquiet, hatt, hstage, hturn, hrestore, hjob]

/-- The read of a page's summary (R129). -/
def State.readSummary (s : State) (p dim : Nat) : State × Bool :=
  s.sense (pagePc p) [(s.store.summaryAddr p dim, summaryBytes dim)]

theorem scorePage_waits {s : State} {slot : Nat} {a : Att} {j : VJob} (hatt : s.att? slot = some a)
    (hheld : s.vendorGets j.core {} = false) : s.scorePage slot [] j = s.vendorWait j.core {} := by
  simp only [scorePage, hatt, SMap.get, hheld, Bool.not_false, if_true]

theorem scorePage_unread {s : State} {slot : Nat} {a : Att} {j : VJob} (hatt : s.att? slot = some a)
    (hgets : s.vendorGets j.core {} = true) (hue : (s.readSummary j.page (s.attRoot a).dim).2 = true) :
    s.scorePage slot [] j = (s.readSummary j.page (s.attRoot a).dim).1.vendorUe j {} j.page := by
  unfold readSummary at hue ⊢
  simp only [scorePage, hatt, SMap.get, hgets, hue, Bool.not_true, Bool.false_eq_true, if_false, if_true]

/-- What is asked of a page that SCORE gives its bounds in a round of its own: its command is the station's only one, the
bank granted, the core's own burst not, the summary readable, query and SIGMA supported. -/
structure ReadyToScore (s : State) (slot p : Nat) (a : Att) (j : VJob) : Prop where
  att : s.att? slot = some a
  stage : a.stage = .scoring
  turn : a.turn = [p]
  restore : s.restore? p = none
  job : s.scoreJob slot p = some j
  page : j.page = p
  quiet : ∀ c, (s.vendor c).turn = false
  gets : s.vendorGets j.core {} = true
  due : (s.vendor j.core).due = []
  pc : (s.core j.core).pc < 1024
  read : (s.readSummary p (s.attRoot a).dim).2 = false
  query : Weir.queryOk (s.attReq slot) (dimOf (s.attRoot a).dim) = true
  sigma : Weir.sigmaOk (s.attReq slot).sigma = true
  queue : (s.vendor j.core).queue = [j]
  vjobs : s.sluice.vjobs.any (fun x => x.core == j.core) = false
  burst : ∀ b, (s.core j.core).burst = some b → b.granted = false

/-- An ATTEND whose page has the bounds that its summary gives. -/
def State.scoredAtt (s : State) (slot p : Nat) (a : Att) : Att :=
  { a with snap := a.snap.map (fun x => if x.page = p then
      { x with bounds := Weir.bounds (s.attReq slot) (dimOf (s.attRoot a).dim) (s.store.summary p (s.attRoot a).dim) } else x) }

/-- SCORE gives a page its bounds and changes no other page, slot, register or byte of DRAM. -/
def ScoresPage (s : State) (slot p : Nat) (a : Att) : Prop :=
  ∃ t b, exec (.score slot []) s = .next t ∧ t.att? slot = some b ∧ b.stage = .scoring ∧ b.turn = a.turn ∧
    b.snap = (s.scoredAtt slot p a).snap ∧ t.store = { s.store with errs := t.store.errs } ∧ t.regs = s.regs ∧
    ∀ n, n ≠ slot → t.slot n = s.slot n

/-- O26 comes down to its clause on the bounds that SCORE gives: the others hold of every state. -/
theorem attendScoresAndSelects_iff : Obligations.AttendScoresAndSelects ↔
    ∀ (s : State) (slot p : Nat) (a : Att) (j : VJob), ReadyToScore s slot p a j → ScoresPage s slot p a := by
  refine ⟨fun h s slot p a j hready => ?bounds, fun h => ⟨fun s n a => ⟨toScoring_dense a, fun hk hfew => toScoring_all hk hfew⟩,
    fun s a => ⟨nextRound_length s a, nextRound_cores s a, fun p hp => nextRound_unscored hp⟩, ranking_perm,
    fun s slot p a j hatt hstage hturn hrestore hjob hpage => ?score,
    fun s slot a hatt hstage hturn hscored => ⟨raTurn_off hatt, fun b hb => exec_scoringRoundDone hatt hstage hturn hscored hb⟩,
    fun s slot p ps rest => exec_stallLimitExpiry⟩⟩
  case bounds =>
    obtain ⟨hatt, hstage, hturn, hrestore, hjob, hpage, hquiet, hgets, hdue, hpc, hread, hquery, hsigma, hqueue, hvjobs, hburst⟩ :=
      hready
    obtain ⟨-, -, -, hscore, -⟩ := h
    obtain ⟨-, -, hbounds⟩ := hscore s slot p a j hatt hstage hturn hrestore hjob hpage hquiet
    exact hbounds hgets hdue hpc hread hquery hsigma hqueue hvjobs hburst
  case score =>
    intro y dim r hquiet
    have hexec := exec_score_page hatt hstage hturn hrestore hjob hquiet
    refine ⟨fun hheld => ?_, fun hgets hue => ?_, fun hgets hdue hpc hread hquery hsigma hqueue hvjobs hburst => ?_⟩
    · rw [hexec, scorePage_waits hatt hheld]
    · subst hpage
      rw [hexec, scorePage_unread hatt hgets hue]
      rfl
    · exact h s slot p a j ⟨hatt, hstage, hturn, hrestore, hjob, hpage, hquiet, hgets, hdue, hpc, hread, hquery, hsigma, hqueue,
        hvjobs, hburst⟩

/-- The bytes of a summary are those of DRAM under a key, whatever is wrong with the words. -/
theorem readSummary_summary (s : State) (p dim : Nat) : (s.readSummary p dim).1.store.summary p dim = s.store.summary p dim := by
  rw [readSummary, sense_sameButErrs s _ _]
  rfl

/-- SCORE of a page that is ready: its ATTEND has its bounds, and the vendor station runs its program (R104, R105). -/
theorem scorePage_ready {s : State} {slot p : Nat} {a : Att} {j : VJob} (h : ReadyToScore s slot p a j) :
    s.scorePage slot [] j =
      ((((s.readSummary p (s.attRoot a).dim).1.setAtt slot (s.scoredAtt slot p a)).vendorRun j {}).count .hubRetCntScored 0 1) := by
  have hsummary := readSummary_summary s p (s.attRoot a).dim
  have hread := h.read
  unfold readSummary at hsummary hread ⊢
  simp only [scorePage, h.att, h.page, SMap.get, h.gets, hread, h.query, h.sigma, hsummary, Bool.not_true, Bool.false_eq_true,
    if_false, Bool.and_self, if_true]
  rfl

/-- Where the table of the vendor stations is canonical, a page that is ready gets its bounds. -/
theorem scoresPage_of_wf {s : State} {slot p : Nat} {a : Att} {j : VJob} (hwf : SMap.wf {} s.sluice.vendors = true)
    (h : ReadyToScore s slot p a j) : ScoresPage s slot p a := by
  have hread : SameButErrs s (s.readSummary p (s.attRoot a).dim).1 := sense_sameButErrs s _ _
  have hpage := scorePage_ready h
  generalize (s.readSummary p (s.attRoot a).dim).1 = q at hread hpage
  have hactive : (q.slot slot).state = .active := by
    rw [hread]
    exact (att?_eq_some h.att).2
  have hset : (q.setAtt slot (s.scoredAtt slot p a)).att? slot = some (s.scoredAtt slot p a) := att?_setAtt _ hactive
  have hother : ∀ n, n ≠ slot → (q.setAtt slot (s.scoredAtt slot p a)).slot n = s.slot n := fun n hn => by
    rw [setAtt, updSlot, slot_setSlot_ne _ _ _ _ hn, hread]
    rfl
  have hsame : q.setAtt slot (s.scoredAtt slot p a) = { s with
      slots := (q.setAtt slot (s.scoredAtt slot p a)).slots
      store := { s.store with errs := q.store.errs }, ctrs := q.ctrs, rel := { s.rel with pred := q.rel.pred } } := by
    rw [setAtt, updSlot, setSlot, hread]
  generalize q.setAtt slot (s.scoredAtt slot p a) = u at hpage hset hother hsame
  have hsluice : u.sluice = s.sluice := by rw [hsame]
  have hvendor : u.vendor j.core = s.vendor j.core := by rw [vendor, hsluice, vendor]
  have hcore : u.core j.core = s.core j.core := by simp only [State.core, idleCore, hsluice]
  obtain ⟨hrun, -⟩ := vendorRun_single (v := {}) (hsluice ▸ hwf) (hvendor ▸ h.queue) (hvendor ▸ h.due) (hsluice ▸ h.vjobs)
    (hcore ▸ h.pc) (hcore ▸ h.burst) rfl
  generalize u.vendorRun j {} = w at hpage hrun
  have hslot : ∀ n, w.slot n = u.slot n := fun n => by
    rw [hrun]
    rfl
  refine ⟨w.count .hubRetCntScored 0 1, s.scoredAtt slot p a, ?_, (att?_of_slot (hslot slot)).trans hset, h.stage, rfl, rfl, ?_, ?_,
    fun n hn => (hslot n).trans (hother n hn)⟩
  · rw [exec_score_page h.att h.stage h.turn h.restore h.job h.quiet, hpage]
  · rw [count_store, hrun, hsame]
  · rw [count_regs, hrun, hsame]

/-! The refutation. -/

/-- The command that scores page 5 for slot 0. -/
def scoreFive : VJob := { prog := .score, page := 5, slot := some 0 }

/-- An ATTEND in a round of page 5 alone. -/
def attendFive : Att := { snap := [{ page := 5, rows := 1, visible := 1 }], turn := [5] }

/-- A committed PG_CFG waits for its moment, and station 0 is listed twice: at the command that scores page 5, and, in an entry
that no read sees while the first is there, with a SCRUB step whose turn has come. -/
def twiceListed : State where
  regs := { cap := [(Reg.pgCfg.key 0, some 1)] }
  store := { keys := [(0, 1)], pmap := [(5, { tier := .near, frame := 16 })] }
  slots := [(0, { state := .active, prog := .attend attendFive, body := zeros 4 ++ leBytes 4 0x3F800000 })]
  sluice := { vload := some [], vendors := [(0, { st := .run, queue := [scoreFive] }), (0, { due := [{}], turn := true })] }

theorem twiceListed_ready : ReadyToScore twiceListed 0 5 attendFive scoreFive where
  att := by decide +kernel
  stage := rfl
  turn := rfl
  restore := rfl
  job := by decide +kernel
  page := rfl
  quiet c := by
    by_cases hc : c = 0
    · subst hc
      rfl
    · simp [vendor, twiceListed, SMap.get, hc]
  gets := by decide +kernel
  due := rfl
  pc := by decide +kernel
  read := by decide +kernel
  query := by decide +kernel
  sigma := by decide +kernel
  queue := rfl
  vjobs := rfl
  burst b h := by cases h

/-- The state after SCORE has taken the PG_CFG that waited: with the first entry of station 0 gone, the SCRUB step of the second
runs and begins a pass. -/
theorem twiceListed_takes_pgCfg :
    (match exec (.score 0 []) twiceListed with
      | .next t => t.reg .pgCfg 0
      | _ => 0) ≠ twiceListed.reg .pgCfg 0 := by decide +kernel

/-- Refutes O26: its clause on the bounds that SCORE gives asks for no canonical table of the vendor stations. Where one is listed
twice, its last command gone uncovers the second entry, which goes on by itself and moves registers. With a canonical table the
clause holds (`scoresPage_of_wf`), and the other clauses hold of every state (`attendScoresAndSelects_iff`). -/
theorem not_attendScoresAndSelects : ¬ Obligations.AttendScoresAndSelects := by
  rw [attendScoresAndSelects_iff]
  intro h
  obtain ⟨t, b, hexec, -, -, -, -, -, hregs, -⟩ := h _ _ _ _ _ twiceListed_ready
  refine twiceListed_takes_pgCfg ?_
  rw [hexec]
  exact congrArg (fun r : RegFile => SMap.get (wordOf Reg.pgCfg.access.reset) r.eff (Reg.pgCfg.key 0)) hregs

end Sys2Proof.Machine
end

section
/-! PROOFS. The instructions of a customer station: what an effect that goes on, and one that faults, make of a command, and
the commands by their classes (R185, R193, R194, R198, R200 to R202). -/

namespace Sys2Proof.Machine.State

/-! One instruction. -/

/-- An effect that does not end the program is followed by what its station does next. -/
theorem runEffect_running {s : State} {c : Nat} {f : Effect} {held : Bool} {t : Core}
    (hf : f ((s.core c).word (s.core c).pc) (s.core c) = .ok t) (hst : t.st = .run) :
    s.runEffect c f held = (s.setCore c t).afterInstr c held := by
  have hready : ¬ ((s.core c).st = .run ∧ t.st = .ready) := fun h => nomatch hst.symm.trans h.2
  simp only [runEffect, hf]
  rw [if_neg hready]

/-- An effect that leaves its station running without a burst: the station goes on. -/
theorem runEffect_goesOn {s : State} {c : Nat} {f : Effect} {held : Bool} {t : Core}
    (hf : f ((s.core c).word (s.core c).pc) (s.core c) = .ok t) (hst : t.st = .run) (hb : t.burst = none) :
    s.runEffect c f held = goesOn s c t := by
  rw [runEffect_running hf hst, afterInstr, pastEnd, core_setCore_run s c t hst, hb, goesOn]
  by_cases hpc : t.pc < 1024
  · simp [hpc]
  · simp [hpc, not_lt.mp hpc, hst, fcRange]

/-- A station that stands at an instruction which leaves it running goes on, with one free value taken. -/
theorem instr_goesOn {s : State} {c key : Nat} {f : Effect} {t : Core} (h : Stands s c key)
    (hf : f ((s.core c).word (s.core c).pc) (s.core c) = .ok t) (hst : t.st = (s.core c).st)
    (hb : t.burst = (s.core c).burst) : s.instr c key f = (goesOn s c t).tick := by
  rw [instr_stands s c key f h, runEffect_goesOn hf (hst.trans (stands_run h)) (hb.trans (stands_burst h))]

/-- A station that stands at an instruction which faults is in FAULT, its FPC at the instruction. -/
theorem instr_faults {s : State} {c key : Nat} {f : Effect} {e : Nat} (h : Stands s c key)
    (hf : f ((s.core c).word (s.core c).pc) (s.core c) = .error e) :
    s.instr c key f = (s.coreFault c e (s.core c).pc).tick := by
  rw [instr_stands s c key f h, runEffect_error s c f false e hf]

/-! What an effect leaves of its station. -/

/-- A write of a register and one of the program counter do not meet. -/
theorem setReg_withPc (k : Core) (i pc : Nat) (x : W32) :
    ({ k with pc := pc } : Core).setReg i x = { k.setReg i x with pc := pc } := by
  simp only [Core.setReg]
  split <;> rfl

/-- The next word after a write of a register, of scratch or of a vector register. -/
theorem next_setReg (k : Core) (i : Nat) (x : W32) : (k.setReg i x).next = { k.setReg i x with pc := k.pc + 1 } := by
  rw [Core.next, setReg_pc]

theorem next_setScr (k : Core) (a : Nat) (b : Bytes) : (k.setScr a b).next = { k.setScr a b with pc := k.pc + 1 } := by
  rw [Core.next, setScr_pc]

theorem next_setVreg (k : Core) (i : Nat) (x : List W32) : (k.setVreg i x).next = { k.setVreg i x with pc := k.pc + 1 } := rfl

theorem next_setVreg_st (k : Core) (i : Nat) (x : List W32) : (k.setVreg i x).next.st = k.st := rfl
theorem next_setVreg_burst (k : Core) (i : Nat) (x : List W32) : (k.setVreg i x).next.burst = k.burst := rfl

/-- A jump inside the customer half, and one outside (R193). -/
theorem goto_inside {k : Core} {i : Int} (hlo : 0 ≤ i) (hhi : i < 1024) : k.goto i = .ok { k with pc := i.toNat } :=
  if_pos ⟨hlo, hhi⟩

theorem goto_outside {k : Core} {i : Int} (h : i < 0 ∨ 1024 ≤ i) : k.goto i = .error fcRange :=
  if_neg (by omega)

end Sys2Proof.Machine.State

namespace Sys2Proof.Machine

open State

/-! The commands by class. -/

theorem registerOp_of_onRegs {i : Nat → Instr} {key : Nat} {f : W32 → W32 → W32}
    (h : ∀ s c, exec (i c) s = .next (s.instr c key (onRegs f))) : RegisterOp i key f := by
  intro s c hstands
  have hf : onRegs f ((s.core c).word (s.core c).pc) (s.core c) = .ok _ := congrArg Except.ok (next_setReg _ _ _)
  dsimp only
  rw [h, instr_goesOn hstands hf (setReg_st ..) (setReg_burst ..)]

theorem immediateOp_of_onImm {i : Nat → Instr} {key : Nat} {f : W32 → Nat → W32}
    (h : ∀ s c, exec (i c) s = .next (s.instr c key (onImm (fun a w => f a (immOf w))))) : ImmediateOp i key f := by
  intro s c hstands
  have hf : onImm (fun a w => f a (immOf w)) ((s.core c).word (s.core c).pc) (s.core c) = .ok _ :=
    congrArg Except.ok (next_setReg _ _ _)
  dsimp only
  rw [h, instr_goesOn hstands hf (setReg_st ..) (setReg_burst ..)]
  rfl

theorem branchOp_of_onBranch {i : Nat → Instr} {key : Nat} {f : W32 → W32 → Bool}
    (h : ∀ s c, exec (i c) s = .next (s.instr c key (onBranch f))) : BranchOp i key f := by
  intro s c hstands
  dsimp only
  rw [h]
  refine ⟨fun htaken => ?_, fun htaken hlo hhi => ?_, fun htaken hout => ?_⟩
  · have hf : onBranch f ((s.core c).word (s.core c).pc) (s.core c) = .ok (s.core c).next :=
      if_neg (Bool.eq_false_iff.mp htaken)
    rw [instr_goesOn hstands hf rfl rfl]
    rfl
  · have hf : onBranch f ((s.core c).word (s.core c).pc) (s.core c) = .ok _ :=
      (if_pos htaken).trans (goto_inside hlo hhi)
    rw [instr_goesOn hstands hf rfl rfl]
    rfl
  · have hf : onBranch f ((s.core c).word (s.core c).pc) (s.core c) = .error fcRange :=
      (if_pos htaken).trans (goto_outside hout)
    rw [instr_faults hstands hf]
    rfl

theorem laneOp_of_putLanes {i : Nat → Instr} {key : Nat} {f : Nat → Core → List W32}
    (h : ∀ s c, exec (i c) s = .next (s.instr c key (fun w k => putLanes w k (f w k)))) : LaneOp i key f := by
  intro s c hstands
  have hf : putLanes ((s.core c).word (s.core c).pc) (s.core c) (f ((s.core c).word (s.core c).pc) (s.core c)) = .ok _ := rfl
  dsimp only
  rw [h, instr_goesOn (f := fun w k => putLanes w k (f w k)) hstands hf rfl rfl]
  rfl

/-- Settles O4: each command is one of class R, and writes its function of ra and rb. -/
theorem sluiceRegisterInstructions : Obligations.SluiceRegisterInstructions := by
  refine ⟨?_, ?_, ?_, ?_, ?_, ?_, ?_, ?_, ?_, ?_, ?_, ?_, ?_, ?_, ?_, ?_, ?_, ?_⟩ <;>
    exact registerOp_of_onRegs fun _ _ => rfl

/-- Settles O5: each command is one of class I, and writes its function of ra and the immediate. -/
theorem sluiceImmediateInstructions : Obligations.SluiceImmediateInstructions := by
  refine ⟨?_, ?_, ?_, ?_, ?_, ?_, ?_⟩ <;> exact immediateOp_of_onImm fun _ _ => rfl

/-- Settles O6: a register table read after a write, with register 0 apart. -/
theorem scalarRegisterFile : Obligations.ScalarRegisterFile := by
  intro k i x
  refine ⟨rfl, rfl, ?_, fun hwf hi => ?_, fun j hj => ?_⟩
  · rw [Core.setReg]
    split <;> rfl
  · rw [Core.setReg, if_neg hi, Core.reg, if_neg hi]
    exact SMap.get_set_same 0 k.regs i x hwf
  · by_cases hi : i = 0
    · rw [Core.setReg, if_pos hi]
    · rw [Core.setReg, if_neg hi, Core.reg, Core.reg]
      exact congrArg (ite (j = 0) 0) (SMap.get_set_ne 0 k.regs i j x hj)

/-! Scratch. -/

/-- What the address of an access to scratch makes of an instruction: cause RANGE first, then ALIGN, then its effect. -/
theorem exec_scratch {i : Instr} {s : State} {c key a align : Nat} {may : Bool} {f : Effect} {t : Core}
    (hi : exec i s = .next (s.instr c key f)) (h : Stands s c key)
    (hf : f ((s.core c).word (s.core c).pc) (s.core c) =
      if !may then .error fcRange else if a % align ≠ 0 then .error fcAlign else .ok t)
    (hst : t.st = (s.core c).st) (hb : t.burst = (s.core c).burst) :
    (may = true → a % align = 0 → exec i s = .next ((goesOn s c t).tick)) ∧
    (may = false → exec i s = .next ((s.coreFault c fcRange (s.core c).pc).tick)) ∧
    (may = true → a % align ≠ 0 → exec i s = .next ((s.coreFault c fcAlign (s.core c).pc).tick)) := by
  rw [hi]
  refine ⟨fun hmay hal => ?_, fun hmay => ?_, fun hmay hal => ?_⟩
  · rw [instr_goesOn h (by rw [hf]; simp [hmay, hal]) hst hb]
  · rw [instr_faults (e := fcRange) h (by rw [hf]; simp [hmay])]
  · rw [instr_faults (e := fcAlign) h (by rw [hf]; simp [hmay, hal])]

/-- Settles O7: the effects of LDS and STS with the checks of their address. -/
theorem scratchWordInstructions : Obligations.ScratchWordInstructions := by
  intro s c k w a
  refine ⟨fun h => ?_, fun h => ?_⟩
  · exact exec_scratch (f := effLds) rfl h (by rw [← next_setReg]; rfl) (setReg_st ..) (setReg_burst ..)
  · exact exec_scratch (f := effSts) rfl h (by rw [← next_setScr]; rfl) (setScr_st ..) (setScr_burst ..)

/-- Settles O8: the branches, and the two jumps. -/
theorem sluiceBranchesAndJumps : Obligations.SluiceBranchesAndJumps := by
  refine ⟨branchOp_of_onBranch fun _ _ => rfl, branchOp_of_onBranch fun _ _ => rfl, branchOp_of_onBranch fun _ _ => rfl,
    branchOp_of_onBranch fun _ _ => rfl, branchOp_of_onBranch fun _ _ => rfl, ?_⟩
  intro s c k w target dest
  refine ⟨fun h => ⟨fun hlo hhi => ?_, fun hout => ?_⟩, fun h => ⟨fun hin => ?_, fun hout => ?_⟩⟩
  · have hf : effJal w k = .ok { k.setReg (fieldOf w 23 20) (BitVec.ofNat 32 (k.pc + 1)) with pc := target.toNat } := by
      rw [← setReg_withPc]
      exact congrArg (Except.map _) (goto_inside hlo hhi)
    exact congrArg _ (instr_goesOn h hf (setReg_st ..) (setReg_burst ..))
  · exact congrArg _ (instr_faults (f := effJal) h (congrArg (Except.map _) (goto_outside hout)))
  · exact congrArg _ (instr_goesOn (f := effJr) h (goto_inside (Int.natCast_nonneg _) (by exact_mod_cast hin)) rfl rfl)
  · exact congrArg _ (instr_faults (f := effJr) h (goto_outside (Or.inr (by exact_mod_cast hout))))

/-- Settles O9: the commands that write lanes, and the two that write a scalar from all lanes. -/
theorem sluiceLaneInstructions : Obligations.SluiceLaneInstructions := by
  refine ⟨?_, ?_, ?_, ?_, ?_, ?_, ?_, ?_, ?_, ?_, ?_, ?_⟩
  case refine_12 =>
    intro s c k w a
    refine ⟨fun h => ?_, fun h => ?_⟩
    · exact congrArg _ (instr_goesOn (f := effVrsum s.fresh) h (congrArg Except.ok (next_setReg _ _ _))
        (setReg_st ..) (setReg_burst ..))
    · exact congrArg _ (instr_goesOn (f := effVrmax) h (congrArg Except.ok (next_setReg _ _ _))
        (setReg_st ..) (setReg_burst ..))
  all_goals exact laneOp_of_putLanes fun _ _ => rfl

theorem laneStore_of_setScr {i : Nat → Instr} {key n align : Nat} {f : List W32 → Bytes} {e : Effect}
    (h : ∀ s c, exec (i c) s = .next (s.instr c key e))
    (he : ∀ w k, e w k = if !Core.mayWrite (vAddr w k) n then .error fcRange else if vAddr w k % align ≠ 0 then .error fcAlign
      else .ok ((k.setScr (vAddr w k) (f (k.vreg (vaOf w)))).next)) : LaneStore i key n align f := by
  intro s c hstands
  exact exec_scratch (h s c) hstands ((he _ _).trans (by rw [next_setScr]; rfl)) (setScr_st ..) (setScr_burst ..)

/-- Settles O10: the stores of lanes, VLD and VWID, with the checks of their address. -/
theorem sluiceVectorScratch : Obligations.SluiceVectorScratch := by
  refine ⟨laneStore_of_setScr (fun _ _ => rfl) fun _ _ => rfl,
    laneStore_of_setScr (e := effVstn) (fun _ _ => rfl) fun w k => ?_,
    laneStore_of_setScr (e := effVsth) (fun _ _ => rfl) fun w k => ?_, ?_⟩
  · simp [effVstn, Nat.mod_one]
  · simp [effVsth, Nat.mod_one]
  · intro s c k w a n lo len bits scale
    refine ⟨fun h => ?_, fun h => ⟨fun hmay => ?_, fun hmay => ?_⟩⟩
    · have hf : effVld w k = if !Core.mayRead a 32 then .error fcRange else if a % 32 ≠ 0 then .error fcAlign
          else .ok (k.setVreg (fieldOf w 23 21) (lanesOf (k.scr a 32))).next := rfl
      have hload := exec_scratch (i := .vld c) rfl h hf (next_setVreg_st ..) (next_setVreg_burst ..)
      rw [next_setVreg] at hload
      exact hload
    · have hreads : ¬ (!Core.mayRead lo len) = true := by rw [hmay]; exact Bool.false_ne_true
      have hf : effVwid w k = .ok (k.setVreg (fieldOf w 23 21) ((List.range 8).map (fun i =>
          widenFmt (fieldOf w 14 12) scale (fieldOf bits (n * i + n - 1) (n * i))))).next := by
        unfold effVwid
        rw [if_neg]
        · rfl
        · exact hreads
      have hwiden := instr_goesOn h hf (next_setVreg_st ..) (next_setVreg_burst ..)
      rw [next_setVreg] at hwiden
      exact congrArg _ hwiden
    · have hreads : (!Core.mayRead lo len) = true := by rw [hmay]; rfl
      have hf : effVwid w k = .error fcRange := by
        unfold effVwid
        rw [if_pos]
        exact hreads
      exact congrArg _ (instr_faults h hf)

end Sys2Proof.Machine
end

section
/-! PROOFS. Control instructions and faults of a station (R183, R185, R194, R198, R200, R202). -/

namespace Sys2Proof.Machine.State

theorem core_setCore_of_wf (s : State) (c : Nat) (k : Core) (h : SMap.wf s.idleCore s.sluice.cores = true) :
    (s.setCore c k).core c = k :=
  SMap.get_set_same _ _ _ _ h

/-- A station that has stopped for its program's end runs past nothing. -/
theorem afterInstr_stopped {s : State} {c : Nat} {held : Bool} (hst : (s.core c).st ≠ .run) (hb : (s.core c).burst = none) :
    s.afterInstr c held = s := by
  rw [afterInstr, hb]
  exact if_neg fun hpast : (s.core c).st = .run ∧ _ => hst hpast.1

/-- A core that saves nothing of its customer station has nothing to restore. -/
theorem restoreSaved_none {s : State} {c : Nat} (h : (s.vendor c).saved = none) : s.restoreSaved c = s := by
  rw [restoreSaved, h]

/-- What a fault leaves of a state that is restored. -/
def faulted (r : State) (c cause fpc : Nat) : State :=
  ((r.unwait c false).updCore c (fun k =>
    { k with st := .fault, prog := false, burst := none, fcause := cause, fpc := fpc % 1024 })).count .scCntCfault c 1

theorem coreFault_eq (s : State) (c cause fpc : Nat) : s.coreFault c cause fpc = (s.restoreSaved c).faulted c cause fpc := rfl

end Sys2Proof.Machine.State

namespace Sys2Proof.Machine

open State

theorem exec_halt {s : State} {c : Nat} (h : Stands s c 0xA1) (hwf : SMap.wf s.idleCore s.sluice.cores = true) :
    let k := s.core c
    exec (.halt c) s = .next ((s.setCore c
      { k with st := .ready, prog := false, result := fieldOf (k.word k.pc) 15 0 }).count .scCntCcmd c 1).tick := by
  intro k
  have hexec : exec (.halt c) s = .next (s.instr c 0xA1 effHalt) := rfl
  let t : Core := { k with st := .ready, prog := false, result := fieldOf (k.word k.pc) 15 0 }
  have hrun : s.runEffect c effHalt false = ((s.setCore c t).count .scCntCcmd c 1).afterInstr c false := by
    simp only [runEffect, effHalt]
    rw [if_pos ⟨stands_run h, trivial⟩]
    rfl
  have hread : ((s.setCore c t).count .scCntCcmd c 1).core c = t := core_setCore_of_wf s c t hwf
  rw [hexec, instr_stands s c _ effHalt h, hrun, afterInstr_stopped]
  · rw [hread]
    exact nofun
  · rw [hread]
    exact stands_burst h

/-- KRND of a vendor station that holds its core. -/
theorem exec_krnd_vendor {s : State} {c : Nat} (round ra : Nat) (hv : (s.core c).vendor = true) :
    let x := (vendorReg (s.vendor c) ra).toNat
    exec (.krnd c (some (round, ra))) s = .next (if decide (0x0800 ≤ x) && decide (x + 200 ≤ 0x2000) then
      s.updVendor c (vendorKrnd round x) else s.scFault c fcRange) := by
  intro x
  have hexec : exec (.krnd c (some (round, ra))) s = .next (if !(s.core c).vendor then s
    else if decide (0x0800 ≤ x) && decide (x + 200 ≤ 0x2000) then s.updVendor c (vendorKrnd round x)
    else s.scFault c fcRange) := rfl
  rw [hexec, hv]
  rfl

/-- VIEW of a readable descriptor, by its KIND and INDEX. -/
theorem effView_readable {w a kind g : Nat} {k : Core} (ha : (k.reg (fieldOf w 23 20)).toNat = a)
    (hread : Core.mayRead a 16 = true) (hkind : fieldOf (leNat (k.scr a 1)) 3 0 = kind)
    (hg : fieldOf (leNat (k.scr (a + 1) 1)) 5 0 = g) :
    let put (v : SView) : Core := { k with views := SMap.set .unset k.views (fieldOf w 1 0) v, pc := k.pc + 1 }
    effView w k = if kind = 0 then .ok (put .unset)
      else if kind = 1 then if (k.grant g).valid then .ok (put (.grant g)) else .error fcView
      else if kind = 8 then .ok (put .dataC)
      else .error fcRights := by
  subst ha hkind hg
  unfold effView
  rw [if_neg]
  · rfl
  · exact fun h => Bool.false_ne_true ((congrArg (!·) hread).symm.trans h)

/-- Settles O11: NOP, FENCE, HALT, VIEW by the KIND of its descriptor, and the words that fault as ILLEGAL. -/
theorem sluiceControlInstructions : Obligations.SluiceControlInstructions := by
  intro s c k w on a kind g view
  refine ⟨fun h => ?_, fun h => ?_, fun h hwf => exec_halt h hwf, fun h hread => ?_, fun h hread => ?_, fun hrun hhalt hill => ?_,
    fun hrun hhalt hkey => ?_, fun round ra hv => ?_⟩
  · exact congrArg _ (instr_goesOn (f := effNop) h rfl rfl rfl)
  · exact congrArg _ (instr_goesOn (f := effFence) h rfl rfl rfl)
  · have heff := effView_readable (w := w) (k := k) (a := a) (kind := kind) (g := g) rfl hread rfl rfl
    have hok : ∀ v, effView w k = .ok { k with views := SMap.set .unset k.views (fieldOf w 1 0) v, pc := k.pc + 1 } →
        exec (.view c) s = .next (on (view v)) := fun v hv => congrArg _ (instr_goesOn (f := effView) h hv rfl rfl)
    have herror : ∀ e, effView w k = .error e → exec (.view c) s = .next (on (s.coreFault c e k.pc)) :=
      fun e he => congrArg _ (instr_faults (f := effView) h he)
    refine ⟨fun hk => hok _ ?_, fun hk hg => hok _ ?_, fun hk => hok _ ?_, fun hk hg => herror _ ?_, fun h0 h1 h8 => herror _ ?_⟩
    · exact heff.trans (if_pos hk)
    · rw [heff, if_neg (by rw [hk]; decide), if_pos hk, if_pos hg]
    · rw [heff, if_neg (by rw [hk]; decide), if_neg (by rw [hk]; decide), if_pos hk]
    · rw [heff, if_neg (by rw [hk]; decide), if_pos hk, if_neg (Bool.eq_false_iff.mp hg)]
      rfl
    · rw [heff, if_neg h0, if_neg h1, if_neg h8]
      rfl
  · have hf : effView w k = .error fcRange := if_pos (congrArg (!·) hread)
    exact congrArg _ (instr_faults (f := effView) h hf)
  · have hexec : exec (.illegal c) s = .next (if executing k && !s.haltedAt c && !legalWord w then
      s.runEffect c effIllegal false else s) := rfl
    rw [hexec, hrun, hhalt, hill]
    exact congrArg _ (runEffect_error s c effIllegal false fcIllegal rfl)
  · have hexec : exec (.krnd c none) s = .next (if executing k && !s.haltedAt c && opKey w == 0xA4 then
      s.runEffect c effKrnd false else s) := rfl
    rw [hexec, hrun, hhalt, hkey]
    exact congrArg _ (runEffect_error s c effKrnd false fcIllegal rfl)
  · have hexec := exec_krnd_vendor round ra hv
    refine ⟨fun hlo hhi => ?_, fun hout => ?_⟩
    · exact hexec.trans (congrArg _ (if_pos (by simp [hlo, hhi])))
    · exact hexec.trans (congrArg _ (if_neg (by simp; omega)))

/-- Settles O12: a fault is a write of the station, of its requests for a bank and of one counter, after what was saved of it is
restored. -/
theorem stationFaultRecords : Obligations.StationFaultRecords := by
  intro s c cause fpc r t
  have ht : t = r.faulted c cause fpc := coreFault_eq s c cause fpc
  refine ⟨restoreSaved_none, ?_⟩
  rw [ht]
  generalize r = r
  refine fun hctrs hwf => ⟨?_, fun j hj => ?_, ?_, fun d j hne => ?_, rfl⟩
  · exact core_setCore_of_wf (r.unwait c false) c _ hwf
  · exact core_setCore_ne (r.unwait c false) c j _ hj
  · exact ctr_count _ .scCntCfault c 1 ((countersOk_iff r).mp hctrs).1
  · exact ctr_count_ne _ .scCntCfault d c j 1 hne

end Sys2Proof.Machine
end

section
/-! PROOFS. The refutation of the statement about station commands: a DEQ where a vendor station is listed twice (R181, R183). -/

namespace Sys2Proof.Machine

open State

/-- Core 0 is leased to context 0 with a granted page of no rows. Its vendor station is listed twice: with nothing in it, and, in
an entry that no read sees while the first is there, with registers saved of the customer station. -/
def deqTwiceListed : State where
  store := { keys := [(0, 1)] }
  sluice := { vload := some [], cores := [(0, { lessee := some 0, grants := [(0, { valid := true })] })],
              vendors := [(0, {}), (0, { saved := some { regs := [(1, 1)] } })] }

theorem deqTwiceListed_accepts : Accepts deqTwiceListed 0 := by
  unfold Accepts
  decide +kernel

/-- DEQ ends, and the station holds the registers of the second entry: with the first gone, what that one saved is restored. -/
theorem deqTwiceListed_restores :
    (match exec (.deq 0) deqTwiceListed with
      | .next t => ((t.core 0).regs)
      | _ => []) = [(1, 1)] := by decide +kernel

/-- Refutes O14: its clause on a DEQ that runs at once asks for no canonical table of the vendor stations. Where one is listed
twice, its ended command takes the first entry out, and what the second saved of the customer station is restored over its
registers. -/
theorem not_stationCommands : ¬ Obligations.StationCommands := by
  intro h
  obtain ⟨haccepted, -⟩ := h deqTwiceListed 0
  obtain ⟨-, -, -, -, -, -, -, hdeq, -⟩ := haccepted deqTwiceListed_accepts
  obtain ⟨-, -, hqueued⟩ := hdeq
  obtain ⟨hloaded, -⟩ := hqueued (by decide +kernel) (by decide +kernel) (by decide +kernel) rfl rfl
  obtain ⟨t, hexec, hcore, -⟩ := hloaded rfl rfl rfl rfl (by decide +kernel) (by decide +kernel) (by decide +kernel)
  have hregs := deqTwiceListed_restores
  rw [hexec] at hregs
  have hkept : (t.core 0).regs = [] := congrArg Core.regs hcore
  exact absurd (hkept.symm.trans hregs) (List.cons_ne_nil _ _).symm

end Sys2Proof.Machine
end

section
/-! PROOFS. Stations and banks: what a write of one station leaves of the others and of the banks, and what the release of a bank
leaves alone (R165, R177, R187 to R191). -/

namespace Sys2Proof.SMap

variable {α : Type}

/-- A second entry at a key takes the place of the first. -/
theorem ins_ins (m : List (Nat × α)) (i : Nat) (x y : α) : ins (ins m i x) i y = ins m i y := by
  induction m with
  | nil => simp [ins]
  | cons e t ih =>
    obtain ⟨k, v⟩ := e
    by_cases hk : i = k
    · simp [ins, hk]
    · by_cases hlt : i < k
      · simp [ins, hk, hlt]
      · simp [ins, hk, hlt, ih]

/-- A test that fails on an entry and on what it takes the place of does not see it. -/
theorem any_ins (d : α) (m : List (Nat × α)) (i : Nat) (x : α) (p : Nat × α → Bool) (hnew : p (i, x) = false)
    (hold : p (i, get d m i) = false) : (ins m i x).any p = m.any p := by
  induction m with
  | nil => simp [ins, hnew]
  | cons e t ih =>
    obtain ⟨k, v⟩ := e
    by_cases hk : i = k
    · subst hk
      have hv : p (i, v) = false := by simpa [get] using hold
      simp [ins, hnew, hv]
    · by_cases hlt : i < k
      · simp [ins, hk, hlt, hnew]
      · simp [ins, hk, hlt, ih (by simpa [get, hk] using hold)]

variable [DecidableEq α]

/-- Of two writes that list an entry at a key the second stands. -/
theorem set_set_of_ne (d : α) (m : List (Nat × α)) (i : Nat) (x y : α) (hx : x ≠ d) (hy : y ≠ d) :
    set d (set d m i x) i y = set d m i y := by
  rw [set, if_neg hy, set, if_neg hx, set, if_neg hy, ins_ins]

end Sys2Proof.SMap

namespace Sys2Proof.Machine.State

/-! The release of a bank. -/

theorem refreshCfg_only (s : State) (k : Nat) : s.refreshCfg k = { s with regs := (s.refreshCfg k).regs } := by
  unfold refreshCfg takeEffect
  rw [List.foldl_cons, List.foldl_nil]
  split <;> rfl

/-- A refresh that begins takes a committed PG_CFG, and its bank is under refresh. -/
theorem refresh_only (s : State) (b : Nat) : s.refresh b =
    { s with regs := (s.refresh b).regs, sluice := { s.sluice with refreshing := s.sluice.refreshing ++ [b] } } := by
  unfold refresh
  rw [refreshCfg_only]

theorem releaseBank_only (s : State) (b : Nat) : s.releaseBank b =
    { s with
      regs := (s.releaseBank b).regs
      sluice := { s.sluice with
        forced := (s.releaseBank b).sluice.forced, refreshing := (s.releaseBank b).sluice.refreshing } } := by
  unfold releaseBank
  split
  · rw [refresh_only]
  · rfl

theorem endUnit_only (s : State) (b : Nat) : s.endUnit b =
    { s with
      regs := (s.endUnit b).regs
      sluice := { s.sluice with
        forced := (s.endUnit b).sluice.forced, refreshing := (s.endUnit b).sluice.refreshing
        units := (s.endUnit b).sluice.units } } := by
  unfold endUnit
  split
  · rw [releaseBank_only]
  · rfl

/-! Stations that are listed. -/

/-- A station that runs, waits or is leased is not one that is not listed, whatever else is in it. -/
def Listed (k : Core) : Prop := k.st = .run ∨ k.st = .wait ∨ k.lessee ≠ none

theorem Listed.of_same {k l : Core} (h : Listed k) (hst : l.st = k.st) (hlessee : l.lessee = k.lessee) : Listed l := by
  rw [Listed, hst, hlessee]
  exact h

theorem core_setCore_listed {s : State} {c : Nat} {k : Core} (h : Listed k) : (s.setCore c k).core c = k :=
  core_setCore s c k (ne_idleCore s k h)

theorem setCore_setCore {s : State} {c : Nat} {k l : Core} (hk : Listed k) (hl : Listed l) :
    (s.setCore c k).setCore c l = s.setCore c l := by
  have h := SMap.set_set_of_ne s.idleCore s.sluice.cores c k l (ne_idleCore s k hk) (ne_idleCore s l hl)
  exact congrArg (fun m => ({ s with sluice := { s.sluice with cores := m } } : State)) h

/-- The banks are as free as before while a station without a granted burst is written without one. -/
theorem bankFree_setCore {s : State} {c : Nat} {k : Core} (b : Nat) (hk : Listed k)
    (hnew : ∀ x, k.burst = some x → x.granted = false) (hold : ∀ x, (s.core c).burst = some x → x.granted = false) :
    (s.setCore c k).bankFree b = s.bankFree b := by
  have hset : (s.setCore c k).sluice.cores = SMap.ins s.sluice.cores c k := if_neg (ne_idleCore s k hk)
  have hholds : ∀ l : Core, (∀ x, l.burst = some x → x.granted = false) →
      (match l.burst with | some x => x.granted && burstBank c x == b | none => false) = false := by
    intro l hl
    cases hb : l.burst with
    | none => rfl
    | some x => simp [hl x hb]
  unfold bankFree
  rw [hset, SMap.any_ins s.idleCore s.sluice.cores c k _ (hholds k hnew) (hholds _ hold)]
  rfl

end Sys2Proof.Machine.State
end

section
/-! PROOFS. Bursts of a customer station: BLD and BST at issue, BANK_GRANT, and the end of a burst (R185, R187, R190, R191, R194 to
R197). -/

namespace Sys2Proof.Machine.State

/-! Issue. -/

theorem issueBurst_granted {s : State} {c : Nat} {b : Burst} (hb : (s.core c).burst = some b)
    (hfree : s.bankFree (burstBank c b) = true) (hnext : s.nextReq (burstBank c b) = none) :
    s.issueBurst c false = s.setCore c { s.core c with st := .run, burst := some { b with granted := true } } := by
  simp only [issueBurst, hb]
  simp [hfree, hnext]

/-- The banks that other accesses are seen to hold as a burst is issued. -/
def noteHeld (s : State) (held : Bool) (bank : Nat) : State :=
  if held && s.bankFree bank then { s with sluice := { s.sluice with units := s.sluice.units ++ [bank] } } else s

theorem issueBurst_waits {s : State} {c : Nat} {held : Bool} {b : Burst} (hb : (s.core c).burst = some b)
    (h : s.bankFree (burstBank c b) = false ∨ s.nextReq (burstBank c b) ≠ none ∨ held = true) :
    s.issueBurst c held = ((s.noteHeld held (burstBank c b)).setCore c { s.core c with st := .wait }).askBank
      { bank := burstBank c b, core := c, vendor := false } := by
  have hno : ¬ (s.bankFree (burstBank c b) && (s.nextReq (burstBank c b)).isNone && !held) = true := by
    rcases h with h | h | h
    · simp [h]
    · simp [Option.isNone_iff_eq_none, h]
    · simp [h]
  simp only [issueBurst, hb]
  exact if_neg hno

theorem noteHeld_setCore {s : State} {c : Nat} {k : Core} (held : Bool) (bank : Nat)
    (h : (s.setCore c k).bankFree bank = s.bankFree bank) (l : Core) (hk : Listed k) (hl : Listed l) :
    ((s.setCore c k).noteHeld held bank).setCore c l = (s.noteHeld held bank).setCore c l := by
  unfold noteHeld
  rw [h]
  split
  · exact setCore_setCore (s := { s with sluice := { s.sluice with units := s.sluice.units ++ [bank] } }) hk hl
  · exact setCore_setCore hk hl

section
variable {s : State} {c key : Nat} {f : Effect} {b : Burst}
  (h : Stands s c key) (hf : f ((s.core c).word (s.core c).pc) (s.core c) = .ok { s.core c with burst := some b })
  (hgranted : b.granted = false)
include h hf

/-- An instruction that issues a burst: its station holds the burst, and takes its bank or waits for it. -/
theorem runEffect_issues (held : Bool) :
    s.runEffect c f held = (s.setCore c { s.core c with burst := some b }).issueBurst c held := by
  have hread := core_setCore_run s c { s.core c with burst := some b } (stands_run h)
  rw [runEffect_running hf (stands_run h), afterInstr, hread]
  rfl

include hgranted

omit hf in
theorem issue_keeps_bankFree (bank : Nat) :
    (s.setCore c { s.core c with burst := some b }).bankFree bank = s.bankFree bank := by
  refine bankFree_setCore bank (Or.inl (stands_run h)) (fun x hx => ?_) fun x hx => ?_
  · cases hx
    exact hgranted
  · rw [stands_burst h] at hx
    cases hx

theorem instrHeld_granted (hfree : s.bankFree (burstBank c b) = true) (hnext : s.nextReq (burstBank c b) = none) :
    s.instrHeld c key f false =
      (s.setCore c { s.core c with st := .run, burst := some { b with granted := true } }).tick := by
  have hread := core_setCore_run s c { s.core c with burst := some b } (stands_run h)
  have hkeeps := issue_keeps_bankFree h hgranted (burstBank c b)
  have hissued : Listed { s.core c with burst := some b } := Or.inl (stands_run h)
  have hgets : Listed { s.core c with st := .run, burst := some { b with granted := true } } := Or.inl rfl
  rw [instrHeld_stands s c key f false h, runEffect_issues h hf, issueBurst_granted (b := b) (by rw [hread])
    (hkeeps.trans hfree) hnext, hread]
  exact congrArg tick (setCore_setCore hissued hgets)

theorem instrHeld_waits (held : Bool)
    (hwaits : s.bankFree (burstBank c b) = false ∨ s.nextReq (burstBank c b) ≠ none ∨ held = true) :
    s.instrHeld c key f held = (((s.noteHeld held (burstBank c b)).setCore c
      { s.core c with st := .wait, burst := some b }).askBank { bank := burstBank c b, core := c, vendor := false }).tick := by
  have hread := core_setCore_run s c { s.core c with burst := some b } (stands_run h)
  have hkeeps := issue_keeps_bankFree h hgranted (burstBank c b)
  have hissued : Listed { s.core c with burst := some b } := Or.inl (stands_run h)
  have hasks : Listed { s.core c with st := .wait, burst := some b } := Or.inr (Or.inl rfl)
  rw [instrHeld_stands s c key f held h, runEffect_issues h hf, issueBurst_waits (b := b) (by rw [hread]) (by rw [hkeeps]; exact hwaits),
    hread]
  exact congrArg (fun q : State => (q.askBank { bank := burstBank c b, core := c, vendor := false }).tick)
    (noteHeld_setCore held _ hkeeps _ hissued hasks)

end

theorem instrHeld_faults {s : State} {c key : Nat} {f : Effect} {e : Nat} (held : Bool) (h : Stands s c key)
    (hf : f ((s.core c).word (s.core c).pc) (s.core c) = .error e) :
    s.instrHeld c key f held = (s.coreFault c e (s.core c).pc).tick := by
  rw [instrHeld_stands s c key f held h, runEffect_error s c f held e hf]

/-! The checks of a burst at issue (R187, R194). -/

/-- A burst goes past the window of its view, past a KiB, or past the scratch it may use. -/
def BurstOut (load : Bool) (k : Core) (v : SView) (off n scr : Nat) : Prop :=
  windowSize k v < off + 64 * n ∨ 1024 < off % 1024 + 64 * n ∨
    (if load then Core.mayWrite scr (64 * n) else Core.mayRead scr (64 * n)) = false

section
variable {load : Bool} {w n scr off : Nat} {k : Core} {v : SView} (hv : k.view (fieldOf w 23 22) = v)
  (hn : fieldOf w 21 18 + 1 = n) (hscr : (k.reg (fieldOf w 17 14)).toNat = scr) (hoff : (k.reg (fieldOf w 13 10)).toNat = off)
include hv

/-- A view that is not set, or whose grant is released, is a VIEW fault. -/
theorem effBurst_dead (hdead : v = .unset ∨ ∃ g, v = .grant g ∧ (k.grant g).valid = false) :
    effBurst load w k = .error fcView := by
  subst hv
  rcases hdead with hv | ⟨g, hv, hg⟩
  · simp [effBurst, hv]
  · simp [effBurst, hv, hg]

/-- A store through a grant is a RIGHTS fault. -/
theorem effBurst_store_grant {g : Nat} (hgrant : v = .grant g) (hg : (k.grant g).valid = true) :
    effBurst false w k = .error fcRights := by
  subst hv
  simp [effBurst, hgrant, hg]

include hn hscr hoff

/-- A view that may be used: the checks of the burst's place, then the burst. -/
theorem effBurst_usable (huse : v = .dataC ∨ ∃ g, v = .grant g ∧ (k.grant g).valid = true ∧ load = true) :
    (BurstOut load k v off n scr → effBurst load w k = .error fcRange) ∧
    (¬ BurstOut load k v off n scr → scr % 64 ≠ 0 ∨ off % 64 ≠ 0 → effBurst load w k = .error fcAlign) ∧
    (¬ BurstOut load k v off n scr → ¬ (scr % 64 ≠ 0 ∨ off % 64 ≠ 0) →
      effBurst load w k = .ok { k with burst := some { load := load, view := v, off := off, lines := n, scr := scr } }) := by
  subst hn hscr hoff
  have heff : effBurst load w k = if windowSize k v < (k.reg (fieldOf w 13 10)).toNat + 64 * (fieldOf w 21 18 + 1) ∨
        1024 < (k.reg (fieldOf w 13 10)).toNat % 1024 + 64 * (fieldOf w 21 18 + 1) ∨
        !(if load then Core.mayWrite (k.reg (fieldOf w 17 14)).toNat (64 * (fieldOf w 21 18 + 1))
          else Core.mayRead (k.reg (fieldOf w 17 14)).toNat (64 * (fieldOf w 21 18 + 1))) then .error fcRange
      else if (k.reg (fieldOf w 17 14)).toNat % 64 ≠ 0 ∨ (k.reg (fieldOf w 13 10)).toNat % 64 ≠ 0 then .error fcAlign
      else .ok { k with burst := some { load := load, view := v, off := (k.reg (fieldOf w 13 10)).toNat,
                                        lines := fieldOf w 21 18 + 1, scr := (k.reg (fieldOf w 17 14)).toNat } } := by
    rcases huse with rfl | ⟨g, rfl, hg, rfl⟩
    · simp only [effBurst, hv]
      rfl
    · simp only [effBurst, hv, hg]
      rfl
  rw [heff]
  refine ⟨fun hout => if_pos (by simpa [BurstOut] using hout), fun hin hmis => ?_, fun hin hal => ?_⟩
  · rw [if_neg (by simpa [BurstOut] using hin), if_pos hmis]
  · rw [if_neg (by simpa [BurstOut] using hin), if_neg hal]

end

/-- A burst that is allowed meets none of the checks. -/
theorem burstAllowed_usable {load : Bool} {k : Core} {v : SView} {off n scr : Nat} (h : BurstAllowed load k v off n scr) :
    (v = .dataC ∨ ∃ g, v = .grant g ∧ (k.grant g).valid = true ∧ load = true) ∧ ¬ BurstOut load k v off n scr ∧
      ¬ (scr % 64 ≠ 0 ∨ off % 64 ≠ 0) := by
  obtain ⟨huse, hwindow, hkib, hscr, hscrAl, hoffAl⟩ := h
  refine ⟨?_, ?_, by omega⟩
  · cases v with
    | dataC => exact Or.inl rfl
    | grant g => exact Or.inr ⟨g, rfl, huse.2, huse.1⟩
    | unset | extent | stub | sumslot | metadata | ledger | dataV => exact huse.elim
  · unfold BurstOut
    rw [hscr]
    simp only [Bool.true_eq_false, or_false, not_or, not_lt]
    exact ⟨hwindow, hkib⟩

end Sys2Proof.Machine.State

namespace Sys2Proof.Machine

open State

theorem burstOp_of_effBurst {i : Nat → Bool → Instr} {key : Nat} {load : Bool}
    (h : ∀ s c held, exec (i c held) s = .next (s.instrHeld c key (effBurst load) held)) : BurstOp i key load := by
  intro s c held hstands k w v n scr off b bank
  have hfault : ∀ e, effBurst load w k = .error e → exec (i c held) s = .next ((s.coreFault c e k.pc).tick) := fun e he => by
    rw [h, instrHeld_faults held hstands he]
  refine ⟨fun hallowed => ?_, fun hv => hfault _ (effBurst_dead rfl (Or.inl hv)),
    fun g hv hg => hfault _ (effBurst_dead rfl (Or.inr ⟨g, hv, hg⟩)), fun g hv hg hload => hfault _ ?_, fun huse => ?_⟩
  · obtain ⟨huse, hin, hal⟩ := burstAllowed_usable hallowed
    obtain ⟨-, -, hissue⟩ := effBurst_usable (load := load) (w := w) (k := k) (v := v) rfl rfl rfl rfl huse
    have hf := hissue hin hal
    refine ⟨fun hfree hnext hheld => ?_, fun hwaits => ?_⟩
    · rw [h, hheld, instrHeld_granted hstands hf rfl hfree hnext]
    · rw [h, instrHeld_waits hstands hf rfl held hwaits]
      rfl
  · rw [hload]
    exact effBurst_store_grant rfl hv hg
  · obtain ⟨hrange, halign, -⟩ := effBurst_usable (load := load) (w := w) (k := k) (v := v) rfl rfl rfl rfl huse
    refine ⟨fun hout => hfault _ (hrange hout), fun hwindow hkib hscr hmis => hfault _ (halign ?_ hmis)⟩
    rintro (hout | hout | hout)
    · exact absurd hout (not_lt.mpr hwindow)
    · exact absurd hout (not_lt.mpr hkib)
    · exact Bool.false_ne_true (hout.symm.trans hscr)

end Sys2Proof.Machine

namespace Sys2Proof.Machine.State

/-! BANK_GRANT (R185, R190). -/

section
variable {s : State} {c refresh pipe other bank : Nat}
  (hasks : s.sluice.waiting.find? (fun r => r.core == c) = some { bank := bank, core := c, vendor := false })
include hasks

theorem exec_bankGrant_later (hlater : s.nextReq bank ≠ some { bank := bank, core := c, vendor := false }) :
    exec (.bankGrant c refresh pipe other) s = .next s := by
  change execBankGrant c refresh pipe other s = _
  simp only [execBankGrant, hasks]
  rw [if_pos hlater]

variable (hfirst : s.nextReq bank = some { bank := bank, core := c, vendor := false })
include hfirst

theorem exec_bankGrant_busy (hbusy : (s.endUnit bank).bankFree bank = false) :
    exec (.bankGrant c refresh pipe other) s = .next (s.endUnit bank) := by
  change execBankGrant c refresh pipe other s = _
  simp only [execBankGrant, hasks]
  rw [if_neg (not_not.mpr hfirst), hbusy]
  rfl

theorem exec_bankGrant_first {b : Burst} (hfree : (s.endUnit bank).bankFree bank = true) (hb : (s.core c).burst = some b) :
    exec (.bankGrant c refresh pipe other) s = .next ((((((s.endUnit bank).unwait c false).setCore c
      { s.core c with st := .run, burst := some { b with granted := true } }).count .scWaitRefresh c refresh).count
        .scWaitPipe c pipe).count .scWaitOther c other) := by
  change execBankGrant c refresh pipe other s = _
  simp only [execBankGrant, hasks, hb]
  rw [if_neg (not_not.mpr hfirst), hfree]
  rfl

end

theorem core_of_cores {s t : State} (hcores : t.sluice.cores = s.sluice.cores) (hreset : t.sluice.reset = s.sluice.reset)
    (j : Nat) : t.core j = s.core j := by
  rw [core, core, idleCore, idleCore, hcores, hreset]

theorem endUnit_core (s : State) (b j : Nat) : (s.endUnit b).core j = s.core j := by
  refine core_of_cores ?_ ?_ j <;> rw [endUnit_only]

/-! What the core restores of its customer station (R183). -/

/-- Two stations that agree on everything but what the core saves of one: registers, views and scratch. -/
def SameButSaved (k l : Core) : Prop :=
  l = { k with regs := l.regs, vregs := l.vregs, views := l.views, scratch := l.scratch }

theorem SameButSaved.trans {k l m : Core} (hkl : SameButSaved k l) (hlm : SameButSaved l m) : SameButSaved k m := by
  rw [SameButSaved] at hkl hlm ⊢
  rw [hlm, hkl]

theorem SameButSaved.listed {k l : Core} (h : SameButSaved k l) (hk : Listed k) : Listed l := by
  rw [h]
  exact hk.of_same rfl rfl

theorem setScr_sameButSaved (k : Core) (a : Nat) (b : Bytes) : SameButSaved k (k.setScr a b) :=
  have hscratch : k.setScr a b = { k with scratch := (k.setScr a b).scratch } :=
    congrArg (fun q : Core => { q with scratch := (k.setScr a b).scratch }) (setScr_only k a b)
  by rw [SameButSaved, hscratch]

/-- The second state comes from the first where the core restores what it saved of its customer station: registers, views and
scratch of that station, the rest of it kept, and no other station and no byte of DRAM touched. -/
structure RestoresStation (s t : State) (c : Nat) : Prop where
  reset : t.sluice.reset = s.sluice.reset
  dram : t.store.dram = s.store.dram
  others : ∀ j, j ≠ c → t.core j = s.core j
  mine : Listed (s.core c) → SameButSaved (s.core c) (t.core c)

theorem RestoresStation.refl (s : State) (c : Nat) : RestoresStation s s c := ⟨rfl, rfl, fun _ _ => rfl, fun _ => rfl⟩

theorem RestoresStation.listed {s t : State} {c : Nat} (h : RestoresStation s t c) (hl : Listed (s.core c)) : Listed (t.core c) :=
  (h.mine hl).listed hl

theorem RestoresStation.trans {s t u : State} {c : Nat} (hst : RestoresStation s t c) (htu : RestoresStation t u c) :
    RestoresStation s u c where
  reset := htu.reset.trans hst.reset
  dram := htu.dram.trans hst.dram
  others j hj := (htu.others j hj).trans (hst.others j hj)
  mine hl := (hst.mine hl).trans (htu.mine (hst.listed hl))

/-- A step that leaves the stations and DRAM alone. -/
theorem restoresStation_of_cores {s t : State} (c : Nat) (hcores : t.sluice.cores = s.sluice.cores)
    (hreset : t.sluice.reset = s.sluice.reset) (hdram : t.store.dram = s.store.dram) : RestoresStation s t c where
  reset := hreset
  dram := hdram
  others j _ := core_of_cores hcores hreset j
  mine _ := by
    rw [core_of_cores hcores hreset c]
    rfl

/-- A step that writes registers, views or scratch of the station. -/
theorem updCore_restoresStation (s : State) (c : Nat) {g : Core → Core} (hg : SameButSaved (s.core c) (g (s.core c))) :
    RestoresStation s (s.updCore c g) c where
  reset := rfl
  dram := rfl
  others j hj := core_setCore_ne s c j _ hj
  mine hl := by
    have hread : (s.updCore c g).core c = g (s.core c) := core_setCore_listed (hg.listed hl)
    rwa [hread]

theorem senseUnder_sameButErrs (s : State) (key pc : Nat) (rs : List (Nat × Nat)) : SameButErrs s (s.senseUnder key pc rs).1 := by
  unfold senseUnder
  split
  · rfl
  · exact senseWords_sameButErrs s pc rs

theorem SameButErrs.sluice_eq {s t : State} (h : SameButErrs s t) : t.sluice = s.sluice := by
  rw [h]

theorem SameButErrs.core_eq {s t : State} (h : SameButErrs s t) (j : Nat) : t.core j = s.core j := by
  rw [h]
  rfl

theorem SameButErrs.store_eq {s t : State} (h : SameButErrs s t) : t.store = { s.store with errs := t.store.errs } :=
  congrArg State.store h

theorem SameButErrs.restoresStation {s t : State} (h : SameButErrs s t) (c : Nat) : RestoresStation s t c :=
  restoresStation_of_cores c (by rw [h.sluice_eq]) (by rw [h.sluice_eq]) (by rw [h.store_eq])

/-- A vendor station's fault leaves the customer stations and memory alone (R202). -/
theorem scFault_restoresStation (s : State) (c cause : Nat) : RestoresStation s (s.scFault c cause) c := by
  have hreports := rsFault_sameButReports (s.setBit .scFault (c / 16 / 64) (c / 16 % 64)) 0
  have hwant : ∀ q : State, RestoresStation q (if cause = fcUe then q else q.wantReset 2 (c / 16 / 64) (c / 16 % 64)) c := by
    intro q
    split
    · exact .refl q c
    · unfold wantReset
      split <;> exact restoresStation_of_cores c rfl rfl rfl
  refine RestoresStation.trans ?_ (hwant _)
  generalize hq : (s.setBit .scFault (c / 16 / 64) (c / 16 % 64)).rsFault 0 = q at hreports ⊢
  rw [SameButReports] at hreports
  refine RestoresStation.trans (t := q) ?_ (restoresStation_of_cores c rfl rfl rfl)
  rw [hreports]
  exact restoresStation_of_cores c rfl rfl rfl

theorem spillIn_restoresStation (s : State) (c i : Nat) : RestoresStation s (spillIn c i s) c := by
  unfold spillIn
  dsimp only
  generalize s.store.key (viewSlot 1024 1024 .dataV) = key
  have hread := (senseUnder_sameButErrs (s.count .scCntBurst c 1) key (c / 16)
    [(viewBase c (s.core c) .dataV + 1024 * i, 1024)]).restoresStation c
  have hcount : RestoresStation s (s.count .scCntBurst c 1) c := restoresStation_of_cores c rfl rfl rfl
  split
  · refine ((hcount.trans hread).trans ?_).trans (updCore_restoresStation _ c (setScr_sameButSaved _ _ _))
    refine RestoresStation.trans ?_ (scFault_restoresStation _ c fcUe)
    exact restoresStation_of_cores c rfl rfl rfl
  · exact (hcount.trans hread).trans (updCore_restoresStation _ c (setScr_sameButSaved _ _ _))

theorem foldl_restoresStation {α : Type} {f : State → α → State} (c : Nat) (hf : ∀ q x, RestoresStation q (f q x) c)
    (s : State) (xs : List α) : RestoresStation s (xs.foldl f s) c :=
  List.foldlRecOn (motive := fun q => RestoresStation s q c) _ _ (.refl s c) fun q hq x _ => hq.trans (hf q x)

theorem restoreSaved_restoresStation (s : State) (c : Nat) : RestoresStation s (s.restoreSaved c) c := by
  unfold restoreSaved
  split
  · exact .refl s c
  · next x _ =>
    dsimp only
    have hregs := updCore_restoresStation s c (g := fun k => { k with regs := x.regs, vregs := x.vregs, views := x.views }) rfl
    replace hregs := hregs.trans (u := (s.updCore c (fun k => { k with regs := x.regs, vregs := x.vregs, views := x.views })).dropSaved c)
      (restoresStation_of_cores c rfl rfl rfl)
    split
    · exact hregs.trans (foldl_restoresStation c (fun q i => spillIn_restoresStation q c i) _ _)
    · exact hregs

/-- What a fault that is no reset leaves of its station. -/
theorem core_coreFault {s : State} {c cause : Nat} (fpc : Nat) (h : cause ≠ fcReset) :
    (s.coreFault c cause fpc).core c = { (s.restoreSaved c).core c with
      st := .fault, prog := false, burst := none, fcause := cause, fpc := fpc % 1024 } := by
  refine core_setCore ((s.restoreSaved c).unwait c false) c _ fun heq => ?_
  unfold idleCore at heq
  split at heq
  · exact h (congrArg Core.fcause heq)
  · cases congrArg Core.st heq

theorem coreFault_dram (s : State) (c cause fpc : Nat) : (s.coreFault c cause fpc).store.dram = s.store.dram :=
  (restoreSaved_restoresStation s c).dram

end Sys2Proof.Machine.State
end

section
/-! PROOFS. The end of a burst (R187, R191, R195 to R197). -/

namespace Sys2Proof.Machine.Store

/-- What is wrong with words is not what a read under a key returns. -/
theorem readUnder_of_sameButErrs {st t : Store} (h : SameButErrs st t) (k pc a n : Nat) :
    t.readUnder k pc a n = st.readUnder k pc a n := by
  rw [SameButErrs] at h
  rw [h]
  rfl

end Sys2Proof.Machine.Store

namespace Sys2Proof.Machine.State

/-- A station that has not run past its last word goes on as it is (R193). -/
theorem pastEnd_within {s : State} {c : Nat} (h : (s.core c).st = .run → (s.core c).pc < 1024) : s.pastEnd c = s :=
  if_neg fun ⟨hrun, hpc⟩ => absurd (h hrun) (not_lt.mpr hpc)

theorem pastEnd_beyond {s : State} {c : Nat} (hrun : (s.core c).st = .run) (hpc : 1024 ≤ (s.core c).pc) :
    s.pastEnd c = s.coreFault c fcRange (s.core c).pc :=
  if_pos ⟨hrun, hpc⟩

/-- A read of one region is told of an uncorrectable word where it meets one (R163). -/
theorem senseWords_anyBad (s : State) (pc a n : Nat) :
    (s.senseWords pc [(a, n)]).2 = s.store.anyBad (gaddr pc a) n := by
  have hwrong : ∀ w, s.store.wordBad w = true → s.store.wordErr w ≠ .clean := fun w hbad hclean => by
    rw [Store.wordBad, hclean] at hbad
    cases hbad
  rw [Bool.eq_iff_iff]
  simp only [senseWords, readWords, Store.anyBad, List.flatMap_cons, List.flatMap_nil, List.append_nil, decide_eq_true_eq,
    List.countP_pos_iff, List.any_eq_true, List.mem_dedup, List.mem_filter]
  exact ⟨fun ⟨w, ⟨hmem, _⟩, hbad⟩ => ⟨w, hmem, hbad⟩, fun ⟨w, hmem, hbad⟩ => ⟨w, ⟨hmem, hwrong w hbad⟩, hbad⟩⟩

/-- A burst has ended at its station: it is gone, counted, and its bank released. -/
def burstTaken (s : State) (c : Nat) (b : Burst) : State :=
  ((s.setCore c { s.core c with burst := none }).count .scCntBurst c 1).releaseBank (burstBank c b)

theorem burstTaken_only (s : State) (c : Nat) (b : Burst) : s.burstTaken c b =
    { s with
      regs := (s.burstTaken c b).regs
      ctrs := (s.burstTaken c b).ctrs
      sluice := { s.sluice with
        cores := (s.setCore c { s.core c with burst := none }).sluice.cores
        forced := (s.burstTaken c b).sluice.forced, refreshing := (s.burstTaken c b).sluice.refreshing } } := by
  unfold burstTaken
  rw [releaseBank_only]
  rfl

theorem burstTaken_setCore (s : State) (c : Nat) (b : Burst) (j : Nat) :
    (s.burstTaken c b).core j = (s.setCore c { s.core c with burst := none }).core j := by
  refine core_of_cores ?_ ?_ j
  · rw [burstTaken_only]
  · rw [burstTaken_only]
    rfl

theorem burstTaken_store (s : State) (c : Nat) (b : Burst) : (s.burstTaken c b).store = s.store := by
  rw [burstTaken_only]

theorem burstTaken_vendor (s : State) (c : Nat) (b : Burst) (j : Nat) : (s.burstTaken c b).vendor j = s.vendor j := by
  rw [burstTaken_only]
  rfl

theorem core_burstTaken_ne (s : State) (c : Nat) (b : Burst) {j : Nat} (hj : j ≠ c) : (s.burstTaken c b).core j = s.core j :=
  (burstTaken_setCore s c b j).trans (core_setCore_ne s c j _ hj)

/-- The place of a view depends on the grants of its station alone. -/
theorem viewBase_of_grants {k l : Core} (h : l.grants = k.grants) (c : Nat) (v : SView) : viewBase c l v = viewBase c k v := by
  cases v <;> simp only [viewBase, Core.grant, h]

section
variable {s : State} {c : Nat} {b : Burst} (hlisted : Listed (s.core c))
include hlisted

theorem core_burstTaken : (s.burstTaken c b).core c = { s.core c with burst := none } :=
  (burstTaken_setCore s c b c).trans (core_setCore_listed (hlisted.of_same rfl rfl))

theorem burstTaken_burstAddr : (s.burstTaken c b).burstAddr c b = s.burstAddr c b := by
  have hcore := core_burstTaken (b := b) hlisted
  unfold burstAddr
  rw [viewBase_of_grants (l := (s.burstTaken c b).core c) (k := s.core c) (by rw [hcore])]

theorem burstTaken_burstSlot : (s.burstTaken c b).burstSlot c b = s.burstSlot c b := by
  have hcore := core_burstTaken (b := b) hlisted
  unfold burstSlot
  rw [burstTaken_burstAddr hlisted, burstTaken_store, hcore]

/-- The end of a burst that holds its bank, by what the burst is (R196, R197). -/
theorem burstEnd_granted (hb : (s.core c).burst = some b) (hg : b.granted = true) :
    let q := s.burstTaken c b
    let pc := (s.burstAddr c b).1
    let a := (s.burstAddr c b).2
    let key := s.store.key (s.burstSlot c b)
    let r := q.senseUnder key pc [(a, 64 * b.lines)]
    s.burstEnd c =
      if b.load then
        if r.2 then (r.1.coreFault c fcUe (s.core c).pc).burstUe c b
        else r.1.updCore c (fun k => (k.setScr b.scr (r.1.store.readUnder key pc a (64 * b.lines))).next)
      else if key = 0 then (q.count .mtCntNokey 0 1).updCore c Core.next
      else (q.updStore (fun st => st.writeUnder key pc a ((s.core c).scr b.scr (64 * b.lines)))).updCore c Core.next := by
  have haddr := burstTaken_burstAddr (b := b) hlisted
  have hslot := burstTaken_burstSlot (b := b) hlisted
  have hstore := burstTaken_store s c b
  simp only [burstEnd, hb, hg, Bool.not_true, Bool.false_eq_true, if_false]
  rw [← hslot, ← hstore, ← haddr]
  rfl

end

/-! What a read meets (R163, R412). -/

theorem senseUnder_good {s : State} {key pc a n : Nat} (hkey : key ≠ 0) (hgood : s.store.anyBad (gaddr pc a) n = false) :
    (s.senseUnder key pc [(a, n)]).2 = false := by
  rw [senseUnder, if_neg hkey, senseWords_anyBad, hgood]

theorem senseUnder_bad {s : State} {key pc a n : Nat} (h : key = 0 ∨ s.store.anyBad (gaddr pc a) n = true) :
    (s.senseUnder key pc [(a, n)]).2 = true := by
  rw [senseUnder]
  split
  · rfl
  · next hkey => rw [senseWords_anyBad, h.resolve_left hkey]

/-- The write of scratch and that of a burst do not meet. -/
theorem setScr_withBurst (k : Core) (x : Option Burst) (a : Nat) (bs : Bytes) :
    ({ k with burst := x } : Core).setScr a bs = { k.setScr a bs with burst := x } := by
  induction bs generalizing k a with
  | nil => rfl
  | cons y ys ih => exact ih { k with scratch := SMap.set 0 k.scratch a y } (a + 1)

theorem setScr_withBurst_next (k : Core) (a : Nat) (bs : Bytes) :
    (({ k with burst := none } : Core).setScr a bs).next = { k.setScr a bs with burst := none, pc := k.pc + 1 } := by
  rw [setScr_withBurst, Core.next, ← setScr_pc k a bs]

section
variable {s : State} {c : Nat} {b : Burst} (hb : (s.core c).burst = some b) (hg : b.granted = true) (hrun : (s.core c).st = .run)
include hb hg hrun

/-- A load of readable words: its bytes are in scratch, and what was wrong with single bytes of the words is put right. -/
theorem burstEnd_load (hload : b.load = true) (hkey : s.store.key (s.burstSlot c b) ≠ 0)
    (hgood : s.store.anyBad (gaddr (s.burstAddr c b).1 (s.burstAddr c b).2) (64 * b.lines) = false) :
    let a := s.burstAddr c b
    let t := s.burstEnd c
    t.store = { s.store with errs := t.store.errs } ∧ (∀ j, j ≠ c → t.core j = s.core j) ∧
      t.core c = { (s.core c).setScr b.scr (s.store.readUnder (s.store.key (s.burstSlot c b)) a.1 a.2 (64 * b.lines)) with
        burst := none, pc := (s.core c).pc + 1 } := by
  intro a t
  have hlisted : Listed (s.core c) := Or.inl hrun
  have hread := senseUnder_sameButErrs (s.burstTaken c b) (s.store.key (s.burstSlot c b)) a.1 [(a.2, 64 * b.lines)]
  have hclean := senseUnder_good (s := s.burstTaken c b) hkey (by rw [burstTaken_store]; exact hgood)
  have ht : t = _ := burstEnd_granted hlisted hb hg
  rw [if_pos hload, if_neg (Bool.eq_false_iff.mp hclean)] at ht
  rw [ht]
  generalize ((s.burstTaken c b).senseUnder (s.store.key (s.burstSlot c b)) a.1 [(a.2, 64 * b.lines)]).1 = r at hread
  have hstore : Store.SameButErrs s.store r.store := by
    rw [Store.SameButErrs, ← burstTaken_store s c b]
    exact hread.store_eq
  have hcore : r.core c = { s.core c with burst := none } := (hread.core_eq c).trans (core_burstTaken hlisted)
  refine ⟨hstore, fun j hj => ?_, ?_⟩
  · exact ((core_setCore_ne r c j _ hj).trans (hread.core_eq j)).trans (core_burstTaken_ne s c b hj)
  · have hwrite : ∀ g : Core → Core, Listed (g (r.core c)) → (r.updCore c g).core c = g (r.core c) :=
      fun g hg => core_setCore_listed hg
    rw [hwrite, hcore, Store.readUnder_of_sameButErrs hstore]
    · exact setScr_withBurst_next _ _ _
    · exact Or.inl (by rw [hcore, Core.next]; exact (setScr_st _ _ _).trans hrun)

/-- A store: its bytes are in memory, or nowhere under an empty key slot. -/
theorem burstEnd_store (hload : b.load = false) :
    let a := s.burstAddr c b
    let key := s.store.key (s.burstSlot c b)
    let t := s.burstEnd c
    (∀ j, j ≠ c → t.core j = s.core j) ∧ t.core c = { s.core c with burst := none, pc := (s.core c).pc + 1 } ∧
      t.store = if key = 0 then s.store else s.store.writeUnder key a.1 a.2 ((s.core c).scr b.scr (64 * b.lines)) := by
  intro a key t
  have hlisted : Listed (s.core c) := Or.inl hrun
  have ht : t = _ := burstEnd_granted hlisted hb hg
  rw [if_neg (Bool.eq_false_iff.mp hload)] at ht
  have hends : ∀ q : State, (∀ j, q.core j = (s.burstTaken c b).core j) →
      (∀ j, j ≠ c → (q.updCore c Core.next).core j = s.core j) ∧
      (q.updCore c Core.next).core c = { s.core c with burst := none, pc := (s.core c).pc + 1 } := by
    intro q hq
    have hcore : q.core c = { s.core c with burst := none } := (hq c).trans (core_burstTaken hlisted)
    refine ⟨fun j hj => ?_, ?_⟩
    · exact ((core_setCore_ne q c j _ hj).trans (hq j)).trans (core_burstTaken_ne s c b hj)
    · have hnext : Listed (q.core c).next := Or.inl (by rw [hcore]; exact hrun)
      have hread : (q.updCore c Core.next).core c = (q.core c).next := core_setCore_listed hnext
      rw [hread, hcore]
      rfl
  rw [ht]
  by_cases hkey : key = 0
  · rw [if_pos hkey, if_pos hkey]
    obtain ⟨hothers, hmine⟩ := hends ((s.burstTaken c b).count .mtCntNokey 0 1) fun _ => rfl
    exact ⟨hothers, hmine, burstTaken_store s c b⟩
  · rw [if_neg hkey, if_neg hkey]
    obtain ⟨hothers, hmine⟩ := hends ((s.burstTaken c b).updStore (fun st => st.writeUnder key a.1 a.2
      ((s.core c).scr b.scr (64 * b.lines)))) fun _ => rfl
    refine ⟨hothers, hmine, ?_⟩
    exact congrArg (fun st : Store => st.writeUnder key a.1 a.2 ((s.core c).scr b.scr (64 * b.lines))) (burstTaken_store s c b)

/-- A load that meets an uncorrectable word or an empty key slot faults and moves no data. -/
theorem burstEnd_ue (hload : b.load = true) (hbad : s.store.key (s.burstSlot c b) = 0 ∨
      s.store.anyBad (gaddr (s.burstAddr c b).1 (s.burstAddr c b).2) (64 * b.lines) = true) :
    s.burstEnd c = (((s.burstTaken c b).senseUnder (s.store.key (s.burstSlot c b)) (s.burstAddr c b).1
      [((s.burstAddr c b).2, 64 * b.lines)]).1.coreFault c fcUe (s.core c).pc).burstUe c b := by
  have hlisted : Listed (s.core c) := Or.inl hrun
  have htold := senseUnder_bad (s := s.burstTaken c b) (key := s.store.key (s.burstSlot c b)) (pc := (s.burstAddr c b).1)
    (a := (s.burstAddr c b).2) (n := 64 * b.lines) (by rw [burstTaken_store]; exact hbad)
  have ht := burstEnd_granted hlisted hb hg
  dsimp only at ht
  rw [ht, if_pos hload, if_pos htold]

end

end Sys2Proof.Machine.State

namespace Sys2Proof.Machine

open State

end Sys2Proof.Machine
end

section
/-! PROOFS. What BANK_GRANT and the end of a burst leave (SluiceBursts). -/

namespace Sys2Proof.Machine.State

section
variable {s : State} {c : Nat} {b : Burst} (hb : (s.core c).burst = some b) (hg : b.granted = true) (hrun : (s.core c).st = .run)
include hb hg hrun

/-- The end of a burst that faults: the station is in FAULT with cause UE, and DRAM is as it was. -/
theorem burstEnd_ue_dataC (hload : b.load = true) (hview : b.view = .dataC) (hbad : s.store.key (s.burstSlot c b) = 0 ∨
      s.store.anyBad (gaddr (s.burstAddr c b).1 (s.burstAddr c b).2) (64 * b.lines) = true) :
    let t := s.burstEnd c
    t = (((s.burstTaken c b).senseUnder (s.store.key (s.burstSlot c b)) (s.burstAddr c b).1
      [((s.burstAddr c b).2, 64 * b.lines)]).1.coreFault c fcUe (s.core c).pc).count .scCntUe c 1 ∧
    (t.core c).st = .fault ∧ (t.core c).fcause = 6 ∧ ((s.vendor c).saved = none → (t.core c).scratch = (s.core c).scratch) ∧
      t.store.dram = s.store.dram := by
  intro t
  have hlisted : Listed (s.core c) := Or.inl hrun
  have hread := senseUnder_sameButErrs (s.burstTaken c b) (s.store.key (s.burstSlot c b)) (s.burstAddr c b).1
    [((s.burstAddr c b).2, 64 * b.lines)]
  have ht : t = _ := burstEnd_ue hb hg hrun hload hbad
  generalize ((s.burstTaken c b).senseUnder (s.store.key (s.burstSlot c b)) (s.burstAddr c b).1
    [((s.burstAddr c b).2, 64 * b.lines)]).1 = r at hread ht ⊢
  rw [burstUe, hview] at ht
  have hcore : t.core c = _ := (congrArg (core · c) ht).trans (core_coreFault (s := r) (c := c) (cause := fcUe) (s.core c).pc (by decide))
  refine ⟨ht, by rw [hcore], by rw [hcore]; rfl, fun hsaved => ?_, ?_⟩
  · have hnone : (r.vendor c).saved = none := by
      rw [vendor, hread.sluice_eq, ← vendor, burstTaken_vendor]
      exact hsaved
    rw [hcore, restoreSaved_none hnone]
    have hmine : r.core c = { s.core c with burst := none } := (hread.core_eq c).trans (core_burstTaken hlisted)
    change (r.core c).scratch = _
    rw [hmine]
  · rw [ht]
    refine (coreFault_dram r c fcUe (s.core c).pc).trans ?_
    rw [hread.store_eq, burstTaken_store]

/-- Where the load went through a grant, its page is restored. -/
theorem burstEnd_ue_grant {g : Nat} (hload : b.load = true) (hview : b.view = .grant g) (hbad : s.store.key (s.burstSlot c b) = 0 ∨
      s.store.anyBad (gaddr (s.burstAddr c b).1 (s.burstAddr c b).2) (64 * b.lines) = true) :
    s.burstEnd c = ((((s.burstTaken c b).senseUnder (s.store.key (s.burstSlot c b)) (s.burstAddr c b).1
      [((s.burstAddr c b).2, 64 * b.lines)]).1.coreFault c fcUe (s.core c).pc).count .scCntUe c 1).startRestore
        ((s.core c).grant g).page := by
  have hlisted : Listed (s.core c) := Or.inl hrun
  have hread := senseUnder_sameButErrs (s.burstTaken c b) (s.store.key (s.burstSlot c b)) (s.burstAddr c b).1
    [((s.burstAddr c b).2, 64 * b.lines)]
  rw [burstEnd_ue hb hg hrun hload hbad]
  generalize ((s.burstTaken c b).senseUnder (s.store.key (s.burstSlot c b)) (s.burstAddr c b).1
    [((s.burstAddr c b).2, 64 * b.lines)]).1 = r at hread ⊢
  have hcore : r.core c = { s.core c with burst := none } := (hread.core_eq c).trans (core_burstTaken hlisted)
  have hsaved := (restoreSaved_restoresStation r c).mine (by rw [hcore]; exact hlisted.of_same rfl rfl)
  have hgrants : (((r.coreFault c fcUe (s.core c).pc).count .scCntUe c 1).core c).grants = (s.core c).grants := by
    refine (congrArg Core.grants (core_coreFault (s := r) (c := c) (cause := fcUe) (s.core c).pc (by decide))).trans ?_
    rw [hsaved, hcore]
  rw [burstUe, hview]
  dsimp only
  rw [Core.grant, hgrants, ← Core.grant]

omit hb hg hrun in
/-- A burst without a fault, at a station that goes on past its last word. -/
theorem pastEnd_lastWord {t : State} (hrunt : (t.core c).st = .run) (hpc : (t.core c).pc = (s.core c).pc + 1)
    (hlast : 1023 ≤ (s.core c).pc) : ((t.pastEnd c).core c).st = .fault ∧ ((t.pastEnd c).core c).fcause = 2 ∧
      ((t.pastEnd c).core c).fpc = ((s.core c).pc + 1) % 1024 := by
  rw [pastEnd_beyond hrunt (by omega), core_coreFault (t.core c).pc (by decide), hpc]
  exact ⟨rfl, rfl, rfl⟩

end

/-- A burst gets its bank: its station runs, and waits no longer. -/
def grantsBurst (s : State) (c refresh pipe other : Nat) (k : Core) : State :=
  ((((s.unwait c false).setCore c k).count .scWaitRefresh c refresh).count .scWaitPipe c pipe).count .scWaitOther c other

theorem grantsBurst_only (s : State) (c refresh pipe other : Nat) (k : Core) :
    s.grantsBurst c refresh pipe other k = { s with
      ctrs := (s.grantsBurst c refresh pipe other k).ctrs
      sluice := { s.sluice with
        cores := (s.setCore c k).sluice.cores
        waiting := s.sluice.waiting.filter (fun r => !(r.core == c && r.vendor == false)) } } := by
  unfold grantsBurst count setCore unwait
  rfl

theorem core_grantsBurst (s : State) (c refresh pipe other : Nat) (k : Core) (j : Nat) :
    (s.grantsBurst c refresh pipe other k).core j = (s.setCore c k).core j := rfl

/-- The burst that comes first at a bank that is free (R185, R190). -/
theorem bankGrant_gives {s : State} {c bank refresh pipe other : Nat} {b : Burst} (hb : (s.core c).burst = some b)
    (hasks : s.sluice.waiting.find? (fun r => r.core == c) = some { bank := bank, core := c, vendor := false })
    (hfirst : s.nextReq bank = some { bank := bank, core := c, vendor := false }) (hfree : (s.endUnit bank).bankFree bank = true) :
    ∃ t, exec (.bankGrant c refresh pipe other) s = .next t ∧ t.store = s.store ∧ t.slots = s.slots ∧ t.cam = s.cam ∧
      t.core c = { s.core c with st := .run, burst := some { b with granted := true } } ∧
      (∀ j, j ≠ c → t.core j = s.core j) ∧
      t.sluice.waiting = s.sluice.waiting.filter (fun r => !(r.core == c && r.vendor == false)) := by
  have hlisted : Listed { s.core c with st := .run, burst := some { b with granted := true } } := Or.inl rfl
  have hexec : exec (.bankGrant c refresh pipe other) s = .next ((s.endUnit bank).grantsBurst c refresh pipe other _) :=
    exec_bankGrant_first hasks hfirst hfree hb
  refine ⟨_, hexec, ?_, ?_, ?_, ?_, fun j hj => ?_, ?_⟩
  · rw [grantsBurst_only, endUnit_only]
  · rw [grantsBurst_only, endUnit_only]
  · rw [grantsBurst_only, endUnit_only]
  · rw [core_grantsBurst]
    exact core_setCore_listed hlisted
  · rw [core_grantsBurst, core_setCore_ne _ _ _ _ hj, endUnit_core]
  · rw [grantsBurst_only, endUnit_only]

end Sys2Proof.Machine.State

namespace Sys2Proof.Machine

open State

/-- Settles O13: a burst's checks at issue, its wait for the bank, and its end by the words it meets. -/
theorem sluiceBursts : Obligations.SluiceBursts := by
  refine ⟨burstOp_of_effBurst fun _ _ _ => rfl, burstOp_of_effBurst fun _ _ _ => rfl,
    fun s c refresh pipe other b hb _ => ?_, ?_⟩
  · intro bank q hasks
    exact ⟨bankGrant_gives hb hasks, exec_bankGrant_busy hasks, exec_bankGrant_later hasks⟩
  intro s c b k hb hg hrun a n key
  refine ⟨fun hload hpc hkey hgood => ?_, fun hload hpc => ?_, fun hlast hclean => ?_, fun hload hbad => ⟨fun hview => ?_,
    fun g hview => ?_⟩⟩
  · obtain ⟨hstore, hothers, hmine⟩ := burstEnd_load hb hg hrun hload hkey hgood
    refine ⟨s.burstEnd c, congrArg Host.Outcome.next (pastEnd_within fun _ => ?_), hstore, hothers, hmine⟩
    rw [hmine]
    exact Nat.succ_lt_succ hpc
  · obtain ⟨hothers, hmine, hstore⟩ := burstEnd_store hb hg hrun hload
    refine ⟨s.burstEnd c, congrArg Host.Outcome.next (pastEnd_within fun _ => ?_), hothers, hmine, hstore⟩
    rw [hmine]
    exact Nat.succ_lt_succ hpc
  · refine ⟨_, rfl, ?_⟩
    cases hload : b.load with
    | false =>
      obtain ⟨-, hmine, -⟩ := burstEnd_store hb hg hrun hload
      exact pastEnd_lastWord (by rw [hmine]; exact hrun) (by rw [hmine]) hlast
    | true =>
      obtain ⟨-, -, hmine⟩ := burstEnd_load hb hg hrun hload (hclean hload).1 (hclean hload).2
      exact pastEnd_lastWord (by rw [hmine]; exact (setScr_st _ _ _).trans hrun) (by rw [hmine]) hlast
  · obtain ⟨ht, hst, hcause, hscratch, hdram⟩ := burstEnd_ue_dataC hb hg hrun hload hview hbad
    refine ⟨s.burstEnd c, congrArg Host.Outcome.next (pastEnd_within fun hruns => ?_), ht, hst, hcause, hscratch, hdram⟩
    rw [hst] at hruns
    cases hruns
  · exact congrArg (fun t : State => Host.Outcome.next (t.pastEnd c)) (burstEnd_ue_grant hb hg hrun hload hview hbad)

end Sys2Proof.Machine
end

section
/-! PROOFS. Leases of cores (R203, R207, R388). -/

namespace Sys2Proof.SMap

variable {α : Type}

/-- A filter on keys keeps the entries at the keys that pass it, and no other. -/
theorem get_filter_key (d : α) (p : Nat → Bool) (m : List (Nat × α)) (i : Nat) :
    get d (m.filter (fun e => p e.1)) i = if p i then get d m i else d := by
  induction m with
  | nil => simp [get]
  | cons e t ih =>
    obtain ⟨k, v⟩ := e
    by_cases hk : i = k
    · subst hk
      cases hp : p i
      · simp [hp, ih]
      · simp [hp, get]
    · cases hp : p k
      · simp [hp, ih, get, hk]
      · simp [hp, ih, get, hk]

end Sys2Proof.SMap

namespace Sys2Proof.Machine.Store

/-- The bytes firmware zeroes read 0, every other byte as before. -/
theorem dramGet_zero (st : Store) (pc a n i : Nat) :
    dramGet (st.zero pc a n).dram i = if i < gaddr pc a ∨ gaddr pc a + n ≤ i then dramGet st.dram i else 0 := by
  refine (SMap.get_filter_key 0 (fun x => decide (x < gaddr pc a) || decide (gaddr pc a + n ≤ x)) st.dram i).trans ?_
  simp only [Bool.or_eq_true, decide_eq_true_eq]
  rfl

end Sys2Proof.Machine.Store

namespace Sys2Proof.Machine.State

/-! What the end of a lease leaves of the lease (R207). -/

/-- A context keeps its lease of a core. -/
def LeasedTo (s : State) (c x : Nat) : Prop := (s.core c).lessee = some x

theorem LeasedTo.listed {s : State} {c x : Nat} (h : s.LeasedTo c x) : Listed (s.core c) :=
  Or.inr (Or.inr (by rw [show (s.core c).lessee = some x from h]; exact Option.some_ne_none x))

/-- What each step of a fold keeps the fold keeps. -/
theorem foldl_keeps {α : Type} {p : State → Prop} {f : State → α → State} (hf : ∀ q a, p q → p (f q a)) {s : State} (h : p s)
    (xs : List α) : p (xs.foldl f s) :=
  List.foldlRecOn _ _ h fun q hq a _ => hf q a hq

theorem LeasedTo.setCore {c x : Nat} (s : State) {k : Core} (hk : k.lessee = some x) : (s.setCore c k).LeasedTo c x := by
  have hlisted : Listed k := Or.inr (Or.inr (by rw [hk]; exact Option.some_ne_none x))
  have hread : (s.setCore c k).core c = k := core_setCore_listed hlisted
  rw [LeasedTo, hread, hk]

theorem LeasedTo.of_cores {s t : State} {c x : Nat} (h : s.LeasedTo c x) (hcores : t.sluice.cores = s.sluice.cores)
    (hreset : t.sluice.reset = s.sluice.reset) : t.LeasedTo c x := by
  rw [LeasedTo, core_of_cores hcores hreset]
  exact h

theorem LeasedTo.restores {s t : State} {c x : Nat} (h : s.LeasedTo c x) (hrestores : RestoresStation s t c) : t.LeasedTo c x := by
  have hsame := hrestores.mine h.listed
  rw [LeasedTo, hsame]
  exact h

theorem LeasedTo.coreFault {s : State} {c x cause : Nat} (h : s.LeasedTo c x) (fpc : Nat) (hcause : cause ≠ fcReset) :
    (s.coreFault c cause fpc).LeasedTo c x := by
  have hkept : (s.restoreSaved c).LeasedTo c x := h.restores (restoreSaved_restoresStation s c)
  rw [LeasedTo, core_coreFault fpc hcause]
  exact hkept

/-- The start of a restoration is no matter of the cores. -/
theorem startRestore_sluice (s : State) (p : Nat) : (s.startRestore p).sluice = s.sluice := by
  by_cases h : (s.restore? p).isSome = true ∨ s.store.valid p = false
  · rw [startRestore, if_pos (by simpa using h)]
  · obtain ⟨hnone, hvalid⟩ := not_or.mp h
    obtain ⟨asked, -, hsluice, -⟩ := startRestore_sendsOnly s p (by simpa using hvalid) (by simpa using hnone)
    exact hsluice

theorem burstUe_sluice (s : State) (c : Nat) (b : Burst) : (s.burstUe c b).sluice = s.sluice := by
  unfold burstUe
  dsimp only
  split
  · exact startRestore_sluice _ _
  · rfl

theorem LeasedTo.burstEnd {s : State} {c x : Nat} (h : s.LeasedTo c x) : (s.burstEnd c).LeasedTo c x := by
  cases hb : (s.core c).burst with
  | none =>
    rw [State.burstEnd, hb]
    exact h
  | some b =>
    cases hg : b.granted with
    | false =>
      simp only [State.burstEnd, hb, hg]
      exact h
    | true =>
      have htaken : (s.burstTaken c b).LeasedTo c x := by
        rw [LeasedTo, core_burstTaken h.listed]
        exact h
      have hends := burstEnd_granted h.listed hb hg
      dsimp only at hends
      have hread := senseUnder_sameButErrs (s.burstTaken c b) (s.store.key (s.burstSlot c b)) (s.burstAddr c b).1
        [((s.burstAddr c b).2, 64 * b.lines)]
      rw [hends]
      generalize (s.burstTaken c b).senseUnder (s.store.key (s.burstSlot c b)) (s.burstAddr c b).1
        [((s.burstAddr c b).2, 64 * b.lines)] = r at hread ⊢
      have hsensed : r.1.LeasedTo c x := htaken.restores (hread.restoresStation c)
      split
      · split
        · have hsluice := burstUe_sluice (r.1.coreFault c fcUe (s.core c).pc) c b
          exact (hsensed.coreFault (cause := fcUe) _ (by decide)).of_cores (by rw [hsluice]) (by rw [hsluice])
        · refine LeasedTo.setCore r.1 ?_
          exact (congrArg Core.lessee (setScr_only (r.1.core c) _ _)).trans hsensed
      · split
        · exact LeasedTo.setCore _ htaken
        · exact LeasedTo.setCore _ htaken

/-- Two states that agree on everything but what the vendor stations have before them. -/
def SameButVendors (s t : State) : Prop :=
  t = { s with sluice := { s.sluice with vendors := t.sluice.vendors, vjobs := t.sluice.vjobs } }

theorem SameButVendors.trans {s t u : State} (hst : SameButVendors s t) (htu : SameButVendors t u) : SameButVendors s u := by
  rw [SameButVendors] at hst htu ⊢
  rw [htu, hst]

theorem setVendor_sameButVendors (s : State) (c : Nat) (v : Vendor) : SameButVendors s (s.setVendor c v) := rfl

theorem askCore_sameButVendors (s : State) (c : Nat) (j : VJob) : SameButVendors s (s.askCore c j) := by
  unfold askCore
  dsimp only
  split
  · exact setVendor_sameButVendors s c _
  · rfl

theorem refill_sameButVendors (c n : Nat) (s : State) : SameButVendors s (refill c n s) := by
  induction n generalizing s with
  | zero => rfl
  | succ n ih =>
    rw [refill]
    split
    · rfl
    · next i _ =>
      dsimp only
      split
      · refine SameButVendors.trans ?_ (ih _)
        exact SameButVendors.trans (by rfl) (askCore_sameButVendors
          { s with sluice := { s.sluice with vjobs := s.sluice.vjobs.take i ++ s.sluice.vjobs.drop (i + 1) } } c _)
      · rfl

theorem keepVjobs_sameButVendors (s : State) (c : Nat) (keep : VJob → Bool) : SameButVendors s (s.keepVjobs c keep) := by
  unfold keepVjobs
  dsimp only
  split
  · rfl
  · exact SameButVendors.trans (by rfl) (refill_sameButVendors c 4 _)

theorem SameButVendors.core_eq {s t : State} (h : SameButVendors s t) (j : Nat) : t.core j = s.core j := by
  rw [h]
  rfl

theorem LeasedTo.keepVjobs {s : State} {c x : Nat} (h : s.LeasedTo c x) (j : Nat) (keep : VJob → Bool) :
    (s.keepVjobs j keep).LeasedTo c x := by
  rw [LeasedTo, (keepVjobs_sameButVendors s j keep).core_eq]
  exact h

theorem LeasedTo.stopStation {s : State} {c x : Nat} (h : s.LeasedTo c x) : (s.stopStation c).LeasedTo c x := by
  have hkept : ((s.burstEnd c).restoreSaved c).LeasedTo c x := h.burstEnd.restores (restoreSaved_restoresStation _ c)
  unfold State.stopStation
  dsimp only
  split
  · refine LeasedTo.keepVjobs (LeasedTo.setCore _ ?_) c _
    exact hkept
  · exact hkept

theorem LeasedTo.releaseGrants {s : State} {c x : Nat} (h : s.LeasedTo c x) (base n : Nat) : (s.releaseGrants c base n).LeasedTo c x := by
  unfold State.releaseGrants
  refine foldl_keeps (p := (LeasedTo · c x)) (fun q i hq => ?_) h _
  dsimp only
  split
  · exact LeasedTo.setCore q hq
  · exact hq

/-- What clearing leaves of a leased station. -/
theorem core_clearStation {s : State} {c x : Nat} (h : s.LeasedTo c x) : ∃ k : Core, k.lessee = some x ∧
    (s.clearStation c).core c = { k with code := [], scratch := [], regs := [], vregs := [], views := [], grants := [], pc := 0 } := by
  have hkept := (h.releaseGrants 0 64).keepVjobs c (fun j => decide (j.prog ≠ .deq))
  unfold clearStation
  generalize (s.releaseGrants c 0 64).keepVjobs c _ = q at hkept
  have hdropped : (q.dropSaved c).LeasedTo c x := hkept
  exact ⟨_, hdropped, core_setCore_listed (hdropped.listed.of_same rfl rfl)⟩

/-- Two states that agree on everything but registers and host ports. -/
def SameButHost (s t : State) : Prop := t = { s with regs := t.regs, host := t.host }

theorem SameButHost.refl (s : State) : SameButHost s s := rfl

theorem SameButHost.trans {s t u : State} (hst : SameButHost s t) (htu : SameButHost t u) : SameButHost s u := by
  rw [SameButHost] at hst htu ⊢
  rw [htu, hst]

theorem tdiFail_sameButHost (s : State) (v : Nat) : SameButHost s (s.tdiFail v) := rfl

theorem revoke_sameButHost (s : State) (e : Nat) : SameButHost s (s.revoke e) := by
  unfold revoke
  split
  · unfold settleRange
    dsimp only
    split <;> rfl
  · rfl

/-- The revocation of host ranges is no matter of the cores (R387). -/
theorem revokeWhere_sameButHost (s : State) (p : RangeCfg → Bool) (fail : Bool) : SameButHost s (s.revokeWhere p fail) := by
  unfold revokeWhere
  refine foldl_keeps (p := SameButHost s) (fun q e hq => hq.trans ?_) (.refl s) _
  dsimp only
  split
  · refine SameButHost.trans ?_ (revoke_sameButHost _ e)
    split
    · exact tdiFail_sameButHost q _
    · rfl
  · rfl

theorem SameButHost.core_eq {s t : State} (h : SameButHost s t) (j : Nat) : t.core j = s.core j := by
  rw [h]
  rfl

theorem idleCore_zeroing (s : State) : s.idleCore.zeroing = none := by
  unfold idleCore
  split <;> rfl

/-- What the end of a lease leaves of the core: its station cleared and READY, its DATA_C to be zeroed. -/
theorem core_endLease {s : State} {c x : Nat} (h : s.LeasedTo c x) : ∃ k : Core, (s.endLease c).core c =
    { k with code := [], scratch := [], regs := [], vregs := [], views := [], grants := [], lessee := none, zeroing := some x
             st := .ready, fcause := 0, fpc := 0, result := 0, halted := false } := by
  obtain ⟨k, -, hclear⟩ := core_clearStation h.stopStation
  have hhost : ∀ hit : Bool, SameButHost ((s.stopStation c).clearStation c)
      ((if hit then ((s.stopStation c).clearStation c).tdiFail (vfOfCtx x) else (s.stopStation c).clearStation c).revokeWhere
        (fun r => r.core == c) true) := by
    intro hit
    refine SameButHost.trans ?_ (revokeWhere_sameButHost _ _ _)
    split
    · exact tdiFail_sameButHost _ _
    · exact .refl _
  rw [endLease, show (s.core c).lessee = some x from h]
  dsimp only
  generalize hhit : (((s.stopStation c).clearStation c).liveRanges.any fun e =>
    (((s.stopStation c).clearStation c).rangeCfg e).core == c && (((s.stopStation c).clearStation c).range e).state == .active) = hit
  have hcore := (hhost hit).core_eq c
  generalize State.revokeWhere _ _ _ = t at hcore ⊢
  refine ⟨{ k with pc := 0 }, ?_⟩
  refine (core_setCore t c _ fun heq => ?_).trans ?_
  · exact Option.some_ne_none x ((congrArg Core.zeroing heq).trans (idleCore_zeroing t))
  · rw [hcore, hclear]

section
variable {s : State} {ctx : Nat} {tee : Bool} (hserved : ∀ f, s.vfAccess (vfOfCtx ctx) tee f = f s)
include hserved

theorem exec_acquire_served : exec (.acquire ctx tee) s = .next (if s.mayAcquire ctx (s.selectedCore ctx) then
    (s.updStore (fun st => st.setUnder (Store.unitOf (s.selectedCore ctx / 16) (dataCAddr (s.selectedCore ctx % 16))) (st.key ctx))).updCore
      (s.selectedCore ctx) (fun k => { k with lessee := some ctx })
    else s.count .scCntLeaseref (s.selectedCore ctx) 1) := by
  change execAcquire ctx tee s = _
  rw [execAcquire, hserved]

/-- A context may acquire a core that is free (R203). -/
theorem acquire_leases (hmay : s.mayAcquire ctx (s.selectedCore ctx) = true) : ∃ t, exec (.acquire ctx tee) s = .next t ∧
      t = { s with sluice := { s.sluice with cores := t.sluice.cores }, store := { s.store with under := t.store.under } } ∧
      t.core (s.selectedCore ctx) = { s.core (s.selectedCore ctx) with lessee := some ctx } ∧
      ∀ j, j ≠ s.selectedCore ctx → t.core j = s.core j := by
  have hlisted : Listed { s.core (s.selectedCore ctx) with lessee := some ctx } := Or.inr (Or.inr (Option.some_ne_none ctx))
  rw [exec_acquire_served hserved, if_pos hmay]
  exact ⟨_, rfl, rfl, core_setCore_listed hlisted, fun j hj => core_setCore_ne _ _ j _ hj⟩

theorem exec_leaseRelease_ends (hlease : (s.core (s.selectedCore ctx)).lessee = some ctx) (hlocked : s.tdiLocked (vfOfCtx ctx) = false) :
    exec (.leaseRelease ctx tee) s = .next (s.endLease (s.selectedCore ctx)) := by
  change execLeaseRelease ctx tee s = _
  rw [execLeaseRelease, hserved]
  dsimp only
  rw [if_pos ⟨hlease, by rw [hlocked]; rfl⟩]

end

/-- An ended lease whose area no host range targets: its DATA_C is zeroed (R388). -/
theorem exec_leaseZeroed_free {s : State} {c : Nat} (hzeroing : (s.core c).zeroing.isSome = true) (hmapped : s.coreMapped c = false) :
    exec (.leaseZeroed c) s = .next ((s.updStore (fun st => (st.zero (c / 16) (dataCAddr (c % 16)) dataCBytes).setUnder
      (Store.unitOf (c / 16) (dataCAddr (c % 16))) 0)).updCore c (fun k => { k with zeroing := none })) := by
  change execLeaseZeroed c s = _
  rw [execLeaseZeroed, if_pos ⟨hzeroing, by rw [hmapped]; rfl⟩]

end Sys2Proof.Machine.State

namespace Sys2Proof.Machine

open State

/-- Settles O15: the end of a lease keeps the lease up to its last write, by each part of it. -/
theorem leasesOfCores : Obligations.LeasesOfCores := by
  refine ⟨fun s ctx tee hv hup hserves => ?_, fun s ctx tee hv hup hserves i hi => ?_, fun s c hwf hzeroing hmapped => ?_⟩
  · have hserved := fun f => vfAccess_served s (vfOfCtx ctx) tee f hv hup hserves
    refine ⟨acquire_leases hserved, fun hmay => ?_, fun hlease hlocked => ?_⟩
    · rw [exec_acquire_served hserved, if_neg (Bool.eq_false_iff.mp hmay)]
    · obtain ⟨k, hcore⟩ := core_endLease hlease
      refine ⟨_, exec_leaseRelease_ends hserved hlease hlocked, ?_⟩
      rw [hcore]
      exact ⟨rfl, rfl, rfl, rfl, rfl, rfl, rfl, rfl, rfl, rfl⟩
  · rcases List.mem_pair.mp hi with rfl | rfl
    · change execAcquire ctx tee s = _
      rw [execAcquire, vfAccess_unserved s (vfOfCtx ctx) tee _ hv hup hserves]
    · change execLeaseRelease ctx tee s = _
      rw [execLeaseRelease, vfAccess_unserved s (vfOfCtx ctx) tee _ hv hup hserves]
  · refine ⟨_, exec_leaseZeroed_free hzeroing hmapped, ?_, fun j hj => ?_, fun a hlow hhigh => ?_, fun a hout => ?_⟩
    · exact congrArg Core.zeroing (core_setCore_of_wf _ c _ hwf)
    · exact core_setCore_ne _ c j _ hj
    · refine (Store.dramGet_zero s.store _ _ _ a).trans (if_neg ?_)
      exact not_or.mpr ⟨not_lt.mpr hlow, not_le.mpr hhigh⟩
    · exact (Store.dramGet_zero s.store _ _ _ a).trans (if_pos hout)

end Sys2Proof.Machine
end

section
/-! PROOFS. Compute resets (R453 to R460): what events to other nodes leave alone, and each step of a reset. -/

namespace Sys2Proof.Machine.State

/-! What events leave alone beside memory, stations and reliability (`SendsOnly`): the machine of ATTEND, the rows of the conversation
lookup, the connections, and the cause of the last compute reset. -/

/-- The second state comes from the first by events: carriers leave, slots whose response has left are freed, contexts drain. -/
def EventOnly (s t : State) : Prop :=
  t.attn = s.attn ∧ t.cam.rows = s.cam.rows ∧ t.conns = s.conns ∧ t.reg .rsCrCause 0 = s.reg .rsCrCause 0

theorem EventOnly.refl (s : State) : EventOnly s s := ⟨rfl, rfl, rfl, rfl⟩

theorem EventOnly.trans {s t u : State} (hst : EventOnly s t) (htu : EventOnly t u) : EventOnly s u := by
  obtain ⟨hattn, hrows, hconns, hcause⟩ := hst
  obtain ⟨hattn', hrows', hconns', hcause'⟩ := htu
  exact ⟨hattn'.trans hattn, hrows'.trans hrows, hconns'.trans hconns, hcause'.trans hcause⟩

theorem EventOnly.foldl {α : Type} {f : State → α → State} (hf : ∀ q x, EventOnly q (f q x)) (s : State) (xs : List α) :
    EventOnly s (xs.foldl f s) :=
  List.foldlRecOn _ _ (EventOnly.refl s) fun q hq x _ => hq.trans (hf q x)

/-- Reports and messages that leave the registers alone. -/
theorem SameButReports.eventOnly {s t : State} (h : SameButReports s t) (hregs : t.regs = s.regs) : EventOnly s t := by
  rw [SameButReports] at h
  have hreg : t.reg .rsCrCause 0 = s.reg .rsCrCause 0 := by rw [State.reg, State.reg, hregs]
  refine ⟨?_, ?_, ?_, hreg⟩ <;> rw [h]

theorem SameButMsix.eventOnly {s t : State} (h : SameButMsix s t) : EventOnly s t := by
  rw [SameButMsix] at h
  rw [h]
  exact ⟨rfl, rfl, rfl, rfl⟩

theorem count_eventOnly (s : State) (c : Ctr) (i n : Nat) : EventOnly s (s.count c i n) := .refl s
theorem setOrigin_eventOnly (s : State) (x : Origin) : EventOnly s (s.setOrigin x) := .refl s
theorem updFurrow_eventOnly (s : State) (f : Nat) (g : Furrow → Furrow) : EventOnly s (s.updFurrow f g) := .refl s
theorem formItem_eventOnly (s : State) (it : TxItem) : EventOnly s (s.formItem it).1 := .refl s

/-- Instances of two registers of different names have different keys. -/
theorem key_ne_of_ctorIdx {r q : Reg} (h : q.ctorIdx % 256 ≠ r.ctorIdx % 256) (i j : Nat) : q.key j ≠ r.key i := by
  intro hkey
  unfold Reg.key at hkey
  omega

theorem setBit_hgVfIrqCause_eventOnly (s : State) (i b : Nat) : EventOnly s (s.setBit .hgVfIrqCause i b) :=
  ⟨rfl, rfl, rfl, reg_setReg_ne s _ _ _ _ _ (key_ne_of_ctorIdx (by decide) _ _)⟩

theorem raiseIrq_eventOnly (s : State) (c cause : Nat) : EventOnly s (s.raiseIrq c cause) := by
  unfold raiseIrq
  dsimp only
  split
  · exact .refl s
  · split
    · exact (setBit_hgVfIrqCause_eventOnly s _ _).trans (requestMsix_sameButMsix _ _ _).eventOnly
    · exact setBit_hgVfIrqCause_eventOnly s _ _

theorem checkDrained_eventOnly (s : State) (c : Nat) : EventOnly s (s.checkDrained c) := by
  unfold checkDrained
  dsimp only
  split
  · exact EventOnly.trans (.refl s) (raiseIrq_eventOnly _ _ _)
  · exact .refl s

theorem advance_eventOnly (n o : Nat) (s : State) : EventOnly s (advance n o s) := by
  induction n generalizing s with
  | zero => exact .refl s
  | succ n ih =>
    rw [advance]
    split
    · exact .refl s
    · split
      · exact (setOrigin_eventOnly s _).trans (ih _)
      · split
        · split
          · exact EventOnly.trans (.refl s) (ih _)
          · exact .refl s
        · exact .refl s

theorem resolve_eventOnly (s : State) (o q status : Nat) : EventOnly s (s.resolve o q status) := by
  unfold resolve
  split
  · exact .refl s
  · exact (setOrigin_eventOnly s _).trans (advance_eventOnly _ _ _)

theorem freeSlot_eventOnly (s : State) (n : Nat) : EventOnly s (s.freeSlot n) := by
  unfold freeSlot
  refine EventOnly.trans ?_ (checkDrained_eventOnly _ _)
  dsimp only
  split
  · exact .refl s
  · exact EventOnly.trans (.refl s) (resolve_eventOnly _ _ _ _)

theorem carrierLeft_eventOnly (s : State) (n : Nat) : EventOnly s (s.carrierLeft n) := by
  unfold carrierLeft
  split
  · exact freeSlot_eventOnly s n
  · exact .refl s

theorem pumpLink_eventOnly (n l : Nat) (s : State) : EventOnly s (pumpLink n l s) := by
  induction n generalizing s with
  | zero => exact .refl s
  | succ n ih =>
    rw [pumpLink]
    split
    · refine EventOnly.trans ?_ (ih _)
      refine EventOnly.trans ?_ (EventOnly.foldl (fun q it => ?_) _ _)
      · exact .refl s
      · split
        · exact carrierLeft_eventOnly q _
        · exact .refl q
    · exact .refl s

theorem pumpFurrow_eventOnly (n f : Nat) (s : State) : EventOnly s (pumpFurrow n f s) := by
  induction n generalizing s with
  | zero => exact .refl s
  | succ n ih =>
    rw [pumpFurrow]
    split
    · exact .refl s
    · split
      · exact .refl s
      · split
        · exact .refl s
        · refine EventOnly.trans (EventOnly.trans ?_ (pumpLink_eventOnly 512 _ _)) (ih _)
          split <;> exact .refl s

theorem sendItem_eventOnly (s : State) (it : TxItem) : EventOnly s (s.sendItem it) :=
  (updFurrow_eventOnly s _ _).trans (pumpFurrow_eventOnly _ _ _)

theorem sendEvent_eventOnly (s : State) (f code arg : Nat) : EventOnly s (s.sendEvent f code arg) := by
  unfold sendEvent
  exact (((updFurrow_eventOnly s f _).trans (formItem_eventOnly _ _)).trans (sendItem_eventOnly _ _)).trans
    (count_eventOnly _ .fuCntEvtTx f 1)

theorem broadcast_eventOnly (s : State) (code arg : Nat) : EventOnly s (s.broadcast code arg) := by
  refine EventOnly.foldl (fun q f => ?_) s _
  dsimp only
  split
  · exact .refl q
  · exact sendEvent_eventOnly q f code arg

theorem sendReport_regs (s : State) (e : MEvent) : (s.sendReport e).regs = s.regs := by
  unfold sendReport
  exact List.foldlRecOn (motive := fun q : State => q.regs = s.regs) _ _ rfl fun q hq a _ => hq

theorem report_regs (s : State) (r : Report) : (s.report r).regs = s.regs := by
  have hpldm : ∀ q : State, (q.sendPldm r).regs = q.regs := by
    intro q
    unfold sendPldm
    split
    · split <;> rfl
    · rfl
  unfold report
  dsimp only
  split
  · exact hpldm _
  · split
    · exact hpldm _
    · exact (sendReport_regs _ _).trans (hpldm _)

theorem report_eventOnly (s : State) (r : Report) : EventOnly s (s.report r) :=
  (report_sameButReports s r).eventOnly (report_regs s r)

theorem requestPf_regs (s : State) (i : Nat) : (s.requestPf i).regs = s.regs := by
  unfold requestPf forUpTo
  refine List.foldlRecOn (motive := fun q : State => q.regs = s.regs) _ _ rfl fun q hq p _ => ?_
  dsimp only
  split
  · exact hq
  · split <;> exact hq

theorem requestPf_eventOnly (s : State) (i : Nat) : EventOnly s (s.requestPf i) :=
  (requestPf_sameButReports s i).eventOnly (requestPf_regs s i)

/-! A compute reset is asked for and begins (R454, R458, R460). -/

theorem exec_creset_asks {s : State} (hcr : s.rel.cr = .none) (hwanted : s.rel.wanted = []) :
    exec .creset s = .next { s with rel := { s.rel with wanted := [{ cause := 5, stack := 0, pc := 0 }] } } := by
  refine congrArg Host.Outcome.next (if_pos ⟨hcr, ?_⟩)
  rw [hwanted]
  rfl

theorem exec_creset_twice {s : State} (h : s.rel.cr ≠ .none ∨ s.rel.wanted ≠ []) : exec .creset s = .next s := by
  refine congrArg Host.Outcome.next (if_neg ?_)
  rintro ⟨hcr, hwanted⟩
  exact h.elim (absurd hcr) (absurd (List.isEmpty_iff.mp hwanted))

/-- A reset that begins has told the other nodes and the management. -/
def resetTold (s : State) (w : CrWant) : State :=
  ((((s.setReg .rsCrCause 0 (wordOf (w.cause + place 4 w.stack + place 9 w.pc))).count .rsCntCreset 0 1).pred 6 0 0 1).broadcast
    evResetBegin 0).report (.computeReset w.cause)

theorem resetTold_sendsOnly (s : State) (w : CrWant) : (s.resetTold w).store = s.store ∧ (s.resetTold w).sluice = s.sluice := by
  obtain ⟨hstore, hsluice, -, -⟩ := (broadcast_sendsOnly (((s.setReg .rsCrCause 0 (wordOf (w.cause + place 4 w.stack + place 9 w.pc))).count
    .rsCntCreset 0 1).pred 6 0 0 1) evResetBegin 0).trans (report_sameButReports _ (.computeReset w.cause)).sendsOnly
  exact ⟨hstore, hsluice⟩

theorem resetTold_eventOnly (s : State) (w : CrWant) :
    EventOnly (s.setReg .rsCrCause 0 (wordOf (w.cause + place 4 w.stack + place 9 w.pc))) (s.resetTold w) :=
  EventOnly.trans (t := ((s.setReg .rsCrCause 0 (wordOf (w.cause + place 4 w.stack + place 9 w.pc))).count .rsCntCreset 0 1).pred 6 0 0 1)
    (.refl _) ((broadcast_eventOnly _ _ _).trans (report_eventOnly _ _))

/-- Its record, and whether it escalates (R460). -/
def resetRecorded (s : State) : State :=
  let hist := s.rel.resets ++ [s.power.seconds]
  let s := { s with firm := { s.firm with steady := false } }
  let s := { s with rel := { s.rel with cr := .draining, wanted := [], resets := hist.drop (hist.length - 15) } }
  { s with rel := { s.rel with escalate := decide (s.rfld .rsCfg 0 3 0 ≤ s.winCount) } }

theorem resetRecorded_only (s : State) : s.resetRecorded = { s with
    firm := s.resetRecorded.firm
    rel := { s.rel with
      cr := .draining, wanted := [], resets := s.resetRecorded.rel.resets, escalate := s.resetRecorded.rel.escalate } } := by
  unfold resetRecorded
  rfl

theorem beginReset_eq (s : State) (w : CrWant) : s.beginReset w = (s.resetTold w).resetRecorded := by
  simp only [beginReset, resetTold]
  generalize State.report _ _ = q
  rfl

theorem beginReset_leaves (s : State) (w : CrWant) (hrises : SMap.risesFrom 0 s.regs.eff = true) :
    let t := s.beginReset w
    t.rel.cr = .draining ∧ t.rel.wanted = [] ∧ t.reg .rsCrCause 0 = wordOf (w.cause + place 4 w.stack + place 9 w.pc) ∧
      t.store = s.store ∧ t.sluice = s.sluice ∧ t.attn = s.attn ∧ t.cam.rows = s.cam.rows := by
  obtain ⟨hattn, hrows, -, hcause⟩ := resetTold_eventOnly s w
  obtain ⟨hstore, hsluice⟩ := resetTold_sendsOnly s w
  rw [reg_setReg s _ _ _ hrises] at hcause
  rw [beginReset_eq]
  generalize s.resetTold w = q at *
  rw [resetRecorded_only]
  exact ⟨rfl, rfl, hcause, hstore, hsluice, hattn, hrows⟩

theorem exec_computeReset_begins {s : State} {w : CrWant} {rest : List CrWant} (hcr : s.rel.cr = .none)
    (hwanted : s.rel.wanted = w :: rest) (hsvc : s.rel.svc = .start ∨ s.rel.svc = .service) (hst : s.firm.st ≠ .reverting) :
    exec .computeReset s = .next (s.beginReset w) := by
  change execComputeReset s = _
  have hin : ¬ (s.rel.svc = .withdrawing ∨ s.rel.svc = .out) := by
    rcases hsvc with h | h <;> rw [h] <;> decide
  simp only [execComputeReset, hcr, hwanted]
  rw [if_neg hin, if_neg fun h => hst h.1]

end Sys2Proof.Machine.State
end

section
/-! PROOFS. The limit of a compute reset's second step (R454). -/

namespace Sys2Proof.SMap

variable {α : Type}

/-- In canonical form the keys lie above the bound. -/
theorem le_of_mem {m : List (Nat × α)} {lo : Nat} (h : risesFrom lo m = true) {e : Nat × α} (he : e ∈ m) : lo ≤ e.1 := by
  induction m generalizing lo with
  | nil => cases he
  | cons x t ih =>
    simp only [risesFrom, Bool.and_eq_true, decide_eq_true_eq] at h
    obtain ⟨hlo, hrises⟩ := h
    rcases List.mem_cons.mp he with rfl | hmem
    · exact hlo
    · exact le_trans hlo (Nat.le_of_succ_le (ih hrises hmem))

/-- In canonical form a listed entry is what its key reads. -/
theorem get_of_mem (d : α) {m : List (Nat × α)} {lo : Nat} (h : risesFrom lo m = true) {e : Nat × α} (he : e ∈ m) :
    get d m e.1 = e.2 := by
  induction m generalizing lo with
  | nil => cases he
  | cons x t ih =>
    simp only [risesFrom, Bool.and_eq_true, decide_eq_true_eq] at h
    obtain ⟨-, hrises⟩ := h
    rcases List.mem_cons.mp he with rfl | hmem
    · exact if_pos rfl
    · have habove := le_of_mem hrises hmem
      exact (if_neg (by omega)).trans (ih hrises hmem)

/-- A key that is not listed reads the default. -/
theorem get_of_not_mem (d : α) {m : List (Nat × α)} {i : Nat} (h : i ∉ m.map (·.1)) : get d m i = d := by
  induction m with
  | nil => rfl
  | cons e t ih =>
    rw [List.map_cons, List.mem_cons, not_or] at h
    obtain ⟨hne, hrest⟩ := h
    exact (if_neg hne).trans (ih hrest)

end Sys2Proof.SMap

namespace Sys2Proof.Machine.State

/-- A station without the burst that held a bank. -/
def cutStation (k : Core) : Core :=
  match k.burst with
  | some b => if b.granted then { k with burst := none } else k
  | none => k

/-- The burst of a core is cut off. -/
def cutBurst (s : State) (c : Nat) : State :=
  match (s.core c).burst with
  | some b => if b.granted then (s.updCore c (fun k => { k with burst := none })).releaseBank (burstBank c b) else s
  | none => s

theorem cutBursts_eq (s : State) : s.cutBursts = s.sluice.cores.foldl (fun q e => q.cutBurst e.1) s := rfl

theorem cutStation_only (k : Core) : cutStation k = { k with burst := (cutStation k).burst } := by
  unfold cutStation
  split
  · split <;> rfl
  · rfl

theorem cutStation_granted (k : Core) {b : Burst} (h : (cutStation k).burst = some b) : b.granted = false := by
  unfold cutStation at h
  split at h
  · next x hx =>
    split at h
    · cases h
    · next hg =>
      rw [hx] at h
      cases h
      exact Bool.eq_false_iff.mpr hg
  · next hx =>
    rw [hx] at h
    cases h

theorem cutStation_idem (k : Core) : cutStation (cutStation k) = cutStation k := by
  generalize hl : cutStation k = l
  unfold cutStation
  split
  · next b hb => exact if_neg (by rw [cutStation_granted k (b := b) (by rw [hl]; exact hb)]; exact Bool.false_ne_true)
  · rfl

theorem cutStation_idle (s : State) : cutStation s.idleCore = s.idleCore := by
  have hnone : s.idleCore.burst = none := by
    unfold idleCore
    split <;> rfl
  unfold cutStation
  rw [hnone]

/-- What cutting bursts off changes: registers where a refresh begins, and among the stations only bursts. -/
structure CutsBursts (s t : State) : Prop where
  only : t = { s with sluice := t.sluice, regs := t.regs }
  reset : t.sluice.reset = s.sluice.reset
  wf : SMap.wf t.idleCore t.sluice.cores = true
  calm : s.sluice.forced = [] → t.sluice.forced = [] ∧ t.regs = s.regs

theorem CutsBursts.trans {s t u : State} (hst : CutsBursts s t) (htu : CutsBursts t u) : CutsBursts s u where
  only := by
    rw [htu.only, hst.only]
  reset := htu.reset.trans hst.reset
  wf := htu.wf
  calm h := by
    obtain ⟨hforced, hregs⟩ := hst.calm h
    obtain ⟨hforced', hregs'⟩ := htu.calm hforced
    exact ⟨hforced', hregs'.trans hregs⟩

theorem releaseBank_calm {s : State} (b : Nat) (h : s.sluice.forced = []) : s.releaseBank b = s := by
  unfold releaseBank
  rw [h]
  rfl

theorem cutBurst_cuts {s : State} (hwf : SMap.wf s.idleCore s.sluice.cores = true) (c : Nat) :
    CutsBursts s (s.cutBurst c) ∧ ∀ j, (s.cutBurst c).core j = if j = c then cutStation (s.core j) else s.core j := by
  have hnone : cutStation (s.core c) = s.core c → CutsBursts s s ∧ ∀ j, s.core j = if j = c then cutStation (s.core j) else s.core j := by
    intro hsame
    refine ⟨⟨rfl, rfl, hwf, fun h => ⟨h, rfl⟩⟩, fun j => ?_⟩
    split
    · next hj => rw [hj, hsame]
    · rfl
  unfold cutBurst
  split
  · next b hb =>
    split
    · next hg =>
      have hcut : cutStation (s.core c) = { s.core c with burst := none } := by
        simp only [cutStation, hb]
        exact if_pos hg
      have hlisted : SMap.wf s.idleCore (s.updCore c (fun k => { k with burst := none })).sluice.cores = true := SMap.wf_set _ _ _ _ hwf
      refine ⟨⟨?_, ?_, ?_, fun h => ?_⟩, fun j => ?_⟩
      · rw [releaseBank_only]
        rfl
      · rw [releaseBank_only]
        rfl
      · rw [releaseBank_only]
        exact hlisted
      · have hcalm : (s.updCore c (fun k => { k with burst := none })).sluice.forced = [] := h
        rw [releaseBank_calm _ hcalm]
        exact ⟨h, rfl⟩
      · refine (core_of_cores (s := s.updCore c (fun k => { k with burst := none })) ?_ ?_ j).trans ?_
        · rw [releaseBank_only]
        · rw [releaseBank_only]
        · refine (SMap.get_set _ _ _ _ _ hwf).trans ?_
          split
          · next hj => rw [hj, hcut]
          · rfl
    · next hg =>
      refine hnone ?_
      simp only [cutStation, hb]
      exact if_neg hg
  · next hb =>
    refine hnone ?_
    simp only [cutStation, hb]

/-- Cutting off at some cores cuts those and no other. -/
theorem foldl_cutBurst (xs : List (Nat × Core)) {s : State} (hwf : SMap.wf s.idleCore s.sluice.cores = true) :
    let t := xs.foldl (fun q e => q.cutBurst e.1) s
    CutsBursts s t ∧ ∀ j, t.core j = if j ∈ xs.map (·.1) then cutStation (s.core j) else s.core j := by
  induction xs generalizing s with
  | nil => exact ⟨⟨rfl, rfl, hwf, fun h => ⟨h, rfl⟩⟩, fun j => rfl⟩
  | cons e xs ih =>
    obtain ⟨hone, hcore⟩ := cutBurst_cuts hwf e.1
    obtain ⟨hrest, hcores⟩ := ih hone.wf
    refine ⟨hone.trans hrest, fun j => (hcores j).trans ?_⟩
    rw [hcore j, List.map_cons]
    by_cases hj : j = e.1
    · rw [if_pos hj, if_pos (List.mem_cons.mpr (Or.inl hj)), cutStation_idem, ite_self]
    · rw [if_neg hj]
      simp only [List.mem_cons, hj, false_or]

theorem cutBursts_cuts {s : State} (hwf : SMap.wf s.idleCore s.sluice.cores = true) :
    CutsBursts s s.cutBursts ∧ ∀ j, s.cutBursts.core j = cutStation (s.core j) := by
  rw [cutBursts_eq]
  obtain ⟨hcuts, hcores⟩ := foldl_cutBurst s.sluice.cores hwf
  refine ⟨hcuts, fun j => (hcores j).trans ?_⟩
  split
  · rfl
  · next hj =>
    have hidle : s.core j = s.idleCore := SMap.get_of_not_mem _ hj
    rw [hidle, cutStation_idle]

/-- Stations that hold no granted burst: no burst is in progress. -/
theorem burstsRun_of_cut {s t : State} (hwf : SMap.wf t.idleCore t.sluice.cores = true) (h : ∀ j, t.core j = cutStation (s.core j)) :
    t.burstsRun = false := by
  refine List.any_eq_false.mpr fun e he => ?_
  have hread : t.core e.1 = e.2 := SMap.get_of_mem _ (SMap.rises_of_wf hwf) he
  rw [← hread, h]
  split
  · next b hb => rw [cutStation_granted _ hb]; exact Bool.false_ne_true
  · exact Bool.false_ne_true

theorem exec_resetCutoff {s : State} (hwf : SMap.wf s.idleCore s.sluice.cores = true) (hcr : s.rel.cr = .draining) :
    ∃ t, exec .resetCutoff s = .next t ∧ t.burstsRun = false ∧ t = { s with sluice := t.sluice, regs := t.regs } ∧
      (s.sluice.forced = [] → t.regs = s.regs) ∧ ∀ c, (t.core c).st = (s.core c).st ∧
        (t.core c).regs = (s.core c).regs ∧ (t.core c).scratch = (s.core c).scratch := by
  obtain ⟨hcuts, hcores⟩ := cutBursts_cuts hwf
  refine ⟨s.cutBursts, congrArg Host.Outcome.next (if_pos hcr), burstsRun_of_cut hcuts.wf hcores, hcuts.only,
    fun h => (hcuts.calm h).2, fun c => ?_⟩
  rw [hcores c, cutStation_only]
  exact ⟨rfl, rfl, rfl⟩

end Sys2Proof.Machine.State
end

section
/-! PROOFS. Steps 3 to 5 of a compute reset: pipes, stations and reckoners (R124, R181, R208, R454). -/

namespace Sys2Proof.Machine.Store

@[simp] theorem dropKept_dram (st : Store) (p : Nat) : (st.dropKept p).dram = st.dram := by
  unfold dropKept
  split
  · rfl
  · split
    · rfl
    · dsimp only
      split
      · rfl
      · exact freeFrameAt_dram _ _ _ _

@[simp] theorem unpin_dram (st : Store) (p : Nat) : (st.unpin p).dram = st.dram := dropKept_dram _ p

end Sys2Proof.Machine.Store

namespace Sys2Proof.SMap

variable {α : Type} [DecidableEq α]

theorem ne_default_of_mem {d : α} {m : List (Nat × α)} (h : wf d m = true) {e : Nat × α} (he : e ∈ m) : e.2 ≠ d := by
  simp only [wf, Bool.and_eq_true, List.all_eq_true, decide_eq_true_eq] at h
  obtain ⟨-, hlisted⟩ := h
  exact hlisted e he

/-- A table written anew, under another default. -/
theorem get_foldl_set (d d' : α) {m : List (Nat × α)} {lo : Nat} (h : risesFrom lo m = true) {acc : List (Nat × α)}
    (hacc : wf d acc = true) (i : Nat) : get d (m.foldl (fun t e => set d t e.1 e.2) acc) i =
      if i ∈ m.map (·.1) then get d' m i else get d acc i := by
  induction m generalizing lo acc with
  | nil => rfl
  | cons e t ih =>
    obtain ⟨k, v⟩ := e
    simp only [risesFrom, Bool.and_eq_true, decide_eq_true_eq] at h
    obtain ⟨-, hrises⟩ := h
    rw [List.foldl_cons, ih hrises (wf_set d acc k v hacc), get_set d acc k i v hacc, List.map_cons, get]
    by_cases hi : i = k
    · have hlater : i ∉ t.map (·.1) := by
        intro hmem
        obtain ⟨e, he, hkey⟩ := List.mem_map.mp hmem
        have habove := le_of_mem hrises he
        omega
      rw [if_neg hlater, if_pos hi, if_pos hi, if_pos (List.mem_cons.mpr (Or.inl hi))]
    · simp only [List.mem_cons, hi, false_or, if_false]

end Sys2Proof.SMap

namespace Sys2Proof.Machine.State

/-! An ATTEND leaves the machine (R95, R122). -/

/-- What the reset of slots leaves alone: DRAM, the conversation lookup's rows, and the customer stations. -/
structure KeepsStations (s t : State) : Prop where
  dram : t.store.dram = s.store.dram
  rows : t.cam.rows = s.cam.rows
  cores : t.sluice.cores = s.sluice.cores
  reset : t.sluice.reset = s.sluice.reset

theorem KeepsStations.refl (s : State) : KeepsStations s s := ⟨rfl, rfl, rfl, rfl⟩

theorem KeepsStations.trans {s t u : State} (hst : KeepsStations s t) (htu : KeepsStations t u) : KeepsStations s u :=
  ⟨htu.dram.trans hst.dram, htu.rows.trans hst.rows, htu.cores.trans hst.cores, htu.reset.trans hst.reset⟩

/-- What an ATTEND that leaves the machine leaves alone: the slots and the reliability state beside. -/
structure DropsAttend (s t : State) : Prop where
  stations : KeepsStations s t
  slots : t.slots = s.slots
  rel : t.rel = s.rel

theorem DropsAttend.refl (s : State) : DropsAttend s s := ⟨.refl s, rfl, rfl⟩

theorem DropsAttend.trans {s t u : State} (hst : DropsAttend s t) (htu : DropsAttend t u) : DropsAttend s u :=
  ⟨hst.stations.trans htu.stations, htu.slots.trans hst.slots, htu.rel.trans hst.rel⟩

theorem DropsAttend.foldl {α : Type} {f : State → α → State} (hf : ∀ q x, DropsAttend q (f q x)) (s : State) (xs : List α) :
    DropsAttend s (xs.foldl f s) :=
  foldl_keeps (p := DropsAttend s) (fun q x hq => hq.trans (hf q x)) (.refl s) xs

theorem count_dropsAttend (s : State) (c : Ctr) (i n : Nat) : DropsAttend s (s.count c i n) :=
  ⟨⟨rfl, rfl, rfl, rfl⟩, rfl, rfl⟩

theorem updChan_dropsAttend (s : State) (ch : Nat) (g : Chan → Chan) : DropsAttend s (s.updStore (fun st => st.updChan ch g)) :=
  ⟨⟨rfl, rfl, rfl, rfl⟩, rfl, rfl⟩

theorem endRa_dropsAttend (s : State) (n p : Nat) : DropsAttend s (s.endRa n p) := by
  unfold endRa
  split
  · dsimp only
    split
    · exact updChan_dropsAttend s _ _
    · exact .refl s
  · exact .refl s

theorem dropRa_dropsAttend (s : State) (n : Nat) (a : Att) (p : Nat) : DropsAttend s (s.dropRa n a p) := by
  unfold dropRa
  split
  · exact (endRa_dropsAttend s n p).trans (count_dropsAttend _ _ _ _)
  · split
    · exact (endRa_dropsAttend s n p).trans (count_dropsAttend _ _ _ _)
    · split
      · exact (updChan_dropsAttend s _ _).trans (count_dropsAttend _ _ _ _)
      · exact count_dropsAttend s _ _ _

theorem settleUnselected_dropsAttend (s : State) (n : Nat) (a : Att) : DropsAttend s (s.settleUnselected n a) := by
  unfold settleUnselected
  split
  · exact DropsAttend.foldl (fun q p => dropRa_dropsAttend q n a p) s _
  · exact .refl s

theorem freeCopy_dropsAttend (s : State) (pc f : Nat) (wide : Bool) :
    DropsAttend s (s.updStore (fun st => st.freeFrameAt pc f wide)) := by
  refine ⟨⟨?_, rfl, rfl, rfl⟩, rfl, rfl⟩
  exact Store.freeFrameAt_dram s.store pc f wide

theorem dropCopies_dropsAttend (s : State) (fs : List (Nat × Nat × Bool)) : DropsAttend s (s.dropCopies fs) := by
  unfold dropCopies
  exact DropsAttend.foldl (fun q x => freeCopy_dropsAttend q _ _ _) s fs

theorem SameButVendors.dropsAttend {s t : State} (h : SameButVendors s t) : DropsAttend s t := by
  rw [SameButVendors] at h
  rw [h]
  exact ⟨⟨rfl, rfl, rfl, rfl⟩, rfl, rfl⟩

theorem dropVjobs_sameButVendors (s : State) (drop : VJob → Bool) : SameButVendors s (s.dropVjobs drop) := by
  unfold dropVjobs
  exact foldl_keeps (p := SameButVendors s) (fun q e hq => hq.trans (keepVjobs_sameButVendors q _ _)) (by rfl) _

theorem dropAttend_dropsAttend (s : State) (n : Nat) (a : Att) : DropsAttend s (s.dropAttend n a) := by
  unfold dropAttend
  refine DropsAttend.trans ?_ (DropsAttend.foldl (fun q c => ?_) _ _)
  · exact ((settleUnselected_dropsAttend s n a).trans (dropCopies_dropsAttend _ _)).trans
      (dropVjobs_sameButVendors _ _).dropsAttend
  · exact ⟨⟨rfl, rfl, rfl, rfl⟩, rfl, rfl⟩

/-! The slots (R298, R457). -/

theorem slot_of_slots {s t : State} (h : t.slots = s.slots) (n : Nat) : t.slot n = s.slot n := by
  rw [State.slot, State.slot, h]

theorem settleStall_keepsStations (s : State) (n : Nat) : KeepsStations s (s.settleStall n) := ⟨rfl, rfl, rfl, rfl⟩

theorem settleStall_slot_ne (s : State) {n m : Nat} (h : m ≠ n) : (s.settleStall n).slot m = s.slot m :=
  slot_setSlot_ne _ n m _ h

theorem slot_ne_default {x : Slot} (h : x.state ≠ .free) : x ≠ {} := by
  intro heq
  rw [heq] at h
  exact h rfl

theorem slot_updSlot (s : State) (n : Nat) (g : Slot → Slot) (h : (g (s.slot n)).state ≠ .free) :
    (s.updSlot n g).slot n = g (s.slot n) :=
  slot_setSlot s n _ (slot_ne_default h)

theorem settleStall_slot (s : State) {n : Nat} (h : (s.slot n).state ≠ .free) :
    (s.settleStall n).slot n = { s.slot n with units := (0, 0, 0) } := by
  have hcounted : ∀ q : State, q.slots = s.slots →
      (q.updSlot n (fun y => { y with units := (0, 0, 0) })).slot n = { s.slot n with units := (0, 0, 0) } := by
    intro q hq
    have hread := slot_of_slots hq n
    rw [slot_updSlot _ _ _ (by rw [hread]; exact h), hread]
  unfold settleStall
  exact hcounted _ rfl

/-- A slot starts again from stage 4 (R298). -/
def startAgain (s : State) (n : Nat) : State :=
  (s.settleStall n).updSlot n (fun y => { y with prog := .queued, reissued := true, taken := false, stalled := false })

theorem startAgain_slot_ne (s : State) {n m : Nat} (h : m ≠ n) : (s.startAgain n).slot m = s.slot m :=
  (slot_setSlot_ne _ n m _ h).trans (settleStall_slot_ne s h)

theorem startAgain_slot (s : State) {n : Nat} (h : (s.slot n).state ≠ .free) : (s.startAgain n).slot n =
    { s.slot n with prog := .queued, reissued := true, taken := false, stalled := false, units := (0, 0, 0) } := by
  have hsettled := settleStall_slot s h
  unfold startAgain
  rw [slot_updSlot _ _ _ (by rw [hsettled]; exact h), hsettled]

/-- How a reset leaves a slot, by what it performs. -/
theorem resetSlot_cases (s : State) (n : Nat) :
    s.resetSlot n = if (s.slot n).state = .active then
      (match (s.slot n).prog with
        | .attend a => (s.dropAttend n a).startAgain n
        | .promote _ => s.startAgain n
        | _ => s.updSlot n (fun y => { y with reissued := true }))
      else s := rfl

theorem resetSlot_keepsStations (s : State) (n : Nat) : KeepsStations s (s.resetSlot n) := by
  have hagain : ∀ q : State, KeepsStations q (q.startAgain n) := fun q => (settleStall_keepsStations q n).trans ⟨rfl, rfl, rfl, rfl⟩
  rw [resetSlot_cases]
  split
  · split
    · exact (dropAttend_dropsAttend s n _).stations.trans (hagain _)
    · exact hagain s
    · exact ⟨rfl, rfl, rfl, rfl⟩
  · exact .refl s

theorem resetSlot_slot_ne (s : State) {n m : Nat} (h : m ≠ n) : (s.resetSlot n).slot m = s.slot m := by
  rw [resetSlot_cases]
  split
  · split
    · exact (startAgain_slot_ne _ h).trans (slot_of_slots (dropAttend_dropsAttend s n _).slots m)
    · exact startAgain_slot_ne s h
    · exact slot_setSlot_ne s n m _ h
  · rfl

/-- A slot that holds a request again, to be replayed. -/
def QueuedAgain (h : Hdr) (x : Slot) : Prop := x.state = .active ∧ x.prog = .queued ∧ x.reissued = true ∧ x.hdr = h

theorem resetSlot_attend {s : State} {n : Nat} {a : Att} (hactive : (s.slot n).state = .active) (hprog : (s.slot n).prog = .attend a) :
    QueuedAgain (s.slot n).hdr ((s.resetSlot n).slot n) := by
  have hkept := slot_of_slots (dropAttend_dropsAttend s n a).slots n
  have hreset : s.resetSlot n = (s.dropAttend n a).startAgain n := by
    rw [resetSlot_cases, if_pos hactive, hprog]
  rw [hreset, startAgain_slot _ (by rw [hkept, hactive]; exact nofun), hkept]
  exact ⟨hactive, rfl, rfl, rfl⟩

theorem resetSlot_queued {s : State} {n : Nat} {h : Hdr} (hagain : QueuedAgain h (s.slot n)) :
    QueuedAgain h ((s.resetSlot n).slot n) := by
  obtain ⟨hactive, hprog, hreissued, hhdr⟩ := hagain
  have hreset : s.resetSlot n = s.updSlot n (fun y => { y with reissued := true }) := by
    rw [resetSlot_cases, if_pos hactive, hprog]
  have hread : (s.resetSlot n).slot n = { s.slot n with reissued := true } := by
    rw [hreset]
    exact slot_updSlot s n _ (by rw [hactive]; exact nofun)
  rw [hread]
  exact ⟨hactive, hprog, rfl, hhdr⟩

/-- The reset of the slots puts every ATTEND back to stage 4. -/
theorem foldl_resetSlot_attend {s : State} {n : Nat} {a : Att} (hactive : (s.slot n).state = .active)
    (hprog : (s.slot n).prog = .attend a) (xs : List (Nat × Slot)) :
    let x := (xs.foldl (fun q e => q.resetSlot e.1) s).slot n
    if n ∈ xs.map (·.1) then QueuedAgain (s.slot n).hdr x else x = s.slot n := by
  induction xs using List.reverseRecOn with
  | nil => exact rfl
  | append_singleton xs e ih =>
    dsimp only at ih ⊢
    rw [List.foldl_append, List.foldl_cons, List.foldl_nil, List.map_append]
    generalize xs.foldl (fun (q : State) e => q.resetSlot e.1) s = q at ih
    obtain ⟨k, v⟩ := e
    by_cases hn : n = k
    · subst hn
      refine (if_pos (List.mem_append_right _ (List.mem_singleton_self n))).mpr ?_
      split at ih
      · exact resetSlot_queued ih
      · rw [← ih] at hactive hprog ⊢
        exact resetSlot_attend hactive hprog
    · rw [resetSlot_slot_ne q hn]
      have hmem : n ∈ xs.map (·.1) ++ [(k, v)].map (·.1) ↔ n ∈ xs.map (·.1) := by simp [hn]
      rw [if_congr hmem rfl rfl]
      exact ih

/-! The stations (R208). -/

/-- What the reset of one station leaves alone, and that it keeps the table of cores canonical and the lease. -/
structure ClearsStation (s t : State) (c : Nat) : Prop where
  dram : t.store.dram = s.store.dram
  rows : t.cam.rows = s.cam.rows
  slots : t.slots = s.slots
  attn : t.attn = s.attn
  reset : t.sluice.reset = s.sluice.reset
  others : ∀ j, j ≠ c → t.core j = s.core j
  wf : SMap.wf s.idleCore s.sluice.cores = true → SMap.wf t.idleCore t.sluice.cores = true
  lessee : SMap.wf s.idleCore s.sluice.cores = true → (t.core c).lessee = (s.core c).lessee

theorem ClearsStation.refl (s : State) (c : Nat) : ClearsStation s s c := ⟨rfl, rfl, rfl, rfl, rfl, fun _ _ => rfl, id, fun _ => rfl⟩

theorem ClearsStation.trans {s t u : State} {c : Nat} (hst : ClearsStation s t c) (htu : ClearsStation t u c) : ClearsStation s u c where
  dram := htu.dram.trans hst.dram
  rows := htu.rows.trans hst.rows
  slots := htu.slots.trans hst.slots
  attn := htu.attn.trans hst.attn
  reset := htu.reset.trans hst.reset
  others j hj := (htu.others j hj).trans (hst.others j hj)
  wf h := htu.wf (hst.wf h)
  lessee h := (htu.lessee (hst.wf h)).trans (hst.lessee h)

theorem setCore_clearsStation (s : State) (c : Nat) {k : Core} (h : k.lessee = (s.core c).lessee) : ClearsStation s (s.setCore c k) c where
  dram := rfl
  rows := rfl
  slots := rfl
  attn := rfl
  reset := rfl
  others j hj := core_setCore_ne s c j k hj
  wf hwf := SMap.wf_set _ _ _ _ hwf
  lessee hwf := by rw [core_setCore_of_wf s c k hwf, h]

theorem unpin_clearsStation (s : State) (c p : Nat) : ClearsStation s (s.updStore (fun st => st.unpin p)) c where
  dram := Store.unpin_dram s.store p
  rows := rfl
  slots := rfl
  attn := rfl
  reset := rfl
  others _ _ := rfl
  wf := id
  lessee _ := rfl

theorem SameButVendors.clearsStation {s t : State} (h : SameButVendors s t) (c : Nat) : ClearsStation s t c := by
  rw [SameButVendors] at h
  rw [h]
  exact ⟨rfl, rfl, rfl, rfl, rfl, fun _ _ => rfl, id, fun _ => rfl⟩

theorem dropSaved_sameButVendors (s : State) (c : Nat) : SameButVendors s (s.dropSaved c) := rfl

theorem count_clearsStation (s : State) (d : Ctr) (i n c : Nat) : ClearsStation s (s.count d i n) c :=
  ⟨rfl, rfl, rfl, rfl, rfl, fun _ _ => rfl, id, fun _ => rfl⟩

theorem releaseGrants_clearsStation (s : State) (c base n : Nat) : ClearsStation s (s.releaseGrants c base n) c := by
  unfold releaseGrants
  refine foldl_keeps (p := fun q => ClearsStation s q c) (fun q i hq => hq.trans ?_) (.refl s c) _
  dsimp only
  split
  · refine ClearsStation.trans ?_ (unpin_clearsStation _ c _)
    exact setCore_clearsStation q c rfl
  · exact .refl q c

theorem clearStation_clearsStation (s : State) (c : Nat) : ClearsStation s (s.clearStation c) c := by
  unfold clearStation
  have hkept := (releaseGrants_clearsStation s c 0 64).trans
    ((keepVjobs_sameButVendors _ c (fun j => decide (j.prog ≠ .deq))).clearsStation c)
  generalize (s.releaseGrants c 0 64).keepVjobs c _ = q at hkept
  refine (hkept.trans ((dropSaved_sameButVendors q c).clearsStation c)).trans ?_
  exact setCore_clearsStation (q.dropSaved c) c rfl

/-- A station after a compute reset. -/
def IsReset (k : Core) : Prop := k.st = .fault ∧ k.fcause = fcReset ∧ k.code = [] ∧ k.regs = []

/-- One station goes to FAULT with cause RESET and is cleared. -/
def resetStation (s : State) (c : Nat) : State :=
  let k := s.core c
  let q := if k.st = .run ∨ k.st = .wait then s.count .scCntCfault c 1 else s
  (q.clearStation c).updCore c (fun x =>
    { lessee := x.lessee, zeroing := x.zeroing, halted := x.halted, st := .fault, fcause := fcReset, fpc := k.pc % 1024 })

theorem resetStation_resets {s : State} (hwf : SMap.wf s.idleCore s.sluice.cores = true) (c : Nat) :
    ClearsStation s (s.resetStation c) c ∧ IsReset ((s.resetStation c).core c) := by
  unfold resetStation
  dsimp only
  have hcount : ClearsStation s (if (s.core c).st = .run ∨ (s.core c).st = .wait then s.count .scCntCfault c 1 else s) c := by
    split
    · exact count_clearsStation s _ _ _ c
    · exact .refl s c
  have hclear := hcount.trans (clearStation_clearsStation _ c)
  generalize State.clearStation _ c = q at hclear
  refine ⟨hclear.trans (setCore_clearsStation q c rfl), ?_⟩
  have hread := core_setCore_of_wf q c { lessee := (q.core c).lessee, zeroing := (q.core c).zeroing, halted := (q.core c).halted
                                         st := .fault, fcause := fcReset, fpc := (s.core c).pc % 1024 } (hclear.wf hwf)
  rw [State.updCore, hread]
  exact ⟨rfl, rfl, rfl, rfl⟩

/-- The table of cores written anew under the reset state of a station. -/
def relistCores (s : State) : State :=
  s.sluice.cores.foldl (fun (q : State) e => q.setCore e.1 e.2) { s with sluice := { s.sluice with reset := true, cores := [] } }

theorem resetStations_eq (s : State) :
    s.resetStations = (s.sluice.cores.foldl (fun q e => q.resetStation e.1) s).relistCores := rfl

/-- What the reset of the stations leaves alone. -/
structure KeepsWork (s t : State) : Prop where
  dram : t.store.dram = s.store.dram
  rows : t.cam.rows = s.cam.rows
  slots : t.slots = s.slots
  attn : t.attn = s.attn

theorem KeepsWork.refl (s : State) : KeepsWork s s := ⟨rfl, rfl, rfl, rfl⟩

theorem KeepsWork.trans {s t u : State} (hst : KeepsWork s t) (htu : KeepsWork t u) : KeepsWork s u :=
  ⟨htu.dram.trans hst.dram, htu.rows.trans hst.rows, htu.slots.trans hst.slots, htu.attn.trans hst.attn⟩

theorem ClearsStation.keepsWork {s t : State} {c : Nat} (h : ClearsStation s t c) : KeepsWork s t := ⟨h.dram, h.rows, h.slots, h.attn⟩

/-- After the reset of the stations `ns`: each of them is reset, every other is as before, and every lease stands. -/
structure StationsReset (s t : State) (ns : List Nat) : Prop where
  work : KeepsWork s t
  reset : t.sluice.reset = s.sluice.reset
  wf : SMap.wf t.idleCore t.sluice.cores = true
  lessee : ∀ j, (t.core j).lessee = (s.core j).lessee
  mine : ∀ j ∈ ns, IsReset (t.core j)
  others : ∀ j, j ∉ ns → t.core j = s.core j

theorem foldl_resetStation {s : State} (hwf : SMap.wf s.idleCore s.sluice.cores = true) (xs : List (Nat × Core)) :
    StationsReset s (xs.foldl (fun q e => q.resetStation e.1) s) (xs.map (·.1)) := by
  induction xs using List.reverseRecOn with
  | nil => exact ⟨.refl s, rfl, hwf, fun _ => rfl, fun _ hj => absurd hj List.not_mem_nil, fun _ _ => rfl⟩
  | append_singleton xs e ih =>
    rw [List.foldl_append, List.foldl_cons, List.foldl_nil, List.map_append]
    generalize xs.foldl (fun (q : State) e => q.resetStation e.1) s = q at ih
    obtain ⟨hone, hreset⟩ := resetStation_resets ih.wf e.1
    refine ⟨ih.work.trans hone.keepsWork, hone.reset.trans ih.reset, hone.wf ih.wf, fun j => ?_, fun j hj => ?_, fun j hj => ?_⟩
    · by_cases hje : j = e.1
      · rw [hje, hone.lessee ih.wf, ih.lessee]
      · rw [hone.others j hje, ih.lessee]
    · by_cases hje : j = e.1
      · rw [hje]
        exact hreset
      · rw [hone.others j hje]
        exact ih.mine j ((List.mem_append.mp hj).resolve_right fun hmem => hje (List.mem_singleton.mp hmem))
    · rw [List.mem_append, not_or] at hj
      obtain ⟨hbefore, hlast⟩ := hj
      rw [hone.others j fun hje => hlast (List.mem_singleton.mpr hje), ih.others j hbefore]

theorem foldl_setCore_only (xs : List (Nat × Core)) (s : State) : xs.foldl (fun (q : State) e => q.setCore e.1 e.2) s =
    { s with sluice := { s.sluice with cores := xs.foldl (fun m e => SMap.set s.idleCore m e.1 e.2) s.sluice.cores } } := by
  induction xs generalizing s with
  | nil => rfl
  | cons e xs ih =>
    rw [List.foldl_cons, ih]
    rfl

theorem relistCores_keepsWork (s : State) : KeepsWork s s.relistCores := by
  unfold relistCores
  rw [foldl_setCore_only]
  exact ⟨rfl, rfl, rfl, rfl⟩

/-- A core that was listed reads as before, any other as a station that is reset. -/
theorem core_relistCores {s : State} (hwf : SMap.wf s.idleCore s.sluice.cores = true) (j : Nat) : s.relistCores.core j =
    if j ∈ s.sluice.cores.map (·.1) then s.core j else { st := .fault, fcause := fcReset } := by
  have hrelisted := SMap.get_foldl_set ({ st := .fault, fcause := fcReset } : Core) s.idleCore (SMap.rises_of_wf hwf) (acc := []) rfl j
  unfold relistCores
  rw [foldl_setCore_only]
  exact hrelisted

theorem idleCore_of_reset {s t : State} (h : t.sluice.reset = s.sluice.reset) : t.idleCore = s.idleCore := by
  rw [idleCore, idleCore, h]

theorem idleCore_lessee (s : State) : s.idleCore.lessee = none := by
  unfold idleCore
  split <;> rfl

theorem resetStations_resets {s : State} (hwf : SMap.wf s.idleCore s.sluice.cores = true) (j : Nat) :
    IsReset (s.resetStations.core j) ∧ (s.resetStations.core j).lessee = (s.core j).lessee := by
  have hfold := foldl_resetStation hwf s.sluice.cores
  rw [resetStations_eq]
  generalize s.sluice.cores.foldl (fun (q : State) e => q.resetStation e.1) s = q at hfold
  rw [core_relistCores hfold.wf]
  split
  · next hj =>
    obtain ⟨e, hmem, rfl⟩ := List.mem_map.mp hj
    refine ⟨hfold.mine e.1 ?_, hfold.lessee e.1⟩
    by_contra hnew
    have hread : q.core e.1 = e.2 := SMap.get_of_mem _ (SMap.rises_of_wf hfold.wf) hmem
    have hidle : s.core e.1 = s.idleCore := SMap.get_of_not_mem _ hnew
    refine SMap.ne_default_of_mem hfold.wf hmem ?_
    rw [← hread, hfold.others e.1 hnew, hidle, idleCore_of_reset hfold.reset]
  · next hj =>
    have hidle : q.core j = q.idleCore := SMap.get_of_not_mem _ hj
    refine ⟨⟨rfl, rfl, rfl, rfl⟩, ?_⟩
    rw [← hfold.lessee j, hidle, idleCore_lessee]

theorem resetStations_keepsWork {s : State} (hwf : SMap.wf s.idleCore s.sluice.cores = true) : KeepsWork s s.resetStations := by
  rw [resetStations_eq]
  exact (foldl_resetStation hwf _).work.trans (relistCores_keepsWork _)

/-! The vendor commands and the promotions (R124, R181, R208). -/

/-- What the rest of the reset leaves alone. -/
def KeepsReset (s t : State) : Prop := KeepsWork s t ∧ t.sluice.cores = s.sluice.cores ∧ t.sluice.reset = s.sluice.reset

theorem KeepsReset.refl (s : State) : KeepsReset s s := ⟨.refl s, rfl, rfl⟩

theorem KeepsReset.trans {s t u : State} (hst : KeepsReset s t) (htu : KeepsReset t u) : KeepsReset s u := by
  obtain ⟨hwork, hcores, hreset⟩ := hst
  obtain ⟨hwork', hcores', hreset'⟩ := htu
  exact ⟨hwork.trans hwork', hcores'.trans hcores, hreset'.trans hreset⟩

theorem SameButVendors.keepsReset {s t : State} (h : SameButVendors s t) : KeepsReset s t := by
  rw [SameButVendors] at h
  rw [h]
  exact ⟨⟨rfl, rfl, rfl, rfl⟩, rfl, rfl⟩

theorem resetVendors_keepsReset (s : State) : KeepsReset s s.resetVendors := by
  have hnone : KeepsReset s { s with sluice := { s.sluice with vjobs := [], vendors := [], vload := none } } :=
    ⟨⟨rfl, rfl, rfl, rfl⟩, rfl, rfl⟩
  unfold resetVendors
  exact foldl_keeps (p := KeepsReset s) (fun q j hq => hq.trans (askCore_sameButVendors q _ j).keepsReset) hnone _

theorem updChan_keepsReset (s : State) (ch : Nat) (g : Chan → Chan) : KeepsReset s (s.updStore (fun st => st.updChan ch g)) :=
  ⟨⟨rfl, rfl, rfl, rfl⟩, rfl, rfl⟩

theorem dropPromotions_keepsReset (s : State) : KeepsReset s s.dropPromotions := by
  unfold dropPromotions forUpTo
  exact foldl_keeps (p := KeepsReset s) (fun q ch hq => hq.trans (updChan_keepsReset q ch _)) (.refl s) _

theorem switchSlot_keepsReset (s : State) : KeepsReset s s.switchSlot := by
  unfold switchSlot
  split
  · exact ⟨⟨rfl, rfl, rfl, rfl⟩, rfl, rfl⟩
  · exact .refl s

theorem switchSlot_rel (s : State) : s.switchSlot.rel = s.rel := by
  unfold switchSlot
  split <;> rfl

/-- The slots are reset, the pipes are empty, and no search waits. -/
def slotsReset (s : State) : State :=
  let q := s.slots.foldl (fun (q : State) e => q.resetSlot e.1) s
  { q with attn := {}, cam := { q.cam with waiting := [] } }

theorem slotsReset_keepsStations (s : State) : KeepsStations s s.slotsReset := by
  have hfold := foldl_keeps (p := KeepsStations s) (fun q e hq => hq.trans (resetSlot_keepsStations q e.1)) (.refl s) s.slots
  exact hfold.trans ⟨rfl, rfl, rfl, rfl⟩

theorem slotsReset_attend {s : State} {n : Nat} {a : Att} (hactive : (s.slot n).state = .active) (hprog : (s.slot n).prog = .attend a) :
    QueuedAgain (s.slot n).hdr (s.slotsReset.slot n) := by
  have hfold := foldl_resetSlot_attend hactive hprog s.slots
  have hlisted : n ∈ s.slots.map (·.1) := by
    by_contra hnot
    have hfree : s.slot n = {} := SMap.get_of_not_mem _ hnot
    rw [hfree] at hactive
    cases hactive
  dsimp only at hfold
  rw [if_pos hlisted] at hfold
  exact hfold

/-- A reset that has emptied the machine rebuilds it. -/
def rebuilding (s : State) : State := { s with rel := { s.rel with cr := .rebuilding } }

theorem rebuilding_keepsReset (s : State) : KeepsReset s s.rebuilding := ⟨⟨rfl, rfl, rfl, rfl⟩, rfl, rfl⟩

theorem resetCompute_eq (s : State) : s.resetCompute = s.slotsReset.resetStations.resetVendors.dropPromotions.rebuilding := by
  simp only [resetCompute, slotsReset]
  generalize s.slots.foldl _ s = q
  rfl

theorem exec_computeResetQuiesced {s : State} (hwf : SMap.wf s.idleCore s.sluice.cores = true) (hcr : s.rel.cr = .draining)
    (hrun : s.burstsRun = false) : ∃ t, exec .computeResetQuiesced s = .next t ∧ t.rel.cr = .rebuilding ∧ t.attn.pipes = [] ∧
      (∀ c, (t.core c).st = .fault ∧ (t.core c).fcause = fcReset ∧ (t.core c).code = [] ∧ (t.core c).regs = [] ∧
        (t.core c).lessee = (s.core c).lessee) ∧
      (∀ n a, (s.slot n).state = .active → (s.slot n).prog = .attend a → QueuedAgain (s.slot n).hdr (t.slot n)) ∧
      t.store.dram = s.store.dram ∧ t.cam.rows = s.cam.rows ∧ t.sluice.vload = some t.running.m3 := by
  have hslots := slotsReset_keepsStations s
  have hcores := core_of_cores hslots.cores hslots.reset
  have hwf' : SMap.wf s.slotsReset.idleCore s.slotsReset.sluice.cores = true := by
    rw [idleCore_of_reset hslots.reset, hslots.cores]
    exact hwf
  have hstations := resetStations_keepsWork hwf'
  have hreset := resetStations_resets hwf'
  have hrest := (resetVendors_keepsReset s.slotsReset.resetStations).trans (dropPromotions_keepsReset _)
  have hattend := @slotsReset_attend s
  have hpipes : s.slotsReset.attn.pipes = [] := rfl
  refine ⟨s.resetCompute.switchSlot.loadVendors, congrArg Host.Outcome.next (if_pos ⟨hcr, by rw [hrun]; rfl⟩), ?_⟩
  rw [resetCompute_eq]
  generalize s.slotsReset = q at *
  generalize q.resetStations.resetVendors.dropPromotions = r at *
  have hrel : r.rebuilding.switchSlot.rel.cr = .rebuilding := congrArg RelSt.cr (switchSlot_rel r.rebuilding)
  have hlast := (hrest.trans (rebuilding_keepsReset r)).trans (switchSlot_keepsReset r.rebuilding)
  generalize r.rebuilding.switchSlot = u at *
  obtain ⟨hwork, hucores, hureset⟩ := hlast
  have hall := hstations.trans hwork
  refine ⟨hrel, ?_, fun c => ?_, fun n a hactive hprog => ?_, ?_, ?_, rfl⟩
  · exact (congrArg AttnSt.pipes hall.attn).trans hpipes
  · have hcore : u.loadVendors.core c = q.resetStations.core c := core_of_cores hucores hureset c
    obtain ⟨⟨hst, hcause, hcode, hregs⟩, hlessee⟩ := hreset c
    rw [hcore]
    exact ⟨hst, hcause, hcode, hregs, hlessee.trans (congrArg Core.lessee (hcores c))⟩
  · have hslot : u.loadVendors.slot n = q.slot n := slot_of_slots hall.slots n
    rw [hslot]
    exact hattend hactive hprog
  · exact hall.dram.trans hslots.dram
  · exact hall.rows.trans hslots.rows

end Sys2Proof.Machine.State
end

section
/-! PROOFS. The end of a compute reset, and the samples of stagnation (R453, R454, R460, R461, R490, R496). -/

namespace Sys2Proof.Machine.State

/-! A withdrawal (R461, R462). -/

/-- What answering the slots of a withdrawal leaves of the module's modes. -/
def KeepsModes (s t : State) : Prop := t.rel.cr = s.rel.cr ∧ t.rel.svc = s.rel.svc ∧ t.rel.wcause = s.rel.wcause

theorem keepsModes_of_rel {s t : State} (h : t.rel = s.rel) : KeepsModes s t := by
  rw [KeepsModes, h]
  exact ⟨rfl, rfl, rfl⟩

theorem KeepsModes.trans {s t u : State} (hst : KeepsModes s t) (htu : KeepsModes t u) : KeepsModes s u := by
  obtain ⟨hcr, hsvc, hcause⟩ := hst
  obtain ⟨hcr', hsvc', hcause'⟩ := htu
  exact ⟨hcr'.trans hcr, hsvc'.trans hsvc, hcause'.trans hcause⟩

theorem complete_keepsModes (s : State) (n status : Nat) (body : Bytes) : KeepsModes s (s.complete n status body) :=
  keepsModes_of_rel (complete_rel s n status body)

theorem listLost_keepsModes (s : State) (c conv cause : Nat) : KeepsModes s (s.listLost c conv cause) := by
  unfold listLost
  split
  · exact keepsModes_of_rel rfl
  · dsimp only
    generalize hq : ({ s with rel := { s.rel with lost := s.rel.lost ++ [{ ctx := c, conv := conv, cause := cause }] } } : State) = q
    have henter : KeepsModes s q := by
      rw [← hq]
      exact ⟨rfl, rfl, rfl⟩
    have htold := keepsModes_of_rel (report_lost_sendsOnly q c conv).rel
    generalize State.report _ _ = r at htold
    exact (henter.trans htold).trans ⟨rfl, rfl, rfl⟩

theorem withdrawSlot_keepsModes (s : State) (n : Nat) : KeepsModes s (s.withdrawSlot n) := by
  have hstall : KeepsModes s (s.settleStall n) := keepsModes_of_rel rfl
  have hsame : KeepsModes s s := keepsModes_of_rel rfl
  unfold withdrawSlot
  dsimp only
  split
  · exact hsame
  · exact hsame
  · exact hsame
  · exact complete_keepsModes s n _ _
  · split
    · split
      · unfold withdrawStaged
        dsimp only
        split
        · exact (complete_keepsModes s n _ _).trans (listLost_keepsModes _ _ _ _)
        · exact complete_keepsModes s n _ _
      · exact hsame
    · exact (hstall.trans (keepsModes_of_rel (dropAttend_dropsAttend _ n _).rel)).trans (complete_keepsModes _ n _ _)
    · exact hstall.trans (complete_keepsModes _ n _ _)
    · split
      · exact complete_keepsModes s n _ _
      · exact complete_keepsModes s n _ _
    · exact complete_keepsModes s n _ _

theorem startWithdraw_modes {s : State} (cause : Nat) (h : ¬ (s.rel.svc = .withdrawing ∨ s.rel.svc = .out)) :
    (s.startWithdraw cause).rel.cr = s.rel.cr ∧ (s.startWithdraw cause).rel.svc = .withdrawing ∧
      (s.startWithdraw cause).rel.wcause = cause := by
  have hstart : s.startWithdraw cause =
      (s.withdrawFlushed cause).slots.foldl (fun q e => q.withdrawSlot e.1) (s.withdrawFlushed cause) := by
    unfold startWithdraw
    rw [if_neg h]
    rfl
  have hflushed : KeepsModes (s.withdrawing cause) (s.withdrawFlushed cause) :=
    keepsModes_of_rel (withdrawFlushed_sendsOnly s cause).rel
  rw [hstart]
  exact foldl_keeps (p := KeepsModes (s.withdrawing cause)) (fun q e hq => hq.trans (withdrawSlot_keepsModes q e.1)) hflushed _

/-! The end of a reset (R454, R460, R490, R496). -/

/-- A reset that has ended. -/
def resetOver (s : State) : State := { s with rel := { s.rel with cr := .none, wanted := s.fallBackWant, escalate := false } }

section
variable {s : State} (hcr : s.rel.cr = .rebuilding)
include hcr

theorem exec_computeResetEnd : exec .computeResetEnd s = if s.power.pwrFail then .next s.resetOver
    else if s.rel.escalate then .next (s.resetOver.startWithdraw 1) else .next s.endReset := by
  change execComputeResetEnd s = _
  rw [execComputeResetEnd, if_neg (not_not.mpr hcr)]
  rfl

theorem exec_computeResetEnd_escalates (hpower : s.power.pwrFail = false) (hescalate : s.rel.escalate = true)
    (hsvc : s.rel.svc = .service) : ∃ t, exec .computeResetEnd s = .next t ∧
      t.rel.cr = .none ∧ t.rel.svc = .withdrawing ∧ t.rel.wcause = 1 := by
  have hin : ¬ (s.resetOver.rel.svc = .withdrawing ∨ s.resetOver.rel.svc = .out) := by
    rw [show s.resetOver.rel.svc = .service from hsvc]
    decide
  refine ⟨s.resetOver.startWithdraw 1, ?_, startWithdraw_modes 1 hin⟩
  rw [exec_computeResetEnd hcr, hpower, hescalate]
  rfl

end

theorem rmaRun_nothing {s : State} {c : Nat} (n : Nat) (h : (s.conn c).held = []) : rmaRun n c s = s := by
  cases n with
  | zero => rfl
  | succ n =>
    rw [rmaRun]
    simp only [h, List.find?_nil]

theorem rmaRunAll_nothing {s : State} (h : ∀ c, (s.conn c).held = []) : s.rmaRunAll = s :=
  foldl_keeps (p := (· = s)) (fun q e hq => by rw [hq, rmaRun_nothing _ (h e.1)]) rfl _

theorem replayAll_nothing {s : State} (h : s.slots = []) : s.replayAll = s := by
  rw [replayAll, h]
  rfl

theorem advanceAll_sendsOnly (s : State) : SendsOnly s s.advanceAll := foldl_sendsOnly _ (fun q _ => advance_sendsOnly _ _ q) s _

theorem advanceAll_eventOnly (s : State) : EventOnly s s.advanceAll := EventOnly.foldl (fun q _ => advance_eventOnly _ _ q) s _

/-- With no slot in use and nothing held back on a connection the end of a reset only sends (R454). -/
theorem endReset_sendsOnly {s : State} (hslots : s.slots = []) (hheld : ∀ c, (s.conn c).held = []) :
    SendsOnly s.resetOver s.endReset := by
  have hends : s.endReset = ((s.resetOver.broadcast evResetEnd 0).requestPf 1).replayAll.advanceAll.rmaRunAll := rfl
  have htold := (broadcast_sendsOnly s.resetOver evResetEnd 0).trans (requestPf_sameButReports _ 1).sendsOnly
  have hevents := (broadcast_eventOnly s.resetOver evResetEnd 0).trans (requestPf_eventOnly _ 1)
  rw [hends]
  generalize (s.resetOver.broadcast evResetEnd 0).requestPf 1 = q at htold hevents
  rw [replayAll_nothing (htold.slots hslots)]
  obtain ⟨-, -, hconns, -⟩ := hevents.trans (advanceAll_eventOnly q)
  rw [rmaRunAll_nothing fun c => ?_]
  · exact htold.trans (advanceAll_sendsOnly q)
  · rw [conn, hconns]
    exact hheld c

/-! The samples of stagnation (R453). -/

theorem exec_stagnationSample_none {s : State} {es : List WaitEdge} (h : cyclesOf (s.queueEdges ++ es) = []) :
    exec (.stagnationSample es) s = .next { s with rel := { s.rel with cycles := [] } } := by
  change execStagnationSample es s = _
  rw [execStagnationSample, h]
  rfl

theorem exec_stagnationSample_first {s : State} {es : List WaitEdge} {c : List Nat} (h : cyclesOf (s.queueEdges ++ es) = [c])
    (hnew : s.rel.cycles = []) (hlimit : 1 < s.rfld .rsCfg 0 35 20) :
    exec (.stagnationSample es) s = .next { s with rel := { s.rel with cycles := [(c.map queueOf, 1)] } } := by
  change execStagnationSample es s = _
  simp only [execStagnationSample, h, hnew, List.map_cons, List.map_nil, List.find?_nil, Option.map_none, Option.getD_none,
    List.filter_cons, List.filter_nil, hlimit, not_le.mpr hlimit, decide_true, decide_false, if_true]
  rfl

end Sys2Proof.Machine.State

namespace Sys2Proof.Machine

open State

/-- Settles O40: each step of a reset by what it keeps, part by part. -/
theorem computeResetSteps : Obligations.ComputeResetSteps := by
  intro s
  refine ⟨exec_creset_asks, exec_creset_twice, fun w rest hcr hwanted hsvc hst hrises => ?_, exec_resetCutoff,
    fun hwf _ hcr hrun => exec_computeResetQuiesced hwf hcr hrun, fun hcr => ⟨fun hpower => ?_, exec_computeResetEnd_escalates hcr,
      fun hpower hescalate => ⟨?_, fun hslots hheld => ?_⟩⟩,
    fun es => exec_stagnationSample_none, fun es c => exec_stagnationSample_first⟩
  · exact ⟨_, exec_computeReset_begins hcr hwanted hsvc hst, beginReset_leaves s w hrises⟩
  · rw [exec_computeResetEnd hcr, hpower]
    rfl
  · rw [exec_computeResetEnd hcr, hpower, hescalate]
    rfl
  · obtain ⟨hstore, hsluice, hrel, -⟩ := endReset_sendsOnly hslots hheld
    rw [hrel]
    exact ⟨rfl, rfl, hsluice, hstore⟩

end Sys2Proof.Machine
end

section
/-! PROOFS. The silt tier: what sinking, programs, releases, reads of cells and a channel that goes down do to pages and cells
(R215, R219, R220, R222, R223, R225, R230, R232, R236). -/

namespace Sys2Proof.SMap

/-- A change of every listed value that leaves the default alone is seen by every read. -/
theorem get_map_of_default {α : Type} (d : α) (g : α → α) (hg : g d = d) (m : List (Nat × α)) (i : Nat) :
    get d (m.map (fun e => (e.1, g e.2))) i = g (get d m i) := by
  induction m with
  | nil => exact hg.symm
  | cons e t ih =>
    simp only [List.map_cons, get, ih]
    split <;> rfl

end Sys2Proof.SMap

namespace Sys2Proof.Machine.Store

/-! Reading back pages, cells and channels. -/

theorem pent_setPent {e : PEntry} (st : Store) (p : Nat) (h : e ≠ {}) : (st.setPent p e).pent p = e :=
  SMap.get_set_of_ne _ _ _ _ h

theorem pent_of_pmap {st u : Store} (h : u.pmap = st.pmap) (p : Nat) : u.pent p = st.pent p := by
  rw [pent, pent, h]

theorem cell_setCell {x : SiltCell} (st : Store) (k : Nat) (h : x ≠ {}) : (st.setCell k x).cell k = x :=
  SMap.get_set_of_ne _ _ _ _ h

theorem cell_setCell_ne {k m : Nat} (st : Store) (x : SiltCell) (h : m ≠ k) : (st.setCell k x).cell m = st.cell m :=
  SMap.get_set_ne _ _ _ _ _ h

theorem ne_default_of_tier {e : PEntry} (h : e.tier ≠ .free) : e ≠ {} := by
  rintro rfl
  exact h rfl

theorem ne_default_of_state {x : SiltCell} (h : x.state ≠ .free) : x ≠ {} := by
  rintro rfl
  exact h rfl

/-! What an operation on frames, headers and cells writes. -/

theorem freeFrameAt_only (st : Store) (pc f : Nat) (wide : Bool) :
    st.freeFrameAt pc f wide = { st with frames := (st.freeFrameAt pc f wide).frames } := by
  cases wide <;> rfl

@[simp] theorem freeFrameAt_pent (st : Store) (pc f p : Nat) (wide : Bool) : (st.freeFrameAt pc f wide).pent p = st.pent p := by
  cases wide <;> rfl

@[simp] theorem freeFrameAt_cell (st : Store) (pc f k : Nat) (wide : Bool) : (st.freeFrameAt pc f wide).cell k = st.cell k := by
  cases wide <;> rfl

@[simp] theorem freeFrameAt_chans (st : Store) (pc f : Nat) (wide : Bool) : (st.freeFrameAt pc f wide).chans = st.chans := by
  cases wide <;> rfl

theorem dropSummaryFrame_only (st : Store) (pc f : Nat) : st.dropSummaryFrame pc f = { st with
    frames := (st.dropSummaryFrame pc f).frames, pmap := (st.dropSummaryFrame pc f).pmap } := by
  unfold dropSummaryFrame
  split
  · dsimp only
    rw [freeFrameAt_only]
    rfl
  · rfl

@[simp] theorem dropSummaryFrame_chans (st : Store) (pc f : Nat) : (st.dropSummaryFrame pc f).chans = st.chans := by
  rw [dropSummaryFrame_only]

/-- Frame 0 is no summary frame (R220). -/
theorem dropSummaryFrame_zero (st : Store) (pc : Nat) : st.dropSummaryFrame pc 0 = st := rfl

@[simp] theorem dropKept_chans (st : Store) (p : Nat) : (st.dropKept p).chans = st.chans := by
  unfold dropKept
  split
  · rfl
  · split
    · rfl
    · dsimp only
      split
      · rfl
      · exact freeFrameAt_chans _ _ _ _

theorem updAnyHeader_only (st : Store) (p : Nat) (g : Frame → Frame) : st.updAnyHeader p g = { st with
    frames := (st.updAnyHeader p g).frames, cells := (st.updAnyHeader p g).cells } := by
  unfold updAnyHeader
  dsimp only
  split
  · split <;> rfl
  · unfold updHeader
    split <;> rfl

@[simp] theorem updAnyHeader_pent (st : Store) (p q : Nat) (g : Frame → Frame) : (st.updAnyHeader p g).pent q = st.pent q := by
  rw [updAnyHeader_only]
  rfl

/-- A page's header says nothing of the state of its cells. -/
theorem setCell_hdr_state {st : Store} (hwf : SMap.wf {} st.cells = true) (k m : Nat) (h : Frame) :
    ((st.setCell k { st.cell k with hdr := h }).cell m).state = (st.cell m).state := by
  rw [cell, setCell, SMap.get_set _ _ _ _ _ hwf]
  split
  case isTrue heq => rw [heq]
  case isFalse => rfl

theorem updAnyHeader_cell_state {st : Store} (hwf : SMap.wf {} st.cells = true) (p : Nat) (g : Frame → Frame) (m : Nat) :
    ((st.updAnyHeader p g).cell m).state = (st.cell m).state := by
  unfold updAnyHeader
  dsimp only
  split
  · split
    · exact (setCell_hdr_state (SMap.wf_set _ _ _ _ hwf) _ m _).trans (setCell_hdr_state hwf _ m _)
    · exact setCell_hdr_state hwf _ m _
  · unfold updHeader
    split <;> rfl

/-! The store once a frame is released (R220). -/

/-- A page in both tiers that has left DRAM without a summary slot. -/
def released (st : Store) (p : Nat) : Store :=
  let left := { st with releases := st.releases.filter (· != p), sumcopied := st.sumcopied.filter (fun x => x.1 != p) }
  ((left.setPent p { st.pent p with tier := .silt, frame := 0, sidx := 0 }).updAnyHeader p (fun _ => st.header p)).freeFrameAt
    (pagePc p) (st.pent p).frame (st.pent p).wide

theorem released_leaves (st : Store) (p : Nat) :
    let u := st.released p
    u.pent p = { st.pent p with tier := .silt, frame := 0, sidx := 0 } ∧ u.releases.contains p = false ∧ u.dram = st.dram ∧
      (SMap.wf {} st.cells = true → ∀ k, (u.cell k).state = (st.cell k).state) := by
  intro u
  simp only [u, released]
  refine ⟨?_, ?_, ?_, fun hwf k => ?_⟩
  · rw [freeFrameAt_pent, updAnyHeader_pent]
    exact pent_setPent _ _ (ne_default_of_tier (nofun : Tier.silt ≠ .free))
  · rw [freeFrameAt_only, updAnyHeader_only]
    simp [setPent]
  · rw [freeFrameAt_dram, updAnyHeader_only]
    rfl
  · rw [freeFrameAt_cell]
    refine (updAnyHeader_cell_state ?_ _ _ k).trans rfl
    exact hwf

/-! The store once a cell is read into a frame (R225). -/

theorem writeUnder_pmap (st : Store) (k pc a : Nat) (bs : Bytes) : (st.writeUnder k pc a bs).pmap = st.pmap := by
  rw [writeUnder_eq]
  rfl

theorem raiseCell_pmap (st : Store) (k pc f : Nat) : (State.raiseCell st k pc f).pmap = st.pmap := by
  unfold State.raiseCell
  exact (writeUnder_pmap _ _ _ _ _).trans (writeUnder_pmap _ _ _ _ _)

end Sys2Proof.Machine.Store

namespace Sys2Proof.Machine.State

/-- A fault of the silt tier leaves pages, cells and channels alone (R236). -/
theorem stFault_sameButReports (s : State) (ch cause : Nat) : SameButReports s (s.stFault ch cause) := by
  unfold stFault
  exact ((setBit_sameButReports s _ _ _).trans (rsFault_sameButReports _ 1)).trans rfl

@[simp] theorem stFault_store (s : State) (ch cause : Nat) : (s.stFault ch cause).store = s.store := by
  have h := stFault_sameButReports s ch cause
  rw [SameButReports] at h
  rw [h]

/-! SINK_START (R222, Table 07-3). -/

theorem hinted_nothing {s : State} {pc : Nat} (h : s.pagesIn pc = []) : s.hinted pc = s := by
  rw [hinted, h]
  rfl

theorem sinkSome_enough (ps : List Nat) (s : State) : sinkSome ps 0 s = s := by
  cases ps <;> rfl

theorem trimReleases_wanted {s : State} (h : s.store.releases.all s.releaseWanted = true) : s.trimReleases = s := by
  have hdrop : s.store.releases.filter (fun p => !s.releaseWanted p) = [] := by
    simpa [List.filter_eq_nil_iff] using h
  unfold trimReleases
  rw [hdrop]
  rfl

/-- Without pressure and with no promotion that waits for a frame nothing sinks. -/
theorem pressure_nothing {s : State} {pc : Nat} (hrelieving : s.store.relieving.contains pc = false)
    (hfree : s.lowWm pc ≤ s.store.freeFrames pc) (hframe : s.frameWanted pc = false)
    (hwanted : s.store.releases.all s.releaseWanted = true) : s.pressure pc = s := by
  have hrest : s.store.relieving.filter (· != pc) = s.store.relieving := by
    refine List.filter_eq_self.mpr fun q hq => bne_iff_ne.mpr ?_
    rintro rfl
    exact absurd (List.contains_iff_mem.mpr hq) (by rw [hrelieving]; decide)
  have hsame : s.updStore (fun st => { st with relieving := s.store.relieving }) = s := rfl
  simp only [pressure, hrelieving, decide_eq_false (not_lt.mpr hfree), Bool.or_self, Bool.false_and, Bool.false_eq_true, if_false,
    hrest, hsame, hframe]
  have hgoal : Nat.max 0 0 - s.releasing pc = 0 := Nat.zero_sub _
  rw [hgoal, sinkSome_enough, trimReleases_wanted hwanted]

/-! CELL_PROGRAM_DONE (R219, R223, R235). -/

/-- The wear a channel reports changes channels alone. -/
theorem noteWear_store (s : State) (ch used spare : Nat) :
    (s.noteWear ch used spare).store = { s.store with chans := (s.noteWear ch used spare).store.chans } := by
  unfold noteWear
  dsimp only
  split
  · rw [stFault_store]
    rfl
  · rfl

theorem updCells_store (s : State) (ch : Nat) (j : ChanJob) (g : SiltCell → SiltCell) :
    (s.updCells ch j g).store = { s.store with cells := (s.updCells ch j g).store.cells } := by
  simp only [updCells, updStore]
  split <;> rfl

@[simp] theorem updCells_pmap (s : State) (ch : Nat) (j : ChanJob) (g : SiltCell → SiltCell) :
    (s.updCells ch j g).store.pmap = s.store.pmap := by
  rw [updCells_store]

@[simp] theorem updCells_chans (s : State) (ch : Nat) (j : ChanJob) (g : SiltCell → SiltCell) :
    (s.updCells ch j g).store.chans = s.store.chans := by
  rw [updCells_store]

@[simp] theorem updCells_dram (s : State) (ch : Nat) (j : ChanJob) (g : SiltCell → SiltCell) :
    (s.updCells ch j g).store.dram = s.store.dram := by
  rw [updCells_store]

theorem updCells_cell (s : State) (ch : Nat) (j : ChanJob) {g : SiltCell → SiltCell}
    (h : g (s.store.cell (ch * 2 ^ 26 + j.cell)) ≠ {}) :
    (s.updCells ch j g).store.cell (ch * 2 ^ 26 + j.cell) = g (s.store.cell (ch * 2 ^ 26 + j.cell)) := by
  simp only [updCells, updStore]
  split
  · exact (Store.cell_setCell_ne _ _ (Nat.ne_of_lt (Nat.lt_succ_self _))).trans (Store.cell_setCell _ _ h)
  · exact Store.cell_setCell _ _ h

theorem requeueCopy_store (s : State) (j : ChanJob) :
    (s.requeueCopy j).store = { s.store with chans := (s.requeueCopy j).store.chans } := by
  unfold requeueCopy
  dsimp only
  split <;> rfl

theorem exec_cellProgramDone {s : State} {ch i : Nat} {j : ChanJob} (hjob : s.startedJob ch true = some (i, j)) (ok second : Bool)
    (used spare : Nat) :
    let q := s.noteWear ch used spare
    let t := if ok then q.programOk ch i j else q.programFail ch i j second
    exec (.cellProgramDone ch ok second used spare) s = .next (if spare = 0 then t.chanDown ch else t).pumpSilt := by
  change execCellProgramDone ch ok second used spare s = _
  rw [execCellProgramDone, hjob]

/-- A program that ends well, of a page that is to keep its frame. -/
theorem programOk_leaves {j : ChanJob} (s : State) (ch i : Nat) (hfreed : j.freed = false) (hrelease : j.release = false) :
    let u := s.programOk ch i j
    let k := ch * 2 ^ 26 + j.cell
    u.store.pent j.page = { s.store.pent j.page with tier := .both, silt := Store.siltAddr ch j.cell } ∧
      u.store.dram = s.store.dram ∧ u.store.cell k = { s.store.cell k with state := .live, hdr := s.store.header j.page } := by
  intro u k
  have hu : u = (((s.dropJob ch i).count .stCntProg ch (if j.wide then 2 else 1)).updCells ch j (fun c =>
      { c with state := .live, hdr := s.store.header j.page })).updStore (fun st =>
        st.setPent j.page { st.pent j.page with tier := .both, silt := Store.siltAddr ch j.cell }) := by
    simp only [u, programOk, hfreed, hrelease, Bool.false_eq_true, if_false, Bool.false_and]
    rfl
  rw [hu]
  refine ⟨?_, ?_, ?_⟩
  · refine (Store.pent_setPent _ _ (Store.ne_default_of_tier (nofun : Tier.both ≠ .free))).trans ?_
    rw [updCells_store]
    rfl
  · exact updCells_dram _ ch j _
  · exact updCells_cell _ ch j (Store.ne_default_of_state (by simp))

/-- A program that fails retires its cell. -/
theorem programFail_leaves {j : ChanJob} (s : State) (ch i : Nat) (second : Bool) (hfreed : j.freed = false) :
    let u := s.programFail ch i j second
    (u.store.cell (ch * 2 ^ 26 + j.cell + if second && j.wide then 1 else 0)).state = .retired ∧
      u.store.pmap = s.store.pmap ∧ u.store.dram = s.store.dram := by
  intro u
  simp only [u, programFail, hfreed, Bool.false_eq_true, if_false]
  rw [requeueCopy_store]
  refine ⟨?_, updCells_pmap _ ch j _, updCells_dram _ ch j _⟩
  exact congrArg SiltCell.state (Store.cell_setCell (x := { state := .retired }) _ _ (by decide))

/-! FRAME_RELEASE (R220). -/

/-- The release of a page that is not SEALED needs no summary (R220). -/
theorem releaseFrame_unsealed {s : State} {p : Nat} (hstate : (s.store.header p).pstate ≠ .sealed)
    (hslots : s.store.sumcopied.all (fun x => x.1 != p) = true) :
    s.releaseFrame p =
      let t := s.updStore (fun st => st.released p)
      t.count .stCntRelease ((s.store.pent p).silt % 16) (t.framesOf p) := by
  have hslot : s.store.sumcopied.find? (fun x => x.1 == p) = none := by
    rw [List.find?_eq_none]
    intro x hx
    simpa using List.all_eq_true.mp hslots x hx
  simp only [releaseFrame, decide_eq_false hstate, Bool.false_and, Bool.false_eq_true, if_false, hslot]
  rfl

theorem exec_frameRelease {s : State} {p : Nat} (hqueued : s.store.releases.contains p = true) (hvalid : s.store.valid p = true)
    (htier : (s.store.pent p).tier = .both) (hblocked : s.releaseBlocked p = false) (hwanted : s.releaseWanted p = true) :
    exec (.frameRelease p) s = .next (s.releaseFrame p).pumpSilt := by
  change execFrameRelease p s = _
  rw [execFrameRelease, hqueued, hvalid, htier, hblocked, hwanted]
  rfl

/-! Reads of cells (R215, R225, R230). -/

section
variable {s t : State} {ch i : Nat} {bad bad2 : List Nat} {j : ChanJob} (hjob : s.startedJob ch false = some (i, j))
include hjob

theorem exec_promotionDone_fails {second : Bool} (hkind : j.kind = .promote)
    (hread : s.fixSectors ch bad (if j.wide then bad2 else []) = (t, some second)) :
    exec (.promotionDone ch bad bad2) s = .next ((t.readFailed ch i j second).raNext j.ra).pumpSilt := by
  change execPromotionDone ch bad bad2 s = _
  simp only [execPromotionDone, hjob, hkind, hread, if_true]

theorem exec_promotionDone (hkind : j.kind = .promote)
    (hread : s.fixSectors ch bad (if j.wide then bad2 else []) = (t, none)) :
    exec (.promotionDone ch bad bad2) s = .next (((if j.freed || t.trailerOk j.page then t.promoted ch i j
      else (t.stFault ch 2).readFailed ch i j false).raNext j.ra).pumpSilt) := by
  change execPromotionDone ch bad bad2 s = _
  simp only [execPromotionDone, hjob, hkind, hread, if_true]
  cases j.freed <;> rfl

theorem exec_cellReadDone_fails {second : Bool} (hkind : j.kind = .read)
    (hread : s.fixSectors ch bad (if j.wide then bad2 else []) = (t, some second)) :
    exec (.cellReadDone ch bad bad2) s = .next (t.readFailed ch i j second).pumpSilt := by
  change execCellReadDone ch bad bad2 s = _
  simp only [execCellReadDone, hjob, hkind, hread, if_true]

theorem exec_cellReadDone (hkind : j.kind = .read) (hneeded : j.freed = false ∨ j.reader = .remove)
    (hread : s.fixSectors ch bad (if j.wide then bad2 else []) = (t, none)) :
    exec (.cellReadDone ch bad bad2) s = .next ((t.dropJob ch i).serveReader j.page j.reader).pumpSilt := by
  change execCellReadDone ch bad bad2 s = _
  have hserve : (j.freed && decide (j.reader ≠ .remove)) = false := by
    rcases hneeded with h | h <;> simp [h]
  simp only [execCellReadDone, hjob, hkind, hread, hserve, if_true, Bool.false_eq_true, if_false]

theorem exec_cellReadFail (second : Bool) :
    exec (.cellReadFail ch second) s = .next ((s.readFailed ch i j second).raNext j.ra).pumpSilt := by
  change execCellReadFail ch second s = _
  simp only [execCellReadFail, hjob]

end

/-- A page that is read from its cell lies in both tiers, at the frame its promotion took (R225). -/
theorem promoted_page {s : State} {ch i : Nat} {j : ChanJob} (hfreed : j.freed = false) (hvalid : s.store.valid j.page = true)
    (htier : (s.store.pent j.page).tier = .silt) (hslot : (s.store.pent j.page).frame = 0) (hnone : s.restore? j.page = none) :
    ∃ v : State, s.promoted ch i j = v.siltWaiters ∧
      v.store.pent j.page = { s.store.pent j.page with tier := .both, frame := j.frame, sidx := 0 } := by
  have hpent : (s.dropJob ch i).store.pent j.page = s.store.pent j.page := rfl
  have hvalid' : (s.dropJob ch i).store.valid j.page = true := hvalid
  have hnone' : (s.dropJob ch i).restore? j.page = none := hnone
  have htest : ¬ Tier.silt ≠ .silt := by decide
  simp only [promoted, hfreed, hpent, hvalid', hnone', htier, hslot, htest, decide_false, Bool.not_true, Bool.or_false,
    Option.isSome_none, Bool.false_eq_true, if_false, Store.dropSummaryFrame_zero]
  refine ⟨_, rfl, ?_⟩
  refine (Store.pent_of_pmap (st := (s.dropJob ch i).store.setPent j.page { s.store.pent j.page with
    tier := .both, frame := j.frame, sidx := 0 }) ?_ _).trans
    (Store.pent_setPent _ _ (Store.ne_default_of_tier (nofun : Tier.both ≠ .free)))
  simp only [count_store, updStore]
  split <;> simp only [Store.raiseCell_pmap]

/-! A cell read that failed (R230). -/

theorem startRestore_store (s : State) (p : Nat) :
    (s.startRestore p).store = s.store ∨ (s.startRestore p).store = (s.dropUnread p).store := by
  by_cases hstarts : s.store.valid p = true ∧ s.restore? p = none
  · obtain ⟨hvalid, hnone⟩ := hstarts
    obtain ⟨asked, hstore, -⟩ := startRestore_sendsOnly s p hvalid hnone
    exact Or.inr hstore
  · refine Or.inl (congrArg State.store (if_pos ?_))
    rw [not_and_or, Bool.not_eq_true, ← ne_eq, Option.ne_none_iff_isSome] at hstarts
    rcases hstarts with h | h
    · rw [h, Bool.not_false, Bool.or_true]
    · rw [h, Bool.true_or]

theorem startRestore_only (s : State) (p : Nat) :
    (s.startRestore p).store = { s.store with chans := (s.startRestore p).store.chans } := by
  rcases startRestore_store s p with h | h
  · rw [h]
  · rw [h]
    rfl

theorem startRestore_restores {s : State} {p : Nat} (hvalid : s.store.valid p = true) :
    ((s.startRestore p).restore? p).isSome = true := by
  by_cases hnone : s.restore? p = none
  · obtain ⟨asked, -, -, hrel, -⟩ := startRestore_sendsOnly s p hvalid hnone
    rw [restore?_of_restores (congrArg RelSt.restores hrel)]
    exact restore?_setRestore _ { page := p, asked := asked }
  · have hunder : (s.restore? p).isSome = true := Option.ne_none_iff_isSome.mp hnone
    rw [startRestore, hunder]
    exact hunder

@[simp] theorem addReader_store (s : State) (p : Nat) (r : Reader) : (s.addReader p r).store = s.store := by
  unfold addReader
  split <;> rfl

theorem addReader_restores {s : State} {p : Nat} (r : Reader) (h : (s.restore? p).isSome = true) :
    ((s.addReader p r).restore? p).isSome = true := by
  obtain ⟨x, hx⟩ := Option.isSome_iff_exists.mp h
  rw [addReader, hx]
  obtain rfl : x.page = p := restore?_page hx
  exact restore?_setRestore s { x with readers := x.readers ++ [r] }

/-- The state of a failed read before its page is restored: the cell is retired and the job has left its channel. -/
def readDropped (s : State) (ch i : Nat) (j : ChanJob) (k : Nat) : State :=
  let s := s.updStore (fun st => st.setCell k { st.cell k with state := .retired })
  let s := (((s.dropJob ch i).count .stCntReadfail ch 1).pred 3 ch 1 1).pred 3 ch 3 1
  if j.kind = .promote then s.updStore (fun st => st.freeFrameAt (pagePc j.page) j.frame j.wide) else s

theorem readFailed_own {s : State} {ch i k : Nat} {j : ChanJob} {second : Bool}
    (hk : k = ch * 2 ^ 26 + j.cell + if second && j.wide then 1 else 0)
    (hown : (s.store.cell k).state = .free ∨ (s.store.cell k).page = j.page) :
    s.readFailed ch i j second =
      let t := s.readDropped ch i j k
      if (j.freed && decide (j.reader ≠ .remove)) || !t.store.valid j.page then t
      else if (t.store.pent j.page).tier = .silt then (t.startRestore j.page).addReader j.page j.reader
      else t.serveReader j.page j.reader := by
  have hmine : (decide ((s.store.cell k).state = .free) || (s.store.cell k).page == j.page) = true := by simpa using hown
  rw [hk] at hmine ⊢
  simp only [readFailed, hmine, if_true]
  rfl

theorem readDropped_leaves (s : State) (ch i : Nat) (j : ChanJob) (k : Nat) :
    ((s.readDropped ch i j k).store.cell k).state = .retired ∧ (s.readDropped ch i j k).store.pmap = s.store.pmap := by
  have hcell := congrArg SiltCell.state (Store.cell_setCell (x := { s.store.cell k with state := .retired }) s.store k
    (Store.ne_default_of_state (by simp)))
  unfold readDropped
  dsimp only
  split
  · rw [updStore, Store.freeFrameAt_only]
    exact ⟨hcell, rfl⟩
  · exact ⟨hcell, rfl⟩

theorem readFailed_restores {s : State} {ch i k : Nat} {j : ChanJob} {second : Bool}
    (hk : k = ch * 2 ^ 26 + j.cell + if second && j.wide then 1 else 0)
    (hown : (s.store.cell k).state = .free ∨ (s.store.cell k).page = j.page) (hfreed : j.freed = false)
    (hvalid : s.store.valid j.page = true) (htier : (s.store.pent j.page).tier = .silt) :
    let t := s.readFailed ch i j second
    (t.store.cell k).state = .retired ∧ (t.restore? j.page).isSome = true ∧ t.store.pmap = s.store.pmap := by
  intro t
  obtain ⟨hcell, hpmap⟩ := readDropped_leaves s ch i j k
  have hpent := Store.pent_of_pmap hpmap j.page
  have hvalid' : (s.readDropped ch i j k).store.valid j.page = true := by
    rw [Store.valid, hpent]
    exact hvalid
  have ht : t = ((s.readDropped ch i j k).startRestore j.page).addReader j.page j.reader := by
    simp only [t, readFailed_own hk hown, hfreed, hvalid', hpent, htier, Bool.false_and, Bool.not_true, Bool.or_self,
      Bool.false_eq_true, if_false, if_true]
  rw [ht, addReader_store, startRestore_only]
  exact ⟨hcell, addReader_restores _ (startRestore_restores hvalid'), hpmap⟩

/-! A channel that goes down (R232). -/

/-- A channel that is down in the first state is down in the second. -/
def StaysDown (ch : Nat) (s t : State) : Prop := (s.store.chan ch).down = true → (t.store.chan ch).down = true

theorem staysDown_of_chans {s t : State} (ch : Nat) (h : t.store.chans = s.store.chans) : StaysDown ch s t := by
  rw [StaysDown, Store.chan, Store.chan, h]
  exact id

theorem StaysDown.trans {ch : Nat} {s t u : State} (hst : StaysDown ch s t) (htu : StaysDown ch t u) : StaysDown ch s u :=
  htu ∘ hst

theorem StaysDown.foldl {α : Type} {ch : Nat} {f : State → α → State} (hf : ∀ q x, StaysDown ch q (f q x)) (s : State)
    (xs : List α) : StaysDown ch s (xs.foldl f s) :=
  foldl_keeps (p := StaysDown ch s) (fun q x hq => hq.trans (hf q x)) id xs

theorem down_setChan {x : Chan} (st : Store) (ch : Nat) (h : x.down = true) : ((st.setChan ch x).chan ch).down = true := by
  have hne : x ≠ {} := by
    rintro rfl
    exact absurd h (by decide)
  rw [Store.chan, Store.setChan, SMap.get_set_of_ne _ _ _ _ hne]
  exact h

/-- More work for a channel. -/
theorem updChan_staysDown (s : State) (ch k : Nat) {g : Chan → Chan} (hg : ∀ x : Chan, (g x).down = x.down) :
    StaysDown ch s (s.updStore (fun st => st.updChan k g)) := by
  intro hdown
  by_cases hk : ch = k
  · subst hk
    exact down_setChan _ _ ((hg _).trans hdown)
  · rw [← hdown]
    exact congrArg Chan.down (SMap.get_set_ne _ _ _ _ _ hk)

/-- A change of every queue. -/
theorem mapQueues_staysDown (s : State) (ch : Nat) (f : List ChanJob → List ChanJob) (hf : f [] = []) :
    StaysDown ch s (s.updStore (fun st => { st with chans := st.chans.map (fun e => (e.1, { e.2 with queue := f e.2.queue })) })) := by
  have hread := SMap.get_map_of_default {} (fun x : Chan => { x with queue := f x.queue }) (by simp [hf]) s.store.chans ch
  exact fun hdown => (congrArg Chan.down hread).trans hdown

theorem startRestore_staysDown (s : State) (ch p : Nat) : StaysDown ch s (s.startRestore p) := by
  rcases startRestore_store s p with h | h
  · exact staysDown_of_chans ch (congrArg Store.chans h)
  · exact (mapQueues_staysDown s ch _ List.filter_nil).trans (staysDown_of_chans ch (congrArg Store.chans h))

theorem queueCopy_staysDown (s : State) (ch p cls : Nat) (release : Bool) : StaysDown ch s (s.queueCopy p cls release) := by
  unfold queueCopy
  dsimp only
  split
  · exact mapQueues_staysDown s ch _ List.map_nil
  · split
    · exact staysDown_of_chans ch rfl
    · exact updChan_staysDown s ch _ fun _ => rfl

theorem freeCopyFrame_staysDown (s : State) (ch pc f : Nat) (wide : Bool) :
    StaysDown ch s (s.updStore (fun st => st.freeFrameAt pc f wide)) :=
  staysDown_of_chans ch (Store.freeFrameAt_chans s.store pc f wide)

theorem dropJobFrame_staysDown (s : State) (ch : Nat) (j : ChanJob) : StaysDown ch s (s.dropJobFrame j) := by
  unfold dropJobFrame
  split
  · exact staysDown_of_chans ch (Store.dropKept_chans s.store j.page)
  · exact freeCopyFrame_staysDown s ch _ _ _

/-- A copy on a channel that goes down leaves its cells free. -/
theorem stopCopy_staysDown (s : State) (ch : Nat) (j : ChanJob) :
    StaysDown ch s (if j.started then s.updCells ch j (fun _ => {}) else s) := by
  split
  · exact staysDown_of_chans ch (updCells_chans s ch j _)
  · exact id

/-- It begins again on another channel, or gives up the frame of a page freed meanwhile. -/
theorem copyLeaves_staysDown (s : State) (ch : Nat) (j : ChanJob) :
    StaysDown ch s (if j.freed then s.dropJobFrame j else s.queueCopy j.page j.cls j.release) := by
  split
  · exact dropJobFrame_staysDown s ch j
  · exact queueCopy_staysDown s ch _ _ _

theorem foldl_dropSummaryFrame_chans {α : Type} (pc : Nat) (f : α → Nat) (st : Store) (xs : List α) :
    (xs.foldl (fun t y => t.dropSummaryFrame pc (f y)) st).chans = st.chans :=
  List.foldlRecOn (motive := fun t => t.chans = st.chans) _ _ rfl fun t ht y _ =>
    (Store.dropSummaryFrame_chans t pc (f y)).trans ht

theorem chanDown_down (s : State) (ch : Nat) : ((s.chanDown ch).store.chan ch).down = true := by
  have hfirst (x : Chan) (hx : x.down = true) :
      ((((s.updStore (fun st => st.setChan ch x)).stFault ch 1).broadcast evSiltDown (2 ^ ch)).store.chan ch).down = true := by
    obtain ⟨hstore, -⟩ := broadcast_sendsOnly ((s.updStore (fun st => st.setChan ch x)).stFault ch 1) evSiltDown (2 ^ ch)
    rw [hstore, stFault_store]
    exact down_setChan _ _ hx
  unfold chanDown
  dsimp only
  refine StaysDown.foldl (fun q j => ?_) _ _ (StaysDown.foldl (fun q p => ?_) _ _ (hfirst _ rfl))
  · split
    · exact (stopCopy_staysDown q ch j).trans (copyLeaves_staysDown _ ch j)
    · refine StaysDown.trans ?_ (staysDown_of_chans ch (congrArg Store.chans (addReader_store _ _ _)))
      split
      · exact freeCopyFrame_staysDown q ch _ _ _
      · exact id
  · split
    · exact staysDown_of_chans ch (foldl_dropSummaryFrame_chans _ _ _ _)
    · exact startRestore_staysDown q ch p

theorem exec_channelDown {s : State} {ch : Nat} (hch : ch < s.chanCount) (hup : (s.store.chan ch).down = false) :
    exec (.channelDown ch) s = .next (s.chanDown ch).pumpSilt := by
  refine congrArg Host.Outcome.next (if_pos ⟨hch, ?_⟩)
  rw [hup]
  rfl

end Sys2Proof.Machine.State

namespace Sys2Proof.Machine

open State

/-- Settles O34, command by command: what each does at once, and what it leaves of the page and its cells. -/
theorem siltMovesPages : Obligations.SiltMovesPages := by
  refine ⟨fun s pc => ⟨rfl, hinted_nothing, pressure_nothing⟩, fun s ch used spare i second j hjob hfreed => ?programs,
    fun s p hqueued hvalid htier hblocked hwanted hstate hslots => ?release, fun s ch i bad bad2 j hjob => ?reads,
    fun s ch hch hup => ⟨exec_channelDown hch hup, chanDown_down s ch⟩⟩
  case programs =>
    refine ⟨⟨?_, ?_⟩, fun hrelease => ?_, ?_⟩
    · exact exec_cellProgramDone hjob true second used spare
    · exact exec_cellProgramDone hjob false second used spare
    · obtain ⟨hpent, hdram, hcell⟩ := programOk_leaves (s.noteWear ch used spare) ch i hfreed hrelease
      rw [noteWear_store] at hpent hdram hcell
      dsimp only
      rw [hpent, hdram, hcell]
      exact ⟨rfl, rfl, rfl, rfl, rfl, rfl⟩
    · obtain ⟨hcell, hpmap, hdram⟩ := programFail_leaves (s.noteWear ch used spare) ch i second hfreed
      rw [noteWear_store] at hpmap hdram
      exact ⟨hcell, hpmap, hdram⟩
  case release =>
    refine ⟨s.releaseFrame p, exec_frameRelease hqueued hvalid htier hblocked hwanted, ?_⟩
    rw [releaseFrame_unsealed hstate hslots]
    exact s.store.released_leaves p
  case reads =>
    refine ⟨fun second hread => ⟨fun hkind => ?_, fun hkind => ?_⟩, fun hread => ⟨fun hkind => ?_, fun hkind hneeded => ?_⟩,
      fun hfreed hvalid htier hslot hnone => ?_, fun second => ⟨exec_cellReadFail hjob second, fun hown hfreed hvalid htier => ?_⟩⟩
    · exact exec_promotionDone_fails hjob hkind (Prod.ext rfl hread)
    · exact exec_cellReadDone_fails hjob hkind (Prod.ext rfl hread)
    · exact exec_promotionDone hjob hkind (Prod.ext rfl hread)
    · exact exec_cellReadDone hjob hkind hneeded (Prod.ext rfl hread)
    · obtain ⟨v, hpromoted, hpent⟩ := promoted_page (ch := ch) (i := i) hfreed hvalid htier hslot hnone
      refine ⟨v, hpromoted, ?_⟩
      rw [hpent]
      exact ⟨rfl, rfl, rfl⟩
    · exact readFailed_restores rfl hown hfreed hvalid htier

end Sys2Proof.Machine
end

section
/-! PROOFS. The rows of the CAM, and OPEN_CONV: the row written for a new conversation, its record, and how a confirmed one ends
(R243, R244, R250, R281). -/

namespace Sys2Proof.Machine.Store

/-- Writes of streams leave every record alone. -/
theorem root_foldl_setStream (st : Store) (a b : Nat) (g : Nat → Stream) (is : List Nat) :
    (is.foldl (fun (t : Store) i => t.setStream a i (g i)) st).root b = st.root b :=
  List.foldlRecOn (motive := fun t : Store => t.root b = st.root b) _ _ rfl fun _ ht _ _ => ht

end Sys2Proof.Machine.Store

namespace Sys2Proof.Machine.Cam

/-! What a row holds after a write. -/

theorem row_setRow_ne (c : Cam) {i j : Nat} (r : CamRow) (h : j ≠ i) : (c.setRow i r).row j = c.row j :=
  SMap.get_set_ne _ _ _ _ _ h

theorem row_setRow_of_ne (c : Cam) (i : Nat) {r : CamRow} (h : r ≠ {}) : (c.setRow i r).row i = r :=
  SMap.get_set_of_ne _ _ _ _ h

/-- The row that holds an entry, its array part equal to its shadow (R250). -/
def entryRow (e : CamEntry) : CamRow := ⟨true, e.value, e.care, true, e.value, e.care, e.data, rankOf e.care, false⟩

theorem entryRow_ne_default (e : CamEntry) : entryRow e ≠ {} := fun h => Bool.noConfusion (congrArg CamRow.aValid h)

/-- Insertion writes one row; beside the rows it writes the directory alone. -/
theorem put_row (c : Cam) (i j : Nat) (e : CamEntry) : (c.put i e).row j = (c.setRow i (entryRow e)).row j := by
  unfold put
  dsimp only
  split <;> rfl

theorem put_row_same (c : Cam) (i : Nat) (e : CamEntry) : (c.put i e).row i = entryRow e :=
  (put_row c i i e).trans (row_setRow_of_ne c i (entryRow_ne_default e))

theorem put_row_ne (c : Cam) {i j : Nat} (e : CamEntry) (h : j ≠ i) : (c.put i e).row j = c.row j :=
  (put_row c i j e).trans (row_setRow_ne c _ h)

end Sys2Proof.Machine.Cam

namespace Sys2Proof.Machine.State

/-- The record of a member of no group is sent to the partner, and its slot waits to clear PEND (R250 steps 4 and 5). -/
theorem openMirror_sent {s v : State} {n a : Nat} {r : Root} (hroot : s.store.root a = some r) (hgroup : r.groupLedger = 0)
    (hsent : s.mirrorSend r.ctx r.conv 0 0 { op := opMopen, grp := r.group } (s.store.recordBytes a r) (.rows n 0) = some v) :
    s.openMirror n a = v.updSlot n (fun y => { y with waits := y.waits + 1, prog := .confirm stDone [] (.openConv a) }) := by
  simp only [openMirror, hroot, hsent, hgroup, if_true]

/-- An OPEN_CONV that joins no group and brings no pattern writes its entry at the free row and its streams under the new record,
then mirrors it (R250, R281 step 8). -/
theorem openInsert_made {s u : State} {n i a : Nat} {q : OpenReq} {st : Store} (hpats : q.pats = [])
    (hmiss : s.camSearch (searchSlot n) (reqKey (s.slot n).hdr) 0 0 = (u, .miss))
    (hfree : u.cam.freeRow u.ordRuns u.camTotal = some i) {r : Root}
    (hr : r = { conv := (s.slot n).hdr.conv, ctx := (s.slot n).hdr.ctx, group := (s.slot n).hdr.flag flagGroup, kvfmt := q.kvfmt,
                dim := q.dim, layers := q.layers, kvhs := q.kvhs, headSet := q.headSet, firstPage := q.firstPage,
                pageLimit := q.pageLimit, groupLedger := 0, originNode := u.node })
    (hmake : u.store.makeRecord (u.ctxPcs (s.slot n).hdr.ctx) r = some (st, a)) :
    s.openInsert n q none = (({ u with
        store := (List.range (Store.nstreams r)).foldl (fun (t : Store) k => t.setStream a k
          { length := q.firstPage * tokensPerPage q.kvfmt, basepos := q.firstPage * tokensPerPage q.kvfmt }) st
        cam := u.cam.put i ⟨reqKey (s.slot n).hdr, allCare, assoc a (u.sliceOf (s.slot n).hdr.ctx) true false false⟩ } :
      State).count .lcCntInsert 0 1).openMirror n a := by
  subst hr
  unfold openInsert
  dsimp only [Option.getD_none]
  rw [hmiss]
  dsimp only
  rw [hfree]
  dsimp only
  rw [hmake]
  dsimp only
  rw [hpats, List.map_nil, insertJoins]

/-- A request whose changes the partner has confirmed clears PEND and is answered (R250 step 5). -/
theorem slotConfirmed_openConv {s : State} {n a : Nat} (hprog : (s.slot n).prog = .confirm stDone [] (.openConv a))
    (hfailed : (s.slot n).failed = false) : s.slotConfirmed n = (s.clearPend a).complete n stDone [] := by
  unfold slotConfirmed
  dsimp only
  rw [hprog]
  dsimp only
  rw [hfailed]
  rfl

end Sys2Proof.Machine.State

namespace Sys2Proof.Machine

open State

/-- Settles O24: the insertion by its steps, the row by what a write of the CAM reads back, and the end of the wait. -/
theorem openConvMakesEntryAndRecord : Obligations.OpenConvMakesEntryAndRecord := by
  refine ⟨?inserted, fun c i e => ⟨c.put_row_same i e, fun j => c.put_row_ne e⟩, ?confirmed⟩
  case inserted =>
    intro s u v n i a tab st x q r hpats hmiss hfree hmake hroot w e made hsent
    refine (openInsert_made hpats hmiss hfree rfl hmake).trans (openMirror_sent (r := { r with streamTab := tab }) ?_ rfl hsent)
    rw [count_store]
    dsimp only
    rw [Store.root_foldl_setStream]
    exact hroot
  case confirmed =>
    rintro s n a x rfl hprog hfailed
    exact slotConfirmed_openConv hprog hfailed

end Sys2Proof.Machine
end

section
/-! PROOFS. Responses and requests of the module's own: what sending leaves of the requests outstanding, and how a relayed request is
answered and sent again (R289, R291, R299, R301, R463). -/

namespace Sys2Proof.Machine.State

/-! Sending leaves the requests of the module's own as they are. -/

theorem raiseIrq_own (s : State) (c cause : Nat) : (s.raiseIrq c cause).own = s.own := by
  unfold raiseIrq
  dsimp only
  split
  · rfl
  · split
    · rw [requestMsix_sameButMsix _ _ _]
      rfl
    · rfl

theorem checkDrained_own (s : State) (c : Nat) : (s.checkDrained c).own = s.own := by
  unfold checkDrained
  dsimp only
  split
  · exact raiseIrq_own _ _ _
  · rfl

theorem advance_own (n o : Nat) (s : State) : (advance n o s).own = s.own := by
  induction n generalizing s with
  | zero => rfl
  | succ n ih =>
    rw [advance]
    split
    · rfl
    · split
      · exact ih _
      · split
        · split
          · exact ih _
          · rfl
        · rfl

theorem resolve_own (s : State) (o q status : Nat) : (s.resolve o q status).own = s.own := by
  unfold resolve
  split
  · rfl
  · exact advance_own _ _ _

theorem freeSlot_own (s : State) (n : Nat) : (s.freeSlot n).own = s.own := by
  unfold freeSlot
  refine (checkDrained_own _ _).trans ?_
  split
  · rfl
  · exact resolve_own _ _ _ _

theorem carrierLeft_own (s : State) (n : Nat) : (s.carrierLeft n).own = s.own := by
  unfold carrierLeft
  split
  · exact freeSlot_own s n
  · rfl

theorem pumpLink_own (n l : Nat) (s : State) : (pumpLink n l s).own = s.own := by
  induction n generalizing s with
  | zero => rfl
  | succ n ih =>
    rw [pumpLink]
    split
    · refine (ih _).trans (List.foldlRecOn (motive := fun q : State => q.own = s.own) _ _ rfl fun q hq it _ => ?_)
      split
      · exact (carrierLeft_own q _).trans hq
      · exact hq
    · rfl

theorem pumpFurrow_own (n f : Nat) (s : State) : (pumpFurrow n f s).own = s.own := by
  induction n generalizing s with
  | zero => rfl
  | succ n ih =>
    rw [pumpFurrow]
    split
    · rfl
    · split
      · rfl
      · split
        · rfl
        · refine (ih _).trans ((pumpLink_own 512 _ _).trans ?_)
          split <;> rfl

theorem sendItem_own (s : State) (it : TxItem) : (s.sendItem it).own = s.own := pumpFurrow_own _ _ _

theorem pumpGate_own (n : Nat) (start : Bool) (f cls : Nat) (s : State) : (pumpGate n start f cls s).own = s.own := by
  induction n generalizing s with
  | zero => rfl
  | succ n ih =>
    have hstart : ∀ (q : State) (b : Bool) g it, q.own = s.own →
        (if b = true then pumpGate n start f cls ((q.updFurrow f g).sendItem it) else q).own = s.own := by
      intro q b g it hq
      cases b
      · exact hq
      · exact (ih _).trans ((sendItem_own _ it).trans hq)
    rw [pumpGate]
    split
    · rfl
    · split
      · refine hstart _ _ _ _ ?_
        split <;> rfl
      · rfl

theorem sendGated_own (s : State) (cls : Nat) (it : TxItem) : (s.sendGated cls it).own = s.own := by
  unfold sendGated
  refine (pumpGate_own _ _ _ _ _).trans ?_
  split <;> rfl

theorem sendCarrier_own (s : State) (c : Nat) (cls : Option Nat) (fence : Bool) (slot : Option Nat) (h : Hdr) (seg : Bytes) :
    (s.sendCarrier c cls fence slot h seg).own = s.own := by
  unfold sendCarrier
  split
  · dsimp only
    split
    · exact sendGated_own _ _ _
    · exact sendItem_own _ _
  · split
    · exact carrierLeft_own s _
    · rfl

theorem sendPayload_own (s : State) (c : Nat) (cls slot : Option Nat) (h : Hdr) (body : Bytes) :
    (s.sendPayload c cls slot h body).own = s.own :=
  List.foldlRecOn (motive := fun q : State => q.own = s.own) _ _ rfl fun q hq _ _ => (sendCarrier_own q _ _ _ _ _ _).trans hq

/-! The response of a slot leaves (R289, R291). -/

theorem exec_responseSend_aperture {s : State} {slot v : Nat} (hstate : (s.slot slot).state = .respond)
    (hformed : (s.slot slot).formed = true) (hsent : (s.slot slot).sent = 0) (hsrc : (s.slot slot).src = .aperture v) :
    exec (.responseSend slot) s = .next ((s.updSlot slot (fun y => { y with sent := 1 })).sendResponse (s.slot slot).src
      (s.slot slot).respHdr (s.slot slot).resp (some slot)) := by
  change execResponseSend slot s = _
  simp only [execResponseSend, hstate, hformed, hsent, hsrc, and_self, if_true]

theorem exec_responseSend_conn {s : State} {slot c : Nat} (hstate : (s.slot slot).state = .respond)
    (hformed : (s.slot slot).formed = true) (hsent : (s.slot slot).sent = 0) (hsrc : (s.slot slot).src = .conn c) :
    exec (.responseSend slot) s = .next ((((s.updSlot slot (fun y => { y with
      sent := carriersOf (s.slot slot).resp.length })).count .rqCntResp 0 1).sendResponse (s.slot slot).src (s.slot slot).respHdr
      (s.slot slot).resp (some slot)).relaySample (s.slot slot).hdr) := by
  change execResponseSend slot s = _
  simp only [execResponseSend, hstate, hformed, hsent, hsrc, and_self, if_true]

/-! A relayed request is answered (R301). -/

/-- A slot whose response is formed: it stands at RESPOND with a status and a body, and nothing else of slots and store changes. -/
def Answered (s : State) (n status : Nat) (body : Bytes) (t : State) : Prop :=
  (t.slot n).state = .respond ∧ (t.slot n).formed = true ∧ (t.slot n).respHdr.status = status ∧ (t.slot n).resp = body ∧
    t.store = s.store ∧ ∀ m, m ≠ n → t.slot m = s.slot m

/-- A formed response written to its slot. -/
theorem answered_setSlot {s q : State} {n : Nat} {y : Slot} (hslots : q.slots = s.slots) (hstore : q.store = s.store)
    (hstate : y.state = .respond) (hformed : y.formed = true) : Answered s n y.respHdr.status y.resp (q.setSlot n y) := by
  have hslot : (q.setSlot n y).slot n = y := slot_setSlot q n y (slot_ne_default (by rw [hstate]; decide))
  rw [Answered, hslot]
  exact ⟨hstate, hformed, rfl, rfl, hstore, fun m hm => (slot_setSlot_ne q n m y hm).trans (slot_of_slots hslots m)⟩

theorem complete_answered (s : State) (n status : Nat) (body : Bytes) :
    Answered s n status (if status = stDone then body else []) (s.complete n status body) := by
  unfold complete
  dsimp only
  refine answered_setSlot ?_ ?_ rfl rfl <;> split <;> rfl

theorem completeEcho_answered (s : State) (n status : Nat) : Answered s n status [] (s.completeEcho n status) :=
  answered_setSlot rfl rfl rfl rfl

/-- An answered request of the module's own is outstanding no longer. -/
def withoutOwn (s : State) (o : OwnReq) : State :=
  { s with own := s.own.filter (fun x => !(x.dest == o.dest && x.hdr.seq == o.hdr.seq && x.sent)) }

theorem ownAnswered_forwarded {s : State} {o : OwnReq} (h : Hdr) (body : Bytes) (hshadow : o.shadow = none)
    (hstate : (s.slot o.slot).state = .forwarded) :
    s.ownAnswered o h body = if h.kind = kEcho then ((s.withoutOwn o).count .rqCntEcho 0 1).completeEcho o.slot h.status
      else (s.withoutOwn o).complete o.slot h.status body := by
  unfold ownAnswered
  dsimp only
  rw [hshadow]
  exact if_pos hstate

/-- The answer to a relayed request of a slot still FORWARDED completes it, by an ECHO where the holder sent one. -/
theorem ownAnswered_answered {s : State} {o : OwnReq} (h : Hdr) (body : Bytes) (hshadow : o.shadow = none)
    (hstate : (s.slot o.slot).state = .forwarded) :
    Answered s o.slot h.status (if h.status = stDone ∧ h.kind ≠ kEcho then body else []) (s.ownAnswered o h body) := by
  rw [ownAnswered_forwarded h body hshadow hstate]
  by_cases hkind : h.kind = kEcho
  · rw [if_pos hkind, if_neg fun hboth => hboth.2 hkind]
    exact completeEcho_answered _ _ _
  · rw [if_neg hkind]
    simp only [hkind, ne_eq, not_false_eq_true, and_true]
    exact complete_answered _ _ _ _

theorem exec_relayedResponse {s : State} {conn : Nat} {hdr : Hdr} {o : OwnReq} (body : Bytes) (hown : s.ownFor conn hdr = some o) :
    exec (.relayedResponse conn hdr body) s = .next (s.unlessOut (s.ownAnswered o hdr body)) := by
  change execRelayedResponse conn hdr body s = _
  rw [execRelayedResponse, hown]

theorem unlessOut_out {s : State} (t : State) (h : s.rel.svc = .out) : s.unlessOut t = s.count .rsDropOut 0 1 := if_pos h
theorem unlessOut_in {s : State} (t : State) (h : s.rel.svc ≠ .out) : s.unlessOut t = t := if_neg h

/-! What is late is sent again (R299). -/

theorem sendsRequests_iff (s : State) : s.sendsRequests = true ↔ s.rel.svc ≠ .withdrawing ∧ s.rel.svc ≠ .out := by
  simp [sendsRequests]

/-- A connection toward a node is found only while requests are sent (R463). -/
theorem sendsRequests_of_peerConn {s : State} {c dest k : Nat} (h : s.peerConn c dest = some k) : s.sendsRequests = true := by
  obtain ⟨e, hfind, -⟩ := Option.map_eq_some_iff.mp h
  have hpass := List.find?_some hfind
  simp only [Bool.and_eq_true] at hpass
  obtain ⟨⟨⟨⟨⟨hsends, -⟩, -⟩, -⟩, -⟩, -⟩ := hpass
  exact hsends

theorem getAt_of_getElem? {α : Type} {d x : α} {l : List α} {i : Nat} (h : l[i]? = some x) : getAt d l i = x := by
  rw [getAt, h, Option.getD_some]

theorem setAt_eq_set {α : Type} (l : List α) (i : Nat) (x : α) : setAt l i x = l.set i x := by
  induction l generalizing i with
  | nil => rfl
  | cons y t ih =>
    cases i with
    | zero => rfl
    | succ i => exact congrArg (y :: ·) (ih i)

theorem exec_ownRequestResend_marker {s : State} {i : Nat} {m : SentMarker} (hlisted : s.sentMarkers[i]? = some m)
    (hlate : m.since + s.e2e m.furrow ≤ s.hubUnits) (hopen : (s.conn m.conn).state = .opn) (hsends : s.sendsRequests = true) :
    exec (.ownRequestResend (s.own.length + i)) s = .next (({ s with
      sentMarkers := setAt s.sentMarkers i { m with furrow := s.connFurrow m.conn, since := s.hubUnits } } : State).sendCarrier
        m.conn none true none s.markerHdr (markerBody m.mtype m.arg)) := by
  change execOwnRequestResend _ s = _
  obtain ⟨hlt, -⟩ := List.getElem?_eq_some_iff.mp hlisted
  have hm : getAt {} s.sentMarkers i = m := getAt_of_getElem? hlisted
  rw [execOwnRequestResend, if_neg fun hboth => absurd hboth.1 (by omega), if_pos (Nat.le_add_right _ _), Nat.add_sub_cancel_left,
    resendMarker, hm, if_pos ⟨hsends, hlt, hlate, hopen⟩]

/-- A request sent again goes out under the sequence it has, in the epoch in effect (log entry 176). -/
theorem sendOwn_again {s : State} {o : OwnReq} {k : Nat} {d : Dest} (hsent : o.sent = true)
    (hconn : s.peerConn o.hdr.ctx o.dest = some k) (hdest : s.dest? o.dest = some d) :
    s.sendOwn o = (s.sendPayload k (some 3) none { o.hdr with origin := s.node, epoch := s.img.epoch } o.body,
      { o with hdr := { o.hdr with origin := s.node, epoch := s.img.epoch }, since := s.hubUnits, furrow := s.connFurrow k }) := by
  simp only [sendOwn, hconn, hdest, hsent, if_true]

theorem exec_ownRequestResend {s : State} {i : Nat} {o : OwnReq} (hlisted : s.own[i]? = some o) (hsent : o.sent = true)
    (hlate : o.since + s.e2e o.furrow ≤ s.hubUnits) (hsends : s.sendsRequests = true) :
    exec (.ownRequestResend i) s = .next { (s.sendOwn o).1 with own := setAt (s.sendOwn o).1.own i (s.sendOwn o).2 } := by
  change execOwnRequestResend i s = _
  obtain ⟨hlt, -⟩ := List.getElem?_eq_some_iff.mp hlisted
  have ho : getAt {} s.own i = o := getAt_of_getElem? hlisted
  rw [execOwnRequestResend, ho]
  exact if_pos ⟨hlt, hsends, hsent, hlate⟩

/-! The rebalancer (R258). -/

theorem exec_rebalance {s : State} {run : Nat} (hrebuild : s.cam.rebuild = false) (hfull : s.cam.fullRun s.ordRuns = some run) :
    exec .rebalance s = .next (({ s with cam := (s.cam.rebalance s.ordRuns run).1 } : State).count .lcCntMoves 0
      (s.cam.rebalance s.ordRuns run).2).resumeInserts := by
  change execRebalance s = _
  simp only [execRebalance, hrebuild, Bool.false_eq_true, if_false, hfull]

end Sys2Proof.Machine.State

namespace Sys2Proof.Machine

open State

/-- Settles O29, command by command; sending leaves the list of own requests alone, so the entry sent again is still there to
renew. -/
theorem responsesAndOwnRequests : Obligations.ResponsesAndOwnRequests := by
  refine ⟨?responds, fun s conn hdr body o hown hshadow hforwarded hsvc => ?answered,
    fun s conn hdr body o hown hsvc => ?discarded, fun s i m hlisted hlate hopen hout hwithdrawing => ?marker, ?resent,
    fun s run hrebuild hfull => exec_rebalance hrebuild hfull⟩
  case responds =>
    intro s slot x hstate hformed hsent
    exact ⟨fun v hsrc => exec_responseSend_aperture hstate hformed hsent hsrc,
      fun c hsrc => exec_responseSend_conn hstate hformed hsent hsrc⟩
  case answered =>
    obtain ⟨hstate, hformed, hstatus, hresp, hstore, hothers⟩ := ownAnswered_answered hdr body hshadow hforwarded
    refine ⟨_, exec_relayedResponse body hown, ?_⟩
    rw [unlessOut_in _ hsvc]
    exact ⟨hstate, hformed, hstatus, hresp, hstore, hothers⟩
  case discarded => rw [exec_relayedResponse body hown, unlessOut_out _ hsvc]
  case marker =>
    exact exec_ownRequestResend_marker hlisted hlate hopen ((sendsRequests_iff s).mpr ⟨hwithdrawing, hout⟩)
  case resent =>
    intro s i k o d hlisted hsent hlate hconn hdest h
    refine ⟨_, exec_ownRequestResend hlisted hsent hlate (sendsRequests_of_peerConn hconn), ?_⟩
    rw [sendOwn_again hsent hconn hdest]
    obtain ⟨hlt, -⟩ := List.getElem?_eq_some_iff.mp hlisted
    have hrenewed : ∀ y : OwnReq, (setAt (s.sendPayload k (some 3) none h o.body).own i y)[i]? = some y := by
      intro y
      rw [setAt_eq_set, sendPayload_own, List.getElem?_set_self hlt]
    exact ⟨rfl, congrArg (Option.map _) (hrenewed _), congrArg (Option.map _) (hrenewed _)⟩

end Sys2Proof.Machine
end

section
/-! PROOFS. The scrubber, the rebuild and the privileged search port: how rows are rewritten from their shadows, what a search leaves
alone, and what the port's registers hold (R249, R261, R262, R265, R268). -/

namespace Sys2Proof.Machine.Cam

/-! A row and its shadow (R243, R261). -/

/-- The row whose array part is written from its shadow. -/
def restored (r : CamRow) : CamRow := { r with aValid := r.sValid, aValue := r.sValue, aCare := r.sCare }

theorem restored_restored (r : CamRow) : restored (restored r) = restored r := rfl

theorem rowGood_restored (r : CamRow) : rowGood (restored r) = true := by simp [rowGood, restored]

theorem restored_of_rowGood {r : CamRow} (h : rowGood r = true) : restored r = r := by
  simp only [rowGood, Bool.and_eq_true, beq_iff_eq] at h
  obtain ⟨⟨hvalid, hvalue⟩, hcare⟩ := h
  cases r
  dsimp only at hvalid hvalue hcare
  subst hvalid hvalue hcare
  rfl

/-- Rows that agree once their array parts are restored have one shadow. -/
theorem shadow_of_restored_eq {r q : CamRow} (h : restored r = restored q) :
    r.sValid = q.sValid ∧ r.sValue = q.sValue ∧ r.sCare = q.sCare ∧ r.data = q.data :=
  ⟨congrArg (·.sValid) h, congrArg (·.sValue) h, congrArg (·.sCare) h, congrArg (·.data) h⟩

theorem rewrite_eq (c : Cam) (i : Nat) : c.rewrite i = c.setRow i (restored (c.row i)) := rfl

section

variable {c : Cam} (hc : SMap.wf {} c.rows = true)
include hc

theorem row_setRow (i j : Nat) (r : CamRow) : (c.setRow i r).row j = if j = i then r else c.row j :=
  SMap.get_set _ _ _ _ _ hc

theorem wf_setRow (i : Nat) (r : CamRow) : SMap.wf {} (c.setRow i r).rows = true := SMap.wf_set _ _ _ _ hc

end

/-! Rewriting rows from their shadows. -/

/-- The second CAM comes from the first by rewriting rows of the array from their shadows. -/
def Rewritten (c d : Cam) : Prop :=
  SMap.wf {} d.rows = true ∧ ∀ i, d.row i = c.row i ∨ d.row i = restored (c.row i)

theorem Rewritten.refl {c : Cam} (hc : SMap.wf {} c.rows = true) : Rewritten c c := ⟨hc, fun _ => Or.inl rfl⟩

theorem Rewritten.wf {c d : Cam} (h : Rewritten c d) : SMap.wf {} d.rows = true := h.1

theorem Rewritten.trans {c d e : Cam} (hcd : Rewritten c d) (hde : Rewritten d e) : Rewritten c e := by
  obtain ⟨-, hd⟩ := hcd
  obtain ⟨hwf, he⟩ := hde
  refine ⟨hwf, fun i => ?_⟩
  rcases he i with h | h
  · rw [h]
    exact hd i
  · rcases hd i with h' | h' <;> rw [h, h']
    · exact Or.inr rfl
    · exact Or.inr (restored_restored _)

theorem rewrite_rewritten {c : Cam} (hc : SMap.wf {} c.rows = true) (i : Nat) : Rewritten c (c.rewrite i) := by
  refine ⟨wf_setRow hc _ _, fun j => ?_⟩
  rw [rewrite_eq, row_setRow hc]
  by_cases hj : j = i
  · rw [if_pos hj, hj]
    exact Or.inr rfl
  · rw [if_neg hj]
    exact Or.inl rfl

theorem foldl_rewrite_rewritten {c : Cam} (hc : SMap.wf {} c.rows = true) (es : List (Nat × CamRow)) :
    Rewritten c (es.foldl (fun q e => q.rewrite e.1) c) :=
  List.foldlRecOn (motive := Rewritten c) _ _ (.refl hc) fun _ hq e _ => hq.trans (rewrite_rewritten hq.wf e.1)

/-- The shadow part of a row, and its mark, stay. -/
theorem Rewritten.restored_row {c d : Cam} (h : Rewritten c d) (i : Nat) : restored (d.row i) = restored (c.row i) := by
  obtain ⟨-, hrow⟩ := h
  rcases hrow i with h | h
  · rw [h]
  · rw [h, restored_restored]

/-- A row that is marked, or whose array equals its shadow (R249, R261). -/
def Scrubbed (r : CamRow) : Prop := r.ue = false → rowGood r = true

theorem Rewritten.scrubbed {c d : Cam} (h : Rewritten c d) {i : Nat} (hi : Scrubbed (c.row i)) : Scrubbed (d.row i) := by
  obtain ⟨-, hrow⟩ := h
  rcases hrow i with h | h
  · rwa [h]
  · rw [h]
    exact fun _ => rowGood_restored _

/-! A pass of the scrubber (R261). -/

/-- The first step at a row of good shadow: the array equals the shadow after it. -/
theorem scrubFix_row {c d : Cam} {i : Nat} (hc : SMap.wf {} c.rows = true)
    (hd : d = if rowGood (c.row i) = true then c else c.rewrite i) : Rewritten c d ∧ d.row i = restored (c.row i) := by
  by_cases hgood : rowGood (c.row i) = true
  · rw [if_pos hgood] at hd
    rw [hd, restored_of_rowGood hgood]
    exact ⟨.refl hc, rfl⟩
  · rw [if_neg hgood] at hd
    rw [hd]
    refine ⟨rewrite_rewritten hc i, ?_⟩
    rw [rewrite_eq, row_setRow hc, if_pos rfl]

theorem scrubRow_rewritten (pos : Nat) (o : ScrubOut) (i : Nat) (hc : SMap.wf {} o.cam.rows = true) :
    Rewritten o.cam (scrubRow pos o i).cam ∧ Scrubbed ((scrubRow pos o i).cam.row i) := by
  unfold scrubRow
  dsimp only
  by_cases hue : (o.cam.row i).ue = true
  · rw [if_pos hue]
    exact ⟨.refl hc, fun h => absurd (hue.symm.trans h) (by decide)⟩
  · rw [if_neg hue]
    obtain ⟨hfirst, hrow⟩ := scrubFix_row (d := (if rowGood (o.cam.row i) = true then o else
      { o with cam := o.cam.rewrite i, fixes := o.fixes ++ [i] }).cam) (i := i) hc (by split <;> rfl)
    have hscrubbed : Scrubbed ((if rowGood (o.cam.row i) = true then o else
        { o with cam := o.cam.rewrite i, fixes := o.fixes ++ [i] }).cam.row i) := by
      rw [hrow]
      exact fun _ => rowGood_restored _
    split
    · have hothers := foldl_rewrite_rewritten hfirst.wf
      exact ⟨hfirst.trans (hothers _), (hothers _).scrubbed hscrubbed⟩
    · exact ⟨hfirst, hscrubbed⟩

theorem foldl_scrubRow_rewritten (pos : Nat) (es : List (Nat × CamRow)) (o : ScrubOut) (hc : SMap.wf {} o.cam.rows = true) :
    Rewritten o.cam (es.foldl (fun q e => scrubRow pos q e.1) o).cam ∧
      ∀ e ∈ es, Scrubbed ((es.foldl (fun q e => scrubRow pos q e.1) o).cam.row e.1) := by
  induction es generalizing o with
  | nil => exact ⟨.refl hc, nofun⟩
  | cons e es ih =>
    obtain ⟨hstep, hrow⟩ := scrubRow_rewritten pos o e.1 hc
    obtain ⟨hrest, hrows⟩ := ih _ hstep.wf
    refine ⟨hstep.trans hrest, fun x hx => ?_⟩
    rcases List.mem_cons.mp hx with rfl | hx
    · exact hrest.scrubbed hrow
    · exact hrows x hx

/-- After a pass every row is scrubbed, and only rewriting has happened; a row that holds nothing was good before. -/
theorem scrub_rewritten {c : Cam} (hc : SMap.wf {} c.rows = true) (pos i : Nat) :
    Scrubbed ((c.scrub pos).cam.row i) ∧ restored ((c.scrub pos).cam.row i) = restored (c.row i) := by
  obtain ⟨hrewritten, hlisted⟩ := foldl_scrubRow_rewritten pos c.rows { cam := c } hc
  refine ⟨?_, hrewritten.restored_row i⟩
  by_cases hi : i ∈ c.rows.map (·.1)
  · obtain ⟨e, he, rfl⟩ := List.mem_map.mp hi
    exact hlisted e he
  · have hempty : c.row i = {} := SMap.get_of_not_mem _ hi
    exact hrewritten.scrubbed (by rw [hempty]; exact fun _ => rfl)

theorem scrub_dir (c : Cam) (pos : Nat) : (c.scrub pos).cam.dir = (c.scrub pos).cam.rebuiltDir := rfl

/-- Upsets reach the array alone (R261). -/
theorem upsetRows_restored {c : Cam} (hc : SMap.wf {} c.rows = true) (us : List (Nat × Bool × Nat × Nat)) :
    SMap.wf {} (State.upsetRows c us).rows = true ∧ ∀ i, restored ((State.upsetRows c us).row i) = restored (c.row i) := by
  unfold State.upsetRows
  refine List.foldlRecOn (motive := fun q : Cam => SMap.wf {} q.rows = true ∧ ∀ i, restored (q.row i) = restored (c.row i)) _ _
    ⟨hc, fun _ => rfl⟩ fun q hq u _ => ?_
  obtain ⟨hwf, hrows⟩ := hq
  refine ⟨wf_setRow hwf _ _, fun i => ?_⟩
  rw [row_setRow hwf]
  by_cases hi : i = u.1
  · rw [if_pos hi, ← hrows i, hi]
    rfl
  · rw [if_neg hi]
    exact hrows i

/-! The rebuild of the rows in error (R249). -/

/-- A listed row in error loses its mark, and its array is written from its shadow. -/
def repairRow (q : Cam) (e : Nat × CamRow) : Cam :=
  if e.2.ue then (q.setRow e.1 { e.2 with ue := false }).rewrite e.1 else q

theorem repairRow_only (q : Cam) (e : Nat × CamRow) : q.repairRow e = { q with rows := (q.repairRow e).rows } := by
  unfold repairRow
  split <;> rfl

theorem foldl_repairRow_only (c : Cam) (es : List (Nat × CamRow)) :
    es.foldl repairRow c = { c with rows := (es.foldl repairRow c).rows } :=
  List.foldlRecOn (motive := fun q : Cam => q = { c with rows := q.rows }) _ _ rfl fun q hq e _ => by
    rw [repairRow_only, hq]

theorem repairRow_wf {q : Cam} (hq : SMap.wf {} q.rows = true) (e : Nat × CamRow) : SMap.wf {} (q.repairRow e).rows = true := by
  unfold repairRow
  split
  · exact (rewrite_rewritten (wf_setRow hq _ _) _).wf
  · exact hq

theorem repairRow_row {q : Cam} (hq : SMap.wf {} q.rows = true) (e : Nat × CamRow) (i : Nat) :
    (q.repairRow e).row i = if i = e.1 ∧ e.2.ue = true then restored { e.2 with ue := false } else q.row i := by
  unfold repairRow
  by_cases hue : e.2.ue = true
  · have hset := row_setRow hq e.1 (r := { e.2 with ue := false })
    rw [if_pos hue, rewrite_eq, row_setRow (wf_setRow hq _ _), hset, hset, if_pos rfl]
    by_cases hi : i = e.1 <;> simp [hi, hue]
  · rw [if_neg hue, if_neg fun h => hue h.2]

/-- Where every mark is one of the listed rows', none is left. -/
theorem foldl_repairRow_ue (es : List (Nat × CamRow)) {q : Cam} (hq : SMap.wf {} q.rows = true)
    (hmarks : ∀ i, (q.row i).ue = true → ∃ e ∈ es, e.1 = i ∧ e.2.ue = true) (i : Nat) :
    ((es.foldl repairRow q).row i).ue = false := by
  induction es generalizing q with
  | nil =>
    refine Bool.eq_false_iff.mpr fun hue => ?_
    obtain ⟨e, he, -⟩ := hmarks i hue
    cases he
  | cons e es ih =>
    refine ih (repairRow_wf hq e) fun j hj => ?_
    rw [repairRow_row hq] at hj
    by_cases hit : j = e.1 ∧ e.2.ue = true
    · rw [if_pos hit] at hj
      cases hj
    · rw [if_neg hit] at hj
      obtain ⟨x, hx, hkey, hue⟩ := hmarks j hj
      rcases List.mem_cons.mp hx with rfl | hx
      · exact absurd ⟨hkey.symm, hue⟩ hit
      · exact ⟨x, hx, hkey, hue⟩

/-- The CAM whose listed rows are repaired holds no mark. -/
theorem repaired_ue {c : Cam} (hc : SMap.wf {} c.rows = true) (i : Nat) : ((c.rows.foldl repairRow c).row i).ue = false := by
  refine foldl_repairRow_ue c.rows hc (fun j hj => ?_) i
  by_cases hlisted : j ∈ c.rows.map (·.1)
  · obtain ⟨e, he, rfl⟩ := List.mem_map.mp hlisted
    refine ⟨e, he, rfl, ?_⟩
    rwa [row, SMap.get_of_mem _ (SMap.rises_of_wf hc) he] at hj
  · rw [row, SMap.get_of_not_mem _ hlisted] at hj
    cases hj

end Sys2Proof.Machine.Cam

namespace Sys2Proof.Machine.State

/-! What a search leaves alone (R246 to R249). -/

/-- Two states that agree on everything but the CAM, counters and what the reliability blocks hold. -/
def SameButSearch (s t : State) : Prop := t = { s with cam := t.cam, ctrs := t.ctrs, rel := t.rel }

theorem SameButSearch.refl (s : State) : SameButSearch s s := rfl

theorem SameButSearch.trans {s t u : State} (hst : SameButSearch s t) (htu : SameButSearch t u) : SameButSearch s u := by
  rw [SameButSearch] at hst htu ⊢
  rw [htu, hst]

theorem count_sameButSearch (s : State) (c : Ctr) (i n : Nat) : SameButSearch s (s.count c i n) := rfl

theorem predRows_only (s : State) (ev : Nat) (rows : List Nat) :
    s.predRows ev rows = { s with rel := (s.predRows ev rows).rel } :=
  List.foldlRecOn (motive := fun q : State => q = { s with rel := q.rel }) _ _ rfl fun q hq i _ => by
    rw [pred, hq]

theorem predRows_sameButSearch (s : State) (ev : Nat) (rows : List Nat) : SameButSearch s (s.predRows ev rows) := by
  rw [predRows_only]
  rfl

theorem predRows_cam (s : State) (ev : Nat) (rows : List Nat) : (s.predRows ev rows).cam = s.cam := by
  rw [predRows_only]

/-- A counted event of rows, where there are any (R247, R248). -/
theorem countRows_sameButSearch (s : State) (ctr : Ctr) (ev : Nat) (rows : List Nat) :
    SameButSearch s (if rows.isEmpty = true then s else (s.count ctr 0 rows.length).predRows ev rows) := by
  split
  · exact .refl s
  · exact (count_sameButSearch s ctr 0 _).trans (predRows_sameButSearch _ ev rows)

theorem camSearch_sameButSearch (s : State) (who key gmask lo : Nat) : SameButSearch s (s.camSearch who key gmask lo).1 := by
  have hissued : SameButSearch s (if s.cam.waiting.contains who = true then s else s.count .lcCntSearch 0 1) := by
    split
    · exact .refl s
    · rfl
  unfold camSearch
  dsimp only
  generalize (if s.cam.waiting.contains who = true then s else s.count .lcCntSearch 0 1) = q at hissued ⊢
  refine hissued.trans ?_
  split
  · rfl
  · generalize q.cam.searchAt key gmask lo (q.rfld .lcCfg 0 20 14) = o
    have hcounted : SameButSearch q (if o.multi = true then
        ((({ q with cam := { o.cam with waiting := o.cam.waiting.erase who } } : State).count .lcCntSearch 0
          o.falseHits.length).count .lcCntPfrows 0 o.enabled).count .lcCntMulti 0 1
        else (({ q with cam := { o.cam with waiting := o.cam.waiting.erase who } } : State).count .lcCntSearch 0
          o.falseHits.length).count .lcCntPfrows 0 o.enabled) := by
      split <;> rfl
    have hrows := (hcounted.trans (countRows_sameButSearch _ .lcCntFalsehit 0 o.falseHits)).trans
      (countRows_sameButSearch _ .lcCntFalsemiss 1 o.falseMisses)
    split
    · rfl
    · split
      · exact hrows.trans (count_sameButSearch _ .lcCntHit 0 1)
      · exact hrows
      · exact hrows

/-- What a search answers, with the state it leaves. -/
theorem camSearch_leaves {s u : State} {who key gmask lo : Nat} {f : Cam.Found} (h : s.camSearch who key gmask lo = (u, f)) :
    SameButSearch s u := by
  have hsame := camSearch_sameButSearch s who key gmask lo
  rwa [h] at hsame

/-! LC_SCRUB (R261). -/

/-- A pass over every row: the CAM it leaves, and what it counts. -/
def scrubPass (s : State) (ups : List (Nat × Bool × Nat × Nat)) (stalled : Nat) : State :=
  let o := (upsetRows s.cam ups).scrub (s.rfld .lcCfg 0 20 14)
  let q := (({ s with cam := o.cam } : State).count .lcCntScrubfix 0 o.fixes.length).predRows 2 o.fixes
  ((((q.count .lcCntSearch 0 o.searches).count .lcCntHit 0 o.searches).count .lcCntMulti 0 o.multi).count .lcCntPfrows 0
    o.enabled).count .lcStallScrub 0 stalled

/-- A pass runs at once where no SCRUB_PERIOD waits for it. -/
theorem exec_lcScrub {s : State} (ups : List (Nat × Bool × Nat × Nat)) (stalled : Nat) (hrebuild : s.cam.rebuild = false)
    (hperiod : s.cam.period = none) : exec (.lcScrub ups stalled) s = .next (s.scrubPass ups stalled) := by
  change execLcScrub ups stalled s = _
  rw [execLcScrub, hrebuild, hperiod]
  rfl

theorem scrubPass_sameButSearch (s : State) (ups : List (Nat × Bool × Nat × Nat)) (stalled : Nat) :
    SameButSearch s (s.scrubPass ups stalled) := by
  have hrows : ∀ (c : Cam) (n : Nat) (rows : List Nat),
      SameButSearch s ((({ s with cam := c } : State).count .lcCntScrubfix 0 n).predRows 2 rows) := fun c n rows =>
    SameButSearch.trans (t := ({ s with cam := c } : State).count .lcCntScrubfix 0 n) rfl (predRows_sameButSearch _ 2 rows)
  unfold scrubPass
  exact (((((hrows _ _ _).trans (count_sameButSearch _ _ _ _)).trans (count_sameButSearch _ _ _ _)).trans
    (count_sameButSearch _ _ _ _)).trans (count_sameButSearch _ _ _ _)).trans (count_sameButSearch _ _ _ _)

theorem scrubPass_cam (s : State) (ups : List (Nat × Bool × Nat × Nat)) (stalled : Nat) :
    (s.scrubPass ups stalled).cam = ((upsetRows s.cam ups).scrub (s.rfld .lcCfg 0 20 14)).cam := by
  simp only [scrubPass, count_cam, predRows_cam]

/-! SHADOW_UE (R249). -/

theorem fieldMask_one (b : Nat) : fieldMask b b = wordOf (1 * 2 ^ b) := by
  rw [fieldMask, Nat.add_sub_cancel_left]
  rfl

/-- A bit that is set reads 1. -/
theorem bit_setFld (w : Word) {b : Nat} (hb : b < 64) : (w.setFld b b 1).bit b = true := by
  have hone : (wordOf (1 * 2 ^ b)).getLsbD b = true := by
    rw [wordOf, BitVec.getLsbD_ofNat, Nat.one_mul, Nat.testBit_two_pow_self, Bool.and_true, decide_eq_true hb]
  rw [Word.bit, BitVec.testBit_toNat, Word.setFld, fieldMask_one, BitVec.getLsbD_or, BitVec.and_self, hone, Bool.or_true]

theorem rbit_setBit (s : State) (r : Reg) (i : Nat) {b : Nat} (hb : b < 64) (hreset : (wordOf r.access.reset).bit b = false) :
    (s.setBit r i b).rbit r i b = true := by
  have hset := bit_setFld (s.reg r i) hb
  have hread : (s.setBit r i b).reg r i = (s.reg r i).setFld b b 1 :=
    SMap.get_set_of_ne _ _ _ _ fun heq => by rw [heq, hreset] at hset; cases hset
  rw [rbit, hread, hset]

theorem reg_rsFault_ne (s : State) (bit : Nat) {q : Reg} {j : Nat} (h : q.key j ≠ Reg.rsFault.key 0) :
    (s.rsFault bit).reg q j = s.reg q j := by
  have hrequested : ∀ t : State, (t.setBit .rsFault 0 bit).reg q j = t.reg q j := fun t => reg_setReg_ne t _ _ _ _ _ h
  rw [rsFault, reg, report_regs]
  split
  · rfl
  · rw [requestPf_regs]
    exact hrequested s

/-- A fault of the CAM stands in LC_FAULT; the store and the CAM are as they were. -/
theorem lcFault_leaves (s : State) {cs : Nat} (hcs : cs < 64) (cause index : Nat) :
    (s.lcFault cs cause index).rbit .lcFault 0 cs = true ∧ (s.lcFault cs cause index).store = s.store ∧
      (s.lcFault cs cause index).cam = s.cam := by
  have hreports := rsFault_sameButReports (s.setBit .lcFault 0 cs) 2
  have hreg : (s.lcFault cs cause index).reg .lcFault 0 = (s.setBit .lcFault 0 cs).reg .lcFault 0 :=
    (reg_setReg_ne _ _ _ _ _ _ (key_ne_of_ctorIdx (by decide) _ _)).trans (reg_rsFault_ne _ _ (key_ne_of_ctorIdx (by decide) _ _))
  refine ⟨?_, ?_, ?_⟩
  · rw [rbit, hreg]
    exact rbit_setBit s .lcFault 0 hcs (Nat.zero_testBit _)
  · rw [lcFault, setReg_store, hreports]
    rfl
  · rw [lcFault, setReg_cam, hreports]
    rfl

/-- Every row lies in one of at most four slices (Table 00-1). -/
theorem slice_of_row {s : State} {i : Nat} (h : i < s.camTotal) : i / 65536 < 4 := by
  have hdies : s.portDies ≤ 4 := by
    unfold portDies
    split <;> decide
  rw [camTotal, camSlices] at h
  omega

/-- A row whose shadow is uncorrectable is marked, and its slice's fault is raised. -/
def shadowLost (s : State) (i : Nat) : State :=
  (({ s with cam := s.cam.setRow i { s.cam.row i with ue := true } } : State).lcFault (i / 65536) 1 i).pred 4 (i / 65536) 3 1

theorem exec_shadowUe {s : State} {i : Nat} (h : i < s.camTotal) : exec (.shadowUe i []) s = .next (s.shadowLost i) := by
  change execShadowUe i [] s = _
  rw [execShadowUe, if_neg (Nat.not_le.mpr h)]
  rfl

theorem shadowLost_leaves {s : State} {i : Nat} (h : i < s.camTotal) :
    (s.shadowLost i).rbit .lcFault 0 (i / 65536) = true ∧ (s.shadowLost i).store = s.store ∧
      (s.shadowLost i).cam = s.cam.setRow i { s.cam.row i with ue := true } :=
  lcFault_leaves _ (Nat.lt_trans (slice_of_row h) (by decide)) 1 i

/-! CAM_REBUILD_DONE (R249). -/

theorem resumeSearches_none {s : State} (h : s.cam.waiting = []) : s.resumeSearches = s := by
  rw [resumeSearches, h]
  rfl

/-- A rebuild with no slice lost and no search stalled: the rows in error are repaired and the directory is made anew. -/
theorem exec_camRebuildDone {s : State} (stalled : Nat) (hrebuild : s.cam.rebuild = false) (hwaiting : s.cam.waiting = []) :
    exec (.camRebuildDone stalled) s = .next { s.count .lcStallRebuild 0 stalled with
      cam := { s.cam.rows.foldl Cam.repairRow s.cam with
        dir := (s.cam.rows.foldl Cam.repairRow s.cam).rebuiltDir, dirUe := [], stuck := false } } := by
  change execCamRebuildDone stalled s = _
  have honly := Cam.foldl_repairRow_only s.cam s.cam.rows
  unfold execCamRebuildDone
  dsimp only
  rw [count_cam]
  change (if (s.cam.rows.foldl Cam.repairRow s.cam).rebuild = true then _ else _) = _
  rw [if_neg (by rw [honly, hrebuild]; decide), resumeSearches_none (by
    change (s.cam.rows.foldl Cam.repairRow s.cam).waiting = []
    rw [honly, hwaiting])]
  rfl

/-! The privileged search port (R262, R268). -/

/-- The port's registers after a search that found a row. -/
def reportFound (s : State) (res : Word) (d : Nat) (r : CamRow) : State :=
  (((((s.setReg .lcPsRes 0 res).setReg .lcPsData 0 (wordOf d)).setReg .lcPsVal0 0 (wordOf (fieldOf r.sValue 63 0))).setReg
    .lcPsVal1 0 (wordOf (fieldOf r.sValue 111 64))).setReg .lcPsCare0 0 (wordOf (fieldOf r.sCare 63 0))).setReg
    .lcPsCare1 0 (wordOf (fieldOf r.sCare 111 64))

theorem reportFound_only (s : State) (res : Word) (d : Nat) (r : CamRow) :
    s.reportFound res d r = { s with regs := (s.reportFound res d r).regs } := rfl

theorem reg_reportFound (s : State) {res : Word} (hres : res ≠ 0) (d : Nat) (r : CamRow) :
    (s.reportFound res d r).reg .lcPsRes 0 = res := by
  rw [reportFound, reg_setReg_ne _ _ _ _ _ _ (key_ne_of_ctorIdx (by decide) _ _),
    reg_setReg_ne _ _ _ _ _ _ (key_ne_of_ctorIdx (by decide) _ _), reg_setReg_ne _ _ _ _ _ _ (key_ne_of_ctorIdx (by decide) _ _),
    reg_setReg_ne _ _ _ _ _ _ (key_ne_of_ctorIdx (by decide) _ _), reg_setReg_ne _ _ _ _ _ _ (key_ne_of_ctorIdx (by decide) _ _)]
  exact SMap.get_set_of_ne _ _ _ _ hres

/-- LC_PS_RES of a search that found row i: DONE, HIT, MORE, SHIFT and the index. -/
def foundWord (more shift : Bool) (i : Nat) : Word := wordOf (3 + place 2 (bnat more) + place 3 (bnat shift) + place 4 i)

theorem foundWord_ne_zero (more shift : Bool) (i : Nat) : foundWord more shift i ≠ 0 := by
  intro h
  have hnat : (foundWord more shift i).toNat = 0 := congrArg BitVec.toNat h
  simp only [foundWord, wordOf, place, BitVec.toNat_ofNat] at hnat
  omega

/-- What a search sees: the CAM, or the CAM in the middle of a rebalancing move (R259, log entry 74). -/
def midView (s : State) (mid : Option Nat) : Option (Cam × (Nat × Nat)) :=
  mid.bind (fun k => (s.cam.fullRun s.ordRuns).bind (fun run => s.cam.midRebalance s.ordRuns run k))

/-- The CAM after a search made in the middle of a move is that before it, but for the searches that wait. -/
def backFrom (s : State) (cut : Option (Cam × (Nat × Nat))) (u : State) : State :=
  if cut.isSome then { u with cam := { s.cam with stuck := u.cam.stuck, waiting := u.cam.waiting } } else u

/-- A move shows in a search where it finds one of the move's rows. -/
def shifted (cut : Option (Cam × (Nat × Nat))) (i : Nat) : Bool :=
  match cut with
  | some (_, m) => i == m.1 || i == m.2
  | none => false

/-- The key and mask of the port's registers. -/
def portKey (s : State) : Nat := (s.reg .lcPsKey0 0).toNat + place 64 (s.rfld .lcPsKey1 0 47 0)
def portMask (s : State) : Nat := (s.reg .lcPsGmask0 0).toNat + place 64 (s.rfld .lcPsGmask1 0 47 0)

/-- A search of the port. -/
def portSearch (s : State) (mid : Option Nat) : State × Cam.Found :=
  ({ s with cam := ((s.midView mid).map (·.1)).getD s.cam } : State).camSearch searchPort s.portKey s.portMask
    (s.rfld .lcPsStart 0 17 0)

/-- What the search found, in the port's registers. -/
theorem privSearch_eq (s : State) (mid : Option Nat) : s.privSearch mid =
    match s.portSearch mid with
    | (u, .hit i d) => (s.backFrom (s.midView mid) u).reportFound (foundWord (!(u.cam.arrayMatches s.portKey s.portMask
        (i + 1)).isEmpty) (shifted (s.midView mid) i) i) d (u.cam.row i)
    | (u, .miss) => (s.backFrom (s.midView mid) u).setReg .lcPsRes 0 1
    | (u, .stall _) => { (s.backFrom (s.midView mid) u).setReg .lcPsRes 0 0 with
        cam := { (s.backFrom (s.midView mid) u).cam with psGo := true } } := by
  have hview : (match s.midView mid with | some x => x.1 | none => s.cam) = ((s.midView mid).map (·.1)).getD s.cam := by
    cases s.midView mid <;> rfl
  rw [portSearch, ← hview]
  rfl

theorem portSearch_sameButSearch {s u : State} {mid : Option Nat} {f : Cam.Found} (h : s.portSearch mid = (u, f)) :
    SameButSearch s u :=
  SameButSearch.trans (t := { s with cam := ((s.midView mid).map (·.1)).getD s.cam }) rfl (camSearch_leaves h)

theorem backFrom_sameButSearch {s u : State} (cut : Option (Cam × (Nat × Nat))) (h : SameButSearch s u) :
    SameButSearch s (s.backFrom cut u) := by
  unfold backFrom
  split
  · exact h.trans rfl
  · exact h

/-- The port changes neither memory nor the request table. -/
theorem privSearch_leaves (s : State) (mid : Option Nat) :
    (s.privSearch mid).store = s.store ∧ (s.privSearch mid).slots = s.slots := by
  rw [privSearch_eq]
  rcases hsearch : s.portSearch mid with ⟨u, f⟩
  have hback := backFrom_sameButSearch (s.midView mid) (portSearch_sameButSearch hsearch)
  have hkept : (s.backFrom (s.midView mid) u).store = s.store ∧ (s.backFrom (s.midView mid) u).slots = s.slots := by
    rw [hback]
    exact ⟨rfl, rfl⟩
  cases f with
  | hit i d => exact hkept
  | miss => exact hkept
  | stall i => exact hkept

/-- Outside confidential mode, with no search of the port that has not ended, a search is made (R268). -/
theorem exec_privilegedSearch {s : State} (mid : Option Nat) (hconf : s.img.conf = false) (hgo : s.cam.psGo = false) :
    exec (.privilegedSearch mid) s = .next (s.privSearch mid) := by
  change execPrivilegedSearch mid s = _
  rw [execPrivilegedSearch, hconf, hgo]
  rfl

theorem exec_privilegedSearch_conf {s : State} (mid : Option Nat) (hconf : s.img.conf = true) :
    exec (.privilegedSearch mid) s = .next s :=
  if_pos hconf

theorem exec_privilegedSearch_undefined {s : State} (mid : Option Nat) (hconf : s.img.conf = false) (hgo : s.cam.psGo = true) :
    exec (.privilegedSearch mid) s = .fault (.undefinedResult 268) := by
  change execPrivilegedSearch mid s = _
  rw [execPrivilegedSearch, hconf, hgo]
  rfl

theorem privSearch_hit {s u : State} {mid : Option Nat} {i d : Nat} (h : s.portSearch mid = (u, .hit i d)) :
    s.privSearch mid = (s.backFrom (s.midView mid) u).reportFound (foundWord (!(u.cam.arrayMatches s.portKey s.portMask
      (i + 1)).isEmpty) (shifted (s.midView mid) i) i) d (u.cam.row i) := by
  rw [privSearch_eq, h]

theorem privSearch_miss {s u : State} (h : s.portSearch none = (u, .miss)) : s.privSearch none = u.setReg .lcPsRes 0 1 := by
  rw [privSearch_eq, h]
  rfl

theorem reg_privSearch_hit {s u : State} {mid : Option Nat} {i d : Nat} (h : s.portSearch mid = (u, .hit i d)) :
    (s.privSearch mid).reg .lcPsRes 0 =
      foundWord (!(u.cam.arrayMatches s.portKey s.portMask (i + 1)).isEmpty) (shifted (s.midView mid) i) i := by
  rw [privSearch_hit h]
  exact reg_reportFound _ (foundWord_ne_zero _ _ _) _ _

theorem reg_privSearch_miss {s u : State} (h : s.portSearch none = (u, .miss)) : (s.privSearch none).reg .lcPsRes 0 = 1 := by
  rw [privSearch_miss h]
  exact SMap.get_set_of_ne _ _ _ _ (show (1 : Word) ≠ 0 by decide)

end Sys2Proof.Machine.State

namespace Sys2Proof.Machine

open State

/-- Settles O37: each command by what it leaves; a pass and a rebuild by what rewriting a row does, a search of the port by the
registers it writes last. -/
theorem camScrubAndRebuild : Obligations.CamScrubAndRebuild := by
  intro s hrows
  refine ⟨fun ups stalled hrebuild hperiod => ?scrub, fun i hi => ?shadow, fun stalled hrebuild hwaiting => ?rebuild,
    fun hconf mid => exec_privilegedSearch_conf mid hconf, fun hconf hgo mid => exec_privilegedSearch_undefined mid hconf hgo,
    fun hconf hgo => ?port⟩
  case scrub =>
    obtain ⟨hwf, hupset⟩ := Cam.upsetRows_restored hrows ups
    refine ⟨_, exec_lcScrub ups stalled hrebuild hperiod, scrubPass_sameButSearch s ups stalled, ?_⟩
    rw [scrubPass_cam]
    refine ⟨rfl, fun i => ?_⟩
    obtain ⟨hscrubbed, hrestored⟩ := Cam.scrub_rewritten hwf (s.rfld .lcCfg 0 20 14) i
    exact ⟨hscrubbed, Cam.shadow_of_restored_eq (hrestored.trans (hupset i))⟩
  case shadow =>
    obtain ⟨hbit, hstore, hcam⟩ := shadowLost_leaves hi
    refine ⟨_, exec_shadowUe hi, ?_⟩
    rw [hcam, Cam.row_setRow hrows, if_pos rfl]
    exact ⟨rfl, fun j hj => Cam.row_setRow_ne _ _ hj, hbit, hstore⟩
  case rebuild =>
    exact ⟨_, exec_camRebuildDone stalled hrebuild hwaiting, rfl, Cam.repaired_ue hrows, rfl, rfl⟩
  case port =>
    refine ⟨fun mid => ⟨_, exec_privilegedSearch mid hconf hgo, s.privSearch_leaves mid⟩, ?_, ?_⟩
    · intro k run view m u i d hrun hmid hsearch
      have hcut : s.midView (some k) = some (view, m) := by
        rw [midView, Option.bind_some, hrun, Option.bind_some, hmid]
      have hport : s.portSearch (some k) = (u, .hit i d) := by
        rw [portSearch, hcut]
        exact hsearch
      refine ⟨_, exec_privilegedSearch (some k) hconf hgo, ?_, ?_⟩
      · rw [privSearch_hit hport, hcut]
        rfl
      · rw [reg_privSearch_hit hport, hcut]
        rfl
    · intro u f hsearch
      have hport : s.portSearch none = (u, f) := hsearch
      refine ⟨?_, ?_⟩
      · rintro rfl
        refine ⟨_, exec_privilegedSearch none hconf hgo, reg_privSearch_miss hport, ?_⟩
        rw [privSearch_miss hport]
        rfl
      · rintro i d rfl
        refine ⟨_, exec_privilegedSearch none hconf hgo, ?_, ?_⟩
        · rw [privSearch_hit hport]
          rfl
        · exact reg_privSearch_hit hport

end Sys2Proof.Machine
end

section
/-! PROOFS. Requests that complete, and OPEN_CONV at its turn (R164, R254, R272, R276, R281, R291, R469). -/

namespace Sys2Proof.Machine.State

/-! A completed slot and one that waits for its partner (R171, R272, R291). -/

/-- The slot of a completed request, with the response header of R272. -/
theorem slot_complete (s : State) (n status : Nat) (body : Bytes) :
    (s.complete n status body).slot n = { s.slot n with
      state := .respond, taken := true, formed := true, resp := if status = stDone then body else [], sent := 0
      respHdr := s.respHdrOf (s.slot n).hdr (s.slot n).reissued ((s.slot n).hdr.kind + 0x20) status
        (if status = stDone then body else []).length } := by
  unfold complete
  dsimp only
  rw [slot_setSlot _ _ _ (slot_ne_default (show SlotState.respond ≠ .free by decide))]
  split <;> rfl

theorem finish_of_waits {s : State} {n : Nat} (h : (s.slot n).waits ≠ 0) (status : Nat) (body : Bytes) (fin : Finish) :
    s.finish n status body fin = s.updSlot n (fun x => { x with prog := .confirm status body fin }) :=
  if_neg h

/-! OPEN_CONV past the reads of what it needs (R254, R281, R469). -/

section
variable {s : State} {n : Nat}

theorem openConv_lost (h : s.isLost (s.slot n).hdr.ctx (s.slot n).hdr.conv = true) :
    s.openConv n = (s.count .rsCntLost 0 1).complete n stLost [] := if_pos h

variable (hkept : s.isLost (s.slot n).hdr.ctx (s.slot n).hdr.conv = false)
include hkept

theorem openConv_refused {st : Nat} (hcheck : s.openCheck (s.slot n).hdr (openReq (s.slot n).body) = some st) :
    s.openConv n = s.complete n st [] := by
  simp only [openConv, hkept, hcheck, Bool.false_eq_true, if_false]

variable (hcheck : s.openCheck (s.slot n).hdr (openReq (s.slot n).body) = none)
include hcheck

theorem openConv_alone (hjoin : (openReq (s.slot n).body).join = 0) :
    s.openConv n = s.openInsert n (openReq (s.slot n).body) none := by
  simp only [openConv, hkept, hcheck, hjoin, Bool.false_eq_true, if_false, if_true]

variable (hjoin : (openReq (s.slot n).body).join ≠ 0) {u : State}
include hjoin

theorem openConv_searching (hfind : s.findGroup n (s.slot n).hdr (openReq (s.slot n).body) = (u, .stall)) : s.openConv n = u := by
  simp only [openConv, hkept, hcheck, hjoin, hfind, Bool.false_eq_true, if_false]

theorem openConv_noGroup (hfind : s.findGroup n (s.slot n).hdr (openReq (s.slot n).body) = (u, .miss)) :
    s.openConv n = u.complete n stNoConv [] := by
  simp only [openConv, hkept, hcheck, hjoin, hfind, Bool.false_eq_true, if_false]

variable {g : Nat} (hfind : s.findGroup n (s.slot n).hdr (openReq (s.slot n).body) = (u, .record g))
include hfind

theorem openConv_joinRefused {st : Nat} (hgroup : u.joinCheck g (openReq (s.slot n).body) = some st) :
    s.openConv n = u.complete n st [] := by
  simp only [openConv, hkept, hcheck, hjoin, hfind, hgroup, Bool.false_eq_true, if_false]

theorem openConv_joins (hgroup : u.joinCheck g (openReq (s.slot n).body) = none) :
    s.openConv n = u.openInsert n (openReq (s.slot n).body) (some g) := by
  simp only [openConv, hkept, hcheck, hjoin, hfind, hgroup, Bool.false_eq_true, if_false]

end

/-! OPEN_CONV at its turn (R164, R281). -/

section
variable {s : State} {n : Nat} (hturn : s.atTurn n kOpenConv = true)
include hturn

theorem exec_openConv_stalls (hstall : (s.senseFor n).metaStalls ((s.senseFor n).slot n) = true) :
    exec (.openConv n) s = .next (s.senseFor n) := by
  change execOpenConv n s = _
  simp only [execOpenConv, hturn, hstall, if_true]

theorem exec_openConv_goes (hstall : (s.senseFor n).metaStalls ((s.senseFor n).slot n) = false) :
    exec (.openConv n) s = .next ((s.senseFor n).openConv n).resumeInserts := by
  change execOpenConv n s = _
  simp only [execOpenConv, hturn, hstall, Bool.false_eq_true, if_true, if_false]

end

end Sys2Proof.Machine.State

namespace Sys2Proof.Machine

open State

/-- Settles O23: the slot a completion leaves, then OPEN_CONV's checks in the order R281 gives them. -/
theorem requestsCompleteOrWait : Obligations.RequestsCompleteOrWait := by
  refine ⟨fun s n status body => ?completed, fun s n status body fin hwaits => finish_of_waits hwaits status body fin,
    fun s₀ n hturn => ⟨exec_openConv_stalls hturn, fun hstall => ?opens⟩⟩
  case completed =>
    obtain ⟨-, -, -, -, hstore, hothers⟩ := complete_answered s n status body
    dsimp only
    rw [slot_complete]
    exact ⟨rfl, rfl, rfl, rfl, rfl, rfl, rfl, hothers, hstore⟩
  case opens =>
    rw [exec_openConv_goes hturn hstall]
    refine ⟨fun hlost => ?_, fun hkept => ⟨fun st hcheck => ?_, fun hcheck hjoin => ?_, fun hcheck hjoin =>
      ⟨fun u hfind => ?_, fun u hfind => ?_, fun u g hfind => ⟨fun st hgroup => ?_, fun hgroup => ?_⟩⟩⟩⟩
    · rw [openConv_lost hlost]
    · rw [openConv_refused hkept hcheck]
    · rw [openConv_alone hkept hcheck hjoin]
    · rw [openConv_noGroup hkept hcheck hjoin hfind]
    · rw [openConv_searching hkept hcheck hjoin hfind]
    · rw [openConv_joinRefused hkept hcheck hjoin hfind hgroup]
    · rw [openConv_joins hkept hcheck hjoin hfind hgroup]

end Sys2Proof.Machine
end

section
/-! PROOFS. Markers: drains held and returned, origins opened and closed, and the start of an activation (R302 to R304, R415, R463,
R487, R488, R530). -/

namespace Sys2Proof.Machine.State

/-! A marker arrives (R303, R304, R415, R487, R530). -/

/-- A MARKER of a type. -/
theorem isMarker_of {h : Hdr} {b : Bytes} {t : Nat} (hkind : h.kind = kMarker) (htype : markerType b = t) :
    isMarker h b t = true := by
  simp [isMarker, hkind, htype]

section
variable {s : State} {h : Hdr} {b : Bytes} (hok : markerOk h b = true)
include hok

theorem markerArrive_drainEpoch (c : Nat) (htype : markerType b = mDrainEpoch) :
    s.markerArrive (.conn c) h b = s.holdMarker (.conn c) h b (s.covers c) false := by
  simp [markerArrive, hok, htype, mDrainEpoch, mOriginOpen, mOriginClose]

theorem markerArrive_drainCtx (c : Nat) (htype : markerType b = mDrainCtx) :
    s.markerArrive (.conn c) h b = s.holdMarker (.conn c) h b (fun k => s.connFurrow k == s.connFurrow c) true := by
  simp [markerArrive, hok, htype, mDrainCtx, mDrainEpoch, mOriginOpen, mOriginClose]

theorem markerArrive_activate (c : Nat) (htype : markerType b = mActivate) :
    s.markerArrive (.conn c) h b = s.activateMarker c h b := by
  simp [markerArrive, hok, htype, mActivate, mDrainCtx, mDrainEpoch, mOriginOpen, mOriginClose]

theorem markerArrive_originOpen (src : Src) (htype : markerType b = mOriginOpen) :
    s.markerArrive src h b = s.originOpen src h b := by
  simp [markerArrive, hok, htype]

theorem markerArrive_originClose (src : Src) (htype : markerType b = mOriginClose) :
    s.markerArrive src h b = s.originClose src h b := by
  simp [markerArrive, hok, htype, mOriginOpen, mOriginClose]

end

/-! ACTIVATE (R487, R488). -/

/-- The activation of the ARMED image has started. -/
def startActivation (s : State) : State :=
  { s with firm := { s.firm with
      st := .activating, holding := true, since := s.hubUnits, upMask := s.upFurrows, quiesce := s.rfld .brFwCfg 0 31 16 } }

theorem activateMarker_acts {s : State} {c : Nat} (h : Hdr) {b : Bytes} (hctrl : s.rfld .fuCtrl (s.connFurrow c) 13 0 = c)
    (harmed : s.firm.st = .armed) (harg : markerArg b = s.firm.armed) (hcr : s.rel.cr = .none) (hsvc : s.rel.svc = .service) :
    s.activateMarker c h b = (s.holdMarker (.conn c) h b (fun _ => false) false).startActivation := by
  simp only [activateMarker, hctrl, harmed, harg, hcr, hsvc, beq_self_eq_true, decide_true, Bool.and_self, if_true]
  rfl

theorem activateMarker_misses {s : State} {c : Nat} (h : Hdr) (b : Bytes) (harmed : s.firm.st ≠ .armed) :
    s.activateMarker c h b = (s.holdMarker (.conn c) h b (fun _ => false) false).count .brCntActMiss 0 1 := by
  simp only [activateMarker, harmed, decide_false, Bool.and_false, Bool.false_and, Bool.false_eq_true, if_false]

/-! Origins (R304). -/

theorem originOpen_new {s : State} {src : Src} {h : Hdr} {b : Bytes} (hnone : s.origin? h.origin = none)
    (hroom : s.origins.length < 2048) :
    s.originOpen src h b = (s.newOrigin h.origin).returnMarker { src := src, hdr := h, body := b } := by
  rw [originOpen, hnone, if_neg (by simp), if_pos hroom]

theorem originClose_idle {s : State} {src : Src} {h : Hdr} {b : Bytes} (hbusy : s.originBusy h.origin = false) :
    s.originClose src h b = (s.dropOrigin h.origin).returnMarker { src := src, hdr := h, body := b } := by
  rw [originClose, hbusy, if_pos (by simp)]

theorem originClose_busy {s : State} {src : Src} {h : Hdr} {b : Bytes} (hbusy : s.originBusy h.origin = true)
    (hsome : (s.origin? h.origin).isSome = true) :
    s.originClose src h b = s.holdMarker src h b (fun _ => false) false := by
  rw [originClose, hbusy, if_neg (by simpa [Option.isSome_iff_ne_none] using hsome)]

/-! A marker of this node's comes back (R302, R530). -/

/-- The markers one return answers: those of its furrow, type and argument. -/
def sameMarker (s : State) (c : Nat) (b : Bytes) (m : SentMarker) : Bool :=
  m.furrow == s.connFurrow c && m.mtype == markerType b && m.arg == markerArg b

/-- The markers a return answers are outstanding no longer. -/
def dropMarkers (s : State) (c : Nat) (b : Bytes) : State :=
  { s with sentMarkers := s.sentMarkers.filter (fun m => !s.sameMarker c b m) }

/-- The furrow of a connection has drained the node's own epoch. -/
def furrowDrained (s : State) (c : Nat) : State :=
  ({ s with img := { s.img with drain := s.img.drain - 2 ^ s.connFurrow c } } : State).epochDrained

theorem markerBack_drainEpoch {s : State} {c : Nat} {b : Bytes} (hsent : s.sentMarkers.any (s.sameMarker c b) = true)
    (htype : markerType b = mDrainEpoch) :
    s.markerBack c b = if markerArg b % 65536 = s.img.epoch ∧ s.img.drain.testBit (s.connFurrow c) = true then
      (s.dropMarkers c b).furrowDrained c else s.dropMarkers c b :=
  (if_pos hsent).trans (if_pos htype)

theorem furrowDrained_sentMarkers (s : State) (c : Nat) : (s.furrowDrained c).sentMarkers = s.sentMarkers := by
  unfold furrowDrained epochDrained
  split <;> rfl

theorem furrowDrained_store (s : State) (c : Nat) : (s.furrowDrained c).store = s.store := by
  unfold furrowDrained epochDrained
  split <;> rfl

theorem furrowDrained_slots (s : State) (c : Nat) : (s.furrowDrained c).slots = s.slots := by
  unfold furrowDrained epochDrained
  split <;> rfl

/-- With the last furrow the previous epoch is served no longer (R302 step 4). -/
theorem furrowDrained_last {s : State} {c : Nat} (hdrain : s.img.drain = 2 ^ s.connFurrow c) (hprev : s.img.prevv = true) :
    s.furrowDrained c = { s with img := { s.img with drain := 0, prevv := false, fwdPrev := [] } } := by
  simp [furrowDrained, epochDrained, hdrain, hprev]

/-! The commands of markers. -/

section
variable {s : State} {c : Nat} {h : Hdr} (hopen : (s.conn c).state = .opn)
include hopen

theorem exec_drainEpoch {b : Bytes} (hkind : h.kind = kMarker) (htype : markerType b = mDrainEpoch) :
    exec (.drainEpoch c h b) s = .next (s.unlessOut (s.markerArrive (.conn c) h b)) :=
  congrArg Host.Outcome.next (if_pos ⟨isMarker_of hkind htype, hopen⟩)

theorem exec_drainCtx {b : Bytes} (hkind : h.kind = kMarker) (htype : markerType b = mDrainCtx) :
    exec (.drainCtx c h b) s = .next (s.unlessOut (s.markerArrive (.conn c) h b)) :=
  congrArg Host.Outcome.next (if_pos ⟨isMarker_of hkind htype, hopen⟩)

theorem exec_activate {b : Bytes} (hkind : h.kind = kMarker) (htype : markerType b = mActivate) :
    exec (.activate c h b) s = .next (s.unlessOut (s.markerArrive (.conn c) h b)) :=
  congrArg Host.Outcome.next (if_pos ⟨isMarker_of hkind htype, hopen⟩)

theorem exec_returnedMarker (b : Bytes) (hkind : h.kind = kMarker + 0x20) :
    exec (.returnedMarker c h b) s = .next (s.unlessOut (s.markerBack c b)) :=
  congrArg Host.Outcome.next (if_pos ⟨hkind, hopen⟩)

end

theorem exec_originOpen {s : State} {h : Hdr} {b : Bytes} (src : Src) (hkind : h.kind = kMarker)
    (htype : markerType b = mOriginOpen) :
    exec (.originOpen src h b) s = .next (s.unlessOut (s.markerArrive src h b)) :=
  congrArg Host.Outcome.next (if_pos (isMarker_of hkind htype))

theorem exec_originClose {s : State} {h : Hdr} {b : Bytes} (src : Src) (hkind : h.kind = kMarker)
    (htype : markerType b = mOriginClose) :
    exec (.originClose src h b) s = .next (s.unlessOut (s.markerArrive src h b)) :=
  congrArg Host.Outcome.next (if_pos (isMarker_of hkind htype))

theorem exec_markerReturn_waits {s : State} {i : Nat} {m : HeldMarker} (hheld : s.held[i]? = some m)
    (hready : s.markerReady m = false) : exec (.markerReturn i) s = .next s := by
  change execMarkerReturn i s = _
  simp only [execMarkerReturn, hheld, hready, Bool.false_eq_true, if_false]

theorem exec_markerReturn_returns {s : State} {i : Nat} {m : HeldMarker} (hheld : s.held[i]? = some m)
    (hready : s.markerReady m = true) : exec (.markerReturn i) s =
      .next ((if markerType m.body = mOriginClose then ({ s with held := s.held.eraseIdx i } : State).dropOrigin m.hdr.origin
        else { s with held := s.held.eraseIdx i }).returnMarker m) := by
  change execMarkerReturn i s = _
  simp only [execMarkerReturn, hheld, hready, if_true, List.eraseIdx_eq_take_drop_succ]

end Sys2Proof.Machine.State

namespace Sys2Proof.Machine

open State

/-- Settles O33, command by command: what a marker does on arrival, and what its return does here. -/
theorem markersHeldAndReturned : Obligations.MarkersHeldAndReturned := by
  refine ⟨fun s c h b hopen hkind hok hsvc => ⟨fun htype => ?drainEpoch, fun htype => ?drainCtx, fun htype => ?activate⟩,
    fun s i m hheld => ⟨exec_markerReturn_waits hheld, exec_markerReturn_returns hheld⟩,
    fun s c h b hopen hkind hsent htype hsvc => ?returned, fun s c h b hopen hout => ?out,
    fun s src h b hkind hok hsvc => ⟨fun htype hnone hroom => ?originOpen, fun htype hbusy => ?idle,
      fun htype hbusy hsome => ?busy⟩⟩
  case drainEpoch => rw [exec_drainEpoch hopen hkind htype, unlessOut_in _ hsvc, markerArrive_drainEpoch hok c htype]; rfl
  case drainCtx => rw [exec_drainCtx hopen hkind htype, unlessOut_in _ hsvc, markerArrive_drainCtx hok c htype]; rfl
  case activate =>
    rw [exec_activate hopen hkind htype, unlessOut_in _ hsvc, markerArrive_activate hok c htype]
    refine ⟨fun hctrl harmed harg hcr hservice => ⟨_, rfl, ?_⟩, fun harmed => by rw [activateMarker_misses h b harmed]⟩
    rw [activateMarker_acts h hctrl harmed harg hcr hservice]
    exact ⟨rfl, rfl, rfl, rfl, rfl, rfl⟩
  case returned =>
    refine ⟨_, (exec_returnedMarker hopen b hkind).trans (by rw [unlessOut_in _ hsvc, markerBack_drainEpoch hsent htype]), ?_⟩
    split
    case isTrue =>
      rw [furrowDrained_sentMarkers, furrowDrained_store, furrowDrained_slots]
      refine ⟨rfl, fun _ hdrain hprev => ?_, rfl, rfl⟩
      rw [furrowDrained_last (s := s.dropMarkers c b) hdrain hprev]
      exact ⟨rfl, rfl, rfl⟩
    case isFalse hother =>
      refine ⟨rfl, fun hepoch hdrain _ => absurd ⟨hepoch, ?_⟩ hother, rfl, rfl⟩
      rw [hdrain]
      exact Nat.testBit_two_pow_self
  case out =>
    refine ⟨fun hkind htype => ?_, fun hkind htype => ?_, fun hkind htype => ?_, fun hkind => ?_⟩
    · rw [exec_drainEpoch hopen hkind htype, unlessOut_out _ hout]
    · rw [exec_drainCtx hopen hkind htype, unlessOut_out _ hout]
    · rw [exec_activate hopen hkind htype, unlessOut_out _ hout]
    · rw [exec_returnedMarker hopen b hkind, unlessOut_out _ hout]
  case originOpen =>
    rw [exec_originOpen src hkind htype, unlessOut_in _ hsvc, markerArrive_originOpen hok src htype, originOpen_new hnone hroom]
    rfl
  case idle =>
    rw [exec_originClose src hkind htype, unlessOut_in _ hsvc, markerArrive_originClose hok src htype, originClose_idle hbusy]
    rfl
  case busy =>
    rw [exec_originClose src hkind htype, unlessOut_in _ hsvc, markerArrive_originClose hok src htype,
      originClose_busy hbusy hsome]
    exact ⟨_, rfl, rfl, rfl⟩

end Sys2Proof.Machine
end

section
/-! PROOFS. What every step of sending keeps, sending keeps (R273, R276, R289, R291, R294, R315, R342, R356, R360, R362). -/

namespace Sys2Proof.Machine.State

/-- A property of the state that the single steps of sending keep: counters, host ports and what leaves the module move; a link, a
furrow, a connection, a slot or an origin is written; searches of a freed slot are forgotten; a context has drained, and its
interrupt cause is set. -/
structure KeptBySending (P : State → Prop) : Prop where
  msix : ∀ {s t : State}, SameButMsix s t → P s → P t
  tick : ∀ {s : State}, P s → P s.tick
  setLink : ∀ {s : State} (l : Nat) (x : Link), P s → P (s.setLink l x)
  setFurrow : ∀ {s : State} (f : Nat) (x : Furrow), P s → P (s.setFurrow f x)
  setConn : ∀ {s : State} (c : Nat) (x : Conn), P s → P (s.setConn c x)
  setSlot : ∀ {s : State} (n : Nat) (x : Slot), P s → P (s.setSlot n x)
  setOrigin : ∀ {s : State} (x : Origin), P s → P (s.setOrigin x)
  nextEntry : ∀ {s : State} (e : Nat), P s → P { s with nextEntry := e }
  waiting : ∀ {s : State} (ws : List Nat), P s → P { s with cam := { s.cam with waiting := ws } }
  drained : ∀ {s : State} (c : Nat), (s.ctx c).state = .closing → P s → P (s.setCtx c { s.ctx c with drained := true })
  irqCause : ∀ {s : State} (v b : Nat), P s → P (s.setBit .hgVfIrqCause v b)

/-- NEXT advances by moves of the origin's entry and entries into stage 4 (R294). -/
theorem advance_keeps {P : State → Prop} {o : Nat}
    (hnext : ∀ (s : State) (e : Origin), s.origin? o = some e → P s → P (s.setOrigin { e with next := e.next + 1 }))
    (henter : ∀ (s : State) (k : Nat), P s → P (s.enterStage4 k)) (n : Nat) {s : State} (h : P s) : P (advance n o s) := by
  induction n generalizing s with
  | zero => exact h
  | succ n ih =>
    rw [advance]
    split
    case h_1 => exact h
    case h_2 e horigin =>
      split
      case isTrue => exact ih (hnext s e horigin h)
      case isFalse =>
        split
        · split
          · exact ih (henter _ _ (hnext s e horigin h))
          · exact h
        · exact h

namespace KeptBySending

section
variable {P : State → Prop} (k : KeptBySending P)
include k

theorem count {s : State} (c : Ctr) (i n : Nat) (h : P s) : P (s.count c i n) :=
  k.msix (show SameButMsix s (s.count c i n) from rfl) h

theorem emit {s : State} (o : Out) (h : P s) : P (s.emit o) := k.msix (show SameButMsix s (s.emit o) from rfl) h

theorem raiseIrq {s : State} (c cause : Nat) (h : P s) : P (s.raiseIrq c cause) := by
  unfold State.raiseIrq
  dsimp only
  split
  · exact h
  · split
    · exact k.msix (requestMsix_sameButMsix _ _ _) (k.irqCause _ _ h)
    · exact k.irqCause _ _ h

theorem checkDrained {s : State} (c : Nat) (h : P s) : P (s.checkDrained c) := by
  unfold State.checkDrained
  dsimp only
  split
  case isTrue hclosing =>
    simp only [Bool.and_eq_true, decide_eq_true_eq] at hclosing
    obtain ⟨⟨⟨hstate, -⟩, -⟩, -⟩ := hclosing
    exact k.raiseIrq _ _ (k.drained c hstate h)
  case isFalse => exact h

theorem advance (n o : Nat) {s : State} (h : P s) : P (State.advance n o s) :=
  advance_keeps (fun _ _ _ hs => k.setOrigin _ hs) (fun _ _ hs => k.nextEntry _ (k.setSlot _ _ hs)) n h

theorem resolve {s : State} (o q status : Nat) (h : P s) : P (s.resolve o q status) := by
  unfold State.resolve
  split
  · exact h
  · exact k.advance _ _ (k.setOrigin _ h)

theorem freeSlot {s : State} (n : Nat) (h : P s) : P (s.freeSlot n) := by
  unfold State.freeSlot
  refine k.checkDrained _ ?_
  have hfreed := k.waiting (s.cam.waiting.filter (fun w => w % 2 ^ 18 != n || 2 ^ 19 ≤ w)) (k.setSlot n {} h)
  split
  · exact hfreed
  · exact k.resolve _ _ _ hfreed

theorem carrierLeft {s : State} (n : Nat) (h : P s) : P (s.carrierLeft n) := by
  unfold State.carrierLeft
  split
  · exact k.freeSlot n h
  · exact k.setSlot _ _ h

theorem sendFlit {s : State} (l ft fseq : Nat) (data : Bytes) (h : P s) : P (s.sendFlit l ft fseq data) := k.emit _ h

theorem pumpLink (n l : Nat) {s : State} (h : P s) : P (State.pumpLink n l s) := by
  induction n generalizing s with
  | zero => exact h
  | succ n ih =>
    rw [State.pumpLink]
    split
    · refine ih (foldl_keeps (fun q it hq => ?_) (k.count _ _ _ (k.sendFlit _ _ _ _ (k.setLink _ _ h))) _)
      split
      · exact k.carrierLeft _ hq
      · exact hq
    · exact h

theorem pumpFurrow (n f : Nat) {s : State} (h : P s) : P (State.pumpFurrow n f s) := by
  induction n generalizing s with
  | zero => exact h
  | succ n ih =>
    rw [State.pumpFurrow]
    split
    · exact h
    · split
      · exact h
      · split
        · exact h
        · refine ih (k.pumpLink _ _ ?_)
          split
          · exact k.count _ _ _ (k.setLink _ _ (k.setFurrow _ _ h))
          · exact k.setLink _ _ (k.setFurrow _ _ h)

theorem sendItem {s : State} (it : TxItem) (h : P s) : P (s.sendItem it) := k.pumpFurrow _ _ (k.setFurrow _ _ h)

theorem pumpGate (n : Nat) (start : Bool) (f cls : Nat) {s : State} (h : P s) : P (State.pumpGate n start f cls s) := by
  induction n generalizing s with
  | zero => exact h
  | succ n ih =>
    have hstart : ∀ {q : State} (b : Bool) (g : Furrow → Furrow) (it : TxItem), P q →
        P (if b = true then State.pumpGate n start f cls ((q.updFurrow f g).sendItem it) else q) := by
      intro q b g it hq
      cases b
      · exact hq
      · exact ih (k.sendItem it (k.setFurrow _ _ hq))
    rw [State.pumpGate]
    split
    · exact h
    · split
      · refine hstart _ _ _ ?_
        split
        · exact k.tick h
        · exact h
      · exact h

theorem sendGated {s : State} (cls : Nat) (it : TxItem) (h : P s) : P (s.sendGated cls it) := by
  unfold State.sendGated
  refine k.pumpGate _ _ _ _ (k.setFurrow _ _ ?_)
  split
  · exact k.count _ _ _ h
  · exact h

theorem sendCarrier {s : State} (c : Nat) (cls : Option Nat) (fence : Bool) (slot : Option Nat) (hd : Hdr) (seg : Bytes)
    (h : P s) : P (s.sendCarrier c cls fence slot hd seg) := by
  unfold State.sendCarrier
  split
  · dsimp only
    split
    · exact k.sendGated _ _ (k.setFurrow _ _ (k.setConn _ _ h))
    · exact k.sendItem _ (k.setFurrow _ _ (k.setConn _ _ h))
  · split
    · exact k.carrierLeft _ h
    · exact h

theorem sendPayload {s : State} (c : Nat) (cls slot : Option Nat) (hd : Hdr) (body : Bytes) (h : P s) :
    P (s.sendPayload c cls slot hd body) :=
  foldl_keeps (fun _ _ hq => k.sendCarrier _ _ _ _ _ _ hq) h _

theorem sendResponse {s : State} (src : Src) (hd : Hdr) (body : Bytes) (slot : Option Nat) (h : P s) :
    P (s.sendResponse src hd body slot) := by
  unfold State.sendResponse
  split
  · split
    · exact k.sendPayload _ _ _ _ _ h
    · split
      · exact k.freeSlot _ h
      · exact h
  · exact k.msix rfl h

theorem refuse {s : State} (src : Src) (hd : Hdr) (status : Nat) (h : P s) : P (s.refuse src hd status) := by
  unfold State.refuse
  have hsent := k.count .rqCntResp 0 1 (k.sendResponse src (s.respHdrOf hd false (hd.kind + 0x20) status 0) [] none h)
  refine k.resolve _ _ _ ?_
  split
  · exact k.raiseIrq _ _ hsent
  · exact hsent

/-! Answers in a slot, and stage 3 (R274, R300). -/

theorem complete {s : State} (n status : Nat) (body : Bytes) (h : P s) : P (s.complete n status body) := by
  unfold State.complete
  refine k.setSlot _ _ ?_
  split
  · exact k.count _ _ _ h
  · exact h

theorem refuseSlot {s : State} (n status : Nat) (h : P s) : P (s.refuseSlot n status) :=
  k.resolve _ _ _ (k.complete n status [] h)

end

end KeptBySending

end Sys2Proof.Machine.State
end

section
/-! PROOFS. Admission: the queues of the contexts, what POLICY 1 does to a head that waits, and the grant of a head (R288, R294, R295,
R347, R348, R351, R354). -/

namespace Sys2Proof.Machine.State

/-! The queues of the contexts. -/

/-- The queues hold requests with the headers given, in order, while memory, the arbitration registers and the canonical form of the
contexts are as in the first state. -/
structure Queued (s : State) (hs : Nat → List Hdr) (t : State) : Prop where
  store : t.store = s.store
  queue : ∀ c, (t.ctx c).queue.map (·.hdr) = hs c
  arb : ∀ c, t.reg .hgCtxArb c = s.reg .hgCtxArb c
  wf : SMap.wf {} t.ctxs = true

/-- The headers of the requests that wait at each context. -/
def queueHdrs (s : State) (c : Nat) : List Hdr := (s.ctx c).queue.map (·.hdr)

theorem queued_self {s : State} (h : SMap.wf {} s.ctxs = true) : Queued s s.queueHdrs s := ⟨rfl, fun _ => rfl, fun _ => rfl, h⟩

namespace Queued

variable {s t : State} {hs : Nat → List Hdr}

theorem policy (h : Queued s hs t) (c : Nat) : t.rbit .hgCtxArb c 10 = s.rbit .hgCtxArb c 10 := by
  rw [rbit, rbit, h.arb]

theorem empty (h : Queued s hs t) {c : Nat} (hempty : hs c = []) : (t.ctx c).queue = [] :=
  List.map_eq_nil_iff.mp ((h.queue c).trans hempty)

/-- What leaves memory, contexts and registers alone. -/
theorem of_same {u : State} (h : Queued s hs t) (hstore : u.store = t.store) (hctxs : u.ctxs = t.ctxs) (hregs : u.regs = t.regs) :
    Queued s hs u := by
  have hctx : ∀ c, u.ctx c = t.ctx c := fun c => by rw [State.ctx, State.ctx, hctxs]
  have hreg : ∀ c, u.reg .hgCtxArb c = t.reg .hgCtxArb c := fun c => by rw [State.reg, State.reg, hregs]
  exact ⟨hstore.trans h.store, fun c => by rw [hctx]; exact h.queue c, fun c => (hreg c).trans (h.arb c), hctxs ▸ h.wf⟩

/-- A context is written, with a queue that holds `l`. -/
theorem updCtx (h : Queued s hs t) (c : Nat) {g : CtxGate → CtxGate} {l : List Hdr} (hl : (g (t.ctx c)).queue.map (·.hdr) = l) :
    Queued s (Function.update hs c l) (t.updCtx c g) := by
  refine ⟨h.store, fun j => ?_, h.arb, SMap.wf_set _ _ _ _ h.wf⟩
  have hread : (t.updCtx c g).ctx j = if j = c then g (t.ctx c) else t.ctx j := SMap.get_set _ _ _ _ _ h.wf
  rw [hread, Function.update_apply]
  split
  · exact hl
  · exact h.queue j

/-- A context is written, its queue left alone. -/
theorem updCtx_same (h : Queued s hs t) (c : Nat) {g : CtxGate → CtxGate} (hg : (g (t.ctx c)).queue.map (·.hdr) = hs c) :
    Queued s hs (t.updCtx c g) := by
  have hupd := h.updCtx c hg
  rwa [Function.update_eq_self] at hupd

end Queued

/-- Sending leaves the queues alone. -/
theorem queued_kept (s : State) (hs : Nat → List Hdr) : KeptBySending (Queued s hs) where
  msix := fun {t u} hsame h => by
    rw [SameButMsix] at hsame
    rw [hsame]
    exact h.of_same rfl rfl rfl
  tick := fun h => h.of_same rfl rfl rfl
  setLink := fun _ _ h => h.of_same rfl rfl rfl
  setFurrow := fun _ _ h => h.of_same rfl rfl rfl
  setConn := fun _ _ h => h.of_same rfl rfl rfl
  setSlot := fun _ _ h => h.of_same rfl rfl rfl
  setOrigin := fun _ h => h.of_same rfl rfl rfl
  nextEntry := fun _ h => h.of_same rfl rfl rfl
  waiting := fun _ h => h.of_same rfl rfl rfl
  drained := fun c _ h => h.updCtx_same c (g := fun g => { g with drained := true }) (h.queue c)
  irqCause := fun {t} v b h =>
    ⟨h.store, h.queue, fun c => (reg_setReg_ne t _ _ _ _ _ (key_ne_of_ctorIdx (by decide) _ _)).trans (h.arb c), h.wf⟩

/-! A head under POLICY 1 (R348). -/

theorem raiseIrq_slots (s : State) (c cause : Nat) : (s.raiseIrq c cause).slots = s.slots := by
  unfold raiseIrq
  dsimp only
  split
  · rfl
  · split
    · rw [requestMsix_sameButMsix _ _ _]
      rfl
    · rfl

theorem checkDrained_slots (s : State) (c : Nat) : (s.checkDrained c).slots = s.slots := by
  unfold checkDrained
  dsimp only
  split
  · exact raiseIrq_slots _ _ _
  · rfl

/-- With no queue, or under POLICY 1, the check of a head leaves queues and slots as they are. -/
theorem headCheck_waits {s t : State} {hs : Nat → List Hdr} {c : Nat} (h : Queued s hs t)
    (hwaits : hs c = [] ∨ s.rbit .hgCtxArb c 10 = true) (n : Nat) :
    Queued s hs (headCheck n t c) ∧ (headCheck n t c).slots = t.slots := by
  have hsame : Queued s hs (t.updCtx c (fun g => { g with deficit := 0 })) := h.updCtx_same c (h.queue c)
  cases n with
  | zero => exact ⟨h, rfl⟩
  | succ n =>
    rw [headCheck]
    split
    case h_1 => exact ⟨(queued_kept s hs).checkDrained c hsame, checkDrained_slots _ _⟩
    case h_2 r rest hqueue =>
      have hlisted := h.queue c
      rw [hqueue] at hlisted
      have hpolicy : t.rbit .hgCtxArb c 10 = true := by
        rw [h.policy]
        exact hwaits.resolve_left fun hnil => by rw [hnil] at hlisted; cases hlisted
      split
      · exact ⟨h, rfl⟩
      · dsimp only
        split
        · exact ⟨hsame, rfl⟩
        · exact ⟨(queued_kept s hs).raiseIrq c 1 ((queued_kept s hs).count _ _ _ (hsame.updCtx_same c hlisted)),
            raiseIrq_slots _ _ _⟩

/-- The same check of every head. -/
theorem headsCheck_waits {s t : State} {hs : Nat → List Hdr} (h : Queued s hs t)
    (hwaits : ∀ c, hs c = [] ∨ s.rbit .hgCtxArb c 10 = true) :
    Queued s hs t.headsCheck ∧ t.headsCheck.slots = t.slots := by
  unfold headsCheck
  refine foldl_keeps (p := fun q => Queued s hs q ∧ q.slots = t.slots) (fun q e hq => ?_) ⟨h, rfl⟩ _
  obtain ⟨hqueued, hslots⟩ := hq
  split
  · exact ⟨hqueued, hslots⟩
  · obtain ⟨hqueued', hslots'⟩ := headCheck_waits hqueued (hwaits e.1) ((q.ctx e.1).queue.length + 1)
    exact ⟨hqueued', hslots'.trans hslots⟩

/-! A request in its slot through stage 3 (R274, R294, R300). -/

/-- What keeps a property while stage 3 takes a request on or refuses it. -/
theorem stage3_keeps {P : State → Prop} {n : Nat} (hcount : ∀ (s : State) (c : Ctr) (i m : Nat), P s → P (s.count c i m))
    (hprev : ∀ (s : State) (b : Bool), P s → P (s.updSlot n (fun y => { y with prev := b })))
    (hrefuse : ∀ (s : State) (status : Nat), P s → P (s.refuseSlot n status))
    (hadvance : ∀ (s : State) (m o : Nat), P s → P (advance m o s)) {s : State} (h : P s) : P (s.stage3 n) := by
  unfold stage3
  dsimp only
  split
  · exact hrefuse _ _ (hcount _ _ _ _ h)
  · exact hrefuse _ _ h
  · split
    · exact hrefuse _ _ (hprev _ _ h)
    · refine hadvance _ _ _ ?_
      split
      · split
        · exact hprev _ _ h
        · exact hcount _ _ _ _ (hprev _ _ h)
      · exact hprev _ _ h

theorem KeptBySending.stage3 {P : State → Prop} (k : KeptBySending P) {s : State} (n : Nat) (h : P s) : P (s.stage3 n) :=
  stage3_keeps (fun _ c i m hs => k.count c i m hs) (fun _ _ hs => k.setSlot _ _ hs) (fun _ st hs => k.refuseSlot n st hs)
    (fun _ m o hs => k.advance m o hs) h

/-- A slot holds a request. -/
def HoldsReq (n : Nat) (r : QReq) (s : State) : Prop :=
  (s.slot n).hdr = r.hdr ∧ (s.slot n).body = r.body ∧ (s.slot n).state ≠ .free

theorem HoldsReq.of_slots {n : Nat} {r : QReq} {s t : State} (h : HoldsReq n r s) (hslots : t.slots = s.slots) : HoldsReq n r t := by
  rw [HoldsReq, slot_of_slots hslots]
  exact h

theorem HoldsReq.setSlot {n : Nat} {r : QReq} (s : State) {x : Slot} (hhdr : x.hdr = r.hdr) (hbody : x.body = r.body)
    (hstate : x.state ≠ .free) : HoldsReq n r (s.setSlot n x) := by
  rw [HoldsReq, slot_setSlot _ _ _ (slot_ne_default hstate)]
  exact ⟨hhdr, hbody, hstate⟩

theorem enterStage4_slot (s : State) (n : Nat) :
    (s.enterStage4 n).slot n = { s.slot n with state := .active, entry := s.nextEntry, prog := .queued } :=
  slot_updSlot s n (fun x => { x with state := .active, entry := s.nextEntry, prog := .queued })
    (show SlotState.active ≠ .free by decide)

theorem enterStage4_slot_ne (s : State) {n m : Nat} (h : m ≠ n) : (s.enterStage4 n).slot m = s.slot m :=
  slot_setSlot_ne s n m { s.slot n with state := .active, entry := s.nextEntry, prog := .queued } h

theorem HoldsReq.advance {n : Nat} {r : QReq} (m o : Nat) {s : State} (h : HoldsReq n r s) : HoldsReq n r (State.advance m o s) := by
  refine advance_keeps (fun q e _ hq => hq.of_slots rfl) (fun q k hq => ?_) m h
  by_cases hk : n = k
  · obtain ⟨hhdr, hbody, -⟩ := hq
    rw [← hk, HoldsReq, enterStage4_slot]
    exact ⟨hhdr, hbody, show SlotState.active ≠ .free by decide⟩
  · rw [HoldsReq, enterStage4_slot_ne q hk]
    exact hq

theorem HoldsReq.resolve {n : Nat} {r : QReq} (o q status : Nat) {s : State} (h : HoldsReq n r s) :
    HoldsReq n r (s.resolve o q status) := by
  unfold State.resolve
  split
  · exact h
  · exact HoldsReq.advance _ _ (h.of_slots rfl)

theorem HoldsReq.complete {n : Nat} {r : QReq} (status : Nat) (body : Bytes) {s : State} (h : HoldsReq n r s) :
    HoldsReq n r (s.complete n status body) := by
  obtain ⟨hhdr, hbody, -⟩ := h
  rw [HoldsReq, slot_complete]
  exact ⟨hhdr, hbody, show SlotState.respond ≠ .free by decide⟩

theorem HoldsReq.stage3 {n : Nat} {r : QReq} {s : State} (h : HoldsReq n r s) : HoldsReq n r (s.stage3 n) := by
  refine stage3_keeps (fun q c i m hq => hq.of_slots rfl) (fun q b hq => ?_)
    (fun q status hq => (hq.complete status []).resolve _ _ _) (fun q m o hq => hq.advance m o) h
  obtain ⟨hhdr, hbody, hstate⟩ := hq
  exact HoldsReq.setSlot q hhdr hbody hstate

/-! HG_GRANT (R351, R354). -/

/-- A head has left its queue and paid its charge (R343, R354). -/
def chargeHead (s : State) (c : Nat) (r : QReq) : State :=
  s.updCtx c (fun g =>
    { g with queue := g.queue.drop 1, deficit := g.deficit - s.charge r.hdr
             tokens := if s.unlim c then g.tokens else g.tokens - s.charge r.hdr * 256 })

/-- The slot a granted head takes. -/
def grantSlot (s : State) (r : QReq) : Slot :=
  { state := .held, hdr := r.hdr, body := r.body, src := r.src, grantNo := s.nextAdmit, since := s.hubUnits
    limit := s.rfld .rqCfg 0 31 16 }

/-- A granted head, charged and in its slot, is at stage 3. -/
theorem grantHead_eq (s : State) (c n : Nat) (r : QReq) :
    ∃ q : State, s.grantHead c r n = q.stage3 n ∧ q.slots = (s.setSlot n (s.grantSlot r)).slots ∧
      q.store = s.store ∧ q.ctxs = (s.chargeHead c r).ctxs ∧ q.regs = s.regs := ⟨_, rfl, rfl, rfl, rfl, rfl⟩

/-- A head granted has left its queue and stands in its slot. -/
theorem grantHead_grants {s t : State} {hs : Nat → List Hdr} (h : Queued s hs t) (c n : Nat) (r : QReq) :
    Queued s (Function.update hs c (hs c).tail) (t.grantHead c r n) ∧ HoldsReq n r (t.grantHead c r n) := by
  have hcharged : Queued s (Function.update hs c (hs c).tail) (t.chargeHead c r) := h.updCtx c (by simp [← h.queue c])
  obtain ⟨q, hgrant, hslots, hstore, hctxs, hregs⟩ := grantHead_eq t c n r
  rw [hgrant]
  have hslot : HoldsReq n r (t.setSlot n (t.grantSlot r)) :=
    HoldsReq.setSlot t rfl rfl (show SlotState.held ≠ .free by decide)
  exact ⟨(queued_kept _ _).stage3 n (hcharged.of_same hstore hctxs hregs), (hslot.of_slots hslots).stage3⟩

/-- Arbitration visits a context: its quantum is added to its deficit (R354 step 1). -/
def visited (s : State) (c : Nat) : State :=
  { s.updCtx c (fun g => { g with deficit := g.deficit + 64 * s.rfld .hgCtxArb c 7 0 }) with turn := c + 1 }

theorem visited_ctx {s : State} (hwf : SMap.wf {} s.ctxs = true) (c : Nat) :
    (s.visited c).ctx c = { s.ctx c with deficit := (s.ctx c).deficit + 64 * s.rfld .hgCtxArb c 7 0 } :=
  SMap.get_set_same _ _ _ _ hwf

theorem visited_queued {s : State} (hwf : SMap.wf {} s.ctxs = true) (c : Nat) : Queued s s.queueHdrs (s.visited c) :=
  ((queued_self hwf).updCtx_same c
    (g := fun g => { g with deficit := g.deficit + 64 * s.rfld .hgCtxArb c 7 0 }) rfl).of_same rfl rfl rfl

theorem visited_freeSlotNo (s : State) (c : Nat) : (s.visited c).freeSlotNo = s.freeSlotNo := rfl
theorem visited_charge (s : State) (c : Nat) (h : Hdr) : (s.visited c).charge h = s.charge h := rfl

/-- Eligibility does not depend on the deficit (R347). -/
theorem visited_eligible {s : State} (hwf : SMap.wf {} s.ctxs = true) (c : Nat) (r : QReq) :
    (s.visited c).eligible c r = s.eligible c r := by
  have htokens : (s.visited c).tokens c = s.tokens c := by
    rw [tokens, visited_ctx hwf]
    rfl
  rw [eligible, canPay, htokens]
  rfl

theorem grantLoop_empty {s : State} {c : Nat} (h : (s.ctx c).queue = []) (k : Nat) : grantLoop k s c = s := by
  cases k with
  | zero => rfl
  | succ k => simp only [grantLoop, h]

theorem grantLoop_head {s : State} {c n : Nat} {r : QReq} {rest : List QReq} (hqueue : (s.ctx c).queue = r :: rest)
    (hfree : s.freeSlotNo = some n) (helig : s.eligible c r = true) (hcharge : s.charge r.hdr ≤ (s.ctx c).deficit) (k : Nat) :
    grantLoop (k + 1) s c = grantLoop k (s.grantHead c r n) c := by
  simp only [grantLoop, hqueue, hfree, helig, hcharge, decide_true, Bool.and_self, if_true]

/-- The context whose turn it is: its heads are granted, then every head is checked. -/
theorem exec_hgGrant {s : State} {c : Nat} {r : QReq} {rest : List QReq} (hcap : (s.captured .hgBktRate c).isSome = false)
    (hqueue : (s.ctx c).queue = r :: rest) (helig : s.eligible c r = true) (hturn : s.nextTurn = some c) :
    ∃ m, exec (.hgGrant c) s =
      .next (headCheck m (grantLoop (((s.visited c).ctx c).queue.length + 1) (s.visited c) c) c).headsCheck := by
  change ∃ m, execHgGrant c s = _
  have happly : s.applyHgCtx c = s := by rw [applyHgCtx, hcap]; rfl
  simp only [execHgGrant, happly, hqueue, helig, hturn, bne_self_eq_false, Bool.and_false, Bool.false_eq_true, if_false,
    beq_self_eq_true, Bool.and_self, if_true]
  exact ⟨_, rfl⟩

/-- The only request of the context whose turn it is, which its deficit covers, is granted. -/
theorem exec_hgGrant_single {s : State} {c n : Nat} {r : QReq} (hwf : SMap.wf {} s.ctxs = true)
    (hcap : (s.captured .hgBktRate c).isSome = false) (hqueue : (s.ctx c).queue = [r]) (helig : s.eligible c r = true)
    (hfree : s.freeSlotNo = some n) (hcharge : s.charge r.hdr ≤ (s.ctx c).deficit + 64 * s.rfld .hgCtxArb c 7 0)
    (hturn : s.nextTurn = some c) :
    ∃ m, exec (.hgGrant c) s = .next (headCheck m ((s.visited c).grantHead c r n) c).headsCheck ∧
      Queued s (Function.update s.queueHdrs c []) ((s.visited c).grantHead c r n) := by
  obtain ⟨hgranted, -⟩ := grantHead_grants (visited_queued hwf c) c n r
  have htail : (s.queueHdrs c).tail = [] := by simp [queueHdrs, hqueue]
  rw [htail] at hgranted
  have hctx := visited_ctx hwf c
  have hqueue' : ((s.visited c).ctx c).queue = [r] := by rw [hctx, hqueue]
  have hloop : grantLoop 2 (s.visited c) c = (s.visited c).grantHead c r n := by
    rw [grantLoop_head hqueue' ((visited_freeSlotNo s c).trans hfree) ((visited_eligible hwf c r).trans helig)
      (by rw [visited_charge, hctx]; exact hcharge), grantLoop_empty (hgranted.empty (Function.update_self _ _ _))]
  obtain ⟨m, hexec⟩ := exec_hgGrant hcap hqueue helig hturn
  rw [hqueue', List.length_singleton, hloop] at hexec
  exact ⟨m, hexec, hgranted⟩

/-! WAIT_LIMIT_EXPIRY (R348). -/

/-- A head that ends with QUOTA leaves its queue; the others keep their order. -/
theorem quotaHead_drops {s t : State} {hs : Nat → List Hdr} (h : Queued s hs t) (c : Nat) (r : QReq) :
    Queued s (Function.update hs c (hs c).tail) (t.quotaHead c r) := by
  have hdropped : Queued s (Function.update hs c (hs c).tail) (t.updCtx c (fun g => { g with queue := g.queue.drop 1 })) :=
    h.updCtx c (by simp [← h.queue c])
  unfold quotaHead
  refine (queued_kept _ _).refuse _ _ _ ?_
  split
  · exact hdropped.of_same rfl rfl rfl
  · exact hdropped.of_same rfl rfl rfl

theorem exec_waitLimitExpiry {s : State} {c : Nat} {r : QReq} {rest : List QReq} (hqueue : (s.ctx c).queue = r :: rest)
    (hpolicy : s.rbit .hgCtxArb c 10 = true) (helig : s.eligible c r = false)
    (hlate : r.since + s.rfld .hgCtxArb c 34 19 ≤ s.hubUnits) :
    exec (.waitLimitExpiry c) s = .next (headCheck (((s.quotaHead c r).ctx c).queue.length + 1) (s.quotaHead c r) c) := by
  change execWaitLimitExpiry c s = _
  simp only [execWaitLimitExpiry, hqueue, hpolicy, helig, hlate, Bool.not_false, and_self, if_true]

end Sys2Proof.Machine.State
end

section
/-! PROOFS. Time: what one unit of 4,096 hub cycles does to buckets, slots and memory, and the limits on gaps and reassemblies (R160,
R288, R295, R345, R376). -/

namespace Sys2Proof.Machine.State

/-! The buckets (R345, R346). -/

/-- A context with its bucket a unit fuller. -/
def filled (s : State) (c : Nat) : CtxGate :=
  { s.ctx c with tokens := min (s.burst c) ((s.ctx c).tokens + s.rfld .hgBktRate c 31 0) }

theorem filled_of_same {s t : State} {c : Nat} (hctx : t.ctx c = s.ctx c) (hregs : t.regs = s.regs) : t.filled c = s.filled c := by
  simp only [filled, burst, rfld, reg, hctx, hregs]

/-- A unit fills the bucket of one context; beside it only counters move. -/
theorem accrue_eq (s : State) (c : Nat) : ∃ ctrs, s.accrue c = ({ s with ctrs := ctrs } : State).setCtx c (s.filled c) := by
  unfold accrue
  dsimp only
  split
  · exact ⟨s.ctrs, rfl⟩
  · split
    · split <;> split <;> exact ⟨_, rfl⟩
    · exact ⟨s.ctrs, rfl⟩

/-- What filling buckets leaves as it was. -/
structure SameButBuckets (s t : State) : Prop where
  store : t.store = s.store
  slots : t.slots = s.slots
  regs : t.regs = s.regs
  hubUnits : t.hubUnits = s.hubUnits
  wf : SMap.wf {} s.ctxs = true → SMap.wf {} t.ctxs = true

theorem accrue_sameButBuckets (s : State) (c : Nat) : SameButBuckets s (s.accrue c) := by
  obtain ⟨ctrs, heq⟩ := accrue_eq s c
  rw [heq]
  exact ⟨rfl, rfl, rfl, rfl, SMap.wf_set _ _ _ _⟩

theorem SameButBuckets.trans {s t u : State} (hst : SameButBuckets s t) (htu : SameButBuckets t u) : SameButBuckets s u :=
  ⟨htu.store.trans hst.store, htu.slots.trans hst.slots, htu.regs.trans hst.regs, htu.hubUnits.trans hst.hubUnits,
    fun hwf => htu.wf (hst.wf hwf)⟩

theorem accrue_ctx {s : State} (hwf : SMap.wf {} s.ctxs = true) (c j : Nat) :
    (s.accrue c).ctx j = if j = c then s.filled c else s.ctx j := by
  obtain ⟨ctrs, heq⟩ := accrue_eq s c
  rw [heq]
  exact SMap.get_set _ _ _ _ _ hwf

/-- A unit fills the buckets of the contexts below a bound, each once. -/
theorem foldl_accrue {s : State} (hwf : SMap.wf {} s.ctxs = true) (n : Nat) :
    let t := (List.range n).foldl (fun q c => q.accrue c) s
    SameButBuckets s t ∧ ∀ j, t.ctx j = if j < n then s.filled j else s.ctx j := by
  induction n with
  | zero => exact ⟨⟨rfl, rfl, rfl, rfl, id⟩, fun j => rfl⟩
  | succ n ih =>
    obtain ⟨hsame, hctx⟩ := ih
    rw [List.range_succ, List.foldl_append, List.foldl_cons, List.foldl_nil]
    refine ⟨hsame.trans (accrue_sameButBuckets _ n), fun j => ?_⟩
    rw [accrue_ctx (hsame.wf hwf)]
    by_cases hj : j = n
    · have hread := (hctx n).trans (if_neg (Nat.lt_irrefl n))
      rw [if_pos hj, if_pos (by omega), hj, filled_of_same hread hsame.regs]
    · rw [if_neg hj, hctx]
      exact if_congr (by omega) rfl rfl

/-! Waits that are charged (R229, R376). -/

/-- What charging waits leaves as it was; of a slot the units of its waits move. -/
structure SameButUnits (s t : State) : Prop where
  store : t.store = s.store
  ctxs : t.ctxs = s.ctxs
  regs : t.regs = s.regs
  hubUnits : t.hubUnits = s.hubUnits
  slot : ∀ n, t.slot n = { s.slot n with units := (t.slot n).units }

theorem SameButUnits.refl (s : State) : SameButUnits s s := ⟨rfl, rfl, rfl, rfl, fun _ => rfl⟩

theorem count_units (s : State) (c : Ctr) (i n : Nat) : SameButUnits s (s.count c i n) := ⟨rfl, rfl, rfl, rfl, fun _ => rfl⟩

theorem SameButUnits.trans {s t u : State} (hst : SameButUnits s t) (htu : SameButUnits t u) : SameButUnits s u :=
  ⟨htu.store.trans hst.store, htu.ctxs.trans hst.ctxs, htu.regs.trans hst.regs, htu.hubUnits.trans hst.hubUnits, fun n => by
    have hread := htu.slot n
    rwa [hst.slot n] at hread⟩

theorem chargeRings_units (s : State) : SameButUnits s s.chargeRings := by
  refine foldl_keeps (fun q r hq => ?_) (SameButUnits.refl s) _
  split
  · exact hq.trans (count_units q _ _ _)
  · exact hq

theorem chargeSilt_units (s : State) (n : Nat) : SameButUnits s (s.chargeSilt n) := by
  unfold chargeSilt
  dsimp only
  split
  case isFalse => exact .refl s
  case isTrue hactive =>
    split
    · exact .refl s
    · refine ⟨rfl, rfl, rfl, rfl, fun m => ?_⟩
      by_cases hm : m = n
      · rw [hm, slot_setSlot _ _ _ (slot_ne_default (by rw [hactive]; decide))]
      · rw [slot_setSlot_ne _ _ _ _ hm]

/-! ACCRUAL_ADVANCE (R160, R345). -/

theorem foldl_upset_errs (pc : Nat) (us : List (Nat × Nat)) (st : Store) :
    Store.SameButErrs st (us.foldl (fun t u => t.upset (gaddr pc 0 / 32 + u.1) u.2) st) := by
  refine List.foldlRecOn _ _ rfl fun t ht u _ => ?_
  unfold Store.upset
  split
  · exact ht
  · rw [Store.SameButErrs] at ht ⊢
    rw [ht]
    rfl

/-- Upsets touch words of DRAM and nothing else (R160). -/
theorem upsets_sameButErrs (s : State) (pc : Nat) (us : List (Nat × Nat)) : SameButErrs s (s.upsets pc us) := by
  have herrs := foldl_upset_errs pc us s.store
  rw [Store.SameButErrs] at herrs
  change SameButErrs s { s with store := us.foldl (fun t u => t.upset (gaddr pc 0 / 32 + u.1) u.2) s.store }
  rw [herrs]
  rfl

/-- A count of what a unit brings, unless the state rules it out. -/
def countUnless (p : State → Prop) [DecidablePred p] (c : Ctr) (n : Nat) (s : State) : State := if p s then s else s.count c 0 n

/-- What a unit brings, before it has passed: upsets of DRAM and counts. -/
def tickArrives (s : State) (k : Tick) : State :=
  let upset := k.upsets.foldl (fun q u => q.upsets u.1 [u.2]) s
  let written := upset.count .lcStallWrite 0 k.write
  let warm := written.countUnless (fun q => q.cam.throttle = 0) .lcStallTherm k.therm
  let piped := warm.countUnless (fun q => q.power.bsteps.all (fun e => e.2 == 0) = true) .pwStallPipe k.pipes
  let reckoned := piped.countUnless (fun q => q.power.hstep = 0) .pwStallReckon k.reckoners
  (k.pcie.filter (fun e => decide (e.1 < 2))).foldl (fun q e => q.pred 5 e.1 0 e.2) reckoned

/-- What the counts keep and the upsets have, holds once a unit has brought them. -/
theorem tickArrives_keeps {P : State → Prop} (hcount : ∀ (s : State) (c : Ctr) (n : Nat), P s → P (s.count c 0 n))
    (hpred : ∀ (s : State) (i n : Nat), P s → P (s.pred 5 i 0 n)) {s : State} {k : Tick}
    (h : P (k.upsets.foldl (fun q u => q.upsets u.1 [u.2]) s)) : P (s.tickArrives k) := by
  have hunless : ∀ (p : State → Prop) [DecidablePred p] (c : Ctr) (n : Nat) (q : State), P q → P (q.countUnless p c n) := by
    intro p _ c n q hq
    unfold countUnless
    split
    · exact hq
    · exact hcount _ _ _ hq
  exact foldl_keeps (fun q e hq => hpred q e.1 e.2 hq)
    (hunless _ _ _ _ (hunless _ _ _ _ (hunless _ _ _ _ (hcount _ _ _ h)))) _

theorem tickArrives_sameButErrs (s : State) (k : Tick) : SameButErrs s (s.tickArrives k) :=
  tickArrives_keeps (fun _ _ _ h => h.trans rfl) (fun _ _ _ h => h.trans rfl)
    (List.foldlRecOn _ _ (SameButErrs.refl s) fun _ hq u _ => hq.trans (upsets_sameButErrs _ u.1 [u.2]))

/-- With no upset memory stays as it was. -/
theorem tickArrives_store (s : State) {k : Tick} (h : k.upsets = []) : (s.tickArrives k).store = s.store :=
  tickArrives_keeps (P := fun q => q.store = s.store) (fun _ _ _ hq => hq) (fun _ _ _ hq => hq) (by rw [h]; rfl)

/-- The unit has passed and every bucket is filled. -/
def unitPassed (s : State) (k : Tick) : State :=
  (List.range 1024).foldl (fun q c => q.accrue c) { s.tickArrives k with hubUnits := (s.tickArrives k).hubUnits + 1 }

/-- Once a unit has passed, beside memory, counts and buckets only the time has moved. -/
theorem unitPassed_leaves {s : State} (hwf : SMap.wf {} s.ctxs = true) (k : Tick) :
    (s.unitPassed k).store = (s.tickArrives k).store ∧ (s.unitPassed k).slots = s.slots ∧ (s.unitPassed k).regs = s.regs ∧
    (s.unitPassed k).hubUnits = s.hubUnits + 1 ∧
    ∀ j, (s.unitPassed k).ctx j = if j < 1024 then s.filled j else s.ctx j := by
  have harrives := tickArrives_sameButErrs s k
  rw [State.SameButErrs] at harrives
  unfold unitPassed
  rw [harrives]
  obtain ⟨hsame, hctx⟩ := foldl_accrue (s := { s with
    store := { s.store with errs := (s.tickArrives k).store.errs }, ctrs := (s.tickArrives k).ctrs,
    rel := { s.rel with pred := (s.tickArrives k).rel.pred }, hubUnits := s.hubUnits + 1 }) hwf 1024
  exact ⟨hsame.store, hsame.slots, hsame.regs, hsame.hubUnits, hctx⟩

/-- Requests that wait for a gap, for ring space or for silt are charged the unit. -/
def chargeWaits (s : State) : State :=
  let t := (s.count .rqStallGap 0 (s.slots.countP (fun e => decide (e.2.state = .held)))).chargeRings
  t.slots.foldl (fun q e => q.chargeSilt e.1) t

theorem chargeWaits_units (s : State) : SameButUnits s s.chargeWaits := by
  have hrings := (count_units s .rqStallGap 0 (s.slots.countP (fun e => decide (e.2.state = .held)))).trans (chargeRings_units _)
  exact foldl_keeps (fun q e hq => hq.trans (chargeSilt_units q e.1)) hrings _

theorem exec_accrualAdvance (s : State) (k : Tick) : exec (.accrualAdvance k) s = .next (s.unitPassed k).chargeWaits := rfl

/-! GAP_LIMIT_EXPIRY (R294, R295). -/

theorem node_of_origin? {s : State} {o : Nat} {e : Origin} (h : s.origin? o = some e) : e.node = o := by
  simpa using List.find?_some h

theorem origin?_setOrigin {s : State} {o : Nat} {e x : Origin} (h : s.origin? o = some e) (hnode : x.node = o) :
    (s.setOrigin x).origin? o = some x := by
  subst hnode
  have hsame : ((fun y : Origin => y.node == x.node) ∘ fun y => if y.node = x.node then x else y) = fun y => y.node == x.node := by
    funext y
    by_cases hy : y.node = x.node <;> simp [hy]
  change (s.origins.map (fun y => if y.node = x.node then x else y)).find? (fun y => y.node == x.node) = some x
  rw [List.find?_map, hsame]
  change Option.map _ (s.origin? x.node) = some x
  rw [h, Option.map_some, if_pos (node_of_origin? h)]

/-- NEXT of an origin is at or past a sequence. -/
def NextFrom (o q : Nat) (s : State) : Prop := ∃ e, s.origin? o = some e ∧ q ≤ e.next

theorem NextFrom.advance {o q : Nat} (n : Nat) {s : State} (h : NextFrom o q s) : NextFrom o q (State.advance n o s) := by
  refine advance_keeps (fun t e horigin ht => ?_) (fun t k ht => ht) n h
  obtain ⟨e', horigin', hle⟩ := ht
  cases horigin.symm.trans horigin'
  exact ⟨_, origin?_setOrigin horigin (show e.node = o from node_of_origin? horigin), Nat.le_succ_of_le hle⟩

theorem skipTo_done {o q : Nat} {s : State} (h : NextFrom o q s) (n : Nat) : skipTo n s o q = s := by
  obtain ⟨e, horigin, hle⟩ := h
  cases n with
  | zero => rfl
  | succ n => simp only [skipTo, horigin, Nat.not_lt.mpr hle, false_and, if_false]

/-- The sequence a skip passes waits in no queue: nothing is answered (R353). -/
theorem skipQueued_none {s : State} {o q : Nat} (h : s.queuedReq o q = false) : s.skipQueued o q = s := by
  have hnone : s.ctxs.findSome? (fun e => (e.2.queue.find? (fun r => r.hdr.origin == o && r.hdr.seq == q)).map (fun r => (e.1, r))) =
      none := by
    simp only [queuedReq, List.any_eq_false, List.any_eq_true, not_exists, not_and] at h
    simp only [List.findSome?_eq_none_iff, Option.map_eq_none_iff, List.find?_eq_none]
    exact h
  rw [skipQueued, hnone]

/-- A missing sequence is skipped (R295). -/
theorem skipTo_missing {s : State} {o q : Nat} {e : Origin} (horigin : s.origin? o = some e) (hlt : e.next < q)
    (hheld : s.heldSlot o e.next = none) (hqueued : s.queuedReq o e.next = false) (n : Nat) :
    skipTo (n + 1) s o q = skipTo n ((s.count .rqCntSkip 0 1).resolve o e.next stBusy) o q := by
  rw [skipTo, horigin]
  simp only [hlt, hheld, Option.isNone_none, and_self, if_true, skipQueued_none hqueued]

/-- NEXT passes a resolved sequence. -/
theorem advance_resolved {s : State} {o : Nat} {e : Origin} (horigin : s.origin? o = some e)
    (hdone : e.done.any (fun d => d.1 == e.next) = true) (n : Nat) :
    advance (n + 1) o s = advance n o (s.setOrigin { e with next := e.next + 1 }) := by
  simp only [advance, horigin, hdone, if_true]

/-- NEXT reaches a HELD request, which enters stage 4 (R294). -/
theorem advance_held {s : State} {o k : Nat} {e : Origin} (horigin : s.origin? o = some e)
    (hdone : e.done.any (fun d => d.1 == e.next) = false) (hheld : s.heldSlot o e.next = some k) (hopen : s.stage4Open = true)
    (n : Nat) : advance (n + 1) o s = advance n o ((s.setOrigin { e with next := e.next + 1 }).enterStage4 k) := by
  simp only [advance, horigin, hdone, hheld, hopen, Bool.false_eq_true, if_false, if_true]

/-- A slot works on its request. -/
def ActiveSlot (k : Nat) (s : State) : Prop := (s.slot k).state = .active

theorem enterStage4_active {s : State} {k : Nat} (n : Nat) (h : ActiveSlot k s) : ActiveSlot k (s.enterStage4 n) := by
  rw [ActiveSlot]
  by_cases hk : k = n
  · rw [hk, enterStage4_slot]
  · rw [enterStage4_slot_ne s hk]
    exact h

/-- The sequence before a HELD request is resolved, with none resolved past it: the request enters stage 4, and NEXT is past it. -/
theorem resolve_gap {s : State} {o k : Nat} {e : Origin} (horigin : s.origin? o = some e) (hdone : e.done = [])
    (hheld : s.heldSlot o (e.next + 1) = some k) (hopen : s.stage4Open = true) (status : Nat) :
    ActiveSlot k (s.resolve o e.next status) ∧ NextFrom o (e.next + 1) (s.resolve o e.next status) := by
  have hnode := node_of_origin? horigin
  have hresolved := origin?_setOrigin (x := { e with done := [(e.next, status)] }) horigin hnode
  have hnext := origin?_setOrigin (x := { e with done := [(e.next, status)], next := e.next + 1 }) hresolved hnode
  have hpassed := origin?_setOrigin (x := { e with done := [(e.next, status)], next := e.next + 1 + 1 }) hnext hnode
  have heq : s.resolve o e.next status = advance 4095 o ((((s.setOrigin { e with done := [(e.next, status)] }).setOrigin
      { e with done := [(e.next, status)], next := e.next + 1 }).setOrigin
      { e with done := [(e.next, status)], next := e.next + 1 + 1 }).enterStage4 k) := by
    unfold resolve
    rw [horigin]
    simp only [hdone, List.filter_nil, List.nil_append, Nat.le_add_right, if_true]
    rw [advance_resolved hresolved (by simp), advance_held hnext (by simp) hheld hopen]
  rw [heq]
  refine ⟨advance_keeps (P := ActiveSlot k) (fun _ _ _ hs => hs) (fun _ n hs => enterStage4_active n hs) _ ?_,
    NextFrom.advance _ ⟨_, hpassed, by simp⟩⟩
  rw [ActiveSlot, enterStage4_slot]

theorem exec_gapLimitExpiry {s : State} {o q : Nat} {x : Slot} (hlow : s.lowestHeld o = some (q, x))
    (hlate : x.since + x.limit ≤ s.hubUnits) : exec (.gapLimitExpiry o) s = .next (skipTo 2049 s o q) := by
  change execGapLimitExpiry o s = _
  simp only [execGapLimitExpiry, hlow, hlate, if_true]

end Sys2Proof.Machine.State

namespace Sys2Proof.Machine

open State

/-- Settles O21, command by command; what waits in the queues, the slots and memory are followed through whatever a refusal sends. -/
theorem admissionAndTime : Obligations.AdmissionAndTime := by
  refine ⟨fun s ctx n r hwf hcap hqueue helig hfree hcharge hturn hothers => ?grant, fun s k hwf => ?time,
    fun s ctx r rest hwf hqueue hpolicy helig hlate => ?wait,
    fun s o q k e x hlow hlate horigin hnext hdone hnone hheld hqueued hopen => ?gap,
    fun s src cls o q e hfind hlate => ?reassembly⟩
  case grant =>
    obtain ⟨m, hexec, hgranted⟩ := exec_hgGrant_single hwf hcap hqueue helig hfree hcharge hturn
    obtain ⟨-, hslot⟩ := grantHead_grants (visited_queued hwf ctx) ctx n r
    have hempty : Function.update s.queueHdrs ctx [] ctx = [] := Function.update_self _ _ _
    have hwaits : ∀ c, Function.update s.queueHdrs ctx [] c = [] ∨ s.rbit .hgCtxArb c 10 = true := by
      intro c
      by_cases hc : c = ctx
      · exact Or.inl (by rw [hc, hempty])
      · rw [Function.update_of_ne hc]
        exact (hothers c hc).imp_left fun h => List.map_eq_nil_iff.mpr h
    obtain ⟨hchecked, hslots⟩ := headCheck_waits hgranted (hwaits ctx) m
    obtain ⟨hall, hslots'⟩ := headsCheck_waits hchecked hwaits
    obtain ⟨hhdr, hbody, hstate⟩ := hslot.of_slots (hslots'.trans hslots)
    exact ⟨_, hexec, hhdr, hbody, hstate, hall.empty hempty, hall.store⟩
  case time =>
    obtain ⟨hstore, hslots, hregs, hunits, hctx⟩ := unitPassed_leaves hwf k
    have hwaits := chargeWaits_units (s.unitPassed k)
    have hread : ∀ c, (s.unitPassed k).chargeWaits.ctx c = if c < 1024 then s.filled c else s.ctx c := by
      intro c
      rw [State.ctx, hwaits.ctxs]
      exact hctx c
    have harrives := tickArrives_sameButErrs s k
    rw [State.SameButErrs] at harrives
    refine ⟨_, exec_accrualAdvance s k, hwaits.hubUnits.trans hunits, fun c hc => ?_, fun c => ?_, fun n => ?_, ?_,
      fun hnone => ?_, hwaits.regs.trans hregs⟩
    · rw [hread, if_pos hc]
      rfl
    · rw [hread]
      split <;> exact ⟨rfl, rfl⟩
    · rw [← slot_of_slots hslots n]
      exact hwaits.slot n
    · rw [hwaits.store, hstore, harrives]
    · rw [hwaits.store, hstore, tickArrives_store s hnone]
  case wait =>
    have hdropped := quotaHead_drops (queued_self hwf) ctx r
    obtain ⟨hall, -⟩ := headCheck_waits hdropped (Or.inr hpolicy) (((s.quotaHead ctx r).ctx ctx).queue.length + 1)
    refine ⟨_, exec_waitLimitExpiry hqueue hpolicy helig hlate, ?_, hall.store⟩
    rw [hall.queue, Function.update_self, queueHdrs, hqueue]
    rfl
  case gap =>
    subst hnext
    obtain ⟨hactive, hpast⟩ := resolve_gap (s := s.count .rqCntSkip 0 1) horigin hdone hheld hopen stBusy
    refine ⟨(s.count .rqCntSkip 0 1).resolve o e.next stBusy, ?_, hactive, ?_⟩
    · rw [exec_gapLimitExpiry hlow hlate, skipTo_missing horigin (Nat.lt_succ_self _) hnone hqueued, skipTo_done hpast]
    · obtain ⟨hstore, -⟩ := resolve_sendsOnly (s.count .rqCntSkip 0 1) o e.next stBusy
      exact hstore
  case reassembly =>
    change execReasmLimitExpiry src cls o q s = _
    simp only [execReasmLimitExpiry, hfind, hlate, if_true]

end Sys2Proof.Machine
end

section
/-! PROOFS. RMA requests and answers: the window of a connection, requests performed in order, responses to the module's own requests, and
the limits that fail a connection (R330, R331, R462, R463). -/

namespace Sys2Proof.Machine.State

/-! The window of a connection (R330). -/

/-- A carrier that names its command's operation brings its request to the engine. -/
theorem exec_rmaCommand {s : State} {c : Nat} {h : Hdr} {b : Bytes} {x : Instr × Nat × Nat × Option Nat} (hx : x ∈ rmaCommands c h b)
    (hop : isOp h b x.2.1 x.2.2.1 x.2.2.2 = true) : exec x.1 s = .next (s.rmaIn c h b) := by
  simp only [rmaCommands, List.mem_cons, List.not_mem_nil, or_false] at hx
  rcases hx with rfl | rfl | rfl | rfl | rfl | rfl | rfl | rfl | rfl | rfl | rfl | rfl | rfl | rfl <;>
    exact congrArg Host.Outcome.next (if_pos hop)

theorem rmaIn_withdrawn {s : State} (c : Nat) (h : Hdr) (b : Bytes) (hsvc : s.rel.svc = .withdrawing ∨ s.rel.svc = .out) :
    s.rmaIn c h b = s.count .rsDropOut 0 1 := if_pos hsvc

theorem rmaIn_serving {s : State} (c : Nat) (h : Hdr) (b : Bytes) (hwithdrawing : s.rel.svc ≠ .withdrawing) (hout : s.rel.svc ≠ .out) :
    s.rmaIn c h b = s.rmaArrive c h b := if_neg (not_or.mpr ⟨hwithdrawing, hout⟩)

/-- The state that holds one more request of a connection. -/
def heldBack (s : State) (c : Nat) (h : Hdr) (b : Bytes) : State :=
  s.setConn c { s.conn c with held := (s.conn c).held ++ [{ hdr := h, body := b, since := s.hubUnits }] }

section
variable {s : State} {c : Nat} {h : Hdr} (b : Bytes) (hopen : (s.conn c).state = .opn)
include hopen

theorem conn_heldBack : (s.heldBack c h b).conn c =
    { s.conn c with held := (s.conn c).held ++ [{ hdr := h, body := b, since := s.hubUnits }] } :=
  conn_setConn s c _ fun heq => by
    have hclosed : (s.conn c).state = .closed := congrArg Conn.state heq
    exact ConnState.noConfusion (hopen.symm.trans hclosed)

theorem rmaArrive_old (hold : h.seq + 1024 < (s.conn c).rnext) : s.rmaArrive c h b = s.count .fuRmaOld (s.connFurrow c) 1 := by
  simp only [rmaArrive, hopen, hold, ne_eq, not_true_eq_false, if_false, if_true]

theorem rmaArrive_ahead (hahead : (s.conn c).rnext + 1024 ≤ h.seq) :
    s.rmaArrive c h b = s.count .fuRmaAhead (s.connFurrow c) 1 := by
  have hold : ¬ h.seq + 1024 < (s.conn c).rnext := by omega
  simp only [rmaArrive, hopen, hold, hahead, ne_eq, not_true_eq_false, if_false, if_true]

variable (hlow : (s.conn c).rnext ≤ h.seq + 1024) (hhigh : h.seq < (s.conn c).rnext + 1024)
include hlow hhigh

theorem rmaArrive_echo {e : RmaDone} (hseen : (s.conn c).window.find? (fun e => e.seq == h.seq) = some e) (hwrite : e.kind = kRmaWrite) :
    s.rmaArrive c h b = (s.rmaAnswer c h e.status e.body).count .fuRmaEcho (s.connFurrow c) 1 := by
  simp only [rmaArrive, hopen, not_lt.mpr hlow, not_le.mpr hhigh, hseen, hwrite, ne_eq, not_true_eq_false, if_false, if_true]

theorem rmaArrive_twice (hnew : (s.conn c).window.find? (fun e => e.seq == h.seq) = none)
    (hheld : (s.conn c).held.any (fun e => e.hdr.seq == h.seq) = true) :
    s.rmaArrive c h b = s.count .fuRmaDup (s.connFurrow c) 1 := by
  simp only [rmaArrive, hopen, not_lt.mpr hlow, not_le.mpr hhigh, hnew, hheld, ne_eq, not_true_eq_false, if_false, if_true]

theorem rmaArrive_new (hnew : (s.conn c).window.find? (fun e => e.seq == h.seq) = none)
    (hheld : (s.conn c).held.any (fun e => e.hdr.seq == h.seq) = false) :
    s.rmaArrive c h b = rmaRun 1025 c (s.heldBack c h b) := by
  simp only [rmaArrive, eq_true hopen, not_lt.mpr hlow, not_le.mpr hhigh, hnew, hheld, ne_eq, not_true_eq_false, Bool.false_eq_true,
    if_false]
  rfl

end

/-! Held requests at RNEXT (R316, R330). -/

theorem rmaRun_gap {s : State} {c : Nat} (n : Nat) (hnone : (s.conn c).held.find? (fun e => e.hdr.seq == (s.conn c).rnext) = none) :
    rmaRun n c s = s := by
  cases n with
  | zero => rfl
  | succ n => simp only [rmaRun, hnone]

section
variable {s : State} {c : Nat} {x : RmaHeld} (n : Nat)
    (hfront : (s.conn c).held.find? (fun e => e.hdr.seq == (s.conn c).rnext) = some x)
    (hidle : (s.conn c).waiting.contains (s.conn c).rnext = false)
include hfront hidle

theorem rmaRun_waits {w : State} (hwaits : s.rmaWaits c x.hdr (RmaDesc.ofBytes x.body) = (w, true)) : rmaRun (n + 1) c s = w := by
  simp only [rmaRun, hfront, hidle, hwaits, Bool.false_eq_true, if_false]

theorem rmaRun_performs {w t : State} {st : Nat} {r : Bytes} (hgoes : s.rmaWaits c x.hdr (RmaDesc.ofBytes x.body) = (w, false))
    (hserve : w.serve c x.hdr x.body = (t, some (st, r))) :
    rmaRun (n + 1) c s = rmaRun n c ((t.rmaResolve c x.hdr st r).rmaAnswer c x.hdr st r) := by
  simp only [rmaRun, hfront, hidle, hgoes, hserve, Bool.false_eq_true, if_false]

theorem rmaRun_unanswered {w t : State} (hgoes : s.rmaWaits c x.hdr (RmaDesc.ofBytes x.body) = (w, false))
    (hserve : w.serve c x.hdr x.body = (t, none)) :
    rmaRun (n + 1) c s = t.updConn c (fun k => { k with waiting := k.waiting ++ [x.hdr.seq] }) := by
  simp only [rmaRun, hfront, hidle, hgoes, hserve, Bool.false_eq_true, if_false]

end

/-- Where none is held at RNEXT, the request that comes is the one there if its sequence says so. -/
theorem find?_append_singleton {l : List RmaHeld} {q : Nat} (hnone : l.any (fun e => e.hdr.seq == q) = false) (x : RmaHeld) :
    (l ++ [x]).find? (fun e => e.hdr.seq == q) = if x.hdr.seq = q then some x else none := by
  have hmissing : l.find? (fun e => e.hdr.seq == q) = none := by
    rw [List.find?_eq_none]
    exact List.any_eq_false.mp hnone
  rw [List.find?_append, hmissing, Option.none_or, List.find?_singleton]
  simp

/-! Answers, gaps and limits (R330, R331, R463). -/

theorem exec_rmaResponse {s : State} {c : Nat} {h : Hdr} (b : Bytes) (hstate : (s.conn c).state = .opn ∨ (s.conn c).state = .closing)
    (hclass : classOf h.kind = .rmaResponse) :
    exec (.rmaResponse c h b) s = .next (s.unlessOut (s.rmaReturn c h b).resumeGrants) := by
  change execRmaResponse c h b s = _
  rw [execRmaResponse, if_pos hstate, if_pos hclass]

theorem rmaReturn_outstanding {s : State} {c : Nat} {h : Hdr} {o : RmaOut} (b : Bytes)
    (hout : (s.conn c).outs.find? (fun o => o.seq == h.seq) = some o) : s.rmaReturn c h b =
      (s.setConn c { s.conn c with outs := (s.conn c).outs.filter (fun x => x.seq != h.seq) }).settle o (some h.status) b := by
  simp only [rmaReturn, hout]

theorem rmaReturn_late {s : State} {c : Nat} {h : Hdr} (b : Bytes) (hnone : (s.conn c).outs.all (fun o => o.seq != h.seq) = true) :
    s.rmaReturn c h b = s.count .fuRmaLate (s.connFurrow c) 1 := by
  have hmissing : (s.conn c).outs.find? (fun o => o.seq == h.seq) = none := by
    rw [List.find?_eq_none]
    intro o ho hseq
    have hne := List.all_eq_true.mp hnone o ho
    rw [bne, hseq] at hne
    exact Bool.noConfusion hne
  simp only [rmaReturn, hmissing]

/-- A connection with nothing outstanding fails: its state and an event on its furrow, where no slice is shadowed. -/
theorem connFail_alone {s : State} {c : Nat} (hopen : (s.conn c).state = .opn) (houts : (s.conn c).outs = [])
    (hshadows : s.rel.shadows = []) : s.connFail c =
      ((s.setConn c { s.conn c with state := .failed, outs := [] }).count .fuCntConnfail (s.connFurrow c) 1).sendEvent
        (s.connFurrow c) evConnFail (s.connTo c) := by
  have hrel := (sendEvent_sendsOnly ((s.setConn c { s.conn c with state := .failed, outs := [] }).count .fuCntConnfail
    (s.connFurrow c) 1) (s.connFurrow c) evConnFail (s.connTo c)).rel
  have hnone : (((s.setConn c { s.conn c with state := .failed, outs := [] }).count .fuCntConnfail (s.connFurrow c) 1).sendEvent
      (s.connFurrow c) evConnFail (s.connTo c)).rel.shadows = [] := by rw [hrel]; exact hshadows
  rw [connFail, if_pos (Or.inl hopen)]
  simp only [hopen, houts, List.foldl_nil]
  exact congrArg (List.foldl _ _) hnone

theorem connFail_fails {s : State} {c : Nat} (hopen : (s.conn c).state = .opn) (houts : (s.conn c).outs = [])
    (hshadows : s.rel.shadows = []) : ((s.connFail c).conn c).state = .failed ∧ (s.connFail c).store = s.store ∧
      ∀ j, j ≠ c → (s.connFail c).conn j = s.conn j := by
  rw [connFail_alone hopen houts hshadows]
  generalize hq : (s.setConn c { s.conn c with state := .failed, outs := [] }).count .fuCntConnfail (s.connFurrow c) 1 = q
  obtain ⟨hstore, -⟩ := sendEvent_sendsOnly q (s.connFurrow c) evConnFail (s.connTo c)
  obtain ⟨-, -, hconns, -⟩ := sendEvent_eventOnly q (s.connFurrow c) evConnFail (s.connTo c)
  have hread : ∀ j, (q.sendEvent (s.connFurrow c) evConnFail (s.connTo c)).conn j =
      (s.setConn c { s.conn c with state := .failed, outs := [] }).conn j := fun j => by rw [State.conn, hconns, ← hq]; rfl
  refine ⟨?_, hstore.trans (by rw [← hq]; rfl), fun j hj => (hread j).trans (conn_setConn_ne _ _ _ _ hj)⟩
  rw [hread, conn_setConn s c _ fun heq => ConnState.noConfusion (congrArg Conn.state heq)]

end Sys2Proof.Machine.State

namespace Sys2Proof.Machine

open State

/-- Settles O30: what the window says of a request's sequence, and whether the request stands at RNEXT. -/
theorem rmaRequestsInOrder : Obligations.RmaRequestsInOrder := by
  intro s c h b x hx hop
  simp only [exec_rmaCommand hx hop, Host.Outcome.next.injEq]
  refine ⟨rmaIn_withdrawn c h b, fun hwithdrawing hout hopen => ?_⟩
  simp only [rmaIn_serving c h b hwithdrawing hout]
  refine ⟨fun hlow hhigh hnew hheld => ?_, fun e hlow hhigh => rmaArrive_echo b hopen hlow hhigh, rmaArrive_twice b hopen, rmaArrive_old b hopen,
    rmaArrive_ahead b hopen⟩
  simp only [rmaArrive_new b hopen hlow hhigh hnew hheld]
  have hconn := conn_heldBack (h := h) b hopen
  refine ⟨fun hnext hidle => ?_, fun hahead hnone => rmaRun_gap 1025 ?_⟩
  · have hfront : ((s.heldBack c h b).conn c).held.find? (fun e => e.hdr.seq == ((s.heldBack c h b).conn c).rnext) =
        some { hdr := h, body := b, since := s.hubUnits } := by
      rw [hconn]
      exact (find?_append_singleton (by rwa [← hnext]) _).trans (if_pos hnext)
    rw [show (s.conn c).waiting = ((s.heldBack c h b).conn c).waiting by rw [hconn],
      show (s.conn c).rnext = ((s.heldBack c h b).conn c).rnext by rw [hconn]] at hidle
    exact ⟨fun w => rmaRun_waits 1024 hfront hidle, fun w t st r => rmaRun_performs 1024 hfront hidle,
      fun w t => rmaRun_unanswered 1024 hfront hidle⟩
  · rw [hconn]
    exact (find?_append_singleton hnone _).trans (if_neg hahead)

/-- Settles O32: a response by the requests outstanding, the limits by their tests, and a failure by the event it sends. -/
theorem rmaAnswersAndLimits : Obligations.RmaAnswersAndLimits := by
  refine ⟨fun s c h b hstate hclass => ?_, fun s c hopen => ⟨fun hgap => ⟨fun hlate => ?late, fun hearly => ?early⟩, fun hlate => ?limit⟩,
    fun s c _ hopen houts hshadows => connFail_fails hopen houts hshadows⟩
  · rw [exec_rmaResponse b hstate hclass]
    refine ⟨fun hout => by rw [unlessOut_out _ hout], fun o hin hout => ?_, fun hin hnone => ?_⟩
    · rw [unlessOut_in _ hin, rmaReturn_outstanding b hout]
    · rw [unlessOut_in _ hin, rmaReturn_late b hnone]
  case late => exact if_pos ⟨hopen, hlate, by rw [hgap]; rfl⟩
  case early => exact if_neg fun ⟨_, hlate, _⟩ => Bool.false_ne_true (hearly.symm.trans hlate)
  case limit => exact if_pos ⟨Or.inl hopen, hlate⟩

end Sys2Proof.Machine
end

section
/-! PROOFS. Messages of the key service: what the Mint hears, sessions without the key-service root, and what each message changes
(R324, R325, R407 to R409, R414, Table 13-5). -/

namespace Sys2Proof.Machine.State

/-! What the Mint hears (R405, R407). -/

section
variable {s : State} {sid : Option Nat} (hhears : MintHears s sid)
include hhears

/-- A request the Mint hears is counted and goes on. -/
theorem spdmGuard_hears (k : State → Result) : s.spdmGuard sid k = k (heardReq s) := by
  obtain ⟨hready, hwindow, hsession⟩ := hhears
  have hclosed : (s.count .mtCntSpdmReq 0 1).firm.window = false := hwindow
  simp only [spdmGuard, hready, hclosed, Bool.not_true, Bool.false_eq_true, if_false]
  cases sid with
  | none => rfl
  | some id => exact if_pos (hsession id rfl)

/-- Without the key-service root a message is an unexpected request. -/
theorem keyService_unexpected (hroot : s.keyServiceOk sid = false) (op : Nat) (k : State → State × Nat × Bytes) :
    s.keyService sid op k = .next ((heardReq s).spdmError sid "ERROR UnexpectedRequest") := by
  have hheard : (heardReq s).keyServiceOk sid = false := hroot
  rw [keyService, spdmGuard_hears hhears, if_neg (by rw [hheard]; exact Bool.false_ne_true)]

/-- With it a message has its effect and its status answered. -/
theorem keyService_obeyed (hroot : s.keyServiceOk sid = true) (op : Nat) {k : State → State × Nat × Bytes} {t : State} {st : Nat}
    {b : Bytes} (heffect : k (heardReq s) = (t, st, b)) : s.keyService sid op k = .next (ksOut t sid op st b) := by
  have hheard : (heardReq s).keyServiceOk sid = true := hroot
  rw [keyService, spdmGuard_hears hhears, if_pos hheard, heffect]
  rfl

/-- The answer leaves the Mint, the connections and the contexts as the effect made them. -/
theorem keyService_leaves (hroot : s.keyServiceOk sid = true) (op : Nat) {k : State → State × Nat × Bytes} {t : State} {st : Nat}
    {b : Bytes} (heffect : k (heardReq s) = (t, st, b)) :
    ∃ u, s.keyService sid op k = .next u ∧ u.mint = t.mint ∧ u.conns = t.conns ∧ u.ctxs = t.ctxs :=
  ⟨_, keyService_obeyed hhears hroot op heffect, rfl, rfl, rfl⟩

end

theorem exec_keyService {s : State} {sid : Option Nat} {n id c x : Nat} {key : Bytes} {i : Instr}
    (hi : i ∈ [Instr.jobInstall sid n id key, .jobRetire sid n, .connBind sid c n, .connUnbind sid c, .ctxClose sid x, .ctxQuery sid x]) :
    ∃ op k, exec i s = s.keyService sid op k := by
  simp only [List.mem_cons, List.not_mem_nil, or_false] at hi
  rcases hi with rfl | rfl | rfl | rfl | rfl | rfl
  · exact ⟨1, jobInstall n id key, rfl⟩
  · exact ⟨2, jobRetire n, rfl⟩
  · exact ⟨3, connBind (c % 16384) n, rfl⟩
  · exact ⟨4, connUnbind (c % 16384), rfl⟩
  · exact ⟨5, fun q => (q.startClose (x % 1024), ksOk, []), rfl⟩
  · exact ⟨6, fun q => (q, ksOk, leBytes 8 (q.ctxStatus (x % 1024)).toNat), rfl⟩

/-! The four messages that name a connection or a context, with a number in range. -/

section
variable (s : State) (sid : Option Nat)

theorem exec_connBind {c : Nat} (n : Nat) (hc : c < 16384) : exec (.connBind sid c n) s = s.keyService sid 3 (connBind c n) := by
  change s.keyService sid 3 (connBind (c % 16384) n) = _
  rw [Nat.mod_eq_of_lt hc]

theorem exec_connUnbind {c : Nat} (hc : c < 16384) : exec (.connUnbind sid c) s = s.keyService sid 4 (connUnbind c) := by
  change s.keyService sid 4 (connUnbind (c % 16384)) = _
  rw [Nat.mod_eq_of_lt hc]

theorem exec_ctxClose {x : Nat} (hx : x < 1024) :
    exec (.ctxClose sid x) s = s.keyService sid 5 (fun q => (q.startClose x, ksOk, [])) := by
  change s.keyService sid 5 (fun q => (q.startClose (x % 1024), ksOk, [])) = _
  rw [Nat.mod_eq_of_lt hx]

theorem exec_ctxQuery {x : Nat} (hx : x < 1024) :
    exec (.ctxQuery sid x) s = s.keyService sid 6 (fun q => (q, ksOk, leBytes 8 (q.ctxStatus x).toNat)) := by
  change s.keyService sid 6 (fun q => (q, ksOk, leBytes 8 (q.ctxStatus (x % 1024)).toNat)) = _
  rw [Nat.mod_eq_of_lt hx]

end

/-! Job slots (R408). -/

theorem job_of_mint {s t : State} (h : t.mint = s.mint) (n : Nat) : t.job n = s.job n := by
  rw [State.job, h]
  rfl

theorem conn_of_conns {s t : State} (h : t.conns = s.conns) (c : Nat) : t.conn c = s.conn c := by
  rw [State.conn, h]
  rfl

theorem job_setJobSlot_ne (s : State) {n m : Nat} (j : Job) (h : m ≠ n) : (s.setJobSlot n j).job m = s.job m :=
  SMap.get_set_ne _ _ _ _ _ h

theorem job_setJobSlot (s : State) (n : Nat) {j : Job} (h : j.loaded = true) : (s.setJobSlot n j).job n = j :=
  SMap.get_set_of_ne _ _ _ _ fun heq => by rw [heq] at h; cases h

theorem job_setJobSlot_of_wf {s : State} (hwf : SMap.wf {} s.mint.jobs = true) (n : Nat) (j : Job) : (s.setJobSlot n j).job n = j :=
  SMap.get_set_same _ _ _ _ hwf

theorem jobInstall_free {s : State} {n : Nat} (id : Nat) (key : Bytes) (hn : n < 4096) (hfree : (s.job n).loaded = false) :
    jobInstall n id key s = ((s.setJobSlot n { loaded := true, id := id % 2 ^ 64, key := fit 32 key }).count .mtCntKeyinst 0 1, ksOk, []) :=
  if_neg (not_or.mpr ⟨not_le.mpr hn, by rw [hfree]; exact Bool.false_ne_true⟩)

theorem jobInstall_refused {s : State} {n : Nat} (id : Nat) (key : Bytes) (h : 4096 ≤ n ∨ (s.job n).loaded = true) :
    jobInstall n id key s = s.ksRefuse ksBadSlot := if_pos h

section
variable {s : State} {n : Nat} (hn : n < 4096) (hloaded : (s.job n).loaded = true)
include hn hloaded

theorem not_badSlot : ¬ (4096 ≤ n ∨ (!(s.job n).loaded) = true) :=
  not_or.mpr ⟨not_le.mpr hn, by rw [hloaded]; exact Bool.false_ne_true⟩

theorem jobRetire_inUse (hbinds : s.binds n ≠ 0) : jobRetire n s = s.ksRefuse ksInUse := by
  rw [jobRetire, if_neg (not_badSlot hn hloaded), if_pos hbinds]

theorem jobRetire_free (hbinds : s.binds n = 0) : jobRetire n s = ((s.setJobSlot n {}).count .mtCntKeyret 0 1, ksOk, []) := by
  rw [jobRetire, if_neg (not_badSlot hn hloaded), if_neg (not_not.mpr hbinds)]

/-! Bindings (R324, R325, R409). -/

theorem connBind_noConn {c : Nat} (hstate : (s.conn c).state ≠ .opn) : connBind c n s = s.ksRefuse ksNoConn := by
  simp only [connBind, not_badSlot hn hloaded, if_false, if_pos hstate]

theorem connBind_installs {c : Nat} (hopen : (s.conn c).state = .opn) (hctx : ∀ x, s.connCtx c = some x → (s.ctx x).state = .opn)
    (hconf : s.img.conf = false) (hretire : (s.conn c).retire = false) : connBind c n s =
      ((s.setConn c (bindKey (s.conn c) n (leNat (s.job n).key + 1))).count .mtCntKeyinst 0 1, ksOk, []) := by
  have hclosing : ¬ (match s.connCtx c with | some x => decide ((s.ctx x).state ≠ .opn) | none => false) = true := by
    split
    · next x hx => simp [hctx x hx]
    · exact Bool.false_ne_true
  have hconfOk : ¬ (s.img.conf = true ∧ (!s.connEnc c) = true) := fun ⟨h, _⟩ => Bool.false_ne_true (hconf.symm.trans h)
  rw [connBind]
  refine (if_neg (not_badSlot hn hloaded)).trans ((if_neg (not_not.mpr hopen)).trans ((if_neg hclosing).trans ((if_neg hconfOk).trans
    (if_neg ?_))))
  rw [hretire]
  exact Bool.false_ne_true

end

theorem bindKey_state (k : Conn) (slot key : Nat) : (bindKey k slot key).state = k.state := by
  unfold bindKey
  dsimp only
  split <;> rfl

theorem bindKey_kp (k : Conn) (slot key : Nat) : (bindKey k slot key).kp = if k.kp = 0 then 1 else 0 := by
  unfold bindKey
  dsimp only
  split <;> rfl

/-- The slot stands bound to the phase in use after the change. -/
theorem phaseKey_bindKey (k : Conn) (slot key : Nat) : phaseKey (bindKey k slot key) (bindKey k slot key).kp = slot + 1 := by
  unfold bindKey phaseKey
  dsimp only
  split <;> rfl

theorem connUnbind_open {s : State} {c : Nat} (hopen : (s.conn c).state = .opn) : connUnbind c s = (s.zeroPhases c, ksOk, []) :=
  if_neg (not_not.mpr hopen)

/-- A connection whose state is not CLOSED reads back. -/
theorem conn_setConn_of_state {s : State} (c : Nat) {x : Conn} (h : x.state ≠ .closed) : (s.setConn c x).conn c = x :=
  conn_setConn s c x fun heq => h (congrArg Conn.state heq)

/-- An OPEN connection without its keys reads back. -/
theorem conn_zeroPhases_of_open {s : State} {c : Nat} (hopen : (s.conn c).state = .opn) :
    (s.zeroPhases c).conn c = { s.conn c with key0 := 0, key1 := 0, kn0 := 0, kn1 := 0, retire := false } :=
  conn_setConn_of_state c fun h => ConnState.noConfusion (hopen.symm.trans h)

end Sys2Proof.Machine.State

namespace Sys2Proof.Machine

open State

/-- Settles O48, message by message: what each makes of the state the Mint hears it in. -/
theorem keyServiceMessages : Obligations.KeyServiceMessages := by
  intro s sid hhears
  refine ⟨fun hroot n id c x key i hi => ?unexpected, fun hroot => ?obeyed⟩
  case unexpected =>
    obtain ⟨op, k, hexec⟩ := exec_keyService (s := s) hi
    exact ⟨_, hexec.trans (keyService_unexpected hhears hroot op k), rfl, rfl⟩
  case obeyed =>
    have hobeyed := fun op k t st b => keyService_obeyed hhears hroot op (k := k) (t := t) (st := st) (b := b)
    have hleaves := fun op k t st b => keyService_leaves hhears hroot op (k := k) (t := t) (st := st) (b := b)
    refine ⟨fun n id key hn hfree => ?install, fun n id key hbad => ?badSlot, fun n hwf hn hloaded => ?retire,
      fun c n hc hn hloaded => ?bind, fun c hc hopen => ?unbind, fun x hx => ?close, fun x hx => ?query⟩
    case install =>
      obtain ⟨u, hexec, hmint, hconns, hctxs⟩ := hleaves 1 _ _ _ _ (jobInstall_free (s := heardReq s) id key hn hfree)
      have hread := job_of_mint (s := s.setJobSlot n { loaded := true, id := id % 2 ^ 64, key := fit 32 key }) hmint
      exact ⟨u, hexec, (hread n).trans (job_setJobSlot s n rfl), fun m hm => (hread m).trans (job_setJobSlot_ne s _ hm), hconns, hctxs⟩
    case badSlot => exact hobeyed 1 _ _ _ _ (jobInstall_refused id key hbad)
    case retire =>
      refine ⟨fun hbinds => hobeyed 2 _ _ _ _ (jobRetire_inUse hn hloaded hbinds), fun hbinds => ?_⟩
      obtain ⟨u, hexec, hmint, hconns, -⟩ := hleaves 2 _ _ _ _ (jobRetire_free (s := heardReq s) hn hloaded hbinds)
      have hread := job_of_mint (s := s.setJobSlot n {}) hmint
      exact ⟨u, hexec, (hread n).trans (job_setJobSlot_of_wf hwf n {}), fun m hm => (hread m).trans (job_setJobSlot_ne s _ hm), hconns⟩
    case bind =>
      refine ⟨fun hstate => (exec_connBind s sid n hc).trans
        (hobeyed 3 _ _ _ _ (connBind_noConn (s := heardReq s) hn hloaded hstate)), fun hopen hctx hconf hretire => ?_⟩
      obtain ⟨u, hexec, -, hconns, hctxs⟩ :=
        hleaves 3 _ _ _ _ (connBind_installs (s := heardReq s) hn hloaded hopen hctx hconf hretire)
      have hread := conn_of_conns (s := s.setConn c (bindKey (s.conn c) n (leNat (s.job n).key + 1))) hconns
      have hstate : (bindKey (s.conn c) n (leNat (s.job n).key + 1)).state = .opn := (bindKey_state _ _ _).trans hopen
      have hbound := (hread c).trans (conn_setConn_of_state c fun h => ConnState.noConfusion (hstate.symm.trans h))
      refine ⟨u, (exec_connBind s sid n hc).trans hexec, ?_⟩
      rw [hbound]
      exact ⟨bindKey_kp _ _ _, phaseKey_bindKey _ _ _, hstate, fun j hj => (hread j).trans (conn_setConn_ne s c j _ hj), hctxs⟩
    case unbind =>
      obtain ⟨u, hexec, -, hconns, -⟩ := hleaves 4 _ _ _ _ (connUnbind_open (s := heardReq s) hopen)
      have hread := conn_of_conns (s := s.zeroPhases c) hconns
      exact ⟨u, (exec_connUnbind s sid hc).trans hexec, (hread c).trans (conn_zeroPhases_of_open hopen),
        fun j hj => (hread j).trans (conn_setConn_ne s c j _ hj)⟩
    case close => exact (exec_ctxClose s sid hx).trans (hobeyed 5 _ _ _ _ rfl)
    case query => exact (exec_ctxQuery s sid hx).trans (hobeyed 6 _ _ _ _ rfl)

end Sys2Proof.Machine
end

section
/-! PROOFS. Connections that are committed: one that opens afresh, one refused, and one whose close begins (R320, R337, R413, R428,
R431). -/

namespace Sys2Proof.Machine.State

/-! A commit of one register (R438). -/

/-- The commit of one register at once writes its shadow, and nothing of it waits. -/
theorem commitNow_single (s : State) (r : Reg) (i : Nat) : ∃ cap, s.commitNow [(r, i)] =
    { s with regs := { (s.setReg r i (s.shadow r i)).regs with cap := cap } } := by
  have hcaptured : (s.capture [(r, i)]).captured r i = some (s.shadow r i) :=
    SMap.get_set_of_ne none s.regs.cap (r.key i) (some (s.shadow r i)) (Option.some_ne_none _)
  refine ⟨SMap.set none (s.capture [(r, i)]).regs.cap (r.key i) none, ?_⟩
  simp only [commitNow, takeEffect, List.foldl_cons, List.foldl_nil, hcaptured]
  rfl

theorem reg_commitNow {s : State} (hrises : SMap.risesFrom 0 s.regs.eff = true) (r : Reg) (i : Nat) :
    (s.commitNow [(r, i)]).reg r i = s.shadow r i := by
  obtain ⟨cap, heq⟩ := commitNow_single s r i
  rw [heq]
  exact reg_setReg s r i _ hrises

/-! What opens (R337, R431). -/

theorem conn_updConn {s : State} (hwf : SMap.wf {} s.conns = true) (c : Nat) (g : Conn → Conn) :
    (s.updConn c g).conn c = g (s.conn c) := SMap.get_set_same _ _ _ _ hwf

/-- A connection as it opens: nothing held, nothing outstanding, its keys as they were. -/
def afresh (k : Conn) : Conn :=
  { k with state := .opn, rnext := 0, window := [], held := [], waiting := [], txseq := 0, outs := [] }

/-- The route management names for a connection, if it names one. -/
def withRoute (s : State) (c : Nat) (far : Option Nat) : State :=
  match far with
  | some n => { s with img := { s.img with
      routes := SMap.set 0 s.img.routes c (n + 1), added := c :: s.img.added.filter (· != c) } }
  | none => s

theorem withRoute_only (s : State) (c : Nat) (far : Option Nat) : s.withRoute c far = { s with img := (s.withRoute c far).img } := by
  unfold withRoute
  split <;> rfl

theorem routeTo_withRoute (s : State) (c n : Nat) : (s.withRoute c (some n)).routeTo c = some n := by
  have hread : SMap.get 0 (SMap.set 0 s.img.routes c (n + 1)) c = n + 1 := SMap.get_set_of_ne _ _ _ _ (Nat.succ_ne_zero n)
  simp [routeTo, withRoute, hread]

theorem routed_leaves {s : State} (hwf : SMap.wf {} s.conns = true) (c : Nat) (far : Option Nat) :
    SMap.wf {} ((s.commitNow [(.fuConnCfg, c)]).withRoute c far).conns = true ∧
      (∀ j, ((s.commitNow [(.fuConnCfg, c)]).withRoute c far).conn j = s.conn j) ∧
      ((s.commitNow [(.fuConnCfg, c)]).withRoute c far).store = s.store ∧
      ((s.commitNow [(.fuConnCfg, c)]).withRoute c far).slots = s.slots := by
  obtain ⟨cap, hcommit⟩ := commitNow_single s .fuConnCfg c
  rw [withRoute_only, hcommit]
  exact ⟨hwf, fun _ => rfl, rfl, rfl⟩

theorem flushUnsent_nothing {s : State} (h : s.unsent = []) (x : Nat) : s.flushUnsent x = s := by
  have hmine : s.unsent.filter (fun u => u.ctx == x) = [] := by rw [h]; rfl
  have hothers : s.unsent.filter (fun u => u.ctx != x) = s.unsent := by rw [h]; rfl
  unfold flushUnsent
  rw [hmine]
  exact congrArg (fun l => ({ s with unsent := l } : State)) hothers

/-- Where nothing waits for a connection, its opening is no more than its own entry, its register and its route. -/
theorem openConn_alone {s : State} (hunsent : s.unsent = []) (hown : s.own = []) (c : Nat) (far : Option Nat) :
    s.openConn c far = ((s.commitNow [(.fuConnCfg, c)]).withRoute c far).updConn c afresh := by
  obtain ⟨cap, hcommit⟩ := commitNow_single s .fuConnCfg c
  generalize hq : ((s.commitNow [(.fuConnCfg, c)]).withRoute c far).updConn c afresh = q
  have hqOnly : q.unsent = s.unsent ∧ q.own = s.own := by rw [← hq, withRoute_only, hcommit]; exact ⟨rfl, rfl⟩
  obtain ⟨hunsent', hown'⟩ := hqOnly
  have hflush : (match q.connCtx c with | some x => q.flushUnsent x | none => q) = q := by
    split
    · exact flushUnsent_nothing (hunsent'.trans hunsent) _
    · rfl
  change (fun t : State => t.own.foldl (fun q o => (q.openDest o.dest).pumpOwn o.dest) t)
    (match (((s.commitNow [(.fuConnCfg, c)]).withRoute c far).updConn c afresh).connCtx c with
      | some x => (((s.commitNow [(.fuConnCfg, c)]).withRoute c far).updConn c afresh).flushUnsent x
      | none => ((s.commitNow [(.fuConnCfg, c)]).withRoute c far).updConn c afresh) = q
  rw [hq, hflush]
  dsimp only
  rw [hown', hown, List.foldl_nil]

/-! The cases of a commit (R320, R337). -/

theorem conn_notBusy {s : State} {c : Nat} (h : (s.conn c).state = .closed ∨ (s.conn c).state = .failed) :
    ¬ ((s.conn c).state = .opn ∨ (s.conn c).state = .closing) := by
  rcases h with h | h <;> simp [h]

section
variable {s : State} {c : Nat} (far : Option Nat)

theorem commitConn_none : s.commitConn 0 far = .next s := by
  rw [commitConn]
  exact if_pos rfl

variable (hc : c ≠ 0)
include hc

section
variable (hset : (s.shadow .fuConnCfg c).bit 0 = true)
include hset

theorem commitConn_again (hstate : (s.conn c).state = .opn ∨ (s.conn c).state = .closing) : s.commitConn c far = .next s := by
  simp only [commitConn, hc, hset, eq_true hstate, if_true, if_false]

variable (hstate : (s.conn c).state = .closed ∨ (s.conn c).state = .failed)
include hstate

theorem commitConn_slice (hbound : (s.shadow .fuConnCfg c).bit 5 = true)
    (hmask : (s.sliceRec (s.sliceOf ((s.shadow .fuConnCfg c).fld 15 6))).furmask.testBit ((s.shadow .fuConnCfg c).fld 3 1) = false) :
    s.commitConn c far = .next (s.count .cbCntRefused 0 1) := by
  simp only [commitConn, hc, hset, conn_notBusy hstate, hbound, hmask, Bool.not_false, and_self, if_true, if_false]

theorem commitConn_confidential (hbound : (s.shadow .fuConnCfg c).bit 5 = true)
    (hmask : (s.sliceRec (s.sliceOf ((s.shadow .fuConnCfg c).fld 15 6))).furmask.testBit ((s.shadow .fuConnCfg c).fld 3 1) = true)
    (hplain : (s.shadow .fuConnCfg c).bit 16 = false) (hconf : s.img.conf = true) :
    s.commitConn c far = .next (s.count .mtCntConfref 0 1) := by
  simp only [commitConn, hc, hset, conn_notBusy hstate, hbound, hmask, hplain, hconf, Bool.not_true, Bool.not_false,
    Bool.false_eq_true, and_false, and_self, if_true, if_false]

theorem commitConn_opens
    (hmay : (s.shadow .fuConnCfg c).bit 5 = true →
      (s.sliceRec (s.sliceOf ((s.shadow .fuConnCfg c).fld 15 6))).furmask.testBit ((s.shadow .fuConnCfg c).fld 3 1) = true ∧
        ((s.shadow .fuConnCfg c).bit 16 = true ∨ s.img.conf = false))
    (halone : ∀ e ∈ s.conns, e.1 ≠ c → e.2.state = .opn → s.connFurrow e.1 = (s.shadow .fuConnCfg c).fld 3 1 →
      s.connTo e.1 ≠ (s.shadow .fuConnCfg c).fld 34 21) : s.commitConn c far = .next (s.openConn c far) := by
  have hslice : ¬ ((s.shadow .fuConnCfg c).bit 5 = true ∧ (!(s.sliceRec (s.sliceOf ((s.shadow .fuConnCfg c).fld 15 6))).furmask.testBit
      ((s.shadow .fuConnCfg c).fld 3 1)) = true) := fun ⟨hbound, hmask⟩ => by simp [(hmay hbound).1] at hmask
  have hconf : ¬ ((s.shadow .fuConnCfg c).bit 5 = true ∧ (!(s.shadow .fuConnCfg c).bit 16) = true ∧ s.img.conf = true) := by
    rintro ⟨hbound, hplain, hon⟩
    rcases (hmay hbound).2 with h | h
    · simp [h] at hplain
    · exact Bool.false_ne_true (h.symm.trans hon)
  have hsame : ¬ (s.conns.any fun e => e.1 != c && decide (e.2.state = .opn) && s.connFurrow e.1 == (s.shadow .fuConnCfg c).fld 3 1 &&
      s.connTo e.1 == (s.shadow .fuConnCfg c).fld 34 21) = true := by
    rw [List.any_eq_true]
    rintro ⟨e, he, htwin⟩
    simp only [Bool.and_eq_true, bne_iff_ne, decide_eq_true_eq, beq_iff_eq] at htwin
    obtain ⟨⟨⟨hne, hopen⟩, hfurrow⟩, hto⟩ := htwin
    exact halone e he hne hopen hfurrow hto
  rw [commitConn]
  exact (if_neg hc).trans ((if_pos hset).trans ((if_neg (conn_notBusy hstate)).trans ((if_neg hslice).trans
    ((if_neg hconf).trans (if_neg hsame)))))

end

section
variable (hclear : (s.shadow .fuConnCfg c).bit 0 = false)
include hclear

theorem commitConn_closes (hstate : (s.conn c).state = .opn) : s.commitConn c far = .next (s.connClose c) := by
  simp only [commitConn, hc, hclear, eq_true hstate, Bool.false_eq_true, if_true, if_false]

theorem commitConn_closing (hstate : (s.conn c).state = .closing) : s.commitConn c far = .next s := by
  simp only [commitConn, hc, hclear, hstate, Bool.false_eq_true, reduceCtorEq, if_true, if_false]

theorem commitConn_failed (hstate : (s.conn c).state = .failed) : s.commitConn c far =
    .next ((s.commitNow [(.fuConnCfg, c)]).updConn c (fun x => { x with state := .closing })) := by
  simp only [commitConn, hc, hclear, hstate, Bool.false_eq_true, reduceCtorEq, if_true, if_false]

end

end

/-! The close of a connection (R337). -/

/-- A bit that is cleared reads 0. -/
theorem bit_setFld_clear (w : Word) {b : Nat} (hb : b < 64) : (w.setFld b b 0).bit b = false := by
  have hone : (wordOf (1 * 2 ^ b)).getLsbD b = true := by
    rw [wordOf, BitVec.getLsbD_ofNat, Nat.one_mul, Nat.testBit_two_pow_self, Bool.and_true, decide_eq_true hb]
  rw [Word.bit, BitVec.testBit_toNat, Word.setFld, fieldMask_one, BitVec.getLsbD_or, BitVec.getLsbD_and, BitVec.getLsbD_and,
    BitVec.getLsbD_not, hone, Nat.zero_mul]
  simp [wordOf]

/-- The field OPEN of a connection that is taken to CLOSING reads 0. -/
theorem rbit_connClose {s : State} (hrises : SMap.risesFrom 0 s.regs.eff = true) (c : Nat) :
    (s.connClose c).rbit .fuConnCfg c 0 = false := by
  have hregs : (s.connClose c).regs = (s.setFld .fuConnCfg c 0 0 0).regs := by
    unfold connClose
    dsimp only
    split <;> rfl
  have hread : (s.connClose c).reg .fuConnCfg c = (s.reg .fuConnCfg c).setFld 0 0 0 := by
    rw [reg, hregs]
    exact reg_setReg s _ _ _ hrises
  rw [rbit, hread, bit_setFld_clear _ (by decide)]

/-- A connection that is not CLOSED is taken to CLOSING. -/
theorem connClose_closing {s : State} {c : Nat} (h : (s.conn c).state ≠ .closed) :
    s.connClose c = (s.setFld .fuConnCfg c 0 0 0).updConn c (fun x => { x with state := .closing }) := if_neg h

end Sys2Proof.Machine.State

namespace Sys2Proof.Machine

open State

/-- Settles O53, by the cases of a commit: the connection's own entry and register are all that an opening writes. -/
theorem connectionsAreCommitted : Obligations.ConnectionsAreCommitted := by
  rintro s far hrises hwf c w hsel rfl
  have hexec : exec (.fuConnCommit far) s = s.commitConn c far := by rw [← hsel]; rfl
  rw [hexec]
  refine ⟨fun hc => by rw [hc]; exact commitConn_none far, fun hc => ⟨fun hset => ⟨commitConn_again far hc hset, fun hstate =>
    ⟨commitConn_slice far hc hset hstate, commitConn_confidential far hc hset hstate, fun hmay halone hunsent hown => ?opens⟩⟩,
    fun hclear => ⟨fun hopen => ?closes, commitConn_closing far hc hclear, fun hfailed => ?failed⟩⟩⟩
  case opens =>
    obtain ⟨hwf', hconns, hstore, hslots⟩ := routed_leaves hwf c far
    have hread := conn_updConn hwf' c afresh
    rw [hconns] at hread
    refine ⟨_, (commitConn_opens far hc hset hstate hmay halone).trans (by rw [openConn_alone hunsent hown]), ?_⟩
    rw [hread]
    refine ⟨rfl, rfl, rfl, rfl, rfl, rfl, rfl, ?_, fun n hfar => ?_, fun hfar => ?_, fun j hj => ?_, hstore, hslots⟩
    · rw [reg, updConn_regs, withRoute_only]
      exact reg_commitNow hrises .fuConnCfg c
    · rw [hfar]
      exact routeTo_withRoute _ c n
    · obtain ⟨cap, hcommit⟩ := commitNow_single s .fuConnCfg c
      rw [hfar, updConn_img, withRoute, hcommit]
    · exact (conn_setConn_ne _ c j _ hj).trans (hconns j)
  case closes =>
    have hnotClosed : (s.conn c).state ≠ .closed := by rw [hopen]; exact ConnState.noConfusion
    refine ⟨_, commitConn_closes far hc hclear hopen, ?_, rbit_connClose hrises c, fun j hj => ?_, ?_⟩
    · rw [connClose_closing hnotClosed, conn_updConn (s := s.setFld .fuConnCfg c 0 0 0) hwf]
    · rw [connClose_closing hnotClosed]
      exact conn_setConn_ne _ c j _ hj
    · rw [connClose_closing hnotClosed]
      rfl
  case failed =>
    obtain ⟨cap, hcommit⟩ := commitNow_single s .fuConnCfg c
    refine ⟨_, commitConn_failed far hc hclear hfailed, ?_, ?_, ?_⟩
    · rw [conn_updConn (by rw [hcommit]; exact hwf)]
    · exact reg_commitNow hrises .fuConnCfg c
    · rw [hcommit]
      rfl

end Sys2Proof.Machine
end

section
/-! PROOFS. What the end of a lease leaves of the Mint and of the other leases (R199, R207, R388). -/

namespace Sys2Proof.Machine.State

/-- What each step of a fold does for its own element, and later steps keep, stands at the end for every element. -/
theorem foldl_marks {α : Type} {f : State → α → State} {I : State → Prop} {P : α → State → Prop} (hinv : ∀ q x, I q → I (f q x))
    (hdone : ∀ q x, I q → P x (f q x)) (hkeep : ∀ q x y, I q → P y q → P y (f q x)) {s : State} (h : I s) {xs : List α} {y : α}
    (hy : y ∈ xs) : P y (xs.foldl f s) := by
  induction xs generalizing s with
  | nil => cases hy
  | cons x xs ih =>
    rcases List.mem_cons.mp hy with rfl | htail
    · have hkept := foldl_keeps (p := fun q => I q ∧ P y q) (fun q x ⟨hq, hPq⟩ => ⟨hinv q x hq, hkeep q x y hq hPq⟩)
        ⟨hinv s y h, hdone s y h⟩ xs
      exact hkept.2
    · exact ih (hinv s x h) htail

/-! The Mint while the module sends and restores. -/

theorem mint_kept (m : MintSt) : KeptBySending (fun t => t.mint = m) where
  msix := fun hsame h => by
    rw [SameButMsix] at hsame
    rw [hsame]
    exact h
  tick := id
  setLink := fun _ _ => id
  setFurrow := fun _ _ => id
  setConn := fun _ _ => id
  setSlot := fun _ _ => id
  setOrigin := fun _ => id
  nextEntry := fun _ => id
  waiting := fun _ => id
  drained := fun _ _ => id
  irqCause := fun _ _ => id

theorem rmaSend_mint (s : State) (c kind : Nat) (mirror : Bool) (conv layer kvh : Nat) (d : RmaDesc) (body : Bytes) (use : RmaUse) :
    (s.rmaSend c kind mirror conv layer kvh d body use).mint = s.mint := by
  unfold rmaSend
  exact (mint_kept s.mint).sendPayload _ _ _ _ _ rfl

theorem startRestore_mint (s : State) (p : Nat) : (s.startRestore p).mint = s.mint := by
  unfold startRestore
  split
  · rfl
  · dsimp only
    split
    · rfl
    · exact rmaSend_mint _ _ _ _ _ _ _ _ _ _

/-! The leases while a station stops. -/

/-- The second state has the Mint of the first and, where the table of cores is canonical, its leases. -/
structure KeepsLeases (s t : State) : Prop where
  mint : t.mint = s.mint
  reset : t.sluice.reset = s.sluice.reset
  wf : SMap.wf s.idleCore s.sluice.cores = true → SMap.wf t.idleCore t.sluice.cores = true
  lessee : SMap.wf s.idleCore s.sluice.cores = true → ∀ j, (t.core j).lessee = (s.core j).lessee

theorem KeepsLeases.trans {s t u : State} (hst : KeepsLeases s t) (htu : KeepsLeases t u) : KeepsLeases s u where
  mint := htu.mint.trans hst.mint
  reset := htu.reset.trans hst.reset
  wf h := htu.wf (hst.wf h)
  lessee h j := (htu.lessee (hst.wf h) j).trans (hst.lessee h j)

theorem keepsLeases_of_cores {s t : State} (hmint : t.mint = s.mint) (hcores : t.sluice.cores = s.sluice.cores)
    (hreset : t.sluice.reset = s.sluice.reset) : KeepsLeases s t where
  mint := hmint
  reset := hreset
  wf h := by rw [idleCore, hcores, hreset]; exact h
  lessee _ j := by rw [core_of_cores hcores hreset]

theorem KeepsLeases.refl (s : State) : KeepsLeases s s := keepsLeases_of_cores rfl rfl rfl

theorem setCore_keepsLeases (s : State) (c : Nat) {k : Core} (h : k.lessee = (s.core c).lessee) : KeepsLeases s (s.setCore c k) where
  mint := rfl
  reset := rfl
  wf hwf := SMap.wf_set _ _ _ _ hwf
  lessee hwf j := by
    by_cases hj : j = c
    · rw [hj, core_setCore_of_wf s c k hwf, h]
    · rw [core_setCore_ne s c j k hj]

theorem updCore_keepsLeases (s : State) (c : Nat) {g : Core → Core} (h : (g (s.core c)).lessee = (s.core c).lessee) :
    KeepsLeases s (s.updCore c g) := setCore_keepsLeases s c h

theorem count_keepsLeases (s : State) (d : Ctr) (i n : Nat) : KeepsLeases s (s.count d i n) := keepsLeases_of_cores rfl rfl rfl
theorem unwait_keepsLeases (s : State) (c : Nat) (vendor : Bool) : KeepsLeases s (s.unwait c vendor) := keepsLeases_of_cores rfl rfl rfl
theorem updStore_keepsLeases (s : State) (g : Store → Store) : KeepsLeases s (s.updStore g) := keepsLeases_of_cores rfl rfl rfl

theorem SameButErrs.keepsLeases {s t : State} (h : SameButErrs s t) : KeepsLeases s t := by
  rw [SameButErrs] at h
  rw [h]
  exact keepsLeases_of_cores rfl rfl rfl

theorem SameButVendors.keepsLeases {s t : State} (h : SameButVendors s t) : KeepsLeases s t := by
  rw [SameButVendors] at h
  rw [h]
  exact keepsLeases_of_cores rfl rfl rfl

theorem SameButHost.keepsLeases {s t : State} (h : SameButHost s t) : KeepsLeases s t := by
  rw [SameButHost] at h
  rw [h]
  exact keepsLeases_of_cores rfl rfl rfl

theorem setScr_lessee (k : Core) (a : Nat) (b : Bytes) : (k.setScr a b).lessee = k.lessee := by
  rw [setScr_sameButSaved k a b]

theorem scFault_keepsLeases (s : State) (c cause : Nat) : KeepsLeases s (s.scFault c cause) := by
  have hreports := rsFault_sameButReports (s.setBit .scFault (c / 16 / 64) (c / 16 % 64)) 0
  have hwant : ∀ q : State, KeepsLeases q (if cause = fcUe then q else q.wantReset 2 (c / 16 / 64) (c / 16 % 64)) := by
    intro q
    split
    · exact .refl q
    · unfold wantReset
      split <;> exact keepsLeases_of_cores rfl rfl rfl
  refine KeepsLeases.trans ?_ (hwant _)
  generalize (s.setBit .scFault (c / 16 / 64) (c / 16 % 64)).rsFault 0 = q at hreports ⊢
  rw [SameButReports] at hreports
  rw [hreports]
  exact keepsLeases_of_cores rfl rfl rfl

theorem setScr_keepsLeases (s : State) (c a : Nat) (b : Bytes) : KeepsLeases s (s.updCore c (fun k => k.setScr a b)) :=
  updCore_keepsLeases s c (setScr_lessee _ _ _)

theorem spillIn_keepsLeases (s : State) (c i : Nat) : KeepsLeases s (spillIn c i s) := by
  unfold spillIn
  dsimp only
  generalize hread : (s.count .scCntBurst c 1).senseUnder (s.store.key (viewSlot 1024 1024 .dataV)) (c / 16)
    [(viewBase c (s.core c) .dataV + 1024 * i, 1024)] = r
  have hkeeps : KeepsLeases s r.1 := by
    rw [← hread]
    exact (count_keepsLeases s .scCntBurst c 1).trans (senseUnder_sameButErrs _ _ _ _).keepsLeases
  split
  · exact ((hkeeps.trans (count_keepsLeases _ .scCntUe c 1)).trans (scFault_keepsLeases _ c fcUe)).trans (setScr_keepsLeases _ c _ _)
  · exact hkeeps.trans (setScr_keepsLeases _ c _ _)

theorem restoreSaved_keepsLeases (s : State) (c : Nat) : KeepsLeases s (s.restoreSaved c) := by
  unfold restoreSaved
  split
  · exact .refl s
  · next x _ =>
    have hregs := (setCore_keepsLeases s c (k := { s.core c with regs := x.regs, vregs := x.vregs, views := x.views }) rfl).trans
      (dropSaved_sameButVendors _ c).keepsLeases
    dsimp only
    split
    · exact hregs.trans (foldl_keeps (p := KeepsLeases _) (fun q i hq => hq.trans (spillIn_keepsLeases q c i)) (.refl _) _)
    · exact hregs

theorem coreFault_keepsLeases (s : State) (c cause fpc : Nat) : KeepsLeases s (s.coreFault c cause fpc) := by
  refine (restoreSaved_keepsLeases s c).trans ((unwait_keepsLeases _ c false).trans ?_)
  exact KeepsLeases.trans (updCore_keepsLeases _ c (by rfl)) (count_keepsLeases _ .scCntCfault c 1)

theorem burstUe_keepsLeases (s : State) (c : Nat) (b : Burst) : KeepsLeases s (s.burstUe c b) := by
  have hsluice := burstUe_sluice s c b
  refine keepsLeases_of_cores ?_ (by rw [hsluice]) (by rw [hsluice])
  unfold burstUe
  dsimp only
  split
  · exact startRestore_mint _ _
  · rfl

theorem burstTaken_keepsLeases (s : State) (c : Nat) (b : Burst) : KeepsLeases s (s.burstTaken c b) := by
  refine (setCore_keepsLeases s c (k := { s.core c with burst := none }) rfl).trans ?_
  unfold burstTaken
  rw [releaseBank_only]
  exact keepsLeases_of_cores rfl rfl rfl

theorem burstEnd_keepsLeases (s : State) (c : Nat) : KeepsLeases s (s.burstEnd c) := by
  unfold burstEnd
  dsimp only
  split
  · exact .refl s
  · next b hb =>
    split
    · exact .refl s
    · have htaken := burstTaken_keepsLeases s c b
      change KeepsLeases s (if b.load = true then _ else _)
      split
      · have hread := htaken.trans (senseUnder_sameButErrs (s.burstTaken c b) ((s.burstTaken c b).store.key ((s.burstTaken c b).burstSlot c b))
          ((s.burstTaken c b).burstAddr c b).1 [(((s.burstTaken c b).burstAddr c b).2, 64 * b.lines)]).keepsLeases
        split
        · exact (hread.trans (coreFault_keepsLeases _ c _ _)).trans (burstUe_keepsLeases _ c b)
        · exact hread.trans (updCore_keepsLeases _ c (setScr_lessee _ _ _))
      · split
        · exact htaken.trans ((count_keepsLeases _ .mtCntNokey 0 1).trans (updCore_keepsLeases _ c (by rfl)))
        · exact htaken.trans ((updStore_keepsLeases _ _).trans (updCore_keepsLeases _ c (by rfl)))

theorem stopStation_keepsLeases (s : State) (c : Nat) : KeepsLeases s (s.stopStation c) := by
  have hended := (burstEnd_keepsLeases s c).trans (restoreSaved_keepsLeases _ c)
  unfold stopStation
  dsimp only
  split
  · refine (hended.trans ?_).trans (keepVjobs_sameButVendors _ c _).keepsLeases
    exact (unwait_keepsLeases _ c false).trans (setCore_keepsLeases _ c (by rfl))
  · exact hended

theorem releaseGrants_keepsLeases (s : State) (c base n : Nat) : KeepsLeases s (s.releaseGrants c base n) := by
  unfold releaseGrants
  refine foldl_keeps (p := KeepsLeases s) (fun q i hq => hq.trans ?_) (.refl s) _
  dsimp only
  split
  · exact KeepsLeases.trans (setCore_keepsLeases q c (by rfl)) (updStore_keepsLeases _ _)
  · exact .refl q

theorem clearStation_keepsLeases (s : State) (c : Nat) : KeepsLeases s (s.clearStation c) := by
  have hkept := (releaseGrants_keepsLeases s c 0 64).trans
    (keepVjobs_sameButVendors _ c (fun j => decide (j.prog ≠ .deq))).keepsLeases
  unfold clearStation
  generalize (s.releaseGrants c 0 64).keepVjobs c _ = q at hkept
  exact (hkept.trans (dropSaved_sameButVendors q c).keepsLeases).trans (updCore_keepsLeases (q.dropSaved c) c rfl)

/-! The end of leases (R207, R414). -/

/-- The second state has the Mint of the first and no lease the first has not. -/
structure EndsLeases (s t : State) : Prop where
  mint : t.mint = s.mint
  wf : SMap.wf s.idleCore s.sluice.cores = true → SMap.wf t.idleCore t.sluice.cores = true
  lessee : SMap.wf s.idleCore s.sluice.cores = true → ∀ j x, (t.core j).lessee = some x → (s.core j).lessee = some x

theorem EndsLeases.refl (s : State) : EndsLeases s s := ⟨rfl, id, fun _ _ _ => id⟩

theorem EndsLeases.trans {s t u : State} (hst : EndsLeases s t) (htu : EndsLeases t u) : EndsLeases s u where
  mint := htu.mint.trans hst.mint
  wf h := htu.wf (hst.wf h)
  lessee h j x hx := hst.lessee h j x (htu.lessee (hst.wf h) j x hx)

/-- A lease ends with the last write of its core. -/
theorem endLease_keepsLeases {s : State} {c x : Nat} (h : (s.core c).lessee = some x) : ∃ t, KeepsLeases s t ∧
    s.endLease c = t.updCore c (fun k => { k with
      lessee := none, zeroing := some x, st := .ready, fcause := 0, fpc := 0, result := 0, halted := false }) := by
  have hcleared := (stopStation_keepsLeases s c).trans (clearStation_keepsLeases _ c)
  rw [endLease, h]
  refine ⟨_, ?_, rfl⟩
  refine (hcleared.trans ?_).trans (revokeWhere_sameButHost _ _ _).keepsLeases
  split
  · exact (tdiFail_sameButHost _ _).keepsLeases
  · exact .refl _

theorem endLease_endsLeases (s : State) (c : Nat) : EndsLeases s (s.endLease c) := by
  cases h : (s.core c).lessee with
  | none =>
    rw [endLease, h]
    exact .refl s
  | some x =>
    obtain ⟨t, hkeeps, hends⟩ := endLease_keepsLeases h
    rw [hends]
    refine ⟨hkeeps.mint, fun hwf => SMap.wf_set _ _ _ _ (hkeeps.wf hwf), fun hwf j y hy => ?_⟩
    by_cases hj : j = c
    · rw [hj, updCore, core_setCore_of_wf t c _ (hkeeps.wf hwf)] at hy
      cases hy
    · rw [updCore, core_setCore_ne t c j _ hj] at hy
      rw [← hkeeps.lessee hwf]
      exact hy

/-- The core of an ended lease has no lessee. -/
theorem endLease_lessee (s : State) (c : Nat) : ((s.endLease c).core c).lessee = none := by
  cases h : (s.core c).lessee with
  | none =>
    rw [endLease, h]
    exact h
  | some x =>
    obtain ⟨k, hcore⟩ := core_endLease (show s.LeasedTo c x from h)
    rw [hcore]

theorem mem_leasesOf {s : State} (hwf : SMap.wf s.idleCore s.sluice.cores = true) {c j : Nat} :
    j ∈ s.leasesOf c ↔ (s.core j).lessee = some c := by
  simp only [leasesOf, List.mem_map, List.mem_filter, beq_iff_eq]
  constructor
  · rintro ⟨e, ⟨he, hlessee⟩, rfl⟩
    rw [core, SMap.get_of_mem s.idleCore (SMap.rises_of_wf hwf) he]
    exact hlessee
  · intro hlessee
    by_contra hnone
    have hidle : s.core j = s.idleCore := by
      refine SMap.get_of_not_mem s.idleCore fun hmem => hnone ?_
      obtain ⟨e, he, rfl⟩ := List.mem_map.mp hmem
      refine ⟨e, ⟨he, ?_⟩, rfl⟩
      rw [core, SMap.get_of_mem s.idleCore (SMap.rises_of_wf hwf) he] at hlessee
      exact hlessee
    rw [hidle, idleCore_lessee] at hlessee
    cases hlessee

theorem foldl_endLease_endsLeases (s : State) (cs : List Nat) : EndsLeases s (cs.foldl endLease s) :=
  foldl_keeps (p := EndsLeases s) (fun q c hq => hq.trans (endLease_endsLeases q c)) (.refl s) cs

/-- With every lease of a context ended it has none. -/
theorem leasesOf_foldl_endLease {s : State} (hwf : SMap.wf s.idleCore s.sluice.cores = true) (c : Nat) :
    ((s.leasesOf c).foldl endLease s).leasesOf c = [] := by
  have hends := foldl_endLease_endsLeases s (s.leasesOf c)
  refine List.eq_nil_iff_forall_not_mem.mpr fun j hj => ?_
  have hlessee := (mem_leasesOf (hends.wf hwf)).mp hj
  have hlisted := (mem_leasesOf hwf).mpr (hends.lessee hwf j c hlessee)
  have hnone := foldl_marks (f := endLease) (I := fun q => SMap.wf q.idleCore q.sluice.cores = true)
    (P := fun j q => (q.core j).lessee = none) (fun q x hq => (endLease_endsLeases q x).wf hq) (fun q x _ => endLease_lessee q x)
    (fun q x y hq hy => by
      by_contra hsome
      obtain ⟨z, hz⟩ := Option.ne_none_iff_exists'.mp hsome
      rw [(endLease_endsLeases q x).lessee hq y z hz] at hy
      cases hy) hwf hlisted
  rw [hlessee] at hnone
  cases hnone

end Sys2Proof.Machine.State
end

section
/-! PROOFS. The steps of a close: the table of closes, the first step, the drain markers, the keys and connections, and the end (R337,
R359, R409, R411, R414, R416, R418, R420). -/

namespace Sys2Proof.SMap

/-- Putting a value in commutes with a change of all values. -/
theorem map_ins {α β : Type} (f : α → β) (m : List (Nat × α)) (i : Nat) (x : α) :
    (ins m i x).map (fun e => (e.1, f e.2)) = ins (m.map (fun e => (e.1, f e.2))) i (f x) := by
  induction m with
  | nil => rfl
  | cons e t ih =>
    obtain ⟨k, v⟩ := e
    simp only [ins, List.map_cons]
    split
    · rfl
    · split
      · rfl
      · rw [List.map_cons, ih]

end Sys2Proof.SMap

namespace Sys2Proof.Machine.State

/-! The table of closes. -/

theorem close?_setClose (s : State) (c : Nat) (x : Close) : (s.setClose c x).close? c = some x := by
  change SMap.get none ((SMap.ins s.mint.closes c x).map fun e => (e.1, some e.2)) c = some x
  rw [SMap.map_ins some, SMap.get_ins_same]

theorem close?_of_mint {s t : State} (h : t.mint = s.mint) (c : Nat) : t.close? c = s.close? c := by
  rw [close?, close?, h]

theorem closeStep_eq {s : State} {c : Nat} {x : Close} (h : s.close? c = some x) : s.closeStep c = x.step := by
  rw [closeStep, h]

theorem close?_of_closeStep {s : State} {c : Nat} (h : s.closeStep c ≠ 0) : ∃ x, s.close? c = some x := by
  rw [← Option.ne_none_iff_exists']
  intro hnone
  rw [closeStep, hnone] at h
  exact h rfl

theorem updClose_eq {s : State} {c : Nat} {x : Close} (h : s.close? c = some x) (g : Close → Close) :
    s.updClose c g = s.setClose c (g x) := by
  rw [updClose, h]

theorem closeStep_updClose {s : State} {c : Nat} {x : Close} (h : s.close? c = some x) (g : Close → Close) :
    (s.updClose c g).closeStep c = (g x).step := by
  rw [updClose_eq h, closeStep_eq (close?_setClose s c (g x))]

/-! Steps 1 and 2 (R359, R414, R420). -/

/-- A context is CLOSING with an empty queue, with memory and the Mint as given. -/
def Closing (c : Nat) (st : Store) (m : MintSt) (t : State) : Prop :=
  t.store = st ∧ t.mint = m ∧ (t.ctx c).state = .closing ∧ (t.ctx c).queue = []

theorem closing_of_same {c : Nat} {st : Store} {m : MintSt} {s t : State} (h : Closing c st m s) (hstore : t.store = s.store)
    (hmint : t.mint = s.mint) (hctxs : t.ctxs = s.ctxs) : Closing c st m t := by
  rw [Closing, State.ctx, hstore, hmint, hctxs]
  exact h

theorem ctx_updCtx_closing (s : State) (c : Nat) {g : CtxGate → CtxGate} (h : (g (s.ctx c)).state = .closing) :
    (s.updCtx c g).ctx c = g (s.ctx c) :=
  ctx_setCtx s c _ fun heq => by rw [heq] at h; cases h

theorem closing_kept (c : Nat) (st : Store) (m : MintSt) : KeptBySending (Closing c st m) where
  msix := fun hsame h => by
    rw [SameButMsix] at hsame
    rw [hsame]
    exact h
  tick := id
  setLink := fun _ _ => id
  setFurrow := fun _ _ => id
  setConn := fun _ _ => id
  setSlot := fun _ _ => id
  setOrigin := fun _ => id
  nextEntry := fun _ => id
  waiting := fun _ => id
  drained := fun {s} d hclosing h => by
    obtain ⟨hstore, hmint, hstate, hqueue⟩ := h
    have hread : (s.setCtx d { s.ctx d with drained := true }).ctx c =
        if c = d then { s.ctx d with drained := true } else s.ctx c := by
      split
      case isTrue hd =>
        rw [hd]
        exact ctx_updCtx_closing s d (g := fun g => { g with drained := true }) hclosing
      case isFalse hd => exact ctx_setCtx_ne s d c _ hd
    rw [Closing, hread]
    refine ⟨hstore, hmint, ?_⟩
    split
    case isTrue hd =>
      rw [hd] at hqueue
      exact ⟨hclosing, hqueue⟩
    case isFalse => exact ⟨hstate, hqueue⟩
  irqCause := fun _ _ => id

theorem startClose_closing {s : State} {c : Nat} (hopen : (s.ctx c).state = .opn) :
    ∃ m, SMap.get none (m.closes.map (fun e => (e.1, some e.2))) c = some ({ step := 2 } : Close) ∧
      Closing c s.store m (s.startClose c) := by
  have hfailed : ∀ g : CtxGate → CtxGate, (g (s.ctx c)).state = .closing →
      (((s.updCtx c g).tdiFail (vfOfCtx c)).ctx c) = g (s.ctx c) := fun g hg => ctx_updCtx_closing s c hg
  generalize hq : (s.updCtx c (fun g => { g with state := .closing, drained := false })).tdiFail (vfOfCtx c) = q
  have hstart : Closing c s.store s.mint (q.updCtx c (fun g => { g with queue := [], deficit := 0 })) := by
    have hctx : q.ctx c = { s.ctx c with state := .closing, drained := false } := by rw [← hq]; exact hfailed _ rfl
    rw [Closing, ctx_updCtx_closing q c (by rw [hctx]), hctx, ← hq]
    exact ⟨rfl, rfl, rfl, rfl⟩
  have hflushed : Closing c s.store s.mint ((q.flushQueue c stCtxClosed).count .hgCntClosed c (q.ctx c).queue.length) :=
    (closing_kept c s.store s.mint).count _ _ _ (foldl_keeps (fun t r ht => (closing_kept c s.store s.mint).refuse _ _ _ ht) hstart _)
  rw [startClose, if_pos hopen]
  dsimp only
  rw [hq]
  generalize (q.flushQueue c stCtxClosed).count .hgCntClosed c (q.ctx c).queue.length = u at hflushed ⊢
  refine ⟨(u.setClose c { step := 2 }).mint, close?_setClose u c _, (closing_kept c s.store _).checkDrained c ?_⟩
  obtain ⟨hstore, -, hctx⟩ := hflushed
  exact ⟨hstore, rfl, hctx⟩

/-! Steps 3 and 4 (R414, R416, R531). -/

theorem exec_closeDrained {s : State} {c : Nat} (h : s.closeReady c = true) :
    exec (.closeDrained c) s = .next (((s.leasesOf c).foldl endLease s).updClose c (fun x => { x with step := 3 })) := if_pos h

theorem closeStep_of_closeReady {s : State} {c : Nat} (h : s.closeReady c = true) : s.closeStep c = 2 := by
  simp only [closeReady, Bool.and_eq_true, beq_iff_eq] at h
  exact h.1

/-- A context whose leases have ended stands at step 3 with none. -/
theorem closeDrained_leaves {s : State} {c : Nat} (h : s.closeReady c = true) :
    (((s.leasesOf c).foldl endLease s).updClose c (fun x => { x with step := 3 })).closeStep c = 3 ∧
      (SMap.wf s.idleCore s.sluice.cores = true →
        (((s.leasesOf c).foldl endLease s).updClose c (fun x => { x with step := 3 })).leasesOf c = []) := by
  obtain ⟨x, hx⟩ := close?_of_closeStep (s := s) (c := c) (by rw [closeStep_of_closeReady h]; decide)
  have hclose := (close?_of_mint (foldl_endLease_endsLeases s (s.leasesOf c)).mint c).trans hx
  refine ⟨closeStep_updClose hclose _, fun hwf => ?_⟩
  rw [updClose_eq hclose]
  exact leasesOf_foldl_endLease hwf c

/-- What step 4 sends leaves memory and the Mint alone. -/
theorem sendMarker_keeps {P : State → Prop} (k : KeptBySending P) (hsent : ∀ (s : State) l, P s → P { s with sentMarkers := l }) {s : State}
    (f mtype arg : Nat) (h : P s) : P (s.sendMarker f mtype arg) := by
  unfold sendMarker sendMarkerOn
  dsimp only
  split
  · exact k.sendCarrier _ _ _ _ _ _ (hsent s _ h)
  · exact hsent s _ h

theorem storeMint_kept (st : Store) (m : MintSt) : KeptBySending (fun t => t.store = st ∧ t.mint = m) where
  msix := fun hsame h => by
    rw [SameButMsix] at hsame
    rw [hsame]
    exact h
  tick := id
  setLink := fun _ _ => id
  setFurrow := fun _ _ => id
  setConn := fun _ _ => id
  setSlot := fun _ _ => id
  setOrigin := fun _ => id
  nextEntry := fun _ => id
  waiting := fun _ => id
  drained := fun _ _ => id
  irqCause := fun _ _ => id

/-- The furrows step 4 sends a marker on. -/
def trainedFurrows (s : State) : List Nat := (List.range 8).filter s.trained

/-- A close as step 4 begins. -/
def awaitsMarkers (s : State) (c : Nat) (x : Close) : Close :=
  { x with step := 4, since := s.hubUnits, limit := s.rfld .mtCfg 0 15 0, furrows := s.trainedFurrows, ops := s.pathOps c }

theorem exec_closeRevoked {s : State} {c : Nat} (hstep : s.closeStep c = 3) (hmapped : s.dataMapped c = false) :
    exec (.closeRevoked c) s = .next (s.trainedFurrows.foldl (fun q f => q.sendMarker f mDrainCtx c)
      (s.updClose c (s.awaitsMarkers c))) := if_pos ⟨hstep, by rw [hmapped]; rfl⟩

/-! Steps 5 and 6 (R337, R409, R411). -/

theorem conn_updConn_get {s : State} (hwf : SMap.wf {} s.conns = true) (c j : Nat) (g : Conn → Conn) :
    (s.updConn c g).conn j = if j = c then g (s.conn c) else s.conn j := SMap.get_set _ _ _ _ _ hwf

theorem wf_updConn {s : State} (hwf : SMap.wf {} s.conns = true) (c : Nat) (g : Conn → Conn) :
    SMap.wf {} (s.updConn c g).conns = true := SMap.wf_set _ _ _ _ hwf

/-- Both phases of a connection hold no key. -/
def Keyless (j : Nat) (t : State) : Prop := (t.conn j).key0 = 0 ∧ (t.conn j).key1 = 0

theorem conn_zeroPhases {s : State} (hwf : SMap.wf {} s.conns = true) (c j : Nat) : (s.zeroPhases c).conn j =
    if j = c then { s.conn c with key0 := 0, key1 := 0, kn0 := 0, kn1 := 0, retire := false } else s.conn j :=
  SMap.get_set _ _ _ _ _ hwf

theorem wf_zeroPhases {s : State} (hwf : SMap.wf {} s.conns = true) (c : Nat) : SMap.wf {} (s.zeroPhases c).conns = true :=
  SMap.wf_set _ _ _ _ hwf

theorem keyless_zeroPhases {s : State} (hwf : SMap.wf {} s.conns = true) (c : Nat) {j : Nat} (h : j = c ∨ Keyless j s) :
    Keyless j (s.zeroPhases c) := by
  rw [Keyless, conn_zeroPhases hwf]
  split
  · exact ⟨rfl, rfl⟩
  · next hj => exact h.resolve_left hj

/-- Taken to CLOSING, a connection keeps its keys, and is not OPEN. -/
theorem conn_connClose {s : State} (hwf : SMap.wf {} s.conns = true) (c j : Nat) : (s.connClose c).conn j =
    if j = c ∧ (s.conn c).state ≠ .closed then { s.conn c with state := .closing } else s.conn j := by
  unfold connClose
  dsimp only
  split
  case isTrue hclosed =>
    rw [if_neg fun h => h.2 hclosed]
    rfl
  case isFalse hclosed =>
    exact (conn_updConn_get (s := s.setFld .fuConnCfg c 0 0 0) hwf c j _).trans
      (if_congr ⟨fun hj => ⟨hj, hclosed⟩, fun h => h.1⟩ rfl rfl)

theorem wf_connClose {s : State} (hwf : SMap.wf {} s.conns = true) (c : Nat) : SMap.wf {} (s.connClose c).conns = true := by
  unfold connClose
  dsimp only
  split
  · exact hwf
  · exact wf_updConn (s := s.setFld .fuConnCfg c 0 0 0) hwf c _

theorem keyless_connClose {s : State} (hwf : SMap.wf {} s.conns = true) (c : Nat) {j : Nat} (h : Keyless j s) :
    Keyless j (s.connClose c) := by
  rw [Keyless, conn_connClose hwf]
  split
  case isTrue hj =>
    rw [← hj.1]
    exact h
  case isFalse => exact h

theorem notOpen_connClose {s : State} (hwf : SMap.wf {} s.conns = true) (c : Nat) {j : Nat} (h : j = c ∨ (s.conn j).state ≠ .opn) :
    ((s.connClose c).conn j).state ≠ .opn := by
  rw [conn_connClose hwf]
  split
  case isTrue => exact ConnState.noConfusion
  case isFalse hj =>
    rcases h with rfl | h
    · have hclosed : (s.conn j).state = .closed := by_contra fun hne => hj ⟨rfl, hne⟩
      rw [hclosed]
      exact ConnState.noConfusion
    · exact h

theorem connClose_mint (s : State) (c : Nat) : (s.connClose c).mint = s.mint := by
  unfold connClose
  dsimp only
  split <;> rfl

theorem retireKey_conns (s : State) (c : Nat) : (s.retireKey c).conns = s.conns := by
  unfold retireKey
  split <;> rfl

theorem retireKey_closes (s : State) (c : Nat) : (s.retireKey c).mint.closes = s.mint.closes := by
  unfold retireKey
  split <;> rfl

/-- The context has no key once it is retired. -/
theorem retireKey_ctxKeys (s : State) (c : Nat) : (s.retireKey c).mint.ctxKeys.any (fun e => e.1 == c) = false := by
  unfold retireKey
  split
  case isTrue =>
    change (s.mint.ctxKeys.filter (fun e => e.1 != c)).any (fun e => e.1 == c) = false
    rw [List.any_eq_false]
    intro e he
    simpa using (List.mem_filter.mp he).2
  case isFalse h => exact Bool.eq_false_iff.mpr h

/-- The state in which the connections of a closing context have lost their keys and been closed. -/
def connsClosed (s : State) (c : Nat) : State :=
  (s.boundConns c).foldl connClose ((s.boundConns c).foldl zeroPhases (s.retireKey c))

theorem closeKeys_eq (s : State) (c : Nat) :
    s.closeKeys c = (s.connsClosed c).updClose c (fun x => { x with step := 6, furrows := [], ops := [] }) := rfl

theorem connsClosed_mint (s : State) (c : Nat) : (s.connsClosed c).mint = (s.retireKey c).mint := by
  unfold connsClosed
  refine foldl_keeps (p := fun q => q.mint = (s.retireKey c).mint) (fun q j hq => (connClose_mint q j).trans hq) ?_ _
  exact foldl_keeps (p := fun q => q.mint = (s.retireKey c).mint) (f := zeroPhases) (fun q j hq => hq) rfl _

theorem connsClosed_conn {s : State} (hwf : SMap.wf {} s.conns = true) {c k : Nat} (hk : k ∈ s.boundConns c) :
    Keyless k (s.connsClosed c) ∧ ((s.connsClosed c).conn k).state ≠ .opn := by
  have hretired : SMap.wf {} (s.retireKey c).conns = true := by rw [retireKey_conns]; exact hwf
  have hzeroed := foldl_marks (f := zeroPhases) (I := fun q => SMap.wf {} q.conns = true) (P := Keyless)
    (fun q j hq => wf_zeroPhases hq j) (fun q j hq => keyless_zeroPhases hq j (Or.inl rfl))
    (fun q j i hq hi => keyless_zeroPhases hq j (Or.inr hi)) hretired hk
  have hwfZeroed := foldl_keeps (p := fun q : State => SMap.wf {} q.conns = true) (fun q j hq => wf_zeroPhases hq j) hretired
    (s.boundConns c)
  unfold connsClosed
  generalize (s.boundConns c).foldl zeroPhases (s.retireKey c) = q at hzeroed hwfZeroed ⊢
  refine ⟨?_, ?_⟩
  · exact (foldl_keeps (p := fun t : State => SMap.wf {} t.conns = true ∧ Keyless k t)
      (fun t j ht => ⟨wf_connClose ht.1 j, keyless_connClose ht.1 j ht.2⟩) ⟨hwfZeroed, hzeroed⟩ _).2
  · exact foldl_marks (f := connClose) (I := fun t => SMap.wf {} t.conns = true) (P := fun j t => (t.conn j).state ≠ .opn)
      (fun t j ht => wf_connClose ht j) (fun t j ht => notOpen_connClose ht j (Or.inl rfl))
      (fun t j i ht hi => notOpen_connClose ht j (Or.inr hi)) hwfZeroed hk

/-- After steps 5 and 6 the context has no key, and its connections neither keys nor the state OPEN. -/
theorem closeKeys_leaves {s : State} (hwf : SMap.wf {} s.conns = true) {c : Nat} {x : Close} (hx : s.close? c = some x) :
    (s.closeKeys c).closeStep c = 6 ∧ (s.closeKeys c).mint.ctxKeys.any (fun e => e.1 == c) = false ∧
      ∀ k ∈ s.boundConns c, ((s.closeKeys c).conn k).key0 = 0 ∧ ((s.closeKeys c).conn k).key1 = 0 ∧
        ((s.closeKeys c).conn k).state ≠ .opn := by
  have hclose : (s.connsClosed c).close? c = some x := by
    rw [close?, connsClosed_mint, retireKey_closes]
    exact hx
  rw [closeKeys_eq]
  refine ⟨closeStep_updClose hclose _, ?_, fun k hk => ?_⟩
  · rw [updClose_eq hclose]
    change (s.connsClosed c).mint.ctxKeys.any _ = false
    rw [connsClosed_mint]
    exact retireKey_ctxKeys s c
  · obtain ⟨⟨hkey0, hkey1⟩, hstate⟩ := connsClosed_conn hwf hk
    rw [updClose_eq hclose]
    exact ⟨hkey0, hkey1, hstate⟩

theorem exec_closeMarkersReturned {s : State} {c : Nat} {x : Close} (hx : s.close? c = some x) (hstep : x.step = 4)
    (hfurrows : x.furrows = []) (hpaths : s.pathsHeld c = []) : exec (.closeMarkersReturned c) s = .next (s.closeKeys c) := by
  change execCloseMarkersReturned c s = _
  simp [execCloseMarkersReturned, hx, hstep, hfurrows, hpaths]

/-- At the limit the markers that have not returned are counted, and the close goes on. -/
theorem exec_drainLimitExpiry {s : State} {c : Nat} {x : Close} (hx : s.close? c = some x) (hstep : x.step = 4)
    (hlate : x.since + x.limit ≤ s.hubUnits) (hfurrows : x.furrows ≠ []) : exec (.drainLimitExpiry c) s =
      .next ((({ s with mint := { s.mint with drainto := c :: s.mint.drainto } } : State).count .mtCntDrainTo 0
        (x.furrows.length + (s.pathsHeld c).length)).closeKeys c) := by
  have hsome : x.furrows.length + (s.pathsHeld c).length ≠ 0 := by
    have hpos := List.length_pos_of_ne_nil hfurrows
    omega
  change execDrainLimitExpiry c s = _
  simp only [execDrainLimitExpiry, hx]
  exact if_pos ⟨hstep, hlate, hsome⟩

/-! Steps 7 and 8, and a connection's end (R337, R418). -/

theorem exec_closeConnsClosed {s : State} {c : Nat} (hstep : s.closeStep c = 6)
    (hclosed : (s.boundConns c).all (fun k => (s.conn k).state == .closed) = true) :
    exec (.closeConnsClosed c) s = .next (s.updClose c (fun x => { x with step := 7 })) := if_pos ⟨hstep, hclosed⟩

theorem exec_closeScrubDone {s : State} {c : Nat} (hstep : s.closeStep c = 7)
    (hzeroed : s.sluice.cores.all (fun e => e.2.zeroing != some c) = true) :
    exec (.closeScrubDone c) s = .next ((s.scrubCtx c).endClose c) := by
  refine if_pos ⟨hstep, ?_⟩
  rw [List.not_any_eq_all_not]
  exact hzeroed

theorem ctx_updCtx {s : State} (hwf : SMap.wf {} s.ctxs = true) (c : Nat) (g : CtxGate → CtxGate) :
    (s.updCtx c g).ctx c = g (s.ctx c) := SMap.get_set_same _ _ _ _ hwf

theorem endClose_closed {s : State} (hwf : SMap.wf {} s.ctxs = true) (c : Nat) :
    ((s.endClose c).ctx c).state = .closed ∧ (s.endClose c).close? c = none := by
  refine ⟨congrArg CtxGate.state (ctx_updCtx hwf c fun g => { g with state := .closed, queue := [], deficit := 0 }),
    SMap.get_of_not_mem none ?_⟩
  change c ∉ ((s.mint.closes.filter (fun e => e.1 != c)).map (fun e => (e.1, some e.2))).map (·.1)
  simp [List.mem_filter]

/-- A CLOSING connection has ended: its phases are unbound, its windows and RNEXT cleared. -/
def connEnded (s : State) (c : Nat) : State :=
  (s.zeroPhases c).updConn c (fun k => { k with state := .closed, rnext := 0, window := [], held := [], waiting := [] })

theorem exec_connClosed {s : State} {c : Nat} (hstate : (s.conn c).state = .closing) (houts : (s.conn c).outs = []) :
    ∃ img, exec (.connClosed c) s = .next { s.connEnded c with img := img } := by
  have hexec : exec (.connClosed c) s = .next (if (s.connEnded c).img.added.contains c then
      { s.connEnded c with img := { (s.connEnded c).img with
          routes := SMap.del (s.connEnded c).img.routes c, added := (s.connEnded c).img.added.filter (· != c) } }
    else s.connEnded c) := if_pos ⟨hstate, by rw [houts]; rfl⟩
  rw [hexec]
  split
  · exact ⟨_, rfl⟩
  · exact ⟨(s.connEnded c).img, rfl⟩

theorem connEnded_conn {s : State} (hwf : SMap.wf {} s.conns = true) (c j : Nat) : (s.connEnded c).conn j =
    if j = c then { s.conn c with
      key0 := 0, key1 := 0, kn0 := 0, kn1 := 0, retire := false, state := .closed, rnext := 0, window := [], held := [], waiting := [] }
    else s.conn j := by
  rw [connEnded, conn_updConn_get (wf_zeroPhases hwf c), conn_zeroPhases hwf, conn_zeroPhases hwf, if_pos rfl]
  split
  · rfl
  · rfl

end Sys2Proof.Machine.State

namespace Sys2Proof.Machine

open State

/-- Settles O50, step by step of Table 13-7: what each step writes, and that what it sends or ends keeps the table of closes. -/
theorem closeSteps : Obligations.CloseSteps := by
  intro s hctxs hconns
  refine ⟨fun hopen => ?start, fun hclosed => congrArg Host.Outcome.next (if_neg hclosed), fun c => ⟨fun hready => ?drained,
    fun hstep hmapped => ?revoked, fun x hx hstep => ⟨fun hfurrows hpaths => ?returned, fun hlate hfurrows => ?limit,
      closeKeys_leaves hconns hx⟩, fun hstep hall => ?connections, fun hstep hzeroed => ⟨exec_closeScrubDone hstep hzeroed,
        fun u hwf => endClose_closed hwf c⟩, fun hstate houts => ?ended⟩⟩
  case start =>
    obtain ⟨m, hclose, hstore, hmint, hstate, hqueue⟩ := startClose_closing hopen
    refine ⟨_, rfl, hstate, hqueue, ?_, hstore⟩
    rw [closeStep, close?, hmint, hclose]
  case drained =>
    obtain ⟨hstep, hleases⟩ := closeDrained_leaves hready
    exact ⟨_, exec_closeDrained hready, hstep, fun hwf _ => hleases hwf⟩
  case revoked =>
    obtain ⟨x, hx⟩ := close?_of_closeStep (s := s) (c := c) (by rw [hstep]; decide)
    have hkept := foldl_keeps (f := fun (q : State) f => q.sendMarker f mDrainCtx c)
      (p := fun t : State => t.store = s.store ∧ t.mint = (s.setClose c (s.awaitsMarkers c x)).mint)
      (fun q f hq => sendMarker_keeps (storeMint_kept _ _) (fun _ _ h => h) f _ _ hq)
      (s := s.setClose c (s.awaitsMarkers c x)) ⟨rfl, rfl⟩ s.trainedFurrows
    obtain ⟨hstore, hmint⟩ := hkept
    refine ⟨_, (exec_closeRevoked hstep hmapped).trans (by rw [updClose_eq hx]), ?_⟩
    rw [close?_of_mint hmint, close?_setClose]
    exact ⟨rfl, rfl, rfl, hstore⟩
  case returned => exact exec_closeMarkersReturned hx hstep hfurrows hpaths
  case limit =>
    refine ⟨({ s with mint := { s.mint with drainto := c :: s.mint.drainto } } : State).count .mtCntDrainTo 0
      (x.furrows.length + (s.pathsHeld c).length), rfl, rfl, rfl, rfl, ?_⟩
    exact exec_drainLimitExpiry hx hstep hlate hfurrows
  case connections =>
    obtain ⟨x, hx⟩ := close?_of_closeStep (s := s) (c := c) (by rw [hstep]; decide)
    refine ⟨_, exec_closeConnsClosed hstep hall, closeStep_updClose hx _, ?_⟩
    rw [updClose_eq hx]
    rfl
  case ended =>
    obtain ⟨img, hexec⟩ := exec_connClosed hstate houts
    have hread : ∀ j, ({ s.connEnded c with img := img } : State).conn j = (s.connEnded c).conn j := fun _ => rfl
    refine ⟨_, hexec, ?_⟩
    simp only [hread, connEnded_conn hconns]
    exact ⟨rfl, rfl, rfl, rfl, rfl, fun j hj => if_neg hj⟩

end Sys2Proof.Machine
end

section
/-! PROOFS. What the placing of items on links leaves of links, furrows, memory, CAM and sluice (R315, R317, R319, R331, R333,
R355). -/

namespace Sys2Proof.Machine.State

/-! A carrier that has left (R291) changes neither links nor furrows. -/

/-- Two states with the same links and furrows. -/
structure SameLines (s t : State) : Prop where
  links : t.links = s.links
  furrows : t.furrows = s.furrows

theorem SameLines.refl (s : State) : SameLines s s := ⟨rfl, rfl⟩

theorem SameLines.trans {s t u : State} (hst : SameLines s t) (htu : SameLines t u) : SameLines s u :=
  ⟨htu.links.trans hst.links, htu.furrows.trans hst.furrows⟩

theorem SameLines.link {s t : State} (h : SameLines s t) (l : Nat) : t.link l = s.link l := by
  rw [State.link, h.links]
  rfl

theorem SameLines.furrow {s t : State} (h : SameLines s t) (f : Nat) : t.furrow f = s.furrow f := by
  rw [State.furrow, h.furrows]
  rfl

theorem raiseIrq_sameLines (s : State) (c cause : Nat) : SameLines s (s.raiseIrq c cause) := by
  unfold raiseIrq
  dsimp only
  split
  · exact .refl s
  · split
    · have hmsix := requestMsix_sameButMsix (s.setBit .hgVfIrqCause (vfOfCtx c) cause) (vfOfCtx c)
        ((s.setBit .hgVfIrqCause (vfOfCtx c) cause).rfld .hgVfIrq (vfOfCtx c) (5 + 3 * cause) (3 + 3 * cause))
      rw [SameButMsix] at hmsix
      rw [hmsix]
      exact ⟨rfl, rfl⟩
    · exact ⟨rfl, rfl⟩

theorem checkDrained_sameLines (s : State) (c : Nat) : SameLines s (s.checkDrained c) := by
  unfold checkDrained
  dsimp only
  split
  · exact ⟨(raiseIrq_sameLines _ _ _).links, (raiseIrq_sameLines _ _ _).furrows⟩
  · exact .refl s

theorem resolve_sameLines (s : State) (o q status : Nat) : SameLines s (s.resolve o q status) := by
  unfold resolve
  split
  · exact .refl s
  · exact advance_keeps (P := SameLines s) (fun _ _ _ h => ⟨h.links, h.furrows⟩) (fun _ _ h => ⟨h.links, h.furrows⟩) _ ⟨rfl, rfl⟩

theorem freeSlot_sameLines (s : State) (n : Nat) : SameLines s (s.freeSlot n) := by
  unfold freeSlot
  refine SameLines.trans ?_ (checkDrained_sameLines _ _)
  dsimp only
  split
  · exact ⟨rfl, rfl⟩
  · exact ⟨(resolve_sameLines _ _ _ _).links, (resolve_sameLines _ _ _ _).furrows⟩

theorem carrierLeft_sameLines (s : State) (n : Nat) : SameLines s (s.carrierLeft n) := by
  unfold carrierLeft
  split
  · exact freeSlot_sameLines s n
  · exact ⟨rfl, rfl⟩

/-! Memory, the CAM but its stalled searches, the sluice and the LK fault cause. -/

/-- Two states with the same memory, CAM rows, sluice and LK fault cause. -/
structure SameStores (s t : State) : Prop where
  store : t.store = s.store
  cam : t.cam = { s.cam with waiting := t.cam.waiting }
  sluice : t.sluice = s.sluice
  cause : t.reg .lkFaultCause 0 = s.reg .lkFaultCause 0

theorem SameStores.refl (s : State) : SameStores s s := ⟨rfl, rfl, rfl, rfl⟩

theorem SameStores.trans {s t u : State} (hst : SameStores s t) (htu : SameStores t u) : SameStores s u where
  store := htu.store.trans hst.store
  cam := by rw [htu.cam, hst.cam]
  sluice := htu.sluice.trans hst.sluice
  cause := htu.cause.trans hst.cause

/-- Sending keeps what lies beside the links. -/
theorem sameStores_kept (s : State) : KeptBySending (SameStores s) where
  msix := fun hmsix h => by
    rw [SameButMsix] at hmsix
    rw [hmsix]
    exact ⟨h.store, h.cam, h.sluice, h.cause⟩
  tick := fun h => ⟨h.store, h.cam, h.sluice, h.cause⟩
  setLink := fun _ _ h => ⟨h.store, h.cam, h.sluice, h.cause⟩
  setFurrow := fun _ _ h => ⟨h.store, h.cam, h.sluice, h.cause⟩
  setConn := fun _ _ h => ⟨h.store, h.cam, h.sluice, h.cause⟩
  setSlot := fun _ _ h => ⟨h.store, h.cam, h.sluice, h.cause⟩
  setOrigin := fun _ h => ⟨h.store, h.cam, h.sluice, h.cause⟩
  nextEntry := fun _ h => ⟨h.store, h.cam, h.sluice, h.cause⟩
  waiting := fun _ h => ⟨h.store, by rw [h.cam], h.sluice, h.cause⟩
  drained := fun _ _ h => ⟨h.store, h.cam, h.sluice, h.cause⟩
  irqCause := fun _ _ h =>
    ⟨h.store, h.cam, h.sluice, (reg_setReg_ne _ _ _ _ _ _ (key_ne_of_ctorIdx (by decide) _ _)).trans h.cause⟩

/-! Lines. -/

/-- What sending leaves of a link: its state, the sequences of its receiving side and its peer; what was lost and has moved stays
moved. -/
structure KeepsLine (k x : Link) : Prop where
  state : x.state = k.state
  rxNext : x.rxNext = k.rxNext
  txAcked : x.txAcked = k.txAcked
  peer : x.peer = k.peer
  peerLink : x.peerLink = k.peerLink
  lost : k.lost = [] → x.lost = []
  lostRest : k.lostRest = [] → x.lostRest = []

theorem KeepsLine.refl (k : Link) : KeepsLine k k := ⟨rfl, rfl, rfl, rfl, rfl, id, id⟩

theorem KeepsLine.trans {k x y : Link} (hkx : KeepsLine k x) (hxy : KeepsLine x y) : KeepsLine k y where
  state := hxy.state.trans hkx.state
  rxNext := hxy.rxNext.trans hkx.rxNext
  txAcked := hxy.txAcked.trans hkx.txAcked
  peer := hxy.peer.trans hkx.peer
  peerLink := hxy.peerLink.trans hkx.peerLink
  lost h := hxy.lost (hkx.lost h)
  lostRest h := hxy.lostRest (hkx.lostRest h)

/-- What the placing of items keeps: what lies beside the links, and of canonical tables every line and gate entry. -/
structure Placed (s t : State) : Prop where
  same : SameStores s t
  wfLinks : SMap.wf {} s.links = true → SMap.wf {} t.links = true
  line : SMap.wf {} s.links = true → ∀ j, KeepsLine (s.link j) (t.link j)
  wfFurrows : SMap.wf {} s.furrows = true → SMap.wf {} t.furrows = true
  entry : SMap.wf {} s.furrows = true → ∀ f, (t.furrow f).entry = (s.furrow f).entry

theorem Placed.trans {s t u : State} (hst : Placed s t) (htu : Placed t u) : Placed s u where
  same := hst.same.trans htu.same
  wfLinks h := htu.wfLinks (hst.wfLinks h)
  line h j := (hst.line h j).trans (htu.line (hst.wfLinks h) j)
  wfFurrows h := htu.wfFurrows (hst.wfFurrows h)
  entry h f := (htu.entry (hst.wfFurrows h) f).trans (hst.entry h f)

theorem placed_of_sameLines {s t : State} (hsame : SameStores s t) (hlines : SameLines s t) : Placed s t where
  same := hsame
  wfLinks h := by rw [hlines.links]; exact h
  line _ j := by rw [hlines.link]; exact .refl _
  wfFurrows h := by rw [hlines.furrows]; exact h
  entry _ f := by rw [hlines.furrow]

theorem Placed.refl (s : State) : Placed s s := placed_of_sameLines (.refl s) (.refl s)

theorem Placed.foldl {α : Type} {f : State → α → State} (hf : ∀ q x, Placed q (f q x)) (s : State) (xs : List α) :
    Placed s (xs.foldl f s) :=
  foldl_keeps (p := Placed s) (fun q x hq => hq.trans (hf q x)) (.refl s) xs

/-- A canonical table of links reads back what was written. -/
theorem link_setLink_of_wf {s : State} (hwf : SMap.wf {} s.links = true) (l j : Nat) (x : Link) :
    (s.setLink l x).link j = if j = l then x else s.link j := SMap.get_set _ _ _ _ _ hwf

theorem furrow_setFurrow_of_wf {s : State} (hwf : SMap.wf {} s.furrows = true) (f j : Nat) (x : Furrow) :
    (s.setFurrow f x).furrow j = if j = f then x else s.furrow j := SMap.get_set _ _ _ _ _ hwf

theorem setLink_placed (s : State) (l : Nat) {x : Link} (h : KeepsLine (s.link l) x) : Placed s (s.setLink l x) where
  same := ⟨rfl, rfl, rfl, rfl⟩
  wfLinks hwf := SMap.wf_set _ _ _ _ hwf
  line hwf j := by
    rw [link_setLink_of_wf hwf]
    split
    · next hj => rw [hj]; exact h
    · exact .refl _
  wfFurrows := id
  entry _ _ := rfl

theorem setFurrow_placed (s : State) (f : Nat) {x : Furrow} (h : x.entry = (s.furrow f).entry) : Placed s (s.setFurrow f x) where
  same := ⟨rfl, rfl, rfl, rfl⟩
  wfLinks := id
  line _ _ := .refl _
  wfFurrows hwf := SMap.wf_set _ _ _ _ hwf
  entry hwf j := by
    rw [furrow_setFurrow_of_wf hwf]
    split
    · next hj => rw [hj]; exact h
    · rfl

theorem updFurrow_placed (s : State) (f : Nat) {g : Furrow → Furrow} (h : (g (s.furrow f)).entry = (s.furrow f).entry) :
    Placed s (s.updFurrow f g) := setFurrow_placed s f h

theorem count_placed (s : State) (c : Ctr) (i n : Nat) : Placed s (s.count c i n) := placed_of_sameLines ⟨rfl, rfl, rfl, rfl⟩ ⟨rfl, rfl⟩
theorem emit_placed (s : State) (o : Out) : Placed s (s.emit o) := placed_of_sameLines ⟨rfl, rfl, rfl, rfl⟩ ⟨rfl, rfl⟩
theorem tick_placed (s : State) : Placed s s.tick := placed_of_sameLines ⟨rfl, rfl, rfl, rfl⟩ ⟨rfl, rfl⟩
theorem pred_placed (s : State) (cls i ev n : Nat) : Placed s (s.pred cls i ev n) := placed_of_sameLines ⟨rfl, rfl, rfl, rfl⟩ ⟨rfl, rfl⟩
theorem setConn_placed (s : State) (c : Nat) (x : Conn) : Placed s (s.setConn c x) := placed_of_sameLines ⟨rfl, rfl, rfl, rfl⟩ ⟨rfl, rfl⟩

theorem carrierLeft_placed (s : State) (n : Nat) : Placed s (s.carrierLeft n) :=
  placed_of_sameLines ((sameStores_kept s).carrierLeft n (.refl s)) (carrierLeft_sameLines s n)

/-! Items and events. -/

theorem pumpLink_placed (n l : Nat) (s : State) : Placed s (pumpLink n l s) := by
  induction n generalizing s with
  | zero => exact .refl s
  | succ n ih =>
    rw [pumpLink]
    split
    · refine Placed.trans ?_ (ih _)
      refine Placed.trans ?_ (Placed.foldl (fun q it => ?_) _ _)
      · refine Placed.trans (Placed.trans ?_ (emit_placed _ _)) (count_placed _ _ _ _)
        exact setLink_placed s l ⟨rfl, rfl, rfl, rfl, rfl, id, id⟩
      · split
        · exact carrierLeft_placed q _
        · exact .refl q
    · exact .refl s

theorem pumpFurrow_placed (n f : Nat) (s : State) : Placed s (pumpFurrow n f s) := by
  induction n generalizing s with
  | zero => exact .refl s
  | succ n ih =>
    have hqueued : ∀ (l : Nat) (it : TxItem) (rest : List TxItem), Placed s ((s.updFurrow f (fun x => { x with out := rest })).updLink l
        (fun k => { k with queue := k.queue ++ [it] })) := fun l it rest =>
      (updFurrow_placed s f rfl).trans (setLink_placed _ l ⟨rfl, rfl, rfl, rfl, rfl, id, id⟩)
    rw [pumpFurrow]
    split
    · exact .refl s
    · split
      · exact .refl s
      · split
        · exact .refl s
        · refine Placed.trans (Placed.trans ?_ (pumpLink_placed 512 _ _)) (ih _)
          split
          · exact (hqueued _ _ _).trans (count_placed _ _ _ _)
          · exact hqueued _ _ _

theorem sendItem_placed (s : State) (it : TxItem) : Placed s (s.sendItem it) :=
  (updFurrow_placed s _ rfl).trans (pumpFurrow_placed _ _ _)

theorem pumpGate_placed (n : Nat) (start : Bool) (f cls : Nat) (s : State) : Placed s (pumpGate n start f cls s) := by
  induction n generalizing s with
  | zero => exact .refl s
  | succ n ih =>
    have hstart : ∀ (q : State) (b : Bool) (rest : List TxItem) it, Placed s q →
        Placed s (if b = true then
          pumpGate n start f cls ((q.updFurrow f (fun x => { x with gates := setAt x.gates cls rest })).sendItem it) else q) := by
      intro q b rest it hq
      cases b
      · exact hq
      · exact ((hq.trans (updFurrow_placed q f rfl)).trans (sendItem_placed _ it)).trans (ih _)
    rw [pumpGate]
    split
    · exact .refl s
    · split
      · refine hstart _ _ _ _ ?_
        split
        · exact tick_placed s
        · exact .refl s
      · exact .refl s

theorem pump_placed (s : State) (f : Nat) : Placed s (s.pump f) := by
  unfold pump
  exact ((Placed.foldl (fun q l => pumpLink_placed 512 l q) s _).trans (pumpFurrow_placed _ _ _)).trans
    (Placed.foldl (fun q c => pumpGate_placed _ _ _ _ q) _ _)

theorem sendGated_placed (s : State) (cls : Nat) (it : TxItem) : Placed s (s.sendGated cls it) := by
  unfold sendGated
  refine Placed.trans (Placed.trans ?_ (updFurrow_placed _ it.furrow rfl)) (pumpGate_placed _ _ _ _ _)
  split
  · exact count_placed _ _ _ _
  · exact .refl s

theorem formItem_placed (s : State) (it : TxItem) : Placed s (s.formItem it).1 :=
  updFurrow_placed s it.furrow (g := fun x => { x with formed := (s.furrow it.furrow).formed + 1 }) rfl

theorem sendCarrier_placed (s : State) (c : Nat) (cls : Option Nat) (fence : Bool) (slot : Option Nat) (h : Hdr) (seg : Bytes) :
    Placed s (s.sendCarrier c cls fence slot h seg) := by
  unfold sendCarrier
  split
  · dsimp only
    have hformed := fun (x : Conn) it => (setConn_placed s c x).trans (formItem_placed (s.setConn c x) it)
    split
    · exact (hformed _ _).trans (sendGated_placed _ _ _)
    · exact (hformed _ _).trans (sendItem_placed _ _)
  · split
    · exact carrierLeft_placed s _
    · exact .refl s

theorem sendPayload_placed (s : State) (c : Nat) (cls slot : Option Nat) (h : Hdr) (body : Bytes) :
    Placed s (s.sendPayload c cls slot h body) := Placed.foldl (fun q _ => sendCarrier_placed q _ _ _ _ _ _) s _

theorem sendEvent_placed (s : State) (f code arg : Nat) : Placed s (s.sendEvent f code arg) := by
  unfold sendEvent
  exact (((updFurrow_placed s f rfl).trans (formItem_placed _ _)).trans (sendItem_placed _ _)).trans (count_placed _ _ _ _)

/-! What a furrow does as its links come and go (R314, R319, R331, R333). -/

theorem sendLdreps_placed (s : State) (f : Nat) : Placed s (s.sendLdreps f) := by
  unfold sendLdreps
  split
  · exact .refl s
  · refine Placed.foldl (fun q e => ?_) s _
    split
    · split
      · exact emit_placed q _
      · exact .refl q
    · exact .refl q

theorem noteFurrow_placed (s : State) (f : Nat) : Placed s (s.noteFurrow f) := by
  unfold noteFurrow
  dsimp only
  have hstate := updFurrow_placed s f (g := fun y => { y with wasState := s.furrowState f }) rfl
  split
  · exact hstate
  · split
    · exact hstate.trans (sendEvent_placed _ _ _ _)
    · split
      · refine (hstate.trans (updFurrow_placed _ f rfl)).trans (Placed.foldl (fun q e => ?_) _ _)
        split
        · exact setLink_placed q _ ⟨rfl, rfl, rfl, rfl, rfl, fun h => List.map_eq_nil_iff.mpr h, fun h => List.map_eq_nil_iff.mpr h⟩
        · exact .refl q
      · exact hstate

theorem furrowUp_placed (s : State) (f : Nat) : Placed s (s.furrowUp f) := by
  unfold furrowUp
  dsimp only
  split
  · refine (updFurrow_placed s f rfl).trans (Placed.foldl (fun q e => ?_) _ _)
    split
    · exact Placed.foldl (fun t o => sendPayload_placed t _ _ _ _ _) q _
    · exact .refl q
  · exact .refl s

end Sys2Proof.Machine.State
end

section
/-! PROOFS. Link states: training, block lock, faults, and links that leave ACTIVE (R307, R308, R311, R318, R333, Table 10-4,
Table 10-13). -/

namespace Sys2Proof.Machine.State

/-! LK faults (Table 10-13). -/

theorem lkFault_sameButReports (s : State) (l cause : Nat) : SameButReports s (s.lkFault l cause) := by
  unfold lkFault
  have hreports := (setBit_sameButReports s .lkFault 0 l).trans (rsFault_sameButReports (s.setBit .lkFault 0 l) 2)
  exact hreports.trans (t := (s.setBit .lkFault 0 l).rsFault 2) rfl

theorem lkFault_bit (s : State) {l : Nat} (hl : l < 64) (cause : Nat) : (s.lkFault l cause).rbit .lkFault 0 l = true := by
  have hreg : (s.lkFault l cause).reg .lkFault 0 = (s.setBit .lkFault 0 l).reg .lkFault 0 :=
    (reg_setReg_ne _ _ _ _ _ _ (key_ne_of_ctorIdx (by decide) _ _)).trans (reg_rsFault_ne _ _ (key_ne_of_ctorIdx (by decide) _ _))
  rw [rbit, hreg]
  exact rbit_setBit s .lkFault 0 hl (Nat.zero_testBit _)

/-- A cause that is not 0 stands in LK_FAULT_CAUSE with its link. -/
theorem lkFault_cause (s : State) {l cause : Nat} (hl : l < 64) (hpos : 0 < cause) (hcause : cause < 64) :
    (s.lkFault l cause).reg .lkFaultCause 0 = wordOf (l + 64 * cause) := by
  have hplace : l + place 6 cause = l + 64 * cause := by
    unfold place
    omega
  have hne : wordOf (l + 64 * cause) ≠ wordOf Reg.lkFaultCause.access.reset := by
    intro heq
    have hnat := congrArg BitVec.toNat heq
    change (l + 64 * cause) % 2 ^ 64 = 0 at hnat
    omega
  rw [lkFault, hplace]
  exact SMap.get_set_of_ne _ _ _ _ hne

/-! One link is written, and the others keep their states. -/

/-- What is written beside links, pages, CAM rows and cores. -/
theorem otherLinks_of_links {s t : State} (l : Nat) (hlinks : t.links = s.links) (hstore : t.store = s.store) (hcam : t.cam = s.cam)
    (hsluice : t.sluice = s.sluice) : OtherLinks s t l := by
  refine ⟨fun j _ => ?_, hstore, by rw [hcam], hsluice⟩
  rw [State.link, hlinks]
  rfl

theorem otherLinks_trans {s t u : State} {l : Nat} (hst : OtherLinks s t l) (htu : OtherLinks t u l) : OtherLinks s u l := by
  obtain ⟨hstate, hstore, hcam, hsluice⟩ := hst
  obtain ⟨hstate', hstore', hcam', hsluice'⟩ := htu
  exact ⟨fun j hj => (hstate' j hj).trans (hstate j hj), hstore'.trans hstore, by rw [hcam', hcam], hsluice'.trans hsluice⟩

theorem setLink_otherLinks (s : State) (l : Nat) (x : Link) : OtherLinks s (s.setLink l x) l :=
  ⟨fun j hj => by rw [link_setLink_ne s l j x hj], rfl, rfl, rfl⟩

/-- Items are placed. -/
theorem Placed.others {s t : State} (hwf : SMap.wf {} s.links = true) (h : Placed s t) (l : Nat) : OtherLinks s t l :=
  ⟨fun j _ => (h.line hwf j).state, h.same.store, h.same.cam, h.same.sluice⟩

/-- A link is written and items are placed: the others keep their states. -/
theorem Placed.otherLinks {s t : State} {l : Nat} {x : Link} (hwf : SMap.wf {} s.links = true) (h : Placed (s.setLink l x) t) :
    OtherLinks s t l := otherLinks_trans (setLink_otherLinks s l x) (h.others (SMap.wf_set _ _ _ _ hwf) l)

/-- The link written keeps what sending keeps. -/
theorem Placed.written {s t : State} {l : Nat} {x : Link} (hwf : SMap.wf {} s.links = true) (h : Placed (s.setLink l x) t) :
    KeepsLine x (t.link l) := by
  have hline := h.line (SMap.wf_set _ _ _ _ hwf) l
  rwa [link_setLink_of_wf hwf, if_pos rfl] at hline

/-! A link leaves ACTIVE (R311, R319, R333). -/

/-- What follows once a link has left ACTIVE: its training is counted, and its furrow told. -/
def toldLeft (s : State) (l : Nat) (next : LinkState) : State :=
  let s := if next = .phyTrain then (s.count .lkCntTrain l 1).pred 2 l 3 1 else s
  match s.furrowOf l with
  | none => s
  | some f =>
    let s := if s.furrowState f = 0 then s else s.sendEvent f evLinkDown l
    (s.noteFurrow f).sendLdreps f

theorem toldLeft_placed (s : State) (l : Nat) (next : LinkState) : Placed s (s.toldLeft l next) := by
  have htrained : Placed s (if next = .phyTrain then (s.count .lkCntTrain l 1).pred 2 l 3 1 else s) := by
    split
    · exact (count_placed s _ _ _).trans (pred_placed _ _ _ _ _)
    · exact .refl s
  have hdown : ∀ (q : State) (f : Nat), Placed q (if q.furrowState f = 0 then q else q.sendEvent f evLinkDown l) := by
    intro q f
    split
    · exact .refl q
    · exact sendEvent_placed q _ _ _
  unfold toldLeft
  dsimp only
  split
  · exact htrained
  · next f _ =>
    exact (htrained.trans (hdown _ f)).trans ((noteFurrow_placed _ f).trans (sendLdreps_placed _ f))

theorem leaveActive_eq (s : State) (l : Nat) (next : LinkState) :
    ∃ x : Link, x.state = next ∧ s.leaveActive l next = (s.setLink l x).toldLeft l next := ⟨_, rfl, rfl⟩

theorem leaveActive_placed (s : State) (l : Nat) (next : LinkState) :
    ∃ x : Link, x.state = next ∧ Placed (s.setLink l x) (s.leaveActive l next) := by
  obtain ⟨x, hx, heq⟩ := leaveActive_eq s l next
  rw [heq]
  exact ⟨x, hx, toldLeft_placed _ l next⟩

/-- A link that leaves ACTIVE is in its next state; no other link changes its own. -/
theorem leaveActive_leaves {s : State} (hwf : SMap.wf {} s.links = true) (l : Nat) (next : LinkState) :
    ((s.leaveActive l next).link l).state = next ∧ (s.leaveActive l next).reg .lkFaultCause 0 = s.reg .lkFaultCause 0 ∧
      OtherLinks s (s.leaveActive l next) l := by
  obtain ⟨x, hx, hplaced⟩ := leaveActive_placed s l next
  exact ⟨(hplaced.written hwf).state.trans hx, hplaced.same.cause, hplaced.otherLinks hwf⟩

/-- The same of a state that differs from the first by reports and counts only. -/
theorem reported_leaveActive {s q : State} (hwf : SMap.wf {} s.links = true) (hreports : SameButReports s q) (l : Nat)
    (next : LinkState) : ((q.leaveActive l next).link l).state = next ∧
      (q.leaveActive l next).reg .lkFaultCause 0 = q.reg .lkFaultCause 0 ∧ OtherLinks s (q.leaveActive l next) l := by
  rw [SameButReports] at hreports
  have hlinks : q.links = s.links := by rw [hreports]
  obtain ⟨hstate, hcause, hothers⟩ := leaveActive_leaves (s := q) (by rw [hlinks]; exact hwf) l next
  exact ⟨hstate, hcause, otherLinks_trans
    (otherLinks_of_links l hlinks (by rw [hreports]) (by rw [hreports]) (by rw [hreports])) hothers⟩

/-! The commands of Table 10-4. -/

section
variable {s : State} {l : Nat}

theorem exec_trainingComplete (h : (s.link l).state = .phyTrain) (swap : Bool) (inv : Nat) :
    exec (.trainingComplete l swap inv) s =
      .next (s.updLink l (fun k => { k with state := .lock, swap := swap, inv := inv % 4 })) :=
  congrArg Host.Outcome.next (if_pos h)

theorem exec_blockLock {lane0 lane1 : Bytes} (hlock : (s.link l).state = .lock) (hfound : (lockAt lane0 lane1).isSome = true) :
    exec (.blockLock l lane0 lane1) s =
      .next ((s.updLink l (fun k => { k with state := .hello, heard := false, heardSeen := false })).sendHello l) :=
  congrArg Host.Outcome.next (if_pos ⟨hlock, hfound⟩)

theorem exec_blockLock_none {lane0 lane1 : Bytes} (hnone : lockAt lane0 lane1 = none) :
    exec (.blockLock l lane0 lane1) s = .next s :=
  congrArg Host.Outcome.next (if_neg fun h => by rw [hnone] at h; cases h.2)

theorem exec_trainLimitExpiry (h : (s.link l).state = .phyTrain) :
    exec (.trainLimitExpiry l) s = .next ((s.lkFault l 2).count .lkCntTrainFail l 1) := congrArg Host.Outcome.next (if_pos h)

theorem exec_badBlockRun (h : (s.link l).state = .active) : exec (.badBlockRun l) s = .next (s.leaveActive l .phyTrain) :=
  congrArg Host.Outcome.next (if_pos h)

theorem exec_laneLoss (h : (s.link l).state = .active) :
    exec (.laneLoss l) s = .next (((s.lkFault l 5).pred 5 (l / 16) 1 1).leaveActive l .phyTrain) :=
  congrArg Host.Outcome.next (if_pos h)

theorem exec_retryTimeExpiry (h : (s.link l).state = .active) (hepisode : (s.link l).episode = true) :
    exec (.retryTimeExpiry l) s = .next (((s.lkFault l 1).count .lkCntRetryFail l 1).leaveActive l .phyTrain) :=
  congrArg Host.Outcome.next (if_pos ⟨h, hepisode⟩)

end

/-- A link whose lanes are lost. -/
def laneLost (s : State) (l : Nat) : State := (s.lkFault l 5).pred 5 (l / 16) 1 1

/-- LANE_LOSS counts for prediction beside what a fault reports. -/
theorem laneLost_leaves {s : State} (hwf : SMap.wf {} s.links = true) {l : Nat} (hl : l < 64) :
    (((s.laneLost l).leaveActive l .phyTrain).link l).state = .phyTrain ∧
      ((s.laneLost l).leaveActive l .phyTrain).reg .lkFaultCause 0 = wordOf (l + 64 * 5) ∧
      OtherLinks s ((s.laneLost l).leaveActive l .phyTrain) l := by
  have hreports := lkFault_sameButReports s l 5
  rw [SameButReports] at hreports
  have hlinks : (s.laneLost l).links = s.links := by rw [laneLost, pred_links, hreports]
  obtain ⟨hstate, hcause, hothers⟩ := leaveActive_leaves (s := s.laneLost l) (by rw [hlinks]; exact hwf) l .phyTrain
  refine ⟨hstate, hcause.trans (lkFault_cause s hl (by decide) (by decide)),
    otherLinks_trans (otherLinks_of_links l hlinks ?_ ?_ ?_) hothers⟩
  · rw [laneLost, pred_store, hreports]
  · rw [laneLost, pred_cam, hreports]
  · rw [laneLost, pred_sluice, hreports]

end Sys2Proof.Machine.State

namespace Sys2Proof.Machine

open State

/-- Settles O17, command by command: a link that leaves ACTIVE is written once, and what its furrow then sends keeps link states. -/
theorem linkStatesAndFaults : Obligations.LinkStatesAndFaults := by
  intro s l hl hwf
  refine ⟨fun htrain swap inv => ?trained, fun hlock lane0 lane1 hfound => ?locked, fun lane0 lane1 hnone => exec_blockLock_none hnone,
    fun htrain => ?limit, fun hactive => ?badBlocks, fun hactive => ?laneLost, fun hactive hepisode => ?retryTime⟩
  case trained =>
    exact ⟨_, exec_trainingComplete htrain swap inv, link_setLink s l _ fun h => LinkState.noConfusion (congrArg Link.state h),
      fun j hj => link_setLink_ne s l j _ hj, rfl⟩
  case locked =>
    have hread := link_setLink s l { s.link l with state := .hello, heard := false, heardSeen := false }
      fun h => LinkState.noConfusion (congrArg Link.state h)
    exact ⟨exec_blockLock hlock hfound, congrArg Link.state hread, fun j hj => link_setLink_ne s l j _ hj⟩
  case limit =>
    have hreports := lkFault_sameButReports s l 2
    rw [SameButReports] at hreports
    refine ⟨_, exec_trainLimitExpiry htrain, ?_, lkFault_bit s hl 2, lkFault_cause s hl (by decide) (by decide), ?_⟩
    · rw [count_links, hreports]
    · rw [count_store, hreports]
  case badBlocks =>
    obtain ⟨hstate, -, hothers⟩ := leaveActive_leaves hwf l .phyTrain
    exact ⟨_, exec_badBlockRun hactive, hstate, hothers⟩
  case laneLost => exact ⟨_, exec_laneLoss hactive, laneLost_leaves hwf hl⟩
  case retryTime =>
    have hreports : SameButReports s ((s.lkFault l 1).count .lkCntRetryFail l 1) := (lkFault_sameButReports s l 1).trans rfl
    obtain ⟨hstate, hcause, hothers⟩ := reported_leaveActive hwf hreports l .phyTrain
    exact ⟨_, exec_retryTimeExpiry hactive hepisode, hstate, hcause.trans (lkFault_cause s hl (by decide) (by decide)), hothers⟩

end Sys2Proof.Machine
end

section
/-! PROOFS. Furrows: what a DOWN furrow discards, events that arrive, and the entries of an egress gate (R319, R334, R355 to R357,
R510). -/

namespace Sys2Proof.Machine.State

/-! DOWN_FURROW_DISCARD (R319). -/

/-- The items a furrow keeps of a list. -/
def keepShort (s : State) (f : Nat) (l : List TxItem) : List TxItem := l.filter (fun i => !s.heldLong f i)

/-- What a furrow's links lost is kept in part. -/
def keepLost (s : State) (f : Nat) (keep : List TxItem → List TxItem) : State :=
  s.links.foldl (fun q e =>
    if q.inFurrow f e.1 then
      q.updLink e.1 (fun k => { k with lostRest := keep k.lostRest, lost := k.lost.map (fun r => { r with ends := keep r.ends }) })
    else q) s

/-- The slots of items leave. -/
def slotsLeft (s : State) (items : List TxItem) : State :=
  items.foldl (fun q it => match it.slot with | some m => q.carrierLeft m | none => q) s

/-- A furrow keeps what has not been held for E2E. -/
def keptFurrow (s : State) (f : Nat) : State :=
  s.setFurrow f { s.furrow f with out := s.keepShort f (s.furrow f).out, gates := (s.furrow f).gates.map (s.keepShort f) }

theorem exec_downFurrowDiscard {s : State} {f : Nat} (hdown : s.furrowState f = 0) : ∃ gone n, exec (.downFurrowDiscard f) s =
    .next ((((s.keptFurrow f).keepLost f (s.keepShort f)).slotsLeft gone).count .fuDropDown f n) := by
  have hexec : execDownFurrowDiscard f s = _ := if_pos hdown
  exact ⟨_, _, hexec⟩

theorem keepLost_placed (s : State) (f : Nat) {keep : List TxItem → List TxItem} (hnil : keep [] = []) :
    Placed s (s.keepLost f keep) := by
  refine Placed.foldl (fun q e => ?_) s _
  split
  · exact setLink_placed q _ ⟨rfl, rfl, rfl, rfl, rfl, fun h => congrArg (List.map _) h,
      fun h => (congrArg keep h).trans hnil⟩
  · exact .refl q

theorem keepLost_furrows (s : State) (f : Nat) (keep : List TxItem → List TxItem) : (s.keepLost f keep).furrows = s.furrows := by
  refine foldl_keeps (p := fun q : State => q.furrows = s.furrows) (fun q e hq => ?_) rfl _
  split
  · exact hq
  · exact hq

theorem slotsLeft_placed (s : State) (items : List TxItem) : Placed s (s.slotsLeft items) := by
  refine Placed.foldl (fun q it => ?_) s _
  split
  · exact carrierLeft_placed q _
  · exact .refl q

theorem slotsLeft_furrows (s : State) (items : List TxItem) : (s.slotsLeft items).furrows = s.furrows := by
  refine foldl_keeps (p := fun q : State => q.furrows = s.furrows) (fun q it hq => ?_) rfl _
  split
  · exact (carrierLeft_sameLines q _).furrows.trans hq
  · exact hq

/-- An item stays where it is an event or has not been held for E2E. -/
theorem keepShort_eq (s : State) (f : Nat) (l : List TxItem) :
    s.keepShort f l = l.filter (fun i => !i.carrier || decide (s.hubUnits < i.since + s.e2e f)) := by
  refine List.filter_congr fun i _ => ?_
  rw [heldLong, Bool.not_and, ← decide_not]
  simp only [Nat.not_le]

/-! EVENT_RECEIVE (R334, R510). -/

theorem sendPldm_only (s : State) (r : Report) : (s.sendPldm r).power = s.power ∧ (s.sendPldm r).ctrs = s.ctrs := by
  unfold sendPldm
  split
  · split <;> exact ⟨rfl, rfl⟩
  · exact ⟨rfl, rfl⟩

theorem sendReport_only (s : State) (e : MEvent) : (s.sendReport e).power = s.power ∧ (s.sendReport e).ctrs = s.ctrs := by
  unfold sendReport
  exact foldl_keeps (p := fun q : State => q.power = s.power ∧ q.ctrs = s.ctrs) (f := fun q a => q.emit (.event a e.eseq e.what))
    (fun _ _ hq => hq) ⟨rfl, rfl⟩ _

/-- A report takes the next ESEQ, and counts at most as unacknowledged. -/
theorem report_leaves (s : State) (r : Report) : (s.report r).power.nextEseq = (s.power.nextEseq + 1) % 2 ^ 32 ∧
    ∀ d j, d.key j ≠ Ctr.brCntEvtUnack.key 0 → (s.report r).ctr d j = s.ctr d j := by
  unfold report
  dsimp only
  generalize hq : ({ s with power := { s.power with nextEseq := (s.power.nextEseq + 1) % 2 ^ 32 } } : State).sendPldm r = q
  obtain ⟨hpower, hctrs⟩ := sendPldm_only ({ s with power := { s.power with nextEseq := (s.power.nextEseq + 1) % 2 ^ 32 } }) r
  rw [hq] at hpower hctrs
  have hctr : ∀ d j, q.ctr d j = s.ctr d j := fun d j => by
    rw [State.ctr, hctrs]
    rfl
  split
  · exact ⟨by rw [hpower], fun d j _ => hctr d j⟩
  · split
    · exact ⟨by rw [count_power, hpower], fun d j hne => (ctr_count_ne _ _ _ _ _ _ hne).trans (hctr d j)⟩
    · have hsent := sendReport_only ({ q with power := { q.power with events := q.power.events ++
        [{ eseq := s.power.nextEseq, what := r, since := s.power.seconds }] } })
        { eseq := s.power.nextEseq, what := r, since := s.power.seconds }
      obtain ⟨hpowerSent, hctrsSent⟩ := hsent
      refine ⟨by rw [hpowerSent, hpower], fun d j _ => ?_⟩
      rw [State.ctr, hctrsSent]
      exact hctr d j

/-- Counters of different kinds have different keys. -/
theorem ctrKey_ne {c d : Ctr} {i j : Nat} (h : d.ctorIdx ≠ c.ctorIdx) (hc : c.ctorIdx < 256) (hd : d.ctorIdx < 256) :
    d.key j ≠ c.key i := by
  unfold Ctr.key
  omega

/-- A gap in the ESEQs of events is counted. -/
def gapCounted (s : State) (f eseq : Nat) : State :=
  if (s.furrow f).evtHeard && eseq != ((s.furrow f).evtSeq + 1) % 65536 then s.count .fuCntEvtGap f 1 else s

theorem gapCounted_eq (s : State) (f eseq : Nat) : s.gapCounted f eseq = { s with ctrs := (s.gapCounted f eseq).ctrs } := by
  unfold gapCounted
  split <;> rfl

theorem gapCounted_ok {s : State} (f eseq : Nat) (h : s.countersOk = true) : (s.gapCounted f eseq).countersOk = true := by
  unfold gapCounted
  split
  · exact countersOk_count s _ _ _ h
  · exact h

theorem gapCounted_rx (s : State) (f eseq : Nat) : (s.gapCounted f eseq).ctr .fuCntEvtRx f = s.ctr .fuCntEvtRx f := by
  unfold gapCounted
  split
  · exact ctr_count_ne s _ _ _ _ _ (ctrKey_ne (by decide) (by decide) (by decide))
  · rfl

/-- An event that has arrived is recorded and counted, before management is told. -/
def eventNoted (s : State) (f code eseq : Nat) (arg : Word) : State :=
  (s.updFurrow f (fun x => { x with evtCode := code, evtSeq := eseq, evtArg := arg, evtHeard := true })).count .fuCntEvtRx f 1

theorem eventArrive_eq (s : State) (f code eseq : Nat) (arg : Word) :
    s.eventArrive f code eseq arg = ((s.gapCounted f eseq).eventNoted f code eseq arg).report (.event f code arg) := by
  unfold eventArrive gapCounted
  dsimp only
  split <;> rfl

theorem ctr_eventArrive (s : State) (f code eseq : Nat) (arg : Word) {d : Ctr} (hd : d.ctorIdx < 256)
    (hunack : d.ctorIdx ≠ Ctr.brCntEvtUnack.ctorIdx) :
    (s.eventArrive f code eseq arg).ctr d f = ((s.gapCounted f eseq).count .fuCntEvtRx f 1).ctr d f := by
  rw [eventArrive_eq, (report_leaves _ _).2 d f (ctrKey_ne hunack (by decide) hd)]
  rfl

/-- What an event leaves alone, and the ESEQ its report takes. -/
theorem eventArrive_leaves (s : State) (f code eseq : Nat) (arg : Word) : let t := s.eventArrive f code eseq arg
    t.furrows = (s.updFurrow f (fun x => { x with evtCode := code, evtSeq := eseq, evtArg := arg, evtHeard := true })).furrows ∧
      t.power.nextEseq = (s.power.nextEseq + 1) % 2 ^ 32 ∧ t.links = s.links ∧ t.store = s.store ∧ t.slots = s.slots := by
  dsimp only
  obtain ⟨hseq, -⟩ := report_leaves ((s.gapCounted f eseq).eventNoted f code eseq arg) (.event f code arg)
  have hreports := report_sameButReports ((s.gapCounted f eseq).eventNoted f code eseq arg) (.event f code arg)
  rw [← eventArrive_eq] at hseq hreports
  rw [SameButReports] at hreports
  rw [hseq, hreports, gapCounted_eq]
  exact ⟨rfl, rfl, rfl, rfl, rfl⟩

/-! GATE_ENTRY (R355 to R357). -/

theorem takeEffect_keeps {P : State → Prop} (hregs : ∀ (q : State) (x : RegFile), P q → P { q with regs := x }) {s : State} (h : P s)
    (rs : List (Reg × Nat)) : P (s.takeEffect rs) := by
  unfold takeEffect
  refine foldl_keeps (fun q x hq => ?_) h rs
  split
  · exact hregs _ _ (hregs _ _ hq)
  · exact hq

/-- The stall of an entry is counted for the reason that stands. -/
def stallCounted (s : State) (f closed guarded unfit : Nat) : State :=
  let q := s.count .hgGateStallClosed f closed
  if q.fitOrWait then q.count .hgGateStallFit f unfit else q.count .hgGateStallGuard f guarded

/-- What waits for entry 0 takes effect there. -/
def entryEffect (s : State) (f e : Nat) : State :=
  if e = 0 then s.takeEffect ((Reg.hgGateCfg, f) :: (List.range 16).map (fun i => (Reg.hgGateEnt, f * 16 + i))) else s

section
variable (s : State) (f : Nat)

theorem stallCounted_eq (closed guarded unfit : Nat) :
    s.stallCounted f closed guarded unfit = { s with ctrs := (s.stallCounted f closed guarded unfit).ctrs } := by
  unfold stallCounted
  dsimp only
  split <;> rfl

/-- Registers only change as a list takes effect. -/
theorem entryEffect_leaves (e : Nat) :
    (s.entryEffect f e).links = s.links ∧ (s.entryEffect f e).furrows = s.furrows ∧ (s.entryEffect f e).store = s.store := by
  unfold entryEffect
  split
  · exact takeEffect_keeps (P := fun q => q.links = s.links ∧ q.furrows = s.furrows ∧ q.store = s.store) (fun _ _ h => h) ⟨rfl, rfl, rfl⟩ _
  · exact ⟨rfl, rfl, rfl⟩

/-- What each class sends as an entry begins. -/
def entryBegins : State :=
  (List.range 4).foldl (fun q c => pumpGate ((getAt [] (q.furrow f).gates c).length + 1) true f c q) s

theorem entryBegins_placed : Placed s (s.entryBegins f) := Placed.foldl (fun q c => pumpGate_placed _ true f c q) s _

end

theorem exec_gateEntry {s : State} {f : Nat} (hon : s.rbit .hgGateCfg f 0 = true) (closed guarded unfit : Nat) :
    ∃ q : State, q.links = s.links ∧ q.furrows = s.furrows ∧ q.store = s.store ∧ exec (.gateEntry f closed guarded unfit) s =
      .next ((q.updFurrow f (fun x => { x with entry := s.gateAfter f (s.furrow f).entry })).entryBegins f) := by
  have hafter : (s.stallCounted f closed guarded unfit).gateAfter f ((s.stallCounted f closed guarded unfit).furrow f).entry =
      s.gateAfter f (s.furrow f).entry := by
    rw [stallCounted_eq]
    rfl
  have hexec : execGateEntry f closed guarded unfit s = .next ((((s.stallCounted f closed guarded unfit).entryEffect f
      ((s.stallCounted f closed guarded unfit).gateAfter f ((s.stallCounted f closed guarded unfit).furrow f).entry)).updFurrow f
        (fun x => { x with
          entry := (s.stallCounted f closed guarded unfit).gateAfter f ((s.stallCounted f closed guarded unfit).furrow f).entry
        })).entryBegins f) := if_pos hon
  rw [hafter] at hexec
  obtain ⟨hlines, hsame, hstore⟩ := entryEffect_leaves (s.stallCounted f closed guarded unfit) f (s.gateAfter f (s.furrow f).entry)
  rw [stallCounted_eq] at hlines hsame hstore
  exact ⟨_, hlines, hsame, hstore, hexec.trans (by rw [stallCounted_eq])⟩

end Sys2Proof.Machine.State

namespace Sys2Proof.Machine

open State

/-- Settles O20, command by command: what each writes of its furrow, and that what then leaves or is sent keeps entries and link
states. -/
theorem furrowEventsAndGates : Obligations.FurrowEventsAndGates := by
  intro s f hfurrows hlinks
  refine ⟨fun hdown => ?discard, fun code eseq arg => ?event, fun hon closed guarded unfit => ?gate⟩
  case discard =>
    obtain ⟨gone, n, hexec⟩ := exec_downFurrowDiscard hdown
    have hshort : Placed s (s.keptFurrow f) := setFurrow_placed s f rfl
    have hkept := (hshort.trans (keepLost_placed (s.keptFurrow f) f (keep := s.keepShort f) rfl)).trans
      ((slotsLeft_placed _ gone).trans (count_placed _ .fuDropDown f n))
    have hread : ∀ j, ((((s.keptFurrow f).keepLost f (s.keepShort f)).slotsLeft gone).count .fuDropDown f n).furrow j =
        (s.keptFurrow f).furrow j := fun j => by
      rw [State.furrow, count_furrows, slotsLeft_furrows, keepLost_furrows]
      rfl
    refine ⟨_, hexec, ?_, fun j hj => ?_, hkept.same.store, fun l => (hkept.line hlinks l).state⟩
    · rw [hread, keptFurrow, furrow_setFurrow_of_wf hfurrows, if_pos rfl, keepShort_eq]
    · rw [hread, keptFurrow, furrow_setFurrow_of_wf hfurrows, if_neg hj]
  case event =>
    obtain ⟨hwritten, hseq, hlines, hstore, hslots⟩ := eventArrive_leaves s f code eseq arg
    have hread : ∀ j, (s.eventArrive f code eseq arg).furrow j = if j = f then
        { s.furrow f with evtCode := code, evtSeq := eseq, evtArg := arg, evtHeard := true } else s.furrow j := fun j => by
      rw [State.furrow, hwritten]
      exact furrow_setFurrow_of_wf hfurrows f j _
    refine ⟨_, rfl, (hread f).trans (if_pos rfl), fun hok => ?_, fun hok hheard hgap => ?_, hseq, fun j hj => (hread j).trans (if_neg hj),
      hlines, hstore, hslots⟩
    · rw [ctr_eventArrive s f code eseq arg (by decide) (by decide),
        ctr_count _ _ _ _ ((countersOk_iff _).mp (gapCounted_ok f eseq hok)).1, gapCounted_rx]
      rfl
    · have hcounted : s.gapCounted f eseq = s.count .fuCntEvtGap f 1 := if_pos (by rw [hheard, Bool.true_and, bne_iff_ne]; exact hgap)
      rw [ctr_eventArrive s f code eseq arg (by decide) (by decide), hcounted,
        ctr_count_ne _ _ _ _ _ _ (ctrKey_ne (by decide) (by decide) (by decide)), ctr_count _ _ _ _ ((countersOk_iff _).mp hok).1]
      rfl
  case gate =>
    obtain ⟨q, hlines, hsame, hstore, hexec⟩ := exec_gateEntry hon closed guarded unfit
    have hpumped := entryBegins_placed (q.updFurrow f (fun x => { x with entry := s.gateAfter f (s.furrow f).entry })) f
    have hwf : SMap.wf {} q.furrows = true := by rw [hsame]; exact hfurrows
    refine ⟨_, hexec, (hpumped.entry (SMap.wf_set _ _ _ _ hwf) f).trans ?_, fun l => ?_, hpumped.same.store.trans hstore⟩
    · exact congrArg Furrow.entry ((furrow_setFurrow_of_wf hwf f f _).trans (if_pos rfl))
    · refine (hpumped.line (by rw [← hlines] at hlinks; exact hlinks) l).state.trans (congrArg Link.state ?_)
      change SMap.get {} q.links l = _
      rw [hlines]
      rfl

end Sys2Proof.Machine
end

section
/-! PROOFS. The timers of a link, NAKs and replays (R312, R317 to R319). -/

namespace Sys2Proof.Machine.State

/-! NAK (R317). -/

/-- A state in which one ACTIVE link has sent blocks and been written, and nothing else of links, slots, pages, CAM rows and cores
has changed. -/
def SentOn (s : State) (l : Nat) (x : Link) (blocks : List Out) (t : State) : Prop :=
  t.out = s.out ++ blocks ∧ t.link l = x ∧ t.slots = s.slots ∧ OtherLinks s t l

theorem link_setLink_active (s : State) (l : Nat) {x : Link} (h : x.state = .active) : (s.setLink l x).link l = x :=
  link_setLink s l x fun heq => by rw [heq] at h; cases h

theorem sendNak_sentOn {s : State} {l : Nat} (hactive : (s.link l).state = .active) :
    SentOn s l { s.link l with nak := true } [sentCtrl s l 2 [(s.link l).peerLink, (s.link l).rxNext]] (s.sendNak l) := by
  have hread : (s.updLink l (fun k => { k with nak := true })).link l = { s.link l with nak := true } :=
    link_setLink_active s l hactive
  refine ⟨?_, hread, rfl, setLink_otherLinks s l _⟩
  change s.out ++ [sentCtrl (s.updLink l (fun k => { k with nak := true })) l 2 _] = _
  rw [sentCtrl, sentBlock, hread]
  rfl

/-! Replays (R318). -/

/-- Flits of the replay buffer are sent again, in order. -/
def resent (s : State) (l : Nat) (flits : List RFlit) : State :=
  flits.foldl (fun q r => ((q.sendFlit l ftData r.fseq r.data).count .lkCntFlitTx l 1).count .lkCntReflit l 1) s

theorem resent_eq (s : State) (l : Nat) (flits : List RFlit) : ∃ ctrs, s.resent l flits =
    { s with out := s.out ++ flits.map (fun r => sentBlock s l 1 r.fseq r.data), ctrs := ctrs } := by
  induction flits generalizing s with
  | nil => exact ⟨s.ctrs, by rw [List.map_nil, List.append_nil]; rfl⟩
  | cons r flits ih =>
    obtain ⟨ctrs, hrest⟩ := ih (((s.sendFlit l ftData r.fseq r.data).count .lkCntFlitTx l 1).count .lkCntReflit l 1)
    refine ⟨ctrs, hrest.trans ?_⟩
    have hout : s.out ++ (r :: flits).map (fun r => sentBlock s l 1 r.fseq r.data) =
        (s.out ++ [sentBlock s l 1 r.fseq r.data]) ++ flits.map (fun r => sentBlock s l 1 r.fseq r.data) := by
      rw [List.map_cons, List.append_assoc]
      rfl
    rw [hout]
    rfl

/-- A link that opens a retry episode at an FSEQ. -/
def episodeLink (s : State) (l fseq : Nat) : Link :=
  { s.link l with episode := true, epReplays := 1, epFseq := fseq, epMax := s.rfld .lkCfg 0 3 0 }

/-- The state that opens the episode, before a flit is sent. -/
def episodeOpened (s : State) (l fseq : Nat) : State :=
  (((s.setLink l (s.episodeLink l fseq)).count .lkCntEpisode l 1).pred 2 l 2 1).count .lkCntReplay l 1

/-- A replay outside an episode opens one and sends the buffer from the FSEQ on. -/
theorem replayFrom_sentOn {s : State} {l fseq : Nat} (hactive : (s.link l).state = .active) (hclosed : (s.link l).episode = false)
    (hsome : (s.link l).replay.dropWhile (fun r => r.fseq != fseq) ≠ []) : SentOn s l (s.episodeLink l fseq)
      (((s.link l).replay.dropWhile (fun r => r.fseq != fseq)).map (fun r => sentBlock s l 1 r.fseq r.data)) (s.replayFrom l fseq) := by
  have hopened : s.replayFrom l fseq =
      (s.episodeOpened l fseq).resent l ((s.link l).replay.dropWhile (fun r => r.fseq != fseq)) := by
    simp only [replayFrom, List.isEmpty_eq_false_iff.mpr hsome, hclosed, Bool.false_and, Bool.false_eq_true, if_false]
    rfl
  have hread : (s.episodeOpened l fseq).link l = s.episodeLink l fseq := link_setLink_active s l hactive
  have hblock : ∀ r : RFlit, sentBlock (s.episodeOpened l fseq) l 1 r.fseq r.data = sentBlock s l 1 r.fseq r.data := fun r => by
    rw [sentBlock, hread]
    rfl
  obtain ⟨ctrs, hsent⟩ := resent_eq (s.episodeOpened l fseq) l ((s.link l).replay.dropWhile (fun r => r.fseq != fseq))
  rw [hopened, hsent]
  simp only [hblock]
  exact ⟨rfl, hread, rfl, setLink_otherLinks s l _⟩

/-! The timers. -/

section
variable {s : State} {l : Nat}

theorem exec_helloTimer (h : (s.link l).state = .hello) : exec (.helloTimer l) s = .next (s.sendHello l) :=
  congrArg Host.Outcome.next (if_pos h)

theorem exec_creditTimer (h : (s.link l).state = .active) (stalled : Nat) : exec (.creditTimer l stalled) s =
    .next ((s.sendCtrl l 3 [(s.link l).peerLink, 1024]).count .lkStallCredit l stalled) := congrArg Host.Outcome.next (if_pos h)

theorem exec_ldrepTimer {pl d f a : Nat} {rest : List Nat} (hldrep : (s.link l).ldrep = some (pl, d)) (hfurrow : s.furrowOf l = some f)
    (hactive : s.activeLinks f = a :: rest) : exec (.ldrepTimer l) s = .next (s.sendCtrl a 4 [pl, d]) := by
  change execLdrepTimer l s = _
  simp only [execLdrepTimer, hldrep, hfurrow, hactive, List.head?_cons]

theorem exec_ackLimitExpiry_nak (h : (s.link l).state = .active) (hnak : (s.link l).nak = true) :
    exec (.ackLimitExpiry l true) s = .next (s.sendNak l) :=
  (if_pos h).trans ((if_pos rfl).trans (congrArg Host.Outcome.next (if_pos hnak)))

theorem exec_ackLimitExpiry_replay (h : (s.link l).state = .active) {r : RFlit} {rest : List RFlit}
    (hreplay : (s.link l).replay = r :: rest) : exec (.ackLimitExpiry l false) s = .next (s.replayFrom l r.fseq) := by
  change execAckLimitExpiry l false s = _
  simp only [execAckLimitExpiry, h, hreplay, Bool.false_eq_true, if_true, if_false]

end

/-- From the FSEQ of the oldest flit, the whole buffer. -/
theorem dropWhile_oldest (r : RFlit) (rest : List RFlit) : (r :: rest).dropWhile (fun x => x.fseq != r.fseq) = r :: rest :=
  List.dropWhile_cons_of_neg (by rw [bne_self_eq_false]; exact Bool.false_ne_true)

end Sys2Proof.Machine.State

namespace Sys2Proof.Machine

open State

/-- Settles O18, timer by timer: the block each sends, and the replay of the whole buffer as its oldest flit begins it. -/
theorem linkTimersSend : Obligations.LinkTimersSend := by
  intro s l
  refine ⟨fun hhello => exec_helloTimer hhello, fun hactive stalled => ⟨_, exec_creditTimer hactive stalled, rfl⟩,
    fun pl d f a rest hldrep hfurrow hactive => exec_ldrepTimer hldrep hfurrow hactive, fun hactive hnak => ?nak,
    fun hactive hclosed hsome => ?replay⟩
  case nak =>
    obtain ⟨hout, hlink, hslots, hothers⟩ := sendNak_sentOn hactive
    refine ⟨_, exec_ackLimitExpiry_nak hactive hnak, hout, hlink.trans ?_, hslots, hothers⟩
    rw [← hnak]
  case replay =>
    obtain ⟨r, rest, hreplay⟩ := List.exists_cons_of_ne_nil hsome
    have hwhole : (s.link l).replay.dropWhile (fun x => x.fseq != r.fseq) = (s.link l).replay := by rw [hreplay, dropWhile_oldest]
    have hsent := replayFrom_sentOn (fseq := r.fseq) hactive hclosed (by rw [hwhole]; exact hsome)
    rw [hwhole] at hsent
    obtain ⟨hout, hlink, hslots, hothers⟩ := hsent
    refine ⟨_, exec_ackLimitExpiry_replay hactive hreplay, hout, hslots, ?_⟩
    rw [hlink]
    exact ⟨rfl, rfl, rfl, hactive, hothers⟩

end Sys2Proof.Machine
end

section
/-! PROOFS. Flits that arrive on a link: what each meets first, DATA in order and out of it, and the control flits (R306, R308 to R310,
R312, R313, R317 to R319, R502). -/

namespace Sys2Proof.SMap

/-- A value that is not the default is listed. -/
theorem mem_of_get_ne {α : Type} [DecidableEq α] {d : α} {m : List (Nat × α)} (hwf : wf d m = true) {i : Nat} (h : get d m i ≠ d) :
    (i, get d m i) ∈ m := by
  have hlisted : i ∈ m.map (·.1) := by_contra fun hnot => h (get_of_not_mem d hnot)
  obtain ⟨e, he, rfl⟩ := List.mem_map.mp hlisted
  rw [get_of_mem d (rises_of_wf hwf) he]
  exact he

end Sys2Proof.SMap

namespace Sys2Proof.Machine.State

/-! What every block meets first (R308, R309). -/

section
variable {block : Bytes}

theorem rxFlit_good (hgood : GoodFlit block) (s : State) (l : Nat) : s.rxFlit l block = (afterFec s l block, true) := by
  obtain ⟨hfec, hcrc, hav⟩ := hgood
  simp only [rxFlit, hfec, hcrc, hav, Bool.not_true, Bool.false_eq_true, if_false]
  rfl

/-- A block that cannot be corrected is counted. -/
def fecLost (s : State) (l : Nat) (block : Bytes) : State := ((afterFec s l block).count .lkCntFecUncorr l 1).pred 2 l 1 1

theorem rxFlit_uncorrectable (hfec : (rxBlock block).uncorrectable = true) (s : State) (l : Nat) :
    s.rxFlit l block = (s.fecLost l block, false) := by
  simp only [rxFlit, hfec, if_true]
  rfl

theorem rxFlit_acked (hfec : (rxBlock block).uncorrectable = false) (hcrc : (rxBlock block).crcOk = true)
    (hav : (rxBlock block).flit.av = true) (s : State) (l : Nat) :
    s.rxFlit l block = ((afterFec s l block).takeAck l (rxBlock block).flit.fack, true) := by
  simp only [rxFlit, hfec, hcrc, hav, Bool.not_true, Bool.false_eq_true, if_false, if_true]
  rfl

theorem ctrlFlit_good (hgood : GoodFlit block) {s : State} {l code : Nat} {y : List Nat}
    (hfields : ctrlFields code (rxBlock block).flit = some y) (f : List Nat → State → State) :
    s.ctrlFlit l code block f = f y (afterFec s l block) := by
  simp only [ctrlFlit, hfields, rxFlit_good hgood, if_true]

/-- The counts of a good block leave links, slots, pages, CAM rows and cores alone. -/
theorem afterFec_others (s : State) (l : Nat) (block : Bytes) : OtherLinks s (afterFec s l block) l :=
  otherLinks_of_links l rfl rfl rfl rfl

end

/-! Counts. -/

/-- Two states that differ in counters and predictive counters. -/
def SameButCounts (s q : State) : Prop := ∃ ctrs rel, q = { s with ctrs := ctrs, rel := rel }

theorem SameButCounts.trans {s q t : State} (hsq : SameButCounts s q) (hqt : SameButCounts q t) : SameButCounts s t := by
  obtain ⟨ctrs, rel, rfl⟩ := hsq
  obtain ⟨ctrs', rel', rfl⟩ := hqt
  exact ⟨ctrs', rel', rfl⟩

theorem count_sameButCounts (s : State) (c : Ctr) (i n : Nat) : SameButCounts s (s.count c i n) := ⟨_, s.rel, rfl⟩

theorem pred_sameButCounts (s : State) (cls i ev n : Nat) : SameButCounts s (s.pred cls i ev n) := ⟨s.ctrs, _, rfl⟩

theorem afterFec_sameButCounts (s : State) (l : Nat) (block : Bytes) : SameButCounts s (afterFec s l block) :=
  (count_sameButCounts s _ _ _).trans (pred_sameButCounts _ _ _ _ _)

theorem fecLost_sameButCounts (s : State) (l : Nat) (block : Bytes) : SameButCounts s (s.fecLost l block) :=
  ((afterFec_sameButCounts s l block).trans (count_sameButCounts _ _ _ _)).trans (pred_sameButCounts _ _ _ _ _)

/-! DATA in order (R306, R310, R317). -/

/-- A link that has taken the DATA flit it expected. -/
def takenLink (k : Link) : Link := { k with rxNext := (k.rxNext + 1) % 4096, nak := false }

/-- The state that acknowledges a DATA flit. -/
def dataAcked (s : State) (l : Nat) (block : Bytes) : State :=
  (((afterFec s l block).updLink l takenLink).count .lkCntFlitRx l 1).sendFlit l 0 0 []

section
variable {s : State} {l : Nat} {block : Bytes}

theorem exec_dataFlit (h : (rxBlock block).uncorrectable = true ∨ (rxBlock block).flit.ft = 1) :
    exec (.dataFlit l block) s = (s.dataFlit l block).outcome := by
  refine if_pos ?_
  rcases h with h | h
  · rw [h]
    rfl
  · rw [h]
    exact Bool.or_true _

theorem dataFlit_inOrder (hgood : GoodFlit block) (hactive : (s.link l).state = .active)
    (hseq : (rxBlock block).flit.fseq = (s.link l).rxNext) {f : Nat} (hfurrow : s.furrowOf l = some f) : s.dataFlit l block =
      takeItems 20 (s.dataAcked l block) l f (rxBlock block).flit.fseq ((s.link l).rest ++ (rxBlock block).flit.data) := by
  have hlink : (afterFec s l block).link l = s.link l := rfl
  have hread : (s.dataAcked l block).link l = takenLink (s.link l) :=
    link_setLink_active (afterFec s l block) l (x := takenLink (s.link l)) hactive
  have hfurrow' : (s.dataAcked l block).furrowOf l = some f := hfurrow
  have hacked : s.dataFlit l block = match (s.dataAcked l block).furrowOf l with
      | some f => takeItems 20 (s.dataAcked l block) l f (rxBlock block).flit.fseq
        (((s.dataAcked l block).link l).rest ++ (rxBlock block).flit.data)
      | none => s.dataAcked l block := by
    simp only [dataFlit, rxFlit_good hgood, hlink, hactive, hseq, ne_eq, not_true_eq_false, if_false, Bool.not_true, bne_self_eq_false,
      Bool.or_self, Bool.false_eq_true]
    rfl
  rw [hacked, hfurrow', hread]
  rfl

/-- DATA that is not the flit expected, or cannot be corrected, is NAKed where no NAK is outstanding. -/
theorem dataFlit_naked {q : State} {good : Bool} (hrx : s.rxFlit l block = (q, good)) (hlink : q.link l = s.link l)
    (hbad : good = false ∨ (rxBlock block).flit.fseq ≠ (s.link l).rxNext) (hactive : (s.link l).state = .active)
    (hnak : (s.link l).nak = false) : s.dataFlit l block = q.sendNak l := by
  have hrefused : (!good || (rxBlock block).flit.fseq != (s.link l).rxNext) = true := by
    rcases hbad with h | h
    · rw [h]
      rfl
    · rw [bne_iff_ne.mpr h]
      exact Bool.or_true _
  simp only [dataFlit, hrx, hlink, hactive, hrefused, hnak, ne_eq, not_true_eq_false, if_false, if_true, Bool.false_eq_true]

end

/-- A data area of PAD ends at its first byte (R310). -/
theorem takeItems_pad (s : State) (l f fseq : Nat) :
    takeItems 20 s l f fseq (zeros 248) = s.updLink l (fun k => { k with rest := [] }) := rfl

/-- The block that acknowledges the DATA flit a link expected. -/
def ackBlock (s : State) (l : Nat) : Out :=
  .block l (Flit.block { ft := 0, fseq := 0, fack := ((s.link l).rxNext + 1) % 4096, av := true, data := [] })

theorem dataAcked_eq {s : State} {l : Nat} (hactive : (s.link l).state = .active) (block : Bytes) : ∃ ctrs rel, s.dataAcked l block =
    { s.setLink l (takenLink (s.link l)) with out := s.out ++ [s.ackBlock l], ctrs := ctrs, rel := rel } := by
  have hread : (s.setLink l (takenLink (s.link l))).link l = takenLink (s.link l) := link_setLink_active s l hactive
  have hblock : sentBlock (s.setLink l (takenLink (s.link l))) l 0 0 [] = s.ackBlock l := by
    rw [sentBlock, hread, takenLink, hactive]
    rfl
  obtain ⟨ctrs, rel, hcounts⟩ := afterFec_sameButCounts s l block
  rw [dataAcked, hcounts, ← hblock]
  exact ⟨_, rel, rfl⟩

/-- The link, the blocks and the rest as a DATA flit of PAD alone leaves them. -/
theorem padTaken_leaves {s : State} {l : Nat} (hactive : (s.link l).state = .active) (hrest : (s.link l).rest = []) (block : Bytes) :
    SentOn s l (takenLink (s.link l)) [s.ackBlock l] ((s.dataAcked l block).updLink l (fun k => { k with rest := [] })) ∧
      ((s.dataAcked l block).updLink l (fun k => { k with rest := [] })).undef = s.undef := by
  obtain ⟨ctrs, rel, heq⟩ := dataAcked_eq hactive block
  have hread : (s.dataAcked l block).link l = takenLink (s.link l) := by
    rw [heq]
    exact link_setLink_active s l hactive
  have htaken : ({ takenLink (s.link l) with rest := [] } : Link) = takenLink (s.link l) := by
    rw [← hrest]
    rfl
  have hothers : OtherLinks s (s.dataAcked l block) l := by
    rw [heq]
    exact setLink_otherLinks s l (takenLink (s.link l))
  rw [updLink, hread, htaken]
  refine ⟨⟨?_, link_setLink_active (s.dataAcked l block) l hactive, ?_, otherLinks_trans hothers (setLink_otherLinks _ l _)⟩, ?_⟩
  · rw [setLink_out, heq]
  · rw [setLink_slots, heq, setLink_slots]
  · rw [setLink_undef, heq, setLink_undef]

theorem exec_dataFlit_pad {s : State} {l : Nat} {block : Bytes} (hgood : GoodFlit block) (hft : (rxBlock block).flit.ft = 1)
    (hactive : (s.link l).state = .active) (hseq : (rxBlock block).flit.fseq = (s.link l).rxNext) {f : Nat}
    (hfurrow : s.furrowOf l = some f) (hrest : (s.link l).rest = []) (hpad : (rxBlock block).flit.data = zeros 248)
    (hundef : s.undef = none) :
    exec (.dataFlit l block) s = .next ((s.dataAcked l block).updLink l (fun k => { k with rest := [] })) := by
  rw [exec_dataFlit (Or.inr hft), dataFlit_inOrder hgood hactive hseq hfurrow, hrest, hpad, List.nil_append, takeItems_pad,
    State.outcome, (padTaken_leaves hactive hrest block).2, hundef]

/-! NAKs of DATA (R317). -/

section
variable {s q : State} {l : Nat} (hcounts : SameButCounts s q)
include hcounts

theorem SameButCounts.link : q.link l = s.link l := by
  obtain ⟨ctrs, rel, rfl⟩ := hcounts
  rfl

/-- What is counted before the NAK is sent says nothing of links, slots and blocks. -/
theorem SameButCounts.sendNak (hactive : (s.link l).state = .active) :
    SentOn s l { s.link l with nak := true } [sentCtrl s l 2 [(s.link l).peerLink, (s.link l).rxNext]] (q.sendNak l) := by
  obtain ⟨ctrs, rel, rfl⟩ := hcounts
  exact sendNak_sentOn (s := { s with ctrs := ctrs, rel := rel }) hactive

theorem SameButCounts.exec_dataFlit {block : Bytes} {good : Bool}
    (hdata : (rxBlock block).uncorrectable = true ∨ (rxBlock block).flit.ft = 1) (hrx : s.rxFlit l block = (q, good))
    (hbad : good = false ∨ (rxBlock block).flit.fseq ≠ (s.link l).rxNext) (hactive : (s.link l).state = .active)
    (hnak : (s.link l).nak = false) (hundef : s.undef = none) : exec (.dataFlit l block) s = .next (q.sendNak l) := by
  rw [State.exec_dataFlit hdata, dataFlit_naked hrx hcounts.link hbad hactive hnak]
  obtain ⟨ctrs, rel, rfl⟩ := hcounts
  have hclear : (State.sendNak { s with ctrs := ctrs, rel := rel } l).undef = none := hundef
  rw [State.outcome, hclear]

end

/-- A block that cannot be corrected is counted as such, once. -/
theorem ctr_fecLost_sendNak {s : State} (hok : s.countersOk = true) (l : Nat) (block : Bytes) :
    ((s.fecLost l block).sendNak l).ctr .lkCntFecUncorr l = min ctrMax (s.ctr .lkCntFecUncorr l + 1) := by
  have hcorr : (s.count .lkCntFecCorr l (rxBlock block).corrected).ctr .lkCntFecUncorr l = s.ctr .lkCntFecUncorr l :=
    ctr_count_ne s _ _ _ _ _ (ctrKey_ne (by decide) (by decide) (by decide))
  have hlost : (s.fecLost l block).ctr .lkCntFecUncorr l =
      ((s.count .lkCntFecCorr l (rxBlock block).corrected).count .lkCntFecUncorr l 1).ctr .lkCntFecUncorr l := rfl
  have hwf := ((countersOk_iff _).mp (countersOk_count s .lkCntFecCorr l (rxBlock block).corrected hok)).1
  refine (ctr_count_ne _ .lkCntNak _ _ _ _ (ctrKey_ne (by decide) (by decide) (by decide))).trans (hlost.trans ?_)
  rw [ctr_count _ _ _ _ hwf, hcorr]

/-! FACK (R317, R502). -/

/-- The furrow of a link sends what it now can. -/
def pumpsLine (s : State) (l : Nat) : State :=
  match s.furrowOf l with
  | some f => s.pump f
  | none => s

theorem pumpsLine_placed (s : State) (l : Nat) : Placed s (s.pumpsLine l) := by
  unfold pumpsLine
  split
  · exact pump_placed s _
  · exact .refl s

theorem takeAck_eq {s : State} {l fack : Nat} (hactive : (s.link l).state = .active)
    (hroom : (fack + 4096 - (s.link l).txAcked) % 4096 ≤ (s.link l).replay.length) :
    ∃ x : Link, x.txAcked = fack ∧ s.takeAck l fack = (s.setLink l x).pumpsLine l :=
  ⟨_, rfl, if_neg (not_or.mpr ⟨not_not.mpr hactive, Nat.not_lt.mpr hroom⟩)⟩

theorem takeAck_leaves {s : State} (hwf : SMap.wf {} s.links = true) {l fack : Nat} (hactive : (s.link l).state = .active)
    (hroom : (fack + 4096 - (s.link l).txAcked) % 4096 ≤ (s.link l).replay.length) :
    ((s.takeAck l fack).link l).txAcked = fack ∧ OtherLinks s (s.takeAck l fack) l := by
  obtain ⟨x, hx, heq⟩ := takeAck_eq hactive hroom
  have hplaced := pumpsLine_placed (s.setLink l x) l
  rw [heq]
  exact ⟨(hplaced.written hwf).txAcked.trans hx, hplaced.otherLinks hwf⟩

theorem exec_idleFlit {s : State} {l : Nat} (hactive : (s.link l).state = .active) (block : Bytes) :
    exec (.idleFlit l block) s = .next (s.rxFlit l block).1 := by
  refine congrArg Host.Outcome.next (if_neg ?_)
  rw [hactive]
  decide

/-! HELLO (R312, R313). -/

/-- What a HELLO tells of the other end. -/
def heardHello (s : State) (l : Nat) (h : HelloMsg) : State :=
  s.updLink l (fun k => { k with
    heard := true, peer := h.node, peerLink := h.linkid, peerGens := h.gens, peerLanes := h.lanes
    heardSeen := h.seen && h.peerNode == s.node && h.peerLinkid == l })

/-- What a HELLO makes of a link of a furrow. -/
def heardOn (s : State) (f l : Nat) (h : HelloMsg) : State :=
  if h.node ≠ s.rfld .fuCfg f 15 0 then s.lkFault l 4
  else if h.gens % 2 = 0 then s.lkFault l 3
  else if h.lanes ≠ 2 then s
  else
    let s := s.updFurrow f (fun x => { x with peerFloor := h.floor, peerRetry := h.retryTime })
    if (s.link l).heardSeen then s.enterActive l f else s

theorem helloArrive_eq (s : State) (l : Nat) (h : HelloMsg) : s.helloArrive l h =
    match (s.heardHello l h).furrowOf l with
    | none => s.heardHello l h
    | some f => (s.heardHello l h).heardOn f l h := rfl

theorem heardHello_link {s : State} {l : Nat} (hhello : (s.link l).state = .hello) (h : HelloMsg) : (s.heardHello l h).link l =
    { s.link l with
      heard := true, peer := h.node, peerLink := h.linkid, peerGens := h.gens, peerLanes := h.lanes
      heardSeen := h.seen && h.peerNode == s.node && h.peerLinkid == l } :=
  link_setLink s l _ fun heq => by
    have hdisabled : (s.link l).state = .disabled := congrArg Link.state heq
    exact LinkState.noConfusion (hhello.symm.trans hdisabled)

/-- A link as it enters ACTIVE (R311). -/
def enteredLink (k : Link) : Link :=
  { k with state := .active, gen := 0, txNext := 0, txAcked := 0, rxNext := 0, lastWhole := 4095, rest := [] }

/-- What a link and its furrow send once the link is ACTIVE (R319, R331, R333). -/
def entrySends (s : State) (l f : Nat) : State :=
  (((((s.sendHello l).sendEvent f evLinkUp l).noteFurrow f).sendLdreps f).pump f).furrowUp f

theorem entrySends_placed (s : State) (l f : Nat) : Placed s (s.entrySends l f) :=
  ((((((emit_placed s _).trans (sendEvent_placed _ _ _ _)).trans (noteFurrow_placed _ f)).trans (sendLdreps_placed _ f)).trans
    (pump_placed _ f)).trans (furrowUp_placed _ f))

theorem enterActive_eq (s : State) (l f : Nat) : s.enterActive l f =
    ((if s.furrowState f = 0 then s.updFurrow f (fun y => { y with gen := 0 }) else s).updLink l enteredLink).entrySends l f := rfl

theorem enterActive_placed (s : State) (l f : Nat) : Placed (s.setLink l (enteredLink (s.link l))) (s.enterActive l f) := by
  rw [enterActive_eq]
  refine Placed.trans ?_ (entrySends_placed _ l f)
  split
  · exact setFurrow_placed (s.setLink l (enteredLink (s.link l))) f (x := { s.furrow f with gen := 0 }) rfl
  · exact .refl _

/-- A HELLO of the configured peer, with a common generation and lanes, that has seen this node brings the link up. -/
theorem helloArrive_enters {s : State} (hwf : SMap.wf {} s.links = true) {l f : Nat} {h : HelloMsg} (hhello : (s.link l).state = .hello)
    (hfurrow : s.furrowOf l = some f) (hnode : h.node = s.rfld .fuCfg f 15 0) (hgens : h.gens % 2 = 1) (hlanes : h.lanes = 2)
    (hseen : h.seen = true) (hpeer : h.peerNode = s.node) (hlinkid : h.peerLinkid = l) :
    ((s.helloArrive l h).link l).state = .active ∧ ((s.helloArrive l h).link l).peer = h.node ∧
      ((s.helloArrive l h).link l).peerLink = h.linkid ∧ OtherLinks s (s.helloArrive l h) l := by
  have hfurrow' : (s.heardHello l h).furrowOf l = some f := hfurrow
  have hnode' : ¬ h.node ≠ (s.heardHello l h).rfld .fuCfg f 15 0 := not_not.mpr hnode
  have hread := heardHello_link hhello h
  have hheard : ((s.heardHello l h).link l).heardSeen = true := by
    rw [hread]
    simp [hseen, hpeer, hlinkid]
  generalize hq : (s.heardHello l h).updFurrow f (fun x => { x with peerFloor := h.floor, peerRetry := h.retryTime }) = q
  have hlinks : q.links = (s.heardHello l h).links := by rw [← hq]; rfl
  have hlink : q.link l = (s.heardHello l h).link l := by rw [State.link, hlinks]; rfl
  have hothers : OtherLinks s q l := by
    rw [← hq]
    exact otherLinks_trans (setLink_otherLinks s l _) (otherLinks_of_links l rfl rfl rfl rfl)
  have henters : s.helloArrive l h = q.enterActive l f := by
    rw [helloArrive_eq, hfurrow']
    dsimp only
    rw [heardOn, if_neg hnode', if_neg (by rw [hgens]; decide), if_neg (not_not.mpr hlanes)]
    dsimp only
    rw [hq, hlink, if_pos hheard]
  have hplaced := enterActive_placed q l f
  have hwfq : SMap.wf {} q.links = true := by
    rw [hlinks]
    exact SMap.wf_set _ _ _ _ hwf
  have hkept := hplaced.written hwfq
  rw [henters]
  refine ⟨hkept.state, hkept.peer.trans ?_, hkept.peerLink.trans ?_, otherLinks_trans hothers (hplaced.otherLinks hwfq)⟩
  · change (q.link l).peer = h.node
    rw [hlink, hread]
  · change (q.link l).peerLink = h.linkid
    rw [hlink, hread]

/-! LDREP (R319). -/

/-- A link whose lost flits and items have moved. -/
def movedLink (k : Link) : Link := { k with lost := [], lostRest := [] }

theorem moveLost_placed (s : State) (f l dfseq : Nat) : Placed (s.setLink l (movedLink (s.link l))) (s.moveLost f l dfseq) := by
  unfold moveLost
  dsimp only
  refine Placed.trans (Placed.trans ?_ (updFurrow_placed _ f rfl)) (pump_placed _ f)
  exact count_placed _ _ _ _

/-- What moves from a link leaves it nothing lost; the links' states and expected sequences stay. -/
theorem moveLost_leaves {s : State} (hwf : SMap.wf {} s.links = true) (f l dfseq : Nat) :
    ((s.moveLost f l dfseq).link l).lost = [] ∧ ((s.moveLost f l dfseq).link l).lostRest = [] ∧
      (s.moveLost f l dfseq).store = s.store ∧ ∀ j, ((s.moveLost f l dfseq).link j).state = (s.link j).state ∧
        ((s.moveLost f l dfseq).link j).rxNext = (s.link j).rxNext := by
  have hplaced := moveLost_placed s f l dfseq
  have hkept := hplaced.written hwf
  refine ⟨hkept.lost rfl, hkept.lostRest rfl, hplaced.same.store, fun j => ?_⟩
  have hline := hplaced.line (SMap.wf_set _ _ _ _ hwf) j
  rw [hline.state, hline.rxNext, link_setLink_of_wf hwf]
  split
  · next hj => rw [hj]; exact ⟨rfl, rfl⟩
  · exact ⟨rfl, rfl⟩

/-- The same where the link leaves ACTIVE first; the other links' states and expected sequences stay. -/
theorem moveItems_leaves {s : State} (hwf : SMap.wf {} s.links = true) (f l dfseq : Nat) :
    ((s.moveItems f l dfseq).link l).lost = [] ∧ ((s.moveItems f l dfseq).link l).lostRest = [] ∧
      (s.moveItems f l dfseq).store = s.store ∧ ∀ j, j ≠ l → ((s.moveItems f l dfseq).link j).state = (s.link j).state ∧
        ((s.moveItems f l dfseq).link j).rxNext = (s.link j).rxNext := by
  unfold moveItems
  split
  case isTrue =>
    obtain ⟨x, -, hplaced⟩ := leaveActive_placed s l .phyTrain
    have hwfx : SMap.wf {} (s.setLink l x).links = true := SMap.wf_set _ _ _ _ hwf
    obtain ⟨hlost, hrest, hstore, hlines⟩ := moveLost_leaves (hplaced.wfLinks hwfx) f l dfseq
    refine ⟨hlost, hrest, hstore.trans hplaced.same.store, fun j hj => ?_⟩
    obtain ⟨hstate, hnext⟩ := hlines j
    have hline := hplaced.line hwfx j
    rw [hstate, hnext, hline.state, hline.rxNext, link_setLink_ne s l j x hj]
    exact ⟨rfl, rfl⟩
  case isFalse =>
    obtain ⟨hlost, hrest, hstore, hlines⟩ := moveLost_leaves hwf f l dfseq
    exact ⟨hlost, hrest, hstore, fun j _ => hlines j⟩

/-- What an LDREP for a link of a furrow moves, before it is answered on the link it came on. -/
def ldrepMoved (s : State) (f l k dfseq : Nat) : State := if k = l then s.moveLost f k dfseq else s.moveItems f k dfseq

theorem ldrepMoved_leaves {s : State} (hwf : SMap.wf {} s.links = true) (f l k dfseq : Nat) :
    ((s.ldrepMoved f l k dfseq).link k).lost = [] ∧ ((s.ldrepMoved f l k dfseq).link k).lostRest = [] ∧
      (s.ldrepMoved f l k dfseq).store = s.store ∧ ((s.ldrepMoved f l k dfseq).link l).state = (s.link l).state ∧
        ((s.ldrepMoved f l k dfseq).link l).rxNext = (s.link l).rxNext := by
  unfold ldrepMoved
  split
  case isTrue =>
    obtain ⟨hlost, hrest, hstore, hlines⟩ := moveLost_leaves hwf f k dfseq
    exact ⟨hlost, hrest, hstore, hlines l⟩
  case isFalse hk =>
    obtain ⟨hlost, hrest, hstore, hlines⟩ := moveItems_leaves hwf f k dfseq
    exact ⟨hlost, hrest, hstore, hlines l (Ne.symm hk)⟩

theorem exec_ldrep {s : State} {l : Nat} {block : Bytes} (hgood : GoodFlit block) (hactive : (s.link l).state = .active)
    {f k dfseq : Nat} (hfields : ctrlFields 4 (rxBlock block).flit = some [k, dfseq]) (hfurrow : s.furrowOf l = some f)
    (hlisted : s.inFurrow f k = true) :
    exec (.ldrep l block) s = .next (((afterFec s l block).ldrepMoved f l k dfseq).sendCtrl l 5 [k]) := by
  have hfurrow' : (afterFec s l block).furrowOf l = some f := hfurrow
  have hlisted' : (afterFec s l block).inFurrow f k = true := hlisted
  refine (if_pos hactive).trans (congrArg Host.Outcome.next ?_)
  rw [ctrlFlit_good hgood hfields]
  simp only [hfurrow']
  refine (if_neg ?_).trans rfl
  rw [Bool.not_eq_true']
  exact ne_false_of_eq_true hlisted'

/-! LDACK (R319). -/

/-- An LDACK ends the repetition for the link it names, in the furrow it came on. -/
def ldackStep (l k : Nat) (t : State) (e : Nat × Link) : State :=
  match e.2.ldrep with
  | some (pl, _) => if pl = k ∧ t.furrowOf e.1 = t.furrowOf l then t.updLink e.1 (fun x => { x with ldrep := none }) else t
  | none => t

/-- Either the step does nothing, or it ends the repetition of its link. -/
theorem ldackStep_cases (l k : Nat) (t : State) (e : Nat × Link) :
    ldackStep l k t e = t ∨ ldackStep l k t e = t.setLink e.1 { t.link e.1 with ldrep := none } := by
  unfold ldackStep
  split
  · split
    · exact .inr rfl
    · exact .inl rfl
  · exact .inl rfl

theorem ldackStep_acts {l k d : Nat} {t : State} {e : Nat × Link} (hldrep : e.2.ldrep = some (k, d))
    (hfurrow : t.furrowOf e.1 = t.furrowOf l) : ldackStep l k t e = t.setLink e.1 { t.link e.1 with ldrep := none } := by
  rw [ldackStep, hldrep]
  exact if_pos ⟨rfl, hfurrow⟩

theorem ldackStep_placed (l k : Nat) (t : State) (e : Nat × Link) : Placed t (ldackStep l k t e) := by
  rcases ldackStep_cases l k t e with h | h
  · rw [h]
    exact .refl t
  · rw [h]
    exact setLink_placed t e.1 ⟨rfl, rfl, rfl, rfl, rfl, id, id⟩

theorem ldackStep_slots (l k : Nat) (t : State) (e : Nat × Link) : (ldackStep l k t e).slots = t.slots ∧ (ldackStep l k t e).regs = t.regs := by
  rcases ldackStep_cases l k t e with h | h
  · rw [h]
    exact ⟨rfl, rfl⟩
  · rw [h]
    exact ⟨rfl, rfl⟩

/-- A repetition that has ended stays ended. -/
theorem ldackStep_none {t : State} (hwf : SMap.wf {} t.links = true) (l k : Nat) (e : Nat × Link) {j : Nat} (h : (t.link j).ldrep = none) :
    ((ldackStep l k t e).link j).ldrep = none := by
  rcases ldackStep_cases l k t e with heq | heq
  · rw [heq]
    exact h
  · rw [heq, link_setLink_of_wf hwf]
    split
    · rfl
    · exact h

theorem furrowOf_of_regs {s t : State} (h : t.regs = s.regs) (l : Nat) : t.furrowOf l = s.furrowOf l := by
  simp only [furrowOf, inFurrow, rbit, reg, h]

/-- Every repetition the LDACK names has ended after it. -/
theorem ldackSteps_none {s : State} (hwf : SMap.wf {} s.links = true) {l k j d : Nat} (hldrep : (s.link j).ldrep = some (k, d))
    (hfurrow : s.furrowOf j = s.furrowOf l) : ((s.links.foldl (ldackStep l k) s).link j).ldrep = none := by
  have hlisted : (j, s.link j) ∈ s.links := SMap.mem_of_get_ne hwf fun heq => by
    have hnone : (s.link j).ldrep = none := congrArg Link.ldrep heq
    rw [hldrep] at hnone
    cases hnone
  have hends := foldl_marks (f := ldackStep l k) (I := fun q => q.regs = s.regs ∧ SMap.wf {} q.links = true)
    (P := fun e q => e.2.ldrep = some (k, d) → s.furrowOf e.1 = s.furrowOf l → (q.link e.1).ldrep = none)
    (fun q e hq => ⟨(ldackStep_slots l k q e).2.trans hq.1, (ldackStep_placed l k q e).wfLinks hq.2⟩)
    (fun q e hq hrep hof => by
      rw [ldackStep_acts hrep (by rw [furrowOf_of_regs hq.1, furrowOf_of_regs hq.1, hof]), link_setLink_of_wf hq.2, if_pos rfl])
    (fun q e y hq hy hrep hof => ldackStep_none hq.2 l k e (hy hrep hof)) ⟨rfl, hwf⟩ hlisted
  exact hends hldrep hfurrow

theorem exec_ldack {s : State} {l : Nat} {block : Bytes} (hgood : GoodFlit block) (hactive : (s.link l).state = .active) {k : Nat}
    (hfields : ctrlFields 5 (rxBlock block).flit = some [k]) :
    exec (.ldack l block) s = .next (s.links.foldl (ldackStep l k) (afterFec s l block)) := by
  refine (if_pos hactive).trans (congrArg Host.Outcome.next ?_)
  rw [ctrlFlit_good hgood hfields]
  rfl

/-! NAK, HELLO and CREDIT. -/

section
variable {s : State} {l : Nat} {block : Bytes}

theorem exec_nak (hgood : GoodFlit block) (hactive : (s.link l).state = .active) {fseq : Nat}
    (hfields : ctrlFields 2 (rxBlock block).flit = some [l, fseq]) :
    exec (.nak l block) s = .next ((afterFec s l block).replayFrom l fseq) := by
  refine (if_pos hactive).trans (congrArg Host.Outcome.next ?_)
  rw [ctrlFlit_good hgood hfields]
  exact if_pos ⟨rfl, hactive⟩

theorem exec_hello (hgood : GoodFlit block) (hhello : (s.link l).state = .hello) {y : List Nat}
    (hfields : ctrlFields 1 (rxBlock block).flit = some y) :
    exec (.hello l block) s = .next ((afterFec s l block).helloArrive l (HelloMsg.ofFields y)) := by
  refine (if_pos (Or.inl hhello)).trans (congrArg Host.Outcome.next ?_)
  rw [ctrlFlit_good hgood hfields]
  exact if_pos hhello

theorem exec_credit (hgood : GoodFlit block) (hactive : (s.link l).state = .active) {free : Nat}
    (hfields : ctrlFields 3 (rxBlock block).flit = some [l, free]) : exec (.credit l block) s =
      .next (((afterFec s l block).updLink l (fun k => { k with credit := free })).pumpsLine l) := by
  refine (if_pos hactive).trans (congrArg Host.Outcome.next ?_)
  rw [ctrlFlit_good hgood hfields]
  exact if_pos rfl

end

end Sys2Proof.Machine.State

namespace Sys2Proof.Machine

open State

/-- Settles O19, flit by flit: what the block meets first leaves the links alone, and then its own effect follows. -/
theorem flitsOnALink : Obligations.FlitsOnALink := by
  intro s l block hwf hundef
  have hfec : OtherLinks s (afterFec s l block) l := afterFec_others s l block
  refine ⟨fun hgood hft hactive hseq f hfurrow => ?inOrder, fun hgood hft hactive hseq hnak => ?gap, fun hbad hactive hnak => ?lost,
    fun hfine hcrc hav hactive hroom => ?acked, fun hgood hactive hclosed fseq hfields hsome => ?nak,
    fun hgood hhello y f hfields hfurrow hnode hgens hlanes hseen hpeer hlinkid => ?hello,
    fun hgood hactive free hfields => exec_credit hgood hactive hfields,
    fun hgood hactive f k dfseq hfields hfurrow hlisted => ?ldrep, fun hgood hactive k hfields => ?ldack⟩
  case inOrder =>
    refine ⟨by rw [exec_dataFlit (Or.inr hft), dataFlit_inOrder hgood hactive hseq hfurrow]; rfl, fun hrest hpad => ?_⟩
    obtain ⟨⟨hout, hlink, hslots, hothers⟩, -⟩ := padTaken_leaves hactive hrest block
    rw [hseq]
    refine ⟨_, exec_dataFlit_pad hgood hft hactive hseq hfurrow hrest hpad hundef, hlink.trans ?_, hout, hslots, hothers⟩
    rw [← hrest]
    rfl
  case gap =>
    obtain ⟨hout, hlink, hslots, hothers⟩ := (afterFec_sameButCounts s l block).sendNak hactive
    exact ⟨_, (afterFec_sameButCounts s l block).exec_dataFlit (Or.inr hft) (rxFlit_good hgood s l) (Or.inr hseq) hactive hnak hundef,
      hout, hlink, hslots, hothers⟩
  case lost =>
    obtain ⟨hout, hlink, hslots, hothers⟩ := (fecLost_sameButCounts s l block).sendNak hactive
    exact ⟨_, (fecLost_sameButCounts s l block).exec_dataFlit (Or.inl hbad) (rxFlit_uncorrectable hbad s l) (Or.inl rfl) hactive hnak
      hundef, hout, hlink, hslots, hothers, fun hok => ctr_fecLost_sendNak hok l block⟩
  case acked =>
    obtain ⟨htx, hothers⟩ := takeAck_leaves (s := afterFec s l block) hwf hactive hroom
    refine ⟨_, ?_, htx, otherLinks_trans hfec hothers⟩
    rw [exec_idleFlit hactive, rxFlit_acked hfine hcrc hav]
  case nak =>
    obtain ⟨hout, hlink, hslots, hothers⟩ := replayFrom_sentOn (s := afterFec s l block) hactive hclosed hsome
    exact ⟨_, exec_nak hgood hactive hfields, hout, congrArg Link.episode hlink, hslots, otherLinks_trans hfec hothers⟩
  case hello =>
    obtain ⟨hstate, hnodeKept, hlinkKept, hothers⟩ := helloArrive_enters (s := afterFec s l block) hwf hhello hfurrow hnode hgens hlanes
      hseen hpeer hlinkid
    exact ⟨_, exec_hello hgood hhello hfields, hstate, hnodeKept, hlinkKept, otherLinks_trans hfec hothers⟩
  case ldrep =>
    obtain ⟨hlost, hrest, hstore, hstate, hnext⟩ := ldrepMoved_leaves (s := afterFec s l block) hwf f l k dfseq
    have hstate' : (((afterFec s l block).ldrepMoved f l k dfseq).link l).state = (s.link l).state := hstate
    have hnext' : (((afterFec s l block).ldrepMoved f l k dfseq).link l).rxNext = (s.link l).rxNext := hnext
    refine ⟨_, exec_ldrep hgood hactive hfields hfurrow hlisted, hlost, hrest, ?_, hstore⟩
    refine List.getLast?_concat.trans (congrArg some ?_)
    rw [sentCtrl, sentBlock, ← hstate', ← hnext']
    rfl
  case ldack =>
    have hplaced := Placed.foldl (ldackStep_placed l k) (afterFec s l block) s.links
    refine ⟨_, exec_ldack hgood hactive hfields, otherLinks_trans hfec (hplaced.others (s := afterFec s l block) hwf l), ?_,
      fun j d hldrep hfurrow => ?_⟩
    · exact foldl_keeps (p := fun q : State => q.slots = s.slots) (fun q e hq => (ldackStep_slots l k q e).1.trans hq)
        (s := afterFec s l block) rfl _
    · exact ldackSteps_none (s := afterFec s l block) hwf hldrep hfurrow

end Sys2Proof.Machine
end
